-- ==== Sys2Proof/Word.lean ====
section
/-! DEFINITION. The byte and the 32-bit word of the engine's data memories. -/

namespace Sys2Proof

/-- One byte of a frame, a Plate or the flash. -/
abbrev Byte := BitVec 8

/-- One 32-bit word of an engine's X, Y or C memory and D registers (R200, R202). -/
abbrev Word := BitVec 32

end Sys2Proof
end

