-- ==== Sys2Proof/Config.lean ====
section
/-! DEFINITION. The free values: what the spec computes with but does not state to the last bit, or leaves open.
Each is an opaque constant with no body, so that no proof can know a value of it (log 5). -/

namespace Sys2Proof.Config

/-- The relative error of a prewarp tan(πx) that the MGC computes (R77), before the bound of 2^−30 is applied to it. -/
opaque tanError : Rat → Rat

/-- The relative error of exp(−2πx) that the MGC computes (R74), before the bound of 2^−30 is applied to it. -/
opaque expError : Rat → Rat

/-- atan2(0, 0) in turns, which has no value (R188). -/
opaque atan2Zero : Rat

/-- The relative error of a gain's conversion before the bound of 2^−30 is applied to it ("Parameters" of chapter 3). -/
opaque gainError : Nat → Rat

/-- The relative error of a ladder factor before the bound of 2^−40 is applied to it (R144). -/
opaque ladderError : Nat → Rat

/-- The n-th free value the run has taken: an undefined result, a nonce, an instant the spec bounds only. -/
opaque freeNat : Nat → Nat

/-- The reference table S_REF of production test in eFuse ("Ageing" of chapter 8): engine, voltage 0 to 2 (0.70, 0.78, 0.86 V), temperature 0 to 2 (−40, 25, 125 °C). -/
opaque seeingRef : Nat → Nat → Nat → Nat

/-- The program words of a kernel image for version `v` at address `a` (R227, R233): the image's content. -/
opaque kernelWord : Nat → Nat → BitVec 64

/-- The kernel constants of version `v` in C memory at address `a` (R227). -/
opaque kernelConst : Nat → Nat → BitVec 32

/-- WCB and TRD_MAX that the KRN image of version `v` declares for a kernel other than 0 and a pass (R233): kernel, pass. -/
opaque kernelDecl : Nat → Nat → Nat → Nat × Nat

/-- WCB of the background task that the KRN image of a version declares, 0 where it declares none (R233). -/
opaque backgroundDecl : Nat → Nat

/-- A word of the parameter block that the MGC writes for an axis in the layout of the kernel's parameter map (Table 7.13), which is the image's content: version, kernel,
the axis's parameters, word 0 to 127. -/
opaque paramWord : Nat → Nat → List (Nat × Int) → Nat → BitVec 32

/-- The process-image address that the configuration of an axis maps to a PROC_IN word (Table 7.14): axis, word 0 to 15; no command of the spec carries the mapping. -/
opaque procMap : Nat → Nat → Option Nat

/-- The clockIdentity of the device's PTP clock (R345): the spec does not give it. -/
opaque clockIdentity : Nat

/-- The MAC address of a plant port, from which its frames are sent (R345): the spec does not give it. -/
opaque plantMac : Nat → Nat

/-- The expected signature of a block type's MISR after so many patterns from a seed (R501, R502): block, seed, patterns. -/
opaque signature : Nat → Nat → Nat → Nat

/-- The signature that a failed run leaves (R502): block, seed, cycle. -/
opaque badSignature : Nat → Nat → Nat → Nat

/-- DEV_SERIAL: the 64-bit serial from eFuse (R364). -/
opaque serialWord : BitVec 64

/-- DEV_SERIAL as a number (R364). -/
def devSerial : Nat := serialWord.toNat

/-- The silicon revision of DEV_ID[23:16] (R364). -/
opaque siliconRev : Nat

/-- VENDOR_PK_HASH, fused by the vendor (R536), as 32 bytes. -/
opaque vendorKeyHash : Nat → BitVec 8

/-- The node list that belongs to the Frame Map (R302): VENDOR_ID, PRODUCT and NODE_KIND expected at a segment and position; no command carries it. -/
opaque nodeExpect : Nat → Nat → Nat × Nat × Nat

/-- The DIGEST of an axis's committed bank after a cycle (Table 10.6): axis, cycle; the spec does not give the bank's bytes. -/
opaque bankDigest : Nat → Nat → Nat

/-- The length of the twin image (Table 10.6): the spec does not give the image's layout. -/
opaque twinLen : Nat

/-- The byte of the twin image at an offset, as the leader's cycle has it: cycle, offset. -/
opaque twinByte : Nat → Nat → BitVec 8

/-- The content of an axis phase record of a TWIN frame (KIND 2 of Table 10.6): axis, AXIS_PHASE; the spec does not give its layout. -/
opaque twinPhase : Nat → Nat → List (BitVec 8)

/-- The content of a batch close record of a TWIN frame (KIND 3 of Table 10.6): BATCH, EFFECTIVE; the spec does not give its layout. -/
opaque twinClose : Nat → Nat → List (BitVec 8)

/-- The identity entry of the device as a node, byte by byte (R301, Table 10.2): VENDOR_ID, PRODUCT, CAPS, delays and version are not in the spec. -/
opaque headIdentity : Nat → BitVec 8

end Sys2Proof.Config
end

