-- ==== Sys2Proof/Machine/Num.lean ====
section
/-! DEFINITION. Fixed-point formats, roundings, saturations, binary32 and byte order: the arithmetic
that the spec's formats (R2, R4, R37, R85, R103, R213, R216) name, written once. -/

namespace Sys2Proof.Machine

/-- Round to the nearest integer, ties to even: "convergent rounding" of R216, "half to even" of R103. -/
def rndHE (x : Rat) : Int :=
  let f := x.floor
  let d := x - f
  if d < 1 / 2 then f else if 1 / 2 < d then f + 1 else if f % 2 = 0 then f else f + 1

/-- `x / 2^s` rounded half to even, on integers (R213, R216). -/
def rshHE (x : Int) (s : Nat) : Int :=
  let m : Int := 2 ^ s
  let f := x / m
  let d := 2 * (x % m)
  if d < m then f else if m < d then f + 1 else if f % 2 = 0 then f else f + 1

/-- Saturation to a signed field of `n` bits (R2, R216). -/
def satS (n : Nat) (x : Int) : Int := max (-(2 ^ (n - 1))) (min (2 ^ (n - 1) - 1) x)

/-- Saturation to an unsigned field of `n` bits. -/
def satU (n : Nat) (x : Int) : Int := max 0 (min (2 ^ n - 1) x)

/-- The signed value of the low `n` bits of `x` (the s32 and s16 of R69 and R188). -/
def wrapS (n : Nat) (x : Int) : Int :=
  let y := x % (2 ^ n)
  if y < 2 ^ (n - 1) then y else y - 2 ^ n

/-- The low `n` bits of `x` as a natural number: how a signed field is stored (R2). -/
def lowBits (n : Nat) (x : Int) : Nat := (x % (2 ^ n)).toNat

/-- A counter of class SAT of `w` bits counts one (R37). -/
def incSat (w n : Nat) : Nat := if n + 1 < 2 ^ w then n + 1 else 2 ^ w - 1

/-- A counter of class SAT of `w` bits counts `k` (R37). -/
def addSat (w n k : Nat) : Nat := min (2 ^ w - 1) (n + k)

/-- A counter of class WRAP of `w` bits counts one (R37). -/
def incWrap (w n : Nat) : Nat := (n + 1) % 2 ^ w

/-- The value of a fixed-point number with `n` fraction bits (R2). -/
def fix (n : Nat) (x : Int) : Rat := (x : Rat) / (2 : Rat) ^ n

/-- The stored integer of `x` with `n` fraction bits in a signed field of `w` bits: rounded once, half
to even, and saturated (R103, R216). -/
def toFix (w n : Nat) (x : Rat) : Int := satS w (rndHE (x * (2 : Rat) ^ n))

/-- The range −M/2 to M/2, upper end excluded, of R73, in units of the caller; `m = 0` is linear. -/
def wrapMod (m x : Int) : Int :=
  if m ≤ 0 then x else
    let y := x % m
    if 2 * y < m then y else y - m

/-- Clamp between two rationals. -/
def clampR (lo hi x : Rat) : Rat := max lo (min hi x)

/-- Sign of a rational. -/
def sgnR (x : Rat) : Rat := if 0 < x then 1 else if x < 0 then -1 else 0

/-- Magnitude of a rational. -/
def absR (x : Rat) : Rat := if x < 0 then -x else x

/-- The square root of `x` to 2^-64 below the exact one, as the planner uses it (log 8). -/
def sqrtR (x : Rat) : Rat := (Nat.sqrt ((x * (2 : Rat) ^ 128).floor.toNat) : Rat) / (2 : Rat) ^ 64

/-- `a / b` rounded up. -/
def ceilDiv (a b : Nat) : Nat := if b = 0 then 0 else (a + b - 1) / b

/-- A rational rounded up to a natural number. -/
def ceilNat (x : Rat) : Nat := (-((-x).floor)).toNat

/-- The value of a finite binary32 encoding (R85 rejects every other). -/
def f32ToRat (b : Nat) : Rat :=
  let s : Rat := if (b / 2 ^ 31 % 2 : Nat) = 1 then -1 else 1
  let e : Nat := b / 2 ^ 23 % 256
  let m : Nat := b % 2 ^ 23
  if e = 0 then s * (m : Rat) / (2 : Rat) ^ 149
  else s * (((m + 2 ^ 23 : Nat) : Nat) : Rat) * (2 : Rat) ^ e / (2 : Rat) ^ 150

/-- A NaN, an infinity or a subnormal encoding, which R85 rejects. -/
def f32Bad (b : Nat) : Bool :=
  let e := b / 2 ^ 23 % 256
  let m := b % 2 ^ 23
  e = 255 || (e = 0 && m ≠ 0)

/-- The number of doublings (or halvings) that bring `x > 0` into 1 to 2, by fuel. -/
def expOf : Nat → Rat → Int → Int
  | 0, _, e => e
  | k + 1, x, e => if 2 ≤ x then expOf k (x / 2) (e + 1) else if x < 1 then expOf k (x * 2) (e - 1) else e

/-- `2^e` for an integer `e`. -/
def pow2 (e : Int) : Rat := if 0 ≤ e then (2 : Rat) ^ e.toNat else 1 / (2 : Rat) ^ (-e).toNat

/-- The binary32 encoding nearest to `x`, ties to even (R85); a value below the normal range encodes as zero
and one above it as the largest finite value. -/
def ratToF32 (x : Rat) : Nat :=
  if x = 0 then 0 else
    let s := if x < 0 then 2 ^ 31 else 0
    let y := absR x
    let e := expOf 300 y 0
    let m := rndHE (y * pow2 (23 - e))
    let e' := if m = 2 ^ 24 then e + 1 else e
    let m' := if m = 2 ^ 24 then 2 ^ 23 else m
    if e' < -126 then s
    else if 127 < e' then s + (2 ^ 31 - 2 ^ 23 - 1)
    else s + ((e' + 127).toNat) * 2 ^ 23 + (m' - 2 ^ 23).toNat

/-- The bytes of `x`, least significant first (R4, R5). -/
def leBytes : Nat → Nat → List (BitVec 8)
  | 0, _ => []
  | k + 1, x => BitVec.ofNat 8 x :: leBytes k (x / 256)

/-- The number whose bytes, least significant first, are `bs` (R4, R5). -/
def leNat : List (BitVec 8) → Nat
  | [] => 0
  | b :: bs => b.toNat + 256 * leNat bs

/-- The number whose bytes, most significant first, are `bs` (Ethernet header fields of R5). -/
def beNat (bs : List (BitVec 8)) : Nat := bs.foldl (fun a b => 256 * a + b.toNat) 0

/-- The bytes of `x`, most significant first. -/
def beBytes (k x : Nat) : List (BitVec 8) := (leBytes k x).reverse

/-- The little-endian field of `k` bytes at offset `o` of a structure (R4); bytes beyond its end read as zero. -/
def fieldLE (bs : List (BitVec 8)) (o k : Nat) : Nat := leNat ((bs.drop o).take k)

/-- The signed little-endian field of `k` bytes at offset `o`. -/
def fieldLES (bs : List (BitVec 8)) (o k : Nat) : Int := wrapS (8 * k) (fieldLE bs o k)

/-- Field `[msb:lsb]` of a word. -/
def bits (x msb lsb : Nat) : Nat := x / 2 ^ lsb % 2 ^ (msb + 1 - lsb)

/-- Bit `n` of a word. -/
def bit (x n : Nat) : Bool := x / 2 ^ n % 2 = 1

/-- One flag as the bit `n` of a status word. -/
def flag (b : Bool) (n : Nat) : Nat := if b then 2 ^ n else 0

/-- A word with bit `n` set. -/
def setBit (x n : Nat) : Nat := if bit x n then x else x + 2 ^ n

/-- A word with bit `n` clear. -/
def clrBit (x n : Nat) : Nat := if bit x n then x - 2 ^ n else x

/-- The bytes `o` to `o + bs.length - 1` of `xs` replaced by `bs`; `xs` keeps its length. -/
def putBytes (xs : List (BitVec 8)) (o : Nat) (bs : List (BitVec 8)) : List (BitVec 8) :=
  (xs.take o ++ bs ++ xs.drop (o + bs.length)).take xs.length

/-- `n` zero bytes. -/
def zeroBytes (n : Nat) : List (BitVec 8) := List.replicate n 0

/-! ### tan, exp and atan2 (R74, R77, R188), in integers of 128 fraction bits -/

/-- One in 128 fraction bits. -/
abbrev fxOne : Int := 2 ^ 128

/-- π in 128 fraction bits, rounded down. -/
abbrev fxPi : Int := 0x3243F6A8885A308D313198A2E03707344

/-- A rational in 128 fraction bits, rounded down. -/
def fxOf (x : Rat) : Int := (x * (2 : Rat) ^ 128).floor

/-- The terms y^n / n! of a power series from term `n`, whose value is `t`. -/
def powTerms (y : Int) : Nat → Nat → Int → List Int
  | 0, _, _ => []
  | k + 1, n, t => t :: powTerms y k (n + 1) (t * y / ((n + 1 : Nat) * fxOne))

/-- exp(y) for |y| at most 1. -/
def fxExp (y : Int) : Int := (powTerms y 48 0 fxOne).sum

/-- cos(y) and sin(y) for |y| at most 2. -/
def fxCosSin (y : Int) : Int × Int :=
  let ts := (powTerms y 56 0 fxOne).zipIdx
  let part (r : Nat) : Int := (ts.map (fun t => if t.2 % 4 = r then t.1 else if t.2 % 4 = r + 2 then -t.1 else 0)).sum
  (part 0, part 1)

/-- exp(−2πx) for x from 0 to 0.15, which holds the range of OBS_BW × T (R74). -/
def expNegTwoPi (x : Rat) : Rat := ((fxExp (-(2 * fxPi * fxOf x / fxOne)) : Int) : Rat) / (2 : Rat) ^ 128

/-- tan(πx) for x from 0 to 0.45, which holds the range of f × T (R77, R78). -/
def tanPi (x : Rat) : Rat :=
  let cs := fxCosSin (fxPi * fxOf x / fxOne)
  (cs.2 : Rat) / (cs.1 : Rat)

/-- tan of half the angle whose tan is `t`. -/
def fxHalfTan (t : Int) : Int := t * fxOne / (fxOne + (Nat.sqrt (fxOne * fxOne + t * t).toNat : Int))

/-- atan of a small `t`, by its power series with `k` terms: `u` is the odd power, `n` its exponent. -/
def fxAtan (t2 : Int) : Nat → Nat → Int → Int
  | 0, _, _ => 0
  | k + 1, n, u => u / (n : Int) - fxAtan t2 k (n + 2) (u * t2 / fxOne)

/-- atan(y / x) in turns for 0 ≤ y ≤ x, 0 < x. -/
def atanTurn (y x : Rat) : Rat :=
  let t := fxHalfTan (fxHalfTan (fxHalfTan (fxOf (y / x))))
  ((8 * fxAtan (t * t / fxOne) 28 1 t : Int) : Rat) / ((2 * fxPi : Int) : Rat)

/-- atan2(y, x) in turns, from −1/2 to 1/2; at the origin, where it has no value, `z`. -/
def atan2Turn (y x z : Rat) : Rat :=
  let ay := absR y
  let ax := absR x
  if ax = 0 && ay = 0 then z
  else
    let q := if ay ≤ ax then atanTurn ay ax else 1 / 4 - atanTurn ax ay
    let h := if x < 0 then 1 / 2 - q else q
    if y < 0 then -h else h

/-! ## Folds -/

/-- A fold from the left whose running value is a number at every step: the kernel evaluates it on long lists. -/
def foldNat {α : Type} (f : Nat → α → Nat) : Nat → List α → Nat
  | c, [] => c
  | c, x :: xs => match f c x with
    | 0 => foldNat f 0 xs
    | k + 1 => foldNat f (k + 1) xs

/-- It is the fold from the left. -/
theorem foldNat_eq {α : Type} (f : Nat → α → Nat) (l : List α) (c : Nat) : foldNat f c l = l.foldl f c := by
  induction l generalizing c with
  | nil => rfl
  | cons x xs ih =>
    simp only [foldNat, List.foldl_cons]
    split <;> rename_i h <;> rw [ih, h]

/-! ## Sorting -/

/-- `x` put into a sorted list, before the first element that it may precede. -/
def sortInsert {α : Type} (before : α → α → Bool) (x : α) : List α → List α
  | [] => [x]
  | y :: ys => if before x y then x :: y :: ys else y :: sortInsert before x ys

/-- A list in the order `before`; elements that may precede each other keep their order. -/
def sortBy {α : Type} (before : α → α → Bool) (l : List α) : List α := l.foldr (sortInsert before) []

end Sys2Proof.Machine
end

