-- ==== Sys2Proof/Machine/Tables.lean ====
section
/-! DEFINITION. Finite tables kept as lists in one canonical form (keys strictly rising), and byte memory
(Host.Cell lists, keys strictly rising, no entry equal to what an unlisted address reads as). -/

namespace Sys2Proof.Machine

/-- A finite table by number: keys strictly rising. -/
abbrev Tab (α : Type) := List (Nat × α)

/-- The entry of key `k`, if the table has one. -/
def Tab.find {α : Type} : Tab α → Nat → Option α
  | [], _ => none
  | (j, a) :: r, k => if j = k then some a else Tab.find r k

/-- The entry of key `k`, or `d` where the table has none. -/
def Tab.getD {α : Type} (t : Tab α) (k : Nat) (d : α) : α := (Tab.find t k).getD d

/-- The table has an entry of key `k`. -/
def Tab.has {α : Type} (t : Tab α) (k : Nat) : Bool := (Tab.find t k).isSome

/-- The table with the entry of key `k` set to `a`, in its rising place. -/
def Tab.set {α : Type} : Tab α → Nat → α → Tab α
  | [], k, a => [(k, a)]
  | (j, b) :: r, k, a => if k < j then (k, a) :: (j, b) :: r else if j = k then (k, a) :: r else (j, b) :: Tab.set r k a

/-- The table without the entry of key `k`. -/
def Tab.del {α : Type} : Tab α → Nat → Tab α
  | [], _ => []
  | (j, b) :: r, k => if j = k then r else (j, b) :: Tab.del r k

/-- The entry of key `k`, if any, changed by `f`. -/
def Tab.upd {α : Type} (t : Tab α) (k : Nat) (f : α → α) : Tab α :=
  t.map (fun e => if e.1 = k then (e.1, f e.2) else e)

/-- Every entry changed by `f`, which sees the key. -/
def Tab.mapAll {α : Type} (t : Tab α) (f : Nat → α → α) : Tab α := t.map (fun e => (e.1, f e.1 e.2))

/-- Byte memory: address and byte pairs, addresses strictly rising, no listed byte equal to the byte `d` that an
unlisted address reads as. -/
abbrev Memory := List Host.Cell

/-- One byte read; an unlisted address reads `d`. -/
def Memory.read (d : Byte) : Memory → Nat → Byte
  | [], _ => d
  | (j, b) :: r, a => if j = a then b else Memory.read d r a

/-- One byte written; writing `d` removes the entry. -/
def Memory.write (d : Byte) : Memory → Nat → Byte → Memory
  | [], a, v => if v = d then [] else [(a, v)]
  | (j, b) :: r, a, v =>
    if a < j then (if v = d then (j, b) :: r else (a, v) :: (j, b) :: r)
    else if j = a then (if v = d then r else (a, v) :: r)
    else (j, b) :: Memory.write d r a v

/-- The bytes `bs` written from address `a` on. -/
def Memory.writeList (d : Byte) (m : Memory) : Nat → List Byte → Memory
  | _, [] => m
  | a, v :: vs => Memory.writeList d (Memory.write d m a v) (a + 1) vs

/-- `n` bytes read from address `a` on. -/
def Memory.readList (d : Byte) (m : Memory) (a : Nat) : Nat → List Byte
  | 0 => []
  | n + 1 => Memory.read d m a :: Memory.readList d m (a + 1) n

/-- Every byte from address `a` to `a + n - 1` reads `d` again (an erased flash sector, a zeroed record). -/
def Memory.clear (m : Memory) (a n : Nat) : Memory := m.filter (fun c => c.1 < a || a + n ≤ c.1)

/-- All listed addresses lie above `lo`. -/
def Memory.above (lo : Nat) : Memory → Bool
  | [] => true
  | (j, _) :: r => decide (lo < j) && Memory.above lo r

/-- The canonical form of a memory whose unlisted bytes read `d`. -/
def Memory.wf (d : Byte) : Memory → Bool
  | [] => true
  | (j, b) :: r => decide (b ≠ d) && Memory.above j r && Memory.wf d r

end Sys2Proof.Machine
end

