-- ==== Sys2Proof/Machine/EngineState.lean ====
section
/-! DEFINITION. State of the loop engines (chapter 7): memories, registers, the exposed pipeline, the table port, slots and the
measurements of the engine pace record. -/

namespace Sys2Proof.Machine

open Sys2Proof

/-- One MAC lane of a bundle (Table 7.5): `kind` 1 MAC, 2 MSU, 3 MPY. -/
structure Lane where
  lane : Nat
  kind : Nat
  psh : Nat
  sign : Nat
  acc : Nat
  a : Nat
  b : Nat
  deriving DecidableEq, Repr

/-- One MEM access of a bundle (Table 7.6): bus 1 X, 2 Y, 3 C. -/
structure Access where
  bus : Nat
  store : Bool
  wide : Bool
  reg : Nat
  amode : Nat
  ptr : Nat
  ofs : Int
  deriving DecidableEq, Repr

/-- The ALU or CTL word of a bundle, by its OP of Table 7.8 (`ctl` says which class). -/
structure OpWord where
  ctl : Bool
  op : Nat
  dst : Nat := 0
  a : Nat := 0
  b : Nat := 0
  sh : Nat := 0
  imm : Nat := 0
  addr : Nat := 0
  deriving DecidableEq, Repr

/-- An open or waiting bundle (R204). -/
structure Bundle where
  lanes : List Lane := []
  accs : List Access := []
  op : Option OpWord := none
  bad : Bool := false
  deriving DecidableEq, Repr

/-- A write in flight (R206): it is seen by the third bundle after the one that made it. -/
inductive Wr where
  | d (r : Nat) (v : Word)
  | acc (n : Nat) (v : Int) (ovf : Bool)
  | aclr (n : Nat)
  | mem (bus addr : Nat) (v : Word)
  | special (n : Nat) (v : Nat)
  | flags (z n v : Bool)
  | sov
  | wcol
  | loopRegs (cnt le : Nat)
  deriving DecidableEq, Repr

/-- An outstanding table read (R220): handle, index, destination pair and, once returned, its two entries. -/
structure TabReq where
  handle : Nat
  idx : Nat
  dst : Nat
  got : Option (Int × Int) := none
  deriving DecidableEq, Repr

/-- What an engine runs: kind 0 an axis computation, 1 the background task, 2 the preemption handler. -/
structure Run where
  kind : Nat
  slot : Nat
  axis : Nat
  kernel : Nat
  pass : Nat
  steps : Nat := 0
  reads : Nat := 0
  overBudget : Bool := false
  deriving DecidableEq, Repr

/-- What a finished pass left for the Seal (R229, R230): the output block's words 0 to 17 and COMMIT. -/
structure SlotOut where
  words : List Nat
  commit : Bool
  pass : Nat
  deriving DecidableEq, Repr

/-- A slot: its axis, the committed bank, whether it is the shadow of a migrating axis, and its results of this cycle. -/
structure Slot where
  axis : Nat
  bank : Bool := false
  shadow : Bool := false
  outs : List SlotOut := []
  deriving DecidableEq, Repr

/-- One loop engine (Tables 7.1 and 7.2). `special` holds the special registers 0 to 25 by number; `brDue` and `brNext` are the targets of the taken branches whose
next bundle is the target, or the one after it (R208); `cache` holds the words of a loop body (R219). -/
structure Engine where
  d : List Word := List.replicate 32 0
  acc : List Int := List.replicate 8 0
  special : List Nat := List.replicate 26 0
  pm : Tab (BitVec 64) := []
  xm : Tab Word := []
  ym : Tab Word := []
  cm : Tab Word := []
  pcw : Nat := 0
  cur : Bundle := {}
  w1 : List Wr := []
  w2 : List Wr := []
  w3 : List Wr := []
  brDue : Option Nat := none
  brNext : Option Nat := none
  stall : Option Bundle := none
  reqs : List TabReq := []
  cache : List (BitVec 64) := []
  saveValid : Bool := false
  bgDeclared : Bool := false
  run : Option Run := none
  slots : Tab Slot := []
  version : Nat := 0
  role : Nat := 0
  seeing : Nat := 0
  window : List Nat := []
  sPlan : Nat := 0
  mismatch : Bool := false
  mismPasses : Nat := 0
  obsLast : Option Nat := none
  seeSum : Nat := 0
  refSum : Rat := 0
  probe : Nat := 0
  passes : Nat := 0
  late : Nat := 0
  steps : Nat := 0
  reads : Nat := 0
  elapsed : Nat := 0
  obsMin : Nat := 0
  obsMax : Nat := 0
  busy : Nat := 0
  pcause : Nat := 255
  ageDrift : Int := 0
  loadPred : Nat := 0
  migrations : Nat := 0
  lateCnt : Nat := 0
  hadSlots : Bool := false
  deriving DecidableEq, Repr

/-- The KRN image of version `v` is loaded: program and C memory hold it, and every register is 0 (R200, R202, R227). -/
def Engine.load (g : Engine) (v : Nat) : Engine :=
  { g with version := v, d := List.replicate 32 0, acc := List.replicate 8 0, special := List.replicate 26 0,
           pm := (List.range 4096).map (fun a => (a, Config.kernelWord v a)), cm := (List.range 8192).map (fun a => (a, Config.kernelConst v a)),
           pcw := 0, cur := {}, w1 := [], w2 := [], w3 := [], brDue := none, brNext := none, stall := none, reqs := [], cache := [], run := none }

end Sys2Proof.Machine
end

