-- ==== Sys2Proof/Machine/EventDefs.lean ====
section
/-! DEFINITION. Events (R450, R451): source, code, arguments and the stamp's plane, with the codes of Table 15.4 and the sources of Table 15.3. -/

namespace Sys2Proof.Machine

/-- An event as the router carries it (R451): ARGS packed without gaps, at most 24 bytes. `mgmt` says that the management plane
emitted it, with a firmware stamp (R449); `cpDrop` that events were dropped before it (R16). -/
structure Ev where
  src : Nat
  code : Nat
  args : List (BitVec 8) := []
  mgmt : Bool := false
  cpDrop : Bool := false
  late : Bool := false
  cycle : Nat := 0
  noCycle : Bool := false
  opsec : Nat := 0
  pwr : Nat := 0
  deriving DecidableEq, Repr

/-! Sources (Table 15.3). -/
abbrev srcDevice : Nat := 0x0000
abbrev srcSeg (i : Nat) : Nat := 0x1000 + i
abbrev srcNode (seg pos : Nat) : Nat := 0x2000 + 96 * seg + pos - 1
abbrev srcTu : Nat := 0x3000
abbrev srcTout (i : Nat) : Nat := 0x3100 + i
abbrev srcTcap (i : Nat) : Nat := 0x3200 + i
abbrev srcPort (i : Nat) : Nat := 0x3300 + i
abbrev srcEngine (i : Nat) : Nat := 0x4000 + i
abbrev srcPu : Nat := 0x5000
abbrev srcStepEngine (i : Nat) : Nat := 0x6000 + i
abbrev srcPac : Nat := 0x7000
abbrev srcSi : Nat := 0x8000
abbrev srcConn (i : Nat) : Nat := 0x8400 + i
abbrev srcPair (i : Nat) : Nat := 0x9000 + i
abbrev srcMgc : Nat := 0xA000
abbrev srcChr : Nat := 0xB000
abbrev srcLog : Nat := 0xC000
abbrev srcTru : Nat := 0xD000
abbrev srcAxis (i : Nat) : Nat := 0xE000 + i
abbrev srcStepper (i : Nat) : Nat := 0xE800 + i
abbrev srcOrr (i : Nat) : Nat := 0xF000 + i
abbrev srcReg (i : Nat) : Nat := 0xF100 + i

/-! Codes (Tables 15.4 and 15.5). -/
abbrev eCOUNTER_SATURATED : Nat := 0x1001
abbrev ePIN_EXPIRED : Nat := 0x1002
abbrev eAXIS_MIGRATED : Nat := 0x1003
abbrev eAXIS_OVERRUN : Nat := 0x1004
abbrev eFB_TIME_BOUND : Nat := 0x2001
abbrev eQS_TIMEOUT : Nat := 0x2002
abbrev eLIMIT_DEFERRED : Nat := 0x2003
abbrev eOVERSHOOT_PLANNED : Nat := 0x2004
abbrev eOVERSHOOT_BLOCKED : Nat := 0x2005
abbrev eENGAGED : Nat := 0x2006
abbrev eHOME_DONE : Nat := 0x2007
abbrev eHANDOVER_BLEND : Nat := 0x2008
abbrev eHANDOVER_STEP : Nat := 0x2009
abbrev eLIMIT_ENTERED : Nat := 0x200A
abbrev eLIMIT_RELEASED : Nat := 0x200B
abbrev eORRERY_LIMITED : Nat := 0x200C
abbrev eENGINE_TRAP : Nat := 0x3001
abbrev ePREEMPT_OVERRUN : Nat := 0x3002
abbrev eKERNEL_OVER_BUDGET : Nat := 0x3003
abbrev eSEEING_MISMATCH : Nat := 0x3004
abbrev eTEMP_WARN : Nat := 0x3005
abbrev eAGEING_WARN : Nat := 0x3006
abbrev eAGEING_LIMIT : Nat := 0x3007
abbrev ePLAN_DISCARDED : Nat := 0x3008
abbrev eAVS_MISMATCH : Nat := 0x3009
abbrev eAVS_FAULT : Nat := 0x300A
abbrev eMIGRATE_MISMATCH : Nat := 0x300B
abbrev eSELFTEST_SUSPENDED : Nat := 0x300C
abbrev eMARGIN_LOW_ENTER : Nat := 0x300D
abbrev eMARGIN_LOW_EXIT : Nat := 0x300E
abbrev eAXIS_SHED : Nat := 0x300F
abbrev eRING_OPEN : Nat := 0x4001
abbrev eFOLLOWER_PASSIVE : Nat := 0x4002
abbrev eRING_MISMATCH : Nat := 0x4003
abbrev eNODE_CONFIG_FAILED : Nat := 0x4004
abbrev eSYNC_FAILED : Nat := 0x4005
abbrev eRING_BREAK : Nat := 0x4006
abbrev eBREAK_CLEARED : Nat := 0x4007
abbrev eREADY_LOW : Nat := 0x4008
abbrev eNODE_LOST : Nat := 0x4009
abbrev eNODE_RETURNED : Nat := 0x400A
abbrev eLINK_LASTING : Nat := 0x400B
abbrev eRING_TOO_LONG : Nat := 0x400C
abbrev eJOIN_REFUSED : Nat := 0x400D
abbrev eTWIN_READY : Nat := 0x400E
abbrev eTWIN_DIVERGED : Nat := 0x400F
abbrev eTAKEOVER_REFUSED : Nat := 0x4010
abbrev eLEADER_DEPOSED : Nat := 0x4011
abbrev eTAKEOVER : Nat := 0x4012
abbrev eTIME_LOCKED : Nat := 0x5001
abbrev eTIME_UNLOCKED : Nat := 0x5002
abbrev eTIME_HOLDOVER : Nat := 0x5003
abbrev eTIME_FREE : Nat := 0x5004
abbrev eTIME_STEPPED : Nat := 0x5005
abbrev eTOUT_LATE : Nat := 0x5006
abbrev eOWNER_CLAIMED : Nat := 0x6001
abbrev eOWNER_RELEASED : Nat := 0x6002
abbrev eOWNER_LOST : Nat := 0x6003
abbrev eQUEUE_DMA_FAULT : Nat := 0x6004
abbrev eCHR_TRIGGERED : Nat := 0x6010
abbrev eCHR_CAPTURE_DONE : Nat := 0x6011
abbrev eCHR_DISARMED : Nat := 0x6012
abbrev eLOST : Nat := 0x7001
abbrev eCLEARED : Nat := 0x7002
abbrev eHOST_MARK : Nat := 0x7003
abbrev eRESTART : Nat := 0x7004
abbrev ePERSIST_FAULT : Nat := 0x7005
abbrev eCLEAR_REFUSED : Nat := 0x7006
abbrev eSELFTEST_START : Nat := 0x9001
abbrev eSELFTEST_RESULT : Nat := 0x9002
abbrev eENGINE_FENCED : Nat := 0x9003
abbrev ePATH_FENCED : Nat := 0x9004
abbrev eMEM_REPAIRED : Nat := 0x9005
abbrev eMEM_UNCORRECTABLE : Nat := 0x9006
abbrev eMEM_DEGRADED : Nat := 0x9007
abbrev eFABRIC_CRITICAL : Nat := 0x9008
abbrev eREPAIR_FUSED : Nat := 0x9009
abbrev ePOISON_READ : Nat := 0x900A
abbrev eUPDATE_START : Nat := 0xA001
abbrev eUPDATE_DONE : Nat := 0xA002
abbrev eKERNEL_SWITCHED : Nat := 0xA003
abbrev eBOOT : Nat := 0xA004
abbrev eLONG_RESET : Nat := 0xA005
abbrev eBANK_FALLBACK : Nat := 0xA006
abbrev eALMANAC_MINOR : Nat := 0xA007
abbrev eRECOVERY_ENTERED : Nat := 0xA008
abbrev eCLOCK_FAULT : Nat := 0x1010
abbrev eTHERM_LIMIT : Nat := 0x1011
abbrev eSAFE_DEMAND : Nat := 0x8001
abbrev eSAFE_RELEASE : Nat := 0x8002
abbrev eSAFE_PAIR_FAULT : Nat := 0x8003
abbrev eTWO_HAND_SYNC : Nat := 0x8004
abbrev eSI_FAULT : Nat := 0x8005
abbrev eCONN_ACTIVE : Nat := 0x8006
abbrev eCONN_TIMEOUT : Nat := 0x8007
abbrev eSTO_FB_FAULT : Nat := 0x8008
abbrev eSLS_VIOLATION : Nat := 0x8009
abbrev eSAFE_CONFIG_APPLIED : Nat := 0x800A
abbrev eSO_LOOP_MISMATCH : Nat := 0x800B

/-- A control-plane or SI event. -/
def evC (src code : Nat) (args : List (BitVec 8) := []) : Ev := { src := src, code := code, args := args }

/-- A management-plane event, with a firmware stamp (R449). -/
def evM (src code : Nat) (args : List (BitVec 8) := []) : Ev := { src := src, code := code, args := args, mgmt := true }

end Sys2Proof.Machine
end

