-- ==== Sys2Proof/Machine/ParamDefs.lean ====
section
/-! DEFINITION. The parameters of the device: their identifiers (R405), formats, ranges, defaults and effect points
(Tables 2.1, 3.1, 4.1, 4.2, 4.6, 4.7, 4.9, 5.2, 6.3, 8.6, 10.11, 11.6 and 13.3), one row each. -/

namespace Sys2Proof.Machine

/-- The kind of object a parameter belongs to (Table 13.2). -/
inductive PTarget where
  | device | axis | stepper | orrery | regch | segment | tout | tcap | port
  deriving DecidableEq, Repr

/-- The format of a parameter's value: unsigned or signed integer of so many bytes, or binary32. -/
inductive PFmt where
  | u (bytes : Nat) | s (bytes : Nat) | f32
  deriving DecidableEq, Repr

/-- The Takes-effect column of a parameter table, as R407 reads it. -/
inductive PEffect where
  | m | off | ringStart | plan | nextPlan | homing | obj | load | engage | uncoupled | stored
  deriving DecidableEq, Repr

/-- One row of a parameter table. The range is of the stored integer, or of the value for binary32. -/
structure ParamDesc where
  id : Nat
  target : PTarget
  fmt : PFmt
  lo : Rat
  hi : Rat
  dflt : Int
  eff : PEffect
  deriving DecidableEq, Repr

/-! The identifiers (R405). -/

abbrev pT_CYC : Nat := 0x2100
abbrev pSAMPLE_LEAD : Nat := 0x2101
abbrev pAPPLY_GUARD : Nat := 0x2102
abbrev pAXIS_DIVISOR : Nat := 0x2103
abbrev pAXIS_PHASE : Nat := 0x2104
abbrev pOVR_LIMIT : Nat := 0x2105
abbrev pEXEC_STYLE : Nat := 0x2106
abbrev pFB_SCALE : Nat := 0x3100
abbrev pPOS_OFFSET : Nat := 0x3101
abbrev pMODULUS : Nat := 0x3102
abbrev pFB_OFFSET_MAX : Nat := 0x3103
abbrev pFB_MISS_LIMIT : Nat := 0x3104
abbrev pOBS_EN : Nat := 0x3105
abbrev pOBS_BW : Nat := 0x3106
abbrev pTRQ_TO_ACC : Nat := 0x3107
abbrev pKPP : Nat := 0x3108
abbrev pKIP : Nat := 0x3109
abbrev pPOS_I_LIM : Nat := 0x310A
abbrev pKVFF : Nat := 0x310B
abbrev pVEL_REF_LIM : Nat := 0x310C
abbrev pKPV : Nat := 0x310D
abbrev pKIV : Nat := 0x310E
abbrev pVEL_I_LIM : Nat := 0x310F
abbrev pKAFF : Nat := 0x3110
abbrev pKJFF : Nat := 0x3111
abbrev pTRQ_LIM : Nat := 0x3112
abbrev pTRQ_SAT_TIME : Nat := 0x3113
abbrev pNOTCH1_F : Nat := 0x3114
abbrev pNOTCH2_F : Nat := 0x3115
abbrev pNOTCH1_ZD : Nat := 0x3116
abbrev pNOTCH2_ZD : Nat := 0x3117
abbrev pNOTCH1_ZN : Nat := 0x3118
abbrev pNOTCH2_ZN : Nat := 0x3119
abbrev pLP_F : Nat := 0x311A
abbrev pLP_Z : Nat := 0x311B
abbrev pCOG_N : Nat := 0x311C
abbrev pFRIC_N : Nat := 0x311D
abbrev pCOG_PERIOD : Nat := 0x311E
abbrev pFRIC_PERIOD : Nat := 0x311F
abbrev pCOG_ORIGIN : Nat := 0x3120
abbrev pFRIC_ORIGIN : Nat := 0x3121
abbrev pFRIC_VZONE : Nat := 0x3122
abbrev pFE_LIMIT : Nat := 0x3123
abbrev pFE_HYST : Nat := 0x3124
abbrev pFE_TIME : Nat := 0x3125
abbrev pFE_HARD : Nat := 0x3126
abbrev pSTANDSTILL_VEL : Nat := 0x3127
abbrev pSTANDSTILL_TIME : Nat := 0x3128
abbrev pQS_TIMEOUT : Nat := 0x3129
abbrev pREACT_code : Nat := 0x312A
abbrev pSPLIT_PBOUND : Nat := 0x312B
abbrev pSPLIT_RETRACT_LIMIT : Nat := 0x312C
abbrev pVMAX : Nat := 0x4100
abbrev pAMAX : Nat := 0x4101
abbrev pDMAX : Nat := 0x4102
abbrev pJMAX : Nat := 0x4103
abbrev pDEC_POLICY : Nat := 0x4104
abbrev pQS_DEC : Nat := 0x4105
abbrev pQS_JERK : Nat := 0x4106
abbrev pSW_LIM_EN : Nat := 0x4107
abbrev pSW_LIM_POS : Nat := 0x4108
abbrev pSW_LIM_NEG : Nat := 0x4109
abbrev pORR_SRC : Nat := 0x4200
abbrev pORR_SRC_AXIS : Nat := 0x4201
abbrev pORR_SCALE : Nat := 0x4202
abbrev pORR_THETA0 : Nat := 0x4203
abbrev pORR_VMAX : Nat := 0x4204
abbrev pORR_AMAX : Nat := 0x4205
abbrev pORR_DMAX : Nat := 0x4206
abbrev pORR_JMAX : Nat := 0x4207
abbrev pORR_QS_DEC : Nat := 0x4208
abbrev pORR_FAULT_ACTION : Nat := 0x4209
abbrev pORRERY : Nat := 0x4600
abbrev pNUM : Nat := 0x4601
abbrev pDEN : Nat := 0x4602
abbrev pCOUPLING : Nat := 0x4603
abbrev pPHASE_F : Nat := 0x4604
abbrev pPH_VMAX : Nat := 0x4605
abbrev pPH_AMAX : Nat := 0x4606
abbrev pPH_DMAX : Nat := 0x4607
abbrev pPH_JMAX : Nat := 0x4608
abbrev pENG_MODE : Nat := 0x4609
abbrev pENG_THETA : Nat := 0x460A
abbrev pENG_POS : Nat := 0x460B
abbrev pENG_VREL : Nat := 0x460C
abbrev pENG_AREL : Nat := 0x460D
abbrev pENG_JREL : Nat := 0x460E
abbrev pLADDER_RUNG : Nat := 0x460F
abbrev pREG_AXIS : Nat := 0x4700
abbrev pREG_SRC : Nat := 0x4701
abbrev pREG_EDGE : Nat := 0x4702
abbrev pREG_PERIOD : Nat := 0x4703
abbrev pREG_NOMINAL : Nat := 0x4704
abbrev pREG_WINDOW : Nat := 0x4705
abbrev pREG_GAIN : Nat := 0x4706
abbrev pREG_DEADBAND : Nat := 0x4707
abbrev pREG_STEP_MAX : Nat := 0x4708
abbrev pREG_MISS_LIMIT : Nat := 0x4709
abbrev pREG_PUB : Nat := 0x470A
abbrev pHOME_METHOD : Nat := 0x4900
abbrev pHOME_DIR : Nat := 0x4901
abbrev pHOME_VEL_FAST : Nat := 0x4902
abbrev pHOME_VEL_SLOW : Nat := 0x4903
abbrev pHOME_ACC : Nat := 0x4904
abbrev pHOME_POS : Nat := 0x4905
abbrev pHOME_TARGET_EN : Nat := 0x4906
abbrev pHOME_TARGET : Nat := 0x4907
abbrev pHOME_TORQUE : Nat := 0x4908
abbrev pHOME_HS_TIME : Nat := 0x4909
abbrev pHOME_LIM_REVERSE : Nat := 0x490A
abbrev pHOME_SEARCH_MAX : Nat := 0x490B
abbrev pHOME_TIMEOUT : Nat := 0x490C
abbrev pHANDOVER_BAND : Nat := 0x5200
abbrev pHANDOVER_TIME : Nat := 0x5201
abbrev pTRQ_SET : Nat := 0x5202
abbrev pTRQ_SLEW : Nat := 0x5203
abbrev pTRQ_VLIM : Nat := 0x5204
abbrev pSPLIT_EN : Nat := 0x5205
abbrev pST_FS_PER_AU : Nat := 0x6300
abbrev pST_EANGLE_OFFSET : Nat := 0x6301
abbrev pST_STEP_DIV : Nat := 0x6302
abbrev pST_STEP_PHASE : Nat := 0x6303
abbrev pST_VMAX : Nat := 0x6304
abbrev pST_AMAX : Nat := 0x6305
abbrev pST_DMAX : Nat := 0x6306
abbrev pST_JMAX : Nat := 0x6307
abbrev pST_DEC_POLICY : Nat := 0x6308
abbrev pST_STEP_QS_DEC : Nat := 0x6309
abbrev pST_I_SCALE : Nat := 0x630A
abbrev pST_U_SCALE : Nat := 0x630B
abbrev pST_I_RUN : Nat := 0x630C
abbrev pST_I_HOLD : Nat := 0x630D
abbrev pST_I_HOME : Nat := 0x630E
abbrev pST_HOLD_DELAY : Nat := 0x630F
abbrev pST_RES_V1 : Nat := 0x6310
abbrev pST_RES_V2 : Nat := 0x6311
abbrev pST_RES_V3 : Nat := 0x6312
abbrev pST_RES_V4 : Nat := 0x6313
abbrev pST_RES_HYST : Nat := 0x6314
abbrev pST_RES_MAX_LEVEL : Nat := 0x6315
abbrev pST_R_PH : Nat := 0x6316
abbrev pST_L_PH : Nat := 0x6317
abbrev pST_KE : Nat := 0x6318
abbrev pST_LA_VMIN : Nat := 0x6319
abbrev pST_STALL_EN : Nat := 0x631A
abbrev pST_STALL_ANGLE : Nat := 0x631B
abbrev pST_EMF_RATIO_MIN : Nat := 0x631C
abbrev pST_STALL_COUNT : Nat := 0x631D
abbrev pST_KEEP_REF_OFF : Nat := 0x631E
abbrev pST_OVR_LIMIT : Nat := 0x631F
abbrev pST_REACT_code : Nat := 0x6320
abbrev pST_HOME_METHOD : Nat := 0x6321
abbrev pST_HOME_DIR : Nat := 0x6322
abbrev pST_HOME_VEL_SLOW : Nat := 0x6323
abbrev pST_HOME_ACC : Nat := 0x6324
abbrev pST_HOME_POS : Nat := 0x6325
abbrev pST_HOME_SEARCH_MAX : Nat := 0x6326
abbrev pST_HOME_TIMEOUT : Nat := 0x6327
abbrev pST_HOME_BACKOFF : Nat := 0x6328
abbrev pST_HOME_VEL_FAST : Nat := 0x6329
abbrev pST_HOME_LIM_REVERSE : Nat := 0x632A
abbrev pSEEING_WINDOW : Nat := 0x8600
abbrev pSEEING_GUARD : Nat := 0x8601
abbrev pPLAN_PERIOD : Nat := 0x8602
abbrev pBALANCE_BAND : Nat := 0x8603
abbrev pMIGRATE_MAX : Nat := 0x8604
abbrev pVOLT_POLICY : Nat := 0x8605
abbrev pVOLT_FIXED : Nat := 0x8606
abbrev pAVS_INTERVAL : Nat := 0x8607
abbrev pAVS_HYST : Nat := 0x8608
abbrev pTEMP_WARN : Nat := 0x8609
abbrev pTHERM_LIMIT : Nat := 0x860A
abbrev pAGE_WARN : Nat := 0x860B
abbrev pMARGIN_EXIT_TIME : Nat := 0x860C
abbrev pPACE_PRIORITY : Nat := 0x860D
abbrev pLISTEN_TIME : Nat := 0xAB00
abbrev pCLAIM_PRIORITY : Nat := 0xAB01
abbrev pCLAIM_TIMEOUT : Nat := 0xAB02
abbrev pSYNC_TIMEOUT : Nat := 0xAB03
abbrev pNODE_WD : Nat := 0xAB04
abbrev pNODE_LOST_LIMIT : Nat := 0xAB05
abbrev pREADY_GUARD : Nat := 0xAB06
abbrev pJOIN_POLL_PERIOD : Nat := 0xAB07
abbrev pJOIN_DELAY_RESERVE : Nat := 0xAB08
abbrev pSTANDBY_EN : Nat := 0xAB09
abbrev pMISS_TAKEOVER : Nat := 0xAB0A
abbrev pHEAD_MAC : Nat := 0xAB0B
abbrev pLINK_MODE : Nat := 0xAB0C
abbrev pTB_SOURCE : Nat := 0xB600
abbrev pRATE_TRIM : Nat := 0xB601
abbrev pRATE_MAX : Nat := 0xB602
abbrev pRATE_SLEW_MAX : Nat := 0xB603
abbrev pSERVO_KP : Nat := 0xB604
abbrev pSERVO_KI : Nat := 0xB605
abbrev pLOCK_BAND : Nat := 0xB606
abbrev pTB_STEP_LIMIT : Nat := 0xB607
abbrev pHOLDOVER_TIME : Nat := 0xB608
abbrev pPTP_ROLE : Nat := 0xB609
abbrev pPTP_PROFILE : Nat := 0xB60A
abbrev pPTP_TRANSPORT : Nat := 0xB60B
abbrev pPTP_IPV4 : Nat := 0xB60C
abbrev pPTP_STEPS : Nat := 0xB60D
abbrev pPTP_DOMAIN : Nat := 0xB60E
abbrev pPTP_PRIO1 : Nat := 0xB60F
abbrev pPTP_PRIO2 : Nat := 0xB610
abbrev pPTP_CLASS_FREE : Nat := 0xB611
abbrev pLOG_SYNC : Nat := 0xB612
abbrev pLOG_ANNOUNCE : Nat := 0xB613
abbrev pLOG_MIN_DELAY_REQ : Nat := 0xB614
abbrev pANNOUNCE_TIMEOUT : Nat := 0xB615
abbrev pPLT_TX_DELAY : Nat := 0xB616
abbrev pPLT_RX_DELAY : Nat := 0xB617
abbrev pDELAY_ASYM : Nat := 0xB618
abbrev pPPS_WIDTH : Nat := 0xB619
abbrev pPPS_IN_EDGE : Nat := 0xB61A
abbrev pPPS_IN_DELAY : Nat := 0xB61B
abbrev pTOUT_MODE : Nat := 0xB61C
abbrev pTOUT_POL : Nat := 0xB61D
abbrev pTOUT_LEVEL : Nat := 0xB61E
abbrev pTOUT_START : Nat := 0xB61F
abbrev pTOUT_PERIOD : Nat := 0xB620
abbrev pTOUT_WIDTH : Nat := 0xB621
abbrev pTOUT_LEAD : Nat := 0xB622
abbrev pTOUT_ORR : Nat := 0xB623
abbrev pTOUT_ANGLE : Nat := 0xB624
abbrev pTOUT_APERIOD : Nat := 0xB625
abbrev pCAP_EDGE : Nat := 0xB626
abbrev pCAP_FILTER : Nat := 0xB627
abbrev pCAP_HOST : Nat := 0xB628
abbrev pEPH_DEPTH : Nat := 0xF000
abbrev pNG_ETYPE : Nat := 0xF001
abbrev pKERNEL_SEL : Nat := 0xF002
abbrev pLADDER_RUNGS : Nat := 0xF003
abbrev pLADDER_PIVOT : Nat := 0xF004
abbrev pLADDER_RATE : Nat := 0xF005
abbrev pLADDER_R_1 : Nat := 0xF011
abbrev pLADDER_R_2 : Nat := 0xF012
abbrev pLADDER_R_3 : Nat := 0xF013
abbrev pLADDER_R_4 : Nat := 0xF014
abbrev pLADDER_R_5 : Nat := 0xF015
abbrev pLADDER_R_6 : Nat := 0xF016
abbrev pLADDER_R_7 : Nat := 0xF017
abbrev pLADDER_R_8 : Nat := 0xF018
abbrev pLADDER_R_9 : Nat := 0xF019
abbrev pLADDER_R_10 : Nat := 0xF01A
abbrev pLADDER_R_11 : Nat := 0xF01B
abbrev pLADDER_R_12 : Nat := 0xF01C
abbrev pLADDER_R_13 : Nat := 0xF01D
abbrev pLADDER_R_14 : Nat := 0xF01E
abbrev pLADDER_R_15 : Nat := 0xF01F
abbrev pCAM_ID : Nat := 0xF020
abbrev pCAM_BASE : Nat := 0xF021
abbrev pTHETA_C : Nat := 0xF022
abbrev pPHASE_M : Nat := 0xF023

/-- Part 1 of the parameter table. -/
def paramTable1 : List ParamDesc :=
  [⟨pT_CYC, .device, .u 4, 15625, 1000000, 31250, .ringStart⟩,
   ⟨pSAMPLE_LEAD, .device, .u 4, 500, 10000, 1500, .ringStart⟩,
   ⟨pAPPLY_GUARD, .device, .u 4, 500, 5000, 1000, .ringStart⟩,
   ⟨pAXIS_DIVISOR, .axis, .u 1, 1, 8, 1, .plan⟩,
   ⟨pAXIS_PHASE, .axis, .u 1, 0, 7, 0, .plan⟩,
   ⟨pOVR_LIMIT, .axis, .u 1, 1, 15, 3, .m⟩,
   ⟨pEXEC_STYLE, .device, .u 1, 0, 1, 0, .m⟩,
   ⟨pFB_SCALE, .axis, .s 8, (-(2^63)), (2^63-1), 4096, .off⟩,
   ⟨pPOS_OFFSET, .axis, .s 8, (-(2^63)), (2^63-1), 0, .m⟩,
   ⟨pMODULUS, .axis, .u 8, 0, 2^63, 0, .off⟩,
   ⟨pFB_OFFSET_MAX, .axis, .u 4, 0, 10000, 5000, .m⟩,
   ⟨pFB_MISS_LIMIT, .axis, .u 1, 1, 15, 2, .m⟩,
   ⟨pOBS_EN, .axis, .u 1, 0, 1, 0, .m⟩,
   ⟨pOBS_BW, .axis, .f32, 1, 10^9, 1137180672, .m⟩,
   ⟨pTRQ_TO_ACC, .axis, .f32, 1/1000, 10^9, 1065353216, .m⟩,
   ⟨pKPP, .axis, .f32, 0, 20000, 0, .m⟩,
   ⟨pKIP, .axis, .f32, 0, 5000, 0, .m⟩,
   ⟨pPOS_I_LIM, .axis, .s 8, 0, (2^63-1), 0, .m⟩,
   ⟨pKVFF, .axis, .f32, 0, 2, 1065353216, .m⟩,
   ⟨pVEL_REF_LIM, .axis, .s 8, 1, (2^63-1), (2^63-1), .m⟩,
   ⟨pKPV, .axis, .f32, 0, 10^6, 0, .m⟩,
   ⟨pKIV, .axis, .f32, 0, 20000, 0, .m⟩,
   ⟨pVEL_I_LIM, .axis, .s 4, 0, 0x7FFFFFFF, 0x40000000, .m⟩,
   ⟨pKAFF, .axis, .f32, 0, 1000, 0, .m⟩,
   ⟨pKJFF, .axis, .f32, 0, 1, 0, .m⟩,
   ⟨pTRQ_LIM, .axis, .s 4, 1, 0x7FFFFFFF, 0x7FFFFFFF, .m⟩,
   ⟨pTRQ_SAT_TIME, .axis, .u 4, 0, 10000000, 0, .m⟩,
   ⟨pNOTCH1_F, .axis, .f32, 0, 10^9, 0, .m⟩,
   ⟨pNOTCH2_F, .axis, .f32, 0, 10^9, 0, .m⟩,
   ⟨pNOTCH1_ZD, .axis, .f32, 1/100, 2, 1050253722, .m⟩]

/-- Part 2 of the parameter table. -/
def paramTable2 : List ParamDesc :=
  [⟨pNOTCH2_ZD, .axis, .f32, 1/100, 2, 1050253722, .m⟩,
   ⟨pNOTCH1_ZN, .axis, .f32, 0, 2, 1022739087, .m⟩,
   ⟨pNOTCH2_ZN, .axis, .f32, 0, 2, 1022739087, .m⟩,
   ⟨pLP_F, .axis, .f32, 0, 10^9, 0, .m⟩,
   ⟨pLP_Z, .axis, .f32, 3/10, 2, 1060437492, .m⟩,
   ⟨pCOG_N, .axis, .u 2, 0, 16384, 0, .load⟩,
   ⟨pFRIC_N, .axis, .u 2, 0, 16384, 0, .load⟩,
   ⟨pCOG_PERIOD, .axis, .u 8, 1, (2^64-1), 2^32, .load⟩,
   ⟨pFRIC_PERIOD, .axis, .u 8, 1, (2^64-1), 2^32, .load⟩,
   ⟨pCOG_ORIGIN, .axis, .s 8, (-(2^63)), (2^63-1), 0, .m⟩,
   ⟨pFRIC_ORIGIN, .axis, .s 8, (-(2^63)), (2^63-1), 0, .m⟩,
   ⟨pFRIC_VZONE, .axis, .s 8, 1, (2^63-1), 2^30, .m⟩,
   ⟨pFE_LIMIT, .axis, .u 8, 1, (2^64-1), 2^24, .m⟩,
   ⟨pFE_HYST, .axis, .u 8, 0, (2^64-1), 2^21, .m⟩,
   ⟨pFE_TIME, .axis, .u 4, 0, 10000000, 10000, .m⟩,
   ⟨pFE_HARD, .axis, .u 8, 1, (2^64-1), 2^27, .m⟩,
   ⟨pSTANDSTILL_VEL, .axis, .s 8, 1, (2^63-1), 2^32, .m⟩,
   ⟨pSTANDSTILL_TIME, .axis, .u 4, 0, 1000000, 10000, .m⟩,
   ⟨pQS_TIMEOUT, .axis, .u 4, 1000, 60000000, 5000000, .m⟩,
   ⟨pREACT_code, .axis, .u 1, 0, 3, 0, .m⟩,
   ⟨pSPLIT_PBOUND, .axis, .u 8, 0, 2^32, 2^16, .m⟩,
   ⟨pSPLIT_RETRACT_LIMIT, .axis, .u 1, 1, 15, 4, .m⟩,
   ⟨pVMAX, .axis, .s 8, 1, (2^63-1), 2^40, .m⟩,
   ⟨pAMAX, .axis, .s 8, 1, (2^63-1), 10*2^32, .m⟩,
   ⟨pDMAX, .axis, .s 8, 1, (2^63-1), 10*2^32, .m⟩,
   ⟨pJMAX, .axis, .u 8, 1, (2^64-1), 1000*2^24, .m⟩,
   ⟨pDEC_POLICY, .axis, .u 1, 0, 1, 0, .m⟩,
   ⟨pQS_DEC, .axis, .s 8, 1, (2^63-1), 20*2^32, .m⟩,
   ⟨pQS_JERK, .axis, .u 8, 1, (2^64-1), 10000*2^24, .m⟩,
   ⟨pSW_LIM_EN, .axis, .u 1, 0, 1, 0, .m⟩]

/-- Part 3 of the parameter table. -/
def paramTable3 : List ParamDesc :=
  [⟨pSW_LIM_POS, .axis, .s 8, (-(2^63)), (2^63-1), (2^63-1), .m⟩,
   ⟨pSW_LIM_NEG, .axis, .s 8, (-(2^63)), (2^63-1), (-(2^63)), .m⟩,
   ⟨pORR_SRC, .orrery, .u 1, 0, 1, 0, .obj⟩,
   ⟨pORR_SRC_AXIS, .orrery, .u 2, 0, 511, 0, .obj⟩,
   ⟨pORR_SCALE, .orrery, .f32, -(10^39), 10^39, 1065353216, .obj⟩,
   ⟨pORR_THETA0, .orrery, .s 16, (-(2^127)), (2^127-1), 0, .m⟩,
   ⟨pORR_VMAX, .orrery, .s 8, 1, (2^63-1), 10*2^40, .m⟩,
   ⟨pORR_AMAX, .orrery, .s 8, 1, (2^63-1), 2^32, .m⟩,
   ⟨pORR_DMAX, .orrery, .s 8, 1, (2^63-1), 2^32, .m⟩,
   ⟨pORR_JMAX, .orrery, .u 8, 1, (2^64-1), 10*2^24, .m⟩,
   ⟨pORR_QS_DEC, .orrery, .s 8, 1, (2^63-1), 10*2^32, .m⟩,
   ⟨pORR_FAULT_ACTION, .orrery, .u 1, 0, 2, 1, .m⟩,
   ⟨pORRERY, .axis, .u 1, 0, 31, 0, .engage⟩,
   ⟨pNUM, .axis, .s 4, (-(2^31)), (2^31-1), 1, .engage⟩,
   ⟨pDEN, .axis, .u 4, 1, (2^32-1), 1, .engage⟩,
   ⟨pCOUPLING, .axis, .u 1, 0, 1, 0, .uncoupled⟩,
   ⟨pPHASE_F, .axis, .s 8, (-(2^63)), (2^63-1), 0, .m⟩,
   ⟨pPH_VMAX, .axis, .s 8, 1, (2^63-1), 10995116278, .m⟩,
   ⟨pPH_AMAX, .axis, .s 8, 1, (2^63-1), 429496730, .m⟩,
   ⟨pPH_DMAX, .axis, .s 8, 1, (2^63-1), 429496730, .m⟩,
   ⟨pPH_JMAX, .axis, .u 8, 1, (2^64-1), 10*2^24, .m⟩,
   ⟨pENG_MODE, .axis, .u 1, 0, 1, 0, .stored⟩,
   ⟨pENG_THETA, .axis, .s 16, (-(2^127)), (2^127-1), 0, .stored⟩,
   ⟨pENG_POS, .axis, .s 8, (-(2^63)), (2^63-1), 0, .stored⟩,
   ⟨pENG_VREL, .axis, .s 8, 1, (2^63-1), 2^40, .m⟩,
   ⟨pENG_AREL, .axis, .s 8, 1, (2^63-1), 10*2^32, .m⟩,
   ⟨pENG_JREL, .axis, .u 8, 1, (2^64-1), 1000*2^24, .m⟩,
   ⟨pLADDER_RUNG, .axis, .u 1, 0, 255, 255, .m⟩,
   ⟨pREG_AXIS, .regch, .u 2, 0, 511, 0, .m⟩,
   ⟨pREG_SRC, .regch, .u 4, 0, (2^32-1), 0, .m⟩]

/-- Part 4 of the parameter table. -/
def paramTable4 : List ParamDesc :=
  [⟨pREG_EDGE, .regch, .u 1, 0, 1, 0, .m⟩,
   ⟨pREG_PERIOD, .regch, .u 8, 1, (2^64-1), 2^32, .m⟩,
   ⟨pREG_NOMINAL, .regch, .u 8, 0, (2^64-1), 0, .m⟩,
   ⟨pREG_WINDOW, .regch, .u 8, 1, (2^64-1), 214748365, .m⟩,
   ⟨pREG_GAIN, .regch, .f32, -1, 1, 1056964608, .m⟩,
   ⟨pREG_DEADBAND, .regch, .u 8, 0, (2^64-1), 0, .m⟩,
   ⟨pREG_STEP_MAX, .regch, .u 8, 1, (2^64-1), 2^22, .m⟩,
   ⟨pREG_MISS_LIMIT, .regch, .u 1, 1, 255, 5, .m⟩,
   ⟨pREG_PUB, .regch, .u 4, 0, (2^23-256), 0, .m⟩,
   ⟨pHOME_METHOD, .axis, .u 1, 0, 4, 0, .homing⟩,
   ⟨pHOME_DIR, .axis, .u 1, 0, 1, 1, .homing⟩,
   ⟨pHOME_VEL_FAST, .axis, .s 8, 1, (2^63-1), 109951162778, .homing⟩,
   ⟨pHOME_VEL_SLOW, .axis, .s 8, 1, (2^63-1), 10995116278, .homing⟩,
   ⟨pHOME_ACC, .axis, .s 8, 1, (2^63-1), 2^32, .homing⟩,
   ⟨pHOME_POS, .axis, .s 8, (-(2^63)), (2^63-1), 0, .homing⟩,
   ⟨pHOME_TARGET_EN, .axis, .u 1, 0, 1, 0, .homing⟩,
   ⟨pHOME_TARGET, .axis, .s 8, (-(2^63)), (2^63-1), 0, .homing⟩,
   ⟨pHOME_TORQUE, .axis, .s 4, 0x01000000, 0x7FFFFFFF, 0x10000000, .homing⟩,
   ⟨pHOME_HS_TIME, .axis, .u 4, 1000, 1000000, 50000, .homing⟩,
   ⟨pHOME_LIM_REVERSE, .axis, .u 1, 0, 1, 1, .homing⟩,
   ⟨pHOME_SEARCH_MAX, .axis, .u 8, 1, (2^64-1), 2^52, .homing⟩,
   ⟨pHOME_TIMEOUT, .axis, .u 4, 100, 600000, 60000, .homing⟩,
   ⟨pHANDOVER_BAND, .axis, .s 4, 0, 0x7FFFFFFF, 0x00800000, .m⟩,
   ⟨pHANDOVER_TIME, .axis, .u 4, 0, 500000, 20000, .m⟩,
   ⟨pTRQ_SET, .axis, .s 4, (-(2^31)), (2^31-1), 0, .m⟩,
   ⟨pTRQ_SLEW, .axis, .f32, 1/100, 10^6, 1120403456, .m⟩,
   ⟨pTRQ_VLIM, .axis, .s 8, 1, (2^63-1), (2^63-1), .m⟩,
   ⟨pSPLIT_EN, .axis, .u 1, 0, 1, 0, .plan⟩,
   ⟨pST_FS_PER_AU, .stepper, .u 4, 1, 1048576, 200, .off⟩,
   ⟨pST_EANGLE_OFFSET, .stepper, .u 2, 0, 65535, 0, .off⟩]

/-- Part 5 of the parameter table. -/
def paramTable5 : List ParamDesc :=
  [⟨pST_STEP_DIV, .stepper, .u 1, 1, 64, 4, .plan⟩,
   ⟨pST_STEP_PHASE, .stepper, .u 1, 0, 63, 0, .plan⟩,
   ⟨pST_VMAX, .stepper, .s 8, 1, (2^63-1), 2^40, .m⟩,
   ⟨pST_AMAX, .stepper, .s 8, 1, (2^63-1), 10*2^32, .m⟩,
   ⟨pST_DMAX, .stepper, .s 8, 1, (2^63-1), 10*2^32, .m⟩,
   ⟨pST_JMAX, .stepper, .u 8, 1, (2^64-1), 1000*2^24, .m⟩,
   ⟨pST_DEC_POLICY, .stepper, .u 1, 0, 1, 0, .m⟩,
   ⟨pST_STEP_QS_DEC, .stepper, .s 8, 1, (2^63-1), 20*2^32, .m⟩,
   ⟨pST_I_SCALE, .stepper, .f32, 1/100, 100, 1073741824, .off⟩,
   ⟨pST_U_SCALE, .stepper, .f32, 1, 1000, 1107296256, .off⟩,
   ⟨pST_I_RUN, .stepper, .u 2, 0, 65535, 0x4000, .m⟩,
   ⟨pST_I_HOLD, .stepper, .u 2, 0, 65535, 0x2000, .m⟩,
   ⟨pST_I_HOME, .stepper, .u 2, 0, 65535, 0x2000, .m⟩,
   ⟨pST_HOLD_DELAY, .stepper, .u 4, 0, 10000000, 200000, .m⟩,
   ⟨pST_RES_V1, .stepper, .f32, 1, 10^6, 1128792064, .m⟩,
   ⟨pST_RES_V2, .stepper, .f32, 1, 10^6, 1145569280, .m⟩,
   ⟨pST_RES_V3, .stepper, .f32, 1, 10^6, 1161527296, .m⟩,
   ⟨pST_RES_V4, .stepper, .f32, 1, 10^6, 1176256512, .m⟩,
   ⟨pST_RES_HYST, .stepper, .f32, 0, 1/2, 1036831949, .m⟩,
   ⟨pST_RES_MAX_LEVEL, .stepper, .u 1, 0, 4, 4, .m⟩,
   ⟨pST_R_PH, .stepper, .f32, 1/100, 1000, 1065353216, .m⟩,
   ⟨pST_L_PH, .stepper, .f32, 1/1000000, 1, 981668463, .m⟩,
   ⟨pST_KE, .stepper, .f32, 1/1000000, 1, 981668463, .m⟩,
   ⟨pST_LA_VMIN, .stepper, .f32, 1, 10^5, 1120403456, .m⟩,
   ⟨pST_STALL_EN, .stepper, .u 1, 0, 1, 1, .m⟩,
   ⟨pST_STALL_ANGLE, .stepper, .u 2, 0x2000, 0x6000, 0x4000, .m⟩,
   ⟨pST_EMF_RATIO_MIN, .stepper, .f32, 0, 9/10, 1050253722, .m⟩,
   ⟨pST_STALL_COUNT, .stepper, .u 1, 1, 15, 3, .m⟩,
   ⟨pST_KEEP_REF_OFF, .stepper, .u 1, 0, 1, 0, .m⟩,
   ⟨pST_OVR_LIMIT, .stepper, .u 1, 1, 15, 3, .m⟩]

/-- Part 6 of the parameter table. -/
def paramTable6 : List ParamDesc :=
  [⟨pST_REACT_code, .stepper, .u 1, 0, 3, 0, .m⟩,
   ⟨pST_HOME_METHOD, .stepper, .u 1, 0, 4, 3, .homing⟩,
   ⟨pST_HOME_DIR, .stepper, .u 1, 0, 1, 1, .homing⟩,
   ⟨pST_HOME_VEL_SLOW, .stepper, .s 8, 1, (2^63-1), 10995116278, .homing⟩,
   ⟨pST_HOME_ACC, .stepper, .s 8, 1, (2^63-1), 2^32, .homing⟩,
   ⟨pST_HOME_POS, .stepper, .s 8, (-(2^63)), (2^63-1), 0, .homing⟩,
   ⟨pST_HOME_SEARCH_MAX, .stepper, .u 8, 1, (2^64-1), 2^52, .homing⟩,
   ⟨pST_HOME_TIMEOUT, .stepper, .u 4, 100, 600000, 60000, .homing⟩,
   ⟨pST_HOME_BACKOFF, .stepper, .u 8, 0, (2^64-1), 0, .homing⟩,
   ⟨pST_HOME_VEL_FAST, .stepper, .s 8, 1, (2^63-1), 109951162778, .homing⟩,
   ⟨pST_HOME_LIM_REVERSE, .stepper, .u 1, 0, 1, 1, .homing⟩,
   ⟨pSEEING_WINDOW, .device, .u 4, 10, 10000, 100, .m⟩,
   ⟨pSEEING_GUARD, .device, .u 2, 0, 4096, 512, .nextPlan⟩,
   ⟨pPLAN_PERIOD, .device, .u 4, 1, 60000, 10, .m⟩,
   ⟨pBALANCE_BAND, .device, .f32, 1/20, 1, 1048576000, .nextPlan⟩,
   ⟨pMIGRATE_MAX, .device, .u 1, 1, 32, 4, .nextPlan⟩,
   ⟨pVOLT_POLICY, .device, .u 1, 0, 1, 1, .m⟩,
   ⟨pVOLT_FIXED, .device, .u 2, 700, 860, 780, .m⟩,
   ⟨pAVS_INTERVAL, .device, .u 4, 1000, 1000000, 1000, .m⟩,
   ⟨pAVS_HYST, .device, .u 2, 256, 8192, 2048, .m⟩,
   ⟨pTEMP_WARN, .device, .s 2, 60, 124, 115, .m⟩,
   ⟨pTHERM_LIMIT, .device, .s 2, 100, 125, 125, .m⟩,
   ⟨pAGE_WARN, .device, .f32, 1/100, 6/100, 1028443341, .m⟩,
   ⟨pMARGIN_EXIT_TIME, .device, .u 4, 100, 60000, 1000, .m⟩,
   ⟨pPACE_PRIORITY, .axis, .u 1, 0, 255, 128, .nextPlan⟩,
   ⟨pLISTEN_TIME, .device, .u 4, 10, 10000, 50, .ringStart⟩,
   ⟨pCLAIM_PRIORITY, .device, .u 1, 0, 255, 128, .ringStart⟩,
   ⟨pCLAIM_TIMEOUT, .device, .u 4, 100, 60000, 1000, .ringStart⟩,
   ⟨pSYNC_TIMEOUT, .device, .u 4, 100, 10000, 1000, .ringStart⟩,
   ⟨pNODE_WD, .segment, .u 1, 1, 255, 4, .ringStart⟩]

/-- Part 7 of the parameter table. -/
def paramTable7 : List ParamDesc :=
  [⟨pNODE_LOST_LIMIT, .device, .u 1, 1, 255, 16, .m⟩,
   ⟨pREADY_GUARD, .device, .u 2, 0, 10000, 500, .m⟩,
   ⟨pJOIN_POLL_PERIOD, .device, .u 4, 10, 10000, 100, .m⟩,
   ⟨pJOIN_DELAY_RESERVE, .device, .u 2, 0, 5000, 600, .ringStart⟩,
   ⟨pSTANDBY_EN, .device, .u 1, 0, 1, 0, .ringStart⟩,
   ⟨pMISS_TAKEOVER, .device, .u 1, 1, 8, 2, .ringStart⟩,
   ⟨pHEAD_MAC, .device, .u 6, 0, (2^48-1), 0x000064250002, .ringStart⟩,
   ⟨pLINK_MODE, .segment, .u 1, 0, 1, 1, .ringStart⟩,
   ⟨pTB_SOURCE, .device, .u 1, 0, 2, 0, .m⟩,
   ⟨pRATE_TRIM, .device, .s 4, -128000000, 128000000, 0, .m⟩,
   ⟨pRATE_MAX, .device, .u 2, 1, 500, 100, .m⟩,
   ⟨pRATE_SLEW_MAX, .device, .f32, 1/100, 10, 0x3F800000, .m⟩,
   ⟨pSERVO_KP, .device, .f32, 0, 10, 0x3F333333, .m⟩,
   ⟨pSERVO_KI, .device, .f32, 0, 10, 0x3E99999A, .m⟩,
   ⟨pLOCK_BAND, .device, .u 4, 10, 1000000, 100, .m⟩,
   ⟨pTB_STEP_LIMIT, .device, .u 4, 1000, 10^9, 1000000, .m⟩,
   ⟨pHOLDOVER_TIME, .device, .u 4, 0, 86400, 3600, .m⟩,
   ⟨pPTP_ROLE, .device, .u 1, 0, 3, 0, .m⟩,
   ⟨pPTP_PROFILE, .device, .u 1, 0, 1, 0, .m⟩,
   ⟨pPTP_TRANSPORT, .device, .u 1, 0, 1, 0, .m⟩,
   ⟨pPTP_IPV4, .device, .u 4, 0, (2^32-1), 0, .m⟩,
   ⟨pPTP_STEPS, .device, .u 1, 1, 2, 2, .m⟩,
   ⟨pPTP_DOMAIN, .device, .u 1, 0, 127, 0, .m⟩,
   ⟨pPTP_PRIO1, .device, .u 1, 0, 255, 128, .m⟩,
   ⟨pPTP_PRIO2, .device, .u 1, 0, 255, 128, .m⟩,
   ⟨pPTP_CLASS_FREE, .device, .u 1, 6, 255, 248, .m⟩,
   ⟨pLOG_SYNC, .device, .s 1, -7, 4, 0, .m⟩,
   ⟨pLOG_ANNOUNCE, .device, .s 1, -7, 4, 1, .m⟩,
   ⟨pLOG_MIN_DELAY_REQ, .device, .s 1, -7, 4, 0, .m⟩,
   ⟨pANNOUNCE_TIMEOUT, .device, .u 1, 2, 10, 3, .m⟩]

/-- Part 8 of the parameter table. -/
def paramTable8 : List ParamDesc :=
  [⟨pPLT_TX_DELAY, .port, .u 2, 0, 65535, 0, .m⟩,
   ⟨pPLT_RX_DELAY, .port, .u 2, 0, 65535, 0, .m⟩,
   ⟨pDELAY_ASYM, .port, .s 4, -(2^31), (2^31-1), 0, .m⟩,
   ⟨pPPS_WIDTH, .device, .u 4, 100, 500000000, 100000000, .m⟩,
   ⟨pPPS_IN_EDGE, .device, .u 1, 0, 1, 0, .m⟩,
   ⟨pPPS_IN_DELAY, .device, .s 4, -(2^31), (2^31-1), 0, .m⟩,
   ⟨pTOUT_MODE, .tout, .u 1, 0, 4, 0, .m⟩,
   ⟨pTOUT_POL, .tout, .u 1, 0, 1, 0, .m⟩,
   ⟨pTOUT_LEVEL, .tout, .u 1, 0, 1, 0, .m⟩,
   ⟨pTOUT_START, .tout, .u 13, 0, (2^104-1), 0, .m⟩,
   ⟨pTOUT_PERIOD, .tout, .u 8, 400, 4*10^12, 4*10^9, .m⟩,
   ⟨pTOUT_WIDTH, .tout, .u 4, 20, (2^32-1), 1000, .m⟩,
   ⟨pTOUT_LEAD, .tout, .s 4, -1000000, 1000000, 0, .m⟩,
   ⟨pTOUT_ORR, .tout, .u 1, 0, 31, 0, .m⟩,
   ⟨pTOUT_ANGLE, .tout, .u 8, 0, (2^64-1), 0, .m⟩,
   ⟨pTOUT_APERIOD, .tout, .u 8, 1, (2^64-1), 2^32, .m⟩,
   ⟨pCAP_EDGE, .tcap, .u 1, 0, 2, 0, .m⟩,
   ⟨pCAP_FILTER, .tcap, .u 4, 0, 10000, 0, .m⟩,
   ⟨pCAP_HOST, .tcap, .u 1, 0, 1, 1, .m⟩,
   ⟨pEPH_DEPTH, .device, .u 1, 1, 64, 16, .m⟩,
   ⟨pNG_ETYPE, .device, .u 2, 0, 65535, 0x88B5, .ringStart⟩,
   ⟨pKERNEL_SEL, .axis, .u 1, 0, 7, 0, .off⟩,
   ⟨pLADDER_RUNGS, .orrery, .u 1, 0, 16, 0, .m⟩,
   ⟨pLADDER_PIVOT, .orrery, .u 1, 0, 15, 0, .m⟩,
   ⟨pLADDER_RATE, .orrery, .f32, 1/1000, 1, 1028443341, .m⟩,
   ⟨pLADDER_R_1, .orrery, .f32, 1/2, 2, 1065353216, .m⟩,
   ⟨pLADDER_R_2, .orrery, .f32, 1/2, 2, 1065353216, .m⟩,
   ⟨pLADDER_R_3, .orrery, .f32, 1/2, 2, 1065353216, .m⟩,
   ⟨pLADDER_R_4, .orrery, .f32, 1/2, 2, 1065353216, .m⟩,
   ⟨pLADDER_R_5, .orrery, .f32, 1/2, 2, 1065353216, .m⟩]

/-- Part 9 of the parameter table. -/
def paramTable9 : List ParamDesc :=
  [⟨pLADDER_R_6, .orrery, .f32, 1/2, 2, 1065353216, .m⟩,
   ⟨pLADDER_R_7, .orrery, .f32, 1/2, 2, 1065353216, .m⟩,
   ⟨pLADDER_R_8, .orrery, .f32, 1/2, 2, 1065353216, .m⟩,
   ⟨pLADDER_R_9, .orrery, .f32, 1/2, 2, 1065353216, .m⟩,
   ⟨pLADDER_R_10, .orrery, .f32, 1/2, 2, 1065353216, .m⟩,
   ⟨pLADDER_R_11, .orrery, .f32, 1/2, 2, 1065353216, .m⟩,
   ⟨pLADDER_R_12, .orrery, .f32, 1/2, 2, 1065353216, .m⟩,
   ⟨pLADDER_R_13, .orrery, .f32, 1/2, 2, 1065353216, .m⟩,
   ⟨pLADDER_R_14, .orrery, .f32, 1/2, 2, 1065353216, .m⟩,
   ⟨pLADDER_R_15, .orrery, .f32, 1/2, 2, 1065353216, .m⟩,
   ⟨pCAM_ID, .axis, .u 1, 0, 255, 0, .engage⟩,
   ⟨pCAM_BASE, .axis, .s 8, (-(2^63)), (2^63-1), 0, .engage⟩,
   ⟨pTHETA_C, .axis, .s 16, (-(2^127)), (2^127-1), 0, .engage⟩,
   ⟨pPHASE_M, .axis, .s 8, (-(2^63)), (2^63-1), 0, .m⟩]

/-- Every parameter of the device. -/
def paramTable : List ParamDesc :=
  paramTable1 ++ paramTable2 ++ paramTable3 ++ paramTable4 ++ paramTable5 ++ paramTable6 ++ paramTable7 ++ paramTable8 ++ paramTable9

/-- The row of an identifier. -/
def paramDesc (id : Nat) : Option ParamDesc := paramTable.find? (fun d => d.id = id)

/-- The default of an identifier (0 where the tables give none). -/
def paramDefault (id : Nat) : Int :=
  match paramDesc id with
  | some d => d.dflt
  | none => 0

end Sys2Proof.Machine
end

