-- ==== Sys2Proof/Machine/AxisState.lean ====
section
/-! DEFINITION. State of motion: servo axes, stepper axes, Orreries, cams, register channels and switches
(chapters 3 to 6). Fixed-point quantities are stored integers in the format of their rule. -/

namespace Sys2Proof.Machine

/-- Parameter values in force that differ from their defaults: key 65,536 × SUB + ID (R405, R406). -/
abbrev Params := Tab Int

/-- The value in force of parameter `id`. -/
def Params.val (p : Params) (id : Nat) : Int := Tab.getD p id (paramDefault id)

/-- The value of parameter `id` as a natural number. -/
def Params.nat (p : Params) (id : Nat) : Nat := (Params.val p id).toNat

/-- Set-points of one cycle: p Q32.32, v Q24.40, a Q32.32, j 2^−24 (R103). -/
structure SetPoint where
  p : Int := 0
  v : Int := 0
  a : Int := 0
  j : Int := 0
  deriving DecidableEq, Repr

/-- One phase of constant jerk: its length in seconds and its jerk in au/s³ (R107). -/
structure Phase where
  dur : Rat
  jerk : Rat
  deriving DecidableEq, Repr

/-- A plan (R103, R107): origin cycle, initial state, phases and final state. `hold` says that the final position is
held (POS, STOP); without it the final velocity goes on (VEL, an Orrery's speed). -/
structure Plan where
  n0 : Nat := 0
  lag : Nat := 0
  p0 : Rat := 0
  v0 : Rat := 0
  a0 : Rat := 0
  phases : List Phase := []
  pf : Rat := 0
  vf : Rat := 0
  hold : Bool := true
  deriving DecidableEq, Repr

/-- History of one biquad: x1, x2, y1, y2 at 2^−31 of the torque scale, and whether the filter was enabled (R77, R79). -/
structure Biquad where
  x1 : Int := 0
  x2 : Int := 0
  y1 : Int := 0
  y2 : Int := 0
  on : Bool := false
  deriving DecidableEq, Repr

/-- The hand-over blend: D0 (2^−31), the counter k and H (R167). -/
structure Blend where
  d0 : Int := 0
  k : Nat := 0
  h : Nat := 0
  deriving DecidableEq, Repr

/-- The kernel state of a servo axis: what the Seal commits (R56, R91, R168). -/
structure Kern where
  count : Int := 0
  hasCount : Bool := false
  pAct : Int := 0
  vAct : Int := 0
  iP : Int := 0
  iV : Int := 0
  n1 : Biquad := {}
  n2 : Biquad := {}
  lp : Biquad := {}
  obsOn : Bool := false
  pHat : Rat := 0
  vHat : Rat := 0
  tauPrev : Int := 0
  vSat : Bool := false
  tSat : Bool := false
  tauR : Rat := 0
  blend : Option Blend := none
  tauNew : Int := 0
  deriving DecidableEq, Repr

/-- Supervision of a servo axis (R95 to R98, R102, R574): states 0 OFF, 1 OK, 2 FE_TIMING, 3 QUICKSTOP, 4 HALTED,
5 TORQUE_OFF. Timers count axis cycles; `none` is a stopped timer. `qsNew` and `offNew` mark a reaction that the planner has not taken up yet; `qsFrom` is the
mode that the quick stop left; `newFault` says that the latched fault arose in the axis cycle in progress (R97). -/
structure Sup where
  mode : Nat := 6
  state : Nat := 0
  fault : Nat := 0
  warn : Nat := 0
  reaction : Nat := 0
  warnHold : List Nat := []
  feCnt : Option Nat := none
  qsCnt : Option Nat := none
  stillCnt : Option Nat := none
  satCnt : Option Nat := none
  hsCnt : Option Nat := none
  fbMissRun : Nat := 0
  feExc : Nat := 0
  retractRun : Nat := 0
  qsNew : Bool := false
  qsFrom : Nat := 6
  offNew : Bool := false
  lateAgain : Bool := false
  newFault : Bool := false
  deriving DecidableEq, Repr

/-- The words an axis computation delivers for the record and the command (R22, R101, R229). -/
structure AxRec where
  posAct : Int := 0
  velAct : Int := 0
  followErr : Int := 0
  trq : Int := 0
  drive : Bool := false
  kout : List Nat := [0, 0, 0, 0, 0, 0, 0]
  blending : Bool := false
  deriving DecidableEq, Repr

/-- What one computation produces and the Seal commits (R230). -/
structure Work where
  k : Kern := {}
  sup : Sup := {}
  r : AxRec := {}
  deriving DecidableEq, Repr

/-- The speculative pass's prediction kept for the correction pass (R88, R89). -/
structure Spec where
  tau : Int := 0
  pTil : Int := 0
  vTil : Int := 0
  obsForm : Bool := false
  dirf : Rat := 0
  limited : Bool := false
  retract : List Nat := []
  late : Bool := false
  ready : Bool := false
  deriving DecidableEq, Repr

/-- The feedback of a cycle: the count, FB_OFFSET, the torque and status of the node's input slot (R69, R70, R228). -/
structure Feedback where
  count : Nat := 0
  offset : Int := 0
  fresh : Bool := false
  missed : Bool := false
  held : Bool := false
  fault : Bool := false
  trqAct : Int := 0
  index : Option Int := none
  deriving DecidableEq, Repr

/-- The command in an axis's output slot (R56, R165, R280). -/
structure OutCmd where
  trq : Int := 0
  drive : Bool := false
  stale : Bool := false
  age : Nat := 0
  spec : Bool := false
  retract : Bool := false
  corr : Int := 0
  index : Bool := false
  faultReset : Bool := false
  deriving DecidableEq, Repr

/-- A limit or home switch (R146 to R148): its source, raw value, accepted state, and the raw edges since the last
quiet time. `burst` is the most raw edges of this cycle that lie within one DEBOUNCE_TIME (R147). `hit` is an activation of a limit switch that the homing sequencer has not taken up yet (R151). -/
structure Switch where
  src : Option Nat := none
  node : Bool := false
  bitAddr : Nat := 0
  invert : Bool := false
  debounce : Nat := 2000
  chatterLimit : Nat := 8
  raw : Bool := false
  active : Bool := false
  runStamp : Int := 0
  runCycles : Nat := 0
  edges : List Nat := []
  burst : Nat := 0
  chatter : Nat := 0
  chatterCond : Bool := false
  pos : Int := 0
  hit : Bool := false
  deriving DecidableEq, Repr

/-- The homing sequencer (Table 4.10): states 0 IDLE to 9 FAILED. `start` is where the search began, or, on a servo axis, where its travel was last taken; `travel`
is what a servo axis has travelled since the start, and `began` the cycle that it began from. -/
structure Homing where
  state : Nat := 0
  dirNeg : Bool := true
  reversed : Bool := false
  capture : Int := 0
  start : Int := 0
  referenced : Bool := false
  cause : Nat := 0
  pressDone : Bool := false
  travel : Int := 0
  began : Nat := 0
  deriving DecidableEq, Repr

/-- The mode leaves HOME: the sequencer returns to IDLE but from DONE and FAILED (Table 4.10). -/
def Homing.leave (h : Homing) : Homing := if h.state = 8 || h.state = 9 then h else { h with state := 0 }

/-- Limit deferral (R113 to R116). -/
structure Defer where
  dmaxEff : Int := 0
  jmaxEff : Int := 0
  deferred : Bool := false
  overshoot : Bool := false
  deriving DecidableEq, Repr

/-- A follower's coupling to its Orrery (R127 to R134): reference, phase plan, engage plan. `atPos` and `engTheta` are ENG_MODE AT_POSITION and ENG_THETA of the engage
(R133). The PHASE_M plan is held in au: turns times the table slope `phaseMK` (R139). -/
structure Follower where
  orr : Nat := 0
  cam : Bool := false
  vel : Bool := false
  gRef : Int := 0
  thetaRef : Int := 0
  num : Int := 1
  den : Nat := 1
  camId : Nat := 0
  phase : Plan := {}
  phaseTgt : Int := 0
  phDefer : Defer := {}
  phaseM : Plan := {}
  phaseMTgt : Int := 0
  phaseMK : Rat := 1
  phMDefer : Defer := {}
  engage : Option Plan := none
  atPos : Bool := false
  engTheta : Int := 0
  late : Bool := false
  deriving DecidableEq, Repr

/-- A pending hand-over (R166): kind 0 position to position, 1 other, 2 into TRQ, 3 enable, and τ_old (2^−31). `armed` says that the next full or correction pass is
cycle 0 of it; `ahead` that it begins with the speculative pass of this cycle and leaves the correction pass alone. -/
structure Hand where
  kind : Nat
  tauOld : Int
  armed : Bool := true
  ahead : Bool := false
  deriving DecidableEq, Repr

/-- A table of the friction and cogging pool (R81 to R83). -/
structure TrqTable where
  n : Nat := 0
  period : Nat := 0
  entries : List Int := []
  deriving DecidableEq, Repr

/-- A servo axis. `fbInst` is the true instant of the last sample that committed, in quarter ns of the ring count (R148). `blocked` says that a poisoned word keeps the PU from its set-points in this cycle (R513).
`leftOrr` is the Orrery that a reaction decoupled the axis from, and `orrTold` says that its Orrery has taken the reaction up (R124). `homeCap` bounds the homing speeds
of this search (R171, R173). `deferPrev` and `overPrev` are LIMIT_DEFERRED and OVERSHOOT_PLANNED of the cycle before the one that `sp` is for. `refShift` is a
reference shift that acts at the next Meridian (R152). -/
structure Axis where
  prm : Params := []
  stored : Params := []
  w : Work := {}
  cand : Option Work := none
  spec : Spec := {}
  fb : Feedback := {}
  sp : SetPoint := {}
  spPrev : SetPoint := {}
  spCycle : Nat := 0
  pActPrev : Int := 0
  plan : Option Plan := none
  target : Int := 0
  velTgt : Int := 0
  defer : Defer := {}
  fol : Option Follower := none
  home : Homing := {}
  swPos : Switch := {}
  swNeg : Switch := {}
  swHome : Switch := {}
  trqOvr : Option Int := none
  hand : Option Hand := none
  cog : Option TrqTable := none
  fric : Option TrqTable := none
  safeOff : Bool := false
  slsLim : Option Int := none
  evt : Nat := 0
  out : OutCmd := {}
  applied : Int := 0
  appliedPrev : Int := 0
  staleRun : Nat := 0
  cmdAge : Nat := 0
  overrunCnt : Nat := 0
  retractCnt : Nat := 0
  fbMissCnt : Nat := 0
  fbAge : Nat := 0
  stale : Bool := false
  retractFlag : Bool := false
  specFlag : Bool := false
  fbMissed : Bool := false
  fbHeld : Bool := false
  migrating : Bool := false
  shadowed : Bool := false
  kernelChanged : Bool := false
  engine : Nat := 0
  lastCmd : Nat := 0
  lastBatch : Nat := 0
  indexArm : Bool := false
  shed : Bool := false
  fbInst : Int := 0
  specNext : Option Spec := none
  held : List Nat := []
  blocked : Bool := false
  leftOrr : Option Nat := none
  orrTold : Bool := false
  homeCap : Option Int := none
  deferPrev : Bool := false
  overPrev : Bool := false
  refShift : Option Int := none
  deriving DecidableEq, Repr

/-- A stepper axis (chapter 6): states 0 OFF, 1 READY, 2 QUICKSTOP, 3 HALTED, 4 STALLED, 5 TORQUE_OFF. `spCycle` is the cycle of the last update, `restRun` the
update periods since it came to rest (R184), `stallDue` says that the last estimate brought STALL_RUN to STALL_COUNT (R190), `laLast` and `laBefore` are the last
valid load angle of a homing search and the one before it (R194), `warnHold` the conditions of class WARN that hold. -/
structure Stepper where
  prm : Params := []
  stored : Params := []
  mode : Nat := 6
  state : Nat := 0
  fault : Nat := 0
  warn : Nat := 0
  reaction : Nat := 0
  posOffset : Int := 0
  sp : SetPoint := {}
  plan : Option Plan := none
  velTgt : Int := 0
  eangle : Nat := 0
  thetaPrev : Int := 0
  amp : Nat := 0
  la : Int := 0
  laValid : Bool := false
  level : Nat := 0
  request : Nat := 0
  pending : Bool := false
  ia : Int := 0
  ib : Int := 0
  fb : List Byte := []
  fbFresh : Bool := false
  fbPrevFresh : Bool := false
  fbMissed : Bool := false
  missRun : Nat := 0
  lost : Bool := false
  referenced : Bool := false
  holding : Bool := false
  enabled : Bool := false
  safeOff : Bool := false
  stale : Bool := false
  cmdAge : Nat := 0
  staleRun : Nat := 0
  updated : Bool := false
  blocked : Bool := false
  stallRun : Nat := 0
  stallCnt : Nat := 0
  overrunCnt : Nat := 0
  fbMissCnt : Nat := 0
  resSwitchCnt : Nat := 0
  planLag : Nat := 0
  home : Homing := {}
  swPos : Switch := {}
  swNeg : Switch := {}
  swHome : Switch := {}
  defer : Defer := {}
  lastCmd : Nat := 0
  lastBatch : Nat := 0
  held : List Nat := []
  warnHold : List Nat := []
  lateAgain : Bool := false
  spCycle : Nat := 0
  restRun : Option Nat := none
  stallDue : Bool := false
  laLast : Option Int := none
  laBefore : Option Int := none
  deriving DecidableEq, Repr

/-- An Orrery (chapter 4): states 0 OFF, 1 STOPPED, 2 RUNNING, 3 STOPPING. Θ is Q64.64, ω Q24.40, α Q32.32. -/
structure Orrery where
  prm : Params := []
  state : Nat := 0
  theta : Int := 0
  thetaPrev : Int := 0
  omega : Int := 0
  alpha : Int := 0
  jerk : Rat := 0
  tgt : Int := 0
  plan : Option Plan := none
  faultStop : Bool := false
  axisSrc : Bool := false
  srcAxis : Nat := 0
  bound : Option Int := none
  cycle : Nat := 0
  ladder : List Rat := []
  lastCmd : Nat := 0
  lastBatch : Nat := 0
  hist : List (Nat × Int) := []
  deriving DecidableEq, Repr

/-- One version of a cam table (R135, R136): span and lift, and points (y, m). SPAN is Q32.32 turns. -/
structure Cam where
  n : Nat := 0
  span : Nat := 0
  lift : Int := 0
  pts : List (Int × Int) := []
  pages : Nat := 0
  slopeMax : Rat := 0
  deriving DecidableEq, Repr

/-- A cam table: the version in force, and the version that waits for its switch (R138, R139). -/
structure CamSlot where
  cur : Cam := {}
  next : Option Cam := none
  atSpan : Bool := false
  band : Nat := 0
  since : Nat := 0
  tag : Nat := 0
  marks : Tab Int := []
  freeing : Nat := 0
  deriving DecidableEq, Repr

/-- A register channel (R140 to R143). `period` is the period of master travel that the channel is in, `hold` the one in which it resumed and that it lets pass, `off`
says that it is suspended (R174). -/
structure RegCh where
  prm : Params := []
  err : Int := 0
  corr : Int := 0
  marks : Nat := 0
  reject : Nat := 0
  missed : Nat := 0
  missRun : Nat := 0
  period : Option Int := none
  hold : Option Int := none
  off : Bool := false
  taken : Bool := false
  stamps : List Int := []
  lost : Bool := false
  deriving DecidableEq, Repr

/-- The whole of motion. Axes, steppers, cams and register channels are there when configured, Orreries once a command named them (state 0 is OFF); `regPre` are the
parameters set on register channels that are not configured yet. -/
structure Motion where
  axes : Tab Axis := []
  steppers : Tab Stepper := []
  orrs : Tab Orrery := []
  cams : Tab CamSlot := []
  regs : Tab RegCh := []
  regPre : Tab Params := []
  eph : Tab (List (Nat × SetPoint)) := []
  deriving DecidableEq, Repr

end Sys2Proof.Machine
end

