-- ==== Sys2Proof/Machine/TimeState.lean ====
section
/-! DEFINITION. State of the Time Unit (chapter 11): ring count, time base, discipline, plant ports, timed outputs, capture inputs, PPS. -/

namespace Sys2Proof.Machine

/-- A planned edge of a timed output: its instant on the ring count in quarter nanoseconds; a pulse of index `k` or a level. -/
structure TEdge where
  time : Int
  k : Int := 0
  level : Option Bool := none
  late : Bool := false
  deriving DecidableEq, Repr

/-- A timed output (R350 to R352). `active` is the pulse or level that it drives; the ball is `active` exclusive-or TOUT_POL. -/
structure Tout where
  prm : Params := []
  mode : Nat := 0
  active : Bool := false
  edges : List TEdge := []
  pulseEnd : Option Int := none
  lastK : Option Int := none
  lateCnt : Nat := 0
  dropCnt : Nat := 0
  mergeCnt : Nat := 0
  deriving DecidableEq, Repr

/-- A capture input (R353 to R355): FIFO entries in the layout of Table 11.5, oldest first; `waiting` are stamps (quarter ns) for the
consumers; `delivered` those of the last Gather. `level` is the level of the pin after its last edge. -/
structure Tcap where
  prm : Params := []
  fifo : List (List Byte) := []
  ovfPend : Bool := false
  steppedPend : Bool := false
  waiting : List (Int × Bool) := []
  delivered : List (Int × Bool) := []
  last : Option Int := none
  skip : Option Bool := none
  overflow : Nat := 0
  intDrop : Nat := 0
  dense : Nat := 0
  level : Bool := false
  deriving DecidableEq, Repr

/-- The kinds of PTP message (Table 11.2). -/
inductive PtpKind where
  | sync | followUp | delayReq | delayResp | pdelayReq | pdelayResp | pdelayRespFollowUp | announce | management | signaling
  deriving DecidableEq, Repr

/-- A PTP message: the fields of IEEE 1588-2019 that the device uses. Time stamps are TB picoseconds; `source` and `requester` are port identities, clockIdentity × 65,536 +
portNumber. -/
structure PtpMsg where
  kind : PtpKind
  sdoId : Nat := 0
  domain : Nat := 0
  seq : Nat := 0
  source : Nat := 0
  requester : Nat := 0
  twoStep : Bool := false
  correction : Int := 0
  stamp : Int := 0
  prio1 : Nat := 128
  cls : Nat := 248
  accuracy : Nat := 0xFE
  variance : Nat := 0xFFFF
  prio2 : Nat := 128
  gm : Nat := 0
  steps : Nat := 0
  udp : Bool := false
  deriving DecidableEq, Repr

/-- A plant port (R345 to R347): portState of IEEE 1588-2019 (0 not in use, 4 LISTENING, 6 MASTER, 7 PASSIVE, 8 UNCALIBRATED, 9 SLAVE),
the open exchanges, the best Announce heard, and the frame that it sent last. -/
structure PlantPort where
  prm : Params := []
  up : Bool := false
  state : Nat := 0
  discard : Nat := 0
  best : Option PtpMsg := none
  syncT1 : Option Int := none
  syncNew : Bool := false
  syncT2 : Int := 0
  syncSeq : Nat := 0
  syncCorr : Int := 0
  reqSeq : Nat := 0
  reqT3 : Option Int := none
  respT2 : Int := 0
  respT4 : Int := 0
  meanPath : Option Int := none
  txSeq : Nat := 0
  annSeq : Nat := 0
  answers : List PtpMsg := []
  lastSent : Option PtpMsg := none
  sent : List Byte := []
  igmp : List Nat := []
  deriving DecidableEq, Repr

/-- The Time Unit. `rc` counts 2^−16 ns with `rcRem` the part below; `ofs` is TB_OFFSET in 2^−16 ns (OFS_S, OFS_NS and fraction in one
number); `rate` and `target` are rates as fractions. TB_STATE: 0 FREE, 1 ACQUIRE, 2 LOCKED, 3 HOLDOVER. -/
structure Tu where
  prm : Params := []
  rc : Nat := 0
  rcRem : Rat := 0
  ofs : Int := 0
  rate : Rat := 0
  target : Rat := 0
  slewing : Bool := false
  sum : Rat := 0
  state : Nat := 0
  inRun : Nat := 0
  outRun : Nat := 0
  rates : List Rat := []
  merN0 : Nat := 0
  merRC0 : Nat := 0
  steps : Nat := 0
  hostSet : List Int := []
  servoStep : Option Int := none
  lastOffset : Int := 0
  source : Nat := 0
  gm : Nat := 0
  gmClass : Nat := 248
  stepsRemoved : Nat := 0
  ports : List PlantPort := [{}, {}]
  touts : List Tout := List.replicate 16 {}
  tcaps : List Tcap := List.replicate 16 {}
  ppsRise : Option Int := none
  ppsFall : Int := 0
  ppsAfter : Int := 0
  ppsPresent : Bool := false
  ppsLocked : Bool := false
  ppsReject : Nat := 0
  onSd : Bool := false
  internal : Bool := false
  halted : Bool := false
  deriving DecidableEq, Repr

end Sys2Proof.Machine
end

