-- ==== Sys2Proof/Machine/HostState.lean ====
section
/-! DEFINITION. State of the Host Interface Unit and of command staging (chapters 12 and 13, R26 to R31): registers, ownership, queue pairs, Plate
window, streams, bulk handles, fetched and admitted commands, batches. -/

namespace Sys2Proof.Machine

/-- The fields of a command header that the pair and the opcode do not give (Table 12.11). -/
structure CmdHead where
  pair : Nat := 0
  tag : Nat := 0
  kind : Nat := 0
  index : Nat := 0
  effective : Nat := 0
  flags : Nat := 0
  batch : Nat := 0
  auth : Nat := 0
  deriving DecidableEq, Repr

/-- A host command: opcode, header and payload bytes; `moved` says that an axis has been out of HOLD and STOP since the command was admitted (R34). -/
structure HostReq where
  op : Nat
  h : CmdHead
  pay : List Byte := []
  moved : Bool := false
  deriving DecidableEq, Repr

/-- A record that waits for reply slots (R379): its bytes with PHASE and QSEQ zero, the slots reserved for it, its TAG when it completes a
command (`key` is then its TARGET as 16,777,216 × kind + index); `hold` keeps a reply until the Plate of its Meridian is published (R32);
`dup` marks the reply to a command that never joined those awaiting (TAG_IN_USE); `quiet` the reply that QUIET
suppresses unless the Seal adds a note to it (R386). -/
structure OutRec where
  bytes : List Byte
  kind : Nat := 0
  res : Nat := 0
  irq : Bool := false
  estop : Bool := false
  hold : Nat := 0
  tag : Nat := 0
  op : Nat := 0
  key : Nat := 0
  dup : Bool := false
  done : Nat := 0
  status : Nat := 0
  quiet : Bool := false
  deriving DecidableEq, Repr

/-- A command that awaits its reply, or a completion of the last 256 (R391). `meridian` is its DONE_CYCLE or 0. -/
structure TagRec where
  tag : Nat
  op : Nat
  batch : Nat := 0
  done : Nat := 0
  status : Nat := 0
  fin : Bool := false
  deriving DecidableEq, Repr

/-- A queue pair (Tables 12.6 to 12.8). -/
structure Pair where
  cqBase : Nat := 0
  rqBase : Nat := 0
  qsize : Nat := 0x606
  qctrl : Nat := 0
  cqHead : Nat := 0
  rqTail : Nat := 0
  cqTailLast : Nat := 0
  rqHeadLast : Nat := 0
  irqMod : Nat := 1
  active : Bool := false
  dbLost : Bool := false
  cfgErr : Bool := false
  slotErr : Bool := false
  dmaErr : Bool := false
  resizing : Bool := false
  phase : Bool := true
  qseq : Nat := 0
  reserved : Nat := 0
  out : List OutRec := []
  unsignalled : Nat := 0
  awaiting : List TagRec := []
  completed : List TagRec := []
  dmaTry : Bool := false
  deriving DecidableEq, Repr

/-- A Plate stream (R397, R398): regions of offset and length; `halves` are the staged records not yet written. -/
structure Stream where
  pair : Nat
  period : Nat
  phase : Nat
  regions : List (Nat × Nat)
  skipped : Nat := 0
  halves : List (List Byte) := []
  deriving DecidableEq, Repr

/-- A bulk handle (R409). -/
structure Bulk where
  len : Nat
  data : Memory := []
  deriving DecidableEq, Repr

/-- An admitted command in host staging (R28, R392): its Meridian (0 while its batch is open) and its reservation; the list of them is in the order of
admission, a batch at the place of its closing member (R31). -/
structure Staged where
  req : HostReq
  meridian : Nat
  res : Nat
  deriving DecidableEq, Repr

/-- A fetched command that awaits validation (R375, R376). -/
structure Fetched where
  req : HostReq
  res : Nat
  deriving DecidableEq, Repr

/-- A batch that is not closed (R26 to R29); `failed` keeps its later members out until its closing member or its gate. -/
structure Batch where
  id : Nat
  pair : Nat
  effective : Nat
  count : Nat := 0
  failed : Bool := false
  deriving DecidableEq, Repr

/-- An operation that runs over many cycles and owes a reply (R380): what it is, its request and reservation. -/
structure OpenOp where
  req : HostReq
  res : Nat
  since : Nat := 0
  note : Nat := 0
  deriving DecidableEq, Repr

/-- The Host Interface Unit. `leaseFrom` is RC (2^−16 ns) at the claim or the last valid heartbeat; `lossStop` the class of the emergency stop of R369 and the first
Meridian whose gate was open; `poisoned` says that a read completion has carried the poisoned bit (R513). -/
structure Hif where
  mgtReady : Bool := false
  mgtRestart : Bool := false
  accessErr : Bool := false
  ownerLost : Bool := false
  recovery : Bool := false
  owned : Bool := false
  token : Nat := 0
  tokens : List Nat := []
  lease : Nat := 1000
  epoch : Nat := 0
  nonce : Nat := 0
  lastCause : Nat := 0
  lossAction : Nat := 2
  eventPair : Nat := 0
  plateIrq : Nat := 0
  plateIrqCnt : Nat := 0
  latchLatest : Nat := 0
  plateCycle : Nat := 0
  pinCycle : Nat := 0
  pinOutcome : Nat := 0
  pin : Option (Nat × Nat) := none
  halfRead : Option (Nat × Nat) := none
  halfWrite : Option (Nat × Nat) := none
  lastRead : Nat := 0
  msix : Tab Nat := []
  pba : Nat := 0
  raised : Tab Nat := []
  linkUp : Bool := false
  pairs : List Pair := List.replicate 32 {}
  streams : Tab Stream := []
  bulks : Tab Bulk := []
  fetched : List Fetched := []
  staged : List Staged := []
  batches : List Batch := []
  openOps : List OpenOp := []
  nonceLog : Option (List Byte) := none
  nonceSafe : Option (List Byte) := none
  lossStop : Option (Nat × Nat) := none
  leaseFrom : Nat := 0
  ownerLossCnt : Nat := 0
  eventsDropped : Nat := 0
  evDropped : Bool := false
  streamSkip : Nat := 0
  pinExpired : Nat := 0
  batchesFailed : Nat := 0
  rr : Nat := 0
  poisoned : Bool := false
  passed : List Nat := []
  deriving DecidableEq, Repr

/-- Queue pair `i`. -/
def Hif.pair (h : Hif) (i : Nat) : Pair := h.pairs.getD i {}

/-- Queue pair `i` changed. -/
def Hif.onPair (h : Hif) (i : Nat) (f : Pair → Pair) : Hif := { h with pairs := h.pairs.modify i f }

end Sys2Proof.Machine
end

