-- ==== Sys2Proof/Syntax.lean ====
section
/-! DEFINITION. The commands of the device: one constructor per row of the table of operations and events, in the table's order. A row of the
Command Reference carries its header fields and payload bytes; every other row carries what comes from outside (a frame, an instant, an edge, the
outcome of a test) and names the object it is about. -/

namespace Sys2Proof

open Sys2Proof.Machine

/-- What the flash reads of a boot find (R11, R529): the banks with a lasting fault, the reads that passed when repeated, and whether the Logbook area has a lasting fault. -/
structure BootReads where
  banks : List Nat := []
  retries : Nat := 0
  logBad : Bool := false
  deriving DecidableEq, Repr

/-- A hop of a block over the fabric (R11, R514): link `hop` of its route from router `src` to router `dst`, or with `src` 24 + e the fabric port of loop engine e. -/
structure FabricHop where
  src : Nat
  dst : Nat := 0
  hop : Nat := 0
  deriving DecidableEq, Repr

/-- A command: a row of the table of operations and events. -/
inductive Instr where
  /-- POWER_ON (R521). -/
  | powerOn
  /-- VDD_AON_FALL (R556). -/
  | vddAonFall
  /-- SUPPLY_RESET (R521). -/
  | supplyReset
  /-- RESET_N_PIN (R522). -/
  | resetNPin (lowNs : Nat)
  /-- BOOT_WATCHDOG_EXPIRY (R533). -/
  | bootWatchdogExpiry
  /-- BOOT (R526). -/
  | boot (bootSel : Nat) (reads : BootReads) (badLogic : List Nat) (badBanks : List Nat)
  /-- SI_START_UP_TEST (R466). -/
  | siStartUpTest (pass : Bool)
  /-- TB_REFCLK_LOSS (R562). -/
  | tbRefclkLoss
  /-- SD_REFCLK_LOSS (R562). -/
  | sdRefclkLoss
  /-- PE_REFCLK_LOSS (R562). -/
  | peRefclkLoss
  /-- DOMAIN_IDLE_OFF (R558). -/
  | domainIdleOff (domain : Nat)
  /-- GATE_CLOSE (R28). -/
  | gateClose
  /-- MERIDIAN (R51). -/
  | meridian
  /-- FRAME_RETURN_DEADLINE (R313). -/
  | frameReturnDeadline (seg : Nat)
  /-- CYCLE_FRAME_RETURN (R313). -/
  | cycleFrameReturn (seg : Nat) (portA : Bool) (frame : List Byte)
  /-- GATHER (R49). -/
  | gather
  /-- CORRECTION_PACK_DEADLINE (R52). -/
  | correctionPackDeadline
  /-- CORRECTION_FRAME_LAUNCH (R52). -/
  | correctionFrameLaunch
  /-- CORRECTION_FRAME_RETURN (R313). -/
  | correctionFrameReturn (seg : Nat) (portA : Bool) (frame : List Byte)
  /-- SLOT_START (R226). -/
  | slotStart (engine : Nat) (slot : Nat) (pass : Nat)
  /-- SETPOINT_DELIVERY (R105). -/
  | setpointDelivery (axis : Nat)
  /-- REG_LOST (R141). -/
  | regLost (ch : Nat)
  /-- SWITCH_DEBOUNCE_EXPIRY (R146). -/
  | switchDebounceExpiry (step : Bool) (axis : Nat) (which : Nat)
  /-- SWITCH_CHATTER (R147). -/
  | switchChatter (step : Bool) (axis : Nat) (which : Nat)
  /-- HOME_TIMEOUT (R151). -/
  | homeTimeout (step : Bool) (axis : Nat)
  /-- HOME_HS_TIME_EXPIRY (R151). -/
  | homeHsTimeExpiry (axis : Nat)
  /-- STEP_UPDATE (R185). -/
  | stepUpdate (axis : Nat)
  /-- STALL_DECLARED (R190). -/
  | stallDeclared (axis : Nat)
  /-- HOLD_DELAY_EXPIRY (R184). -/
  | holdDelayExpiry (axis : Nat)
  /-- STEP_FB_LOST (R198). -/
  | stepFbLost (axis : Nat)
  /-- SEAL_DEADLINE (R56). -/
  | sealDeadline
  /-- OVERRUN_LIMIT (R59). -/
  | overrunLimit (step : Bool) (axis : Nat)
  /-- PLATE_PUBLISH (R17). -/
  | platePublish
  /-- STREAM_RECORD_WRITE (R398). -/
  | streamRecordWrite (stream : Nat)
  /-- CHR_SAMPLE (R427). -/
  | chrSample
  /-- CHR_HOLDOFF_EXPIRY (R436). -/
  | chrHoldoffExpiry
  /-- CHR_AUTO_TIMEOUT (R436). -/
  | chrAutoTimeout
  /-- CHR_STREAM_FLUSH (R441). -/
  | chrStreamFlush (timeUp : Bool)
  /-- FE_TIMER_EXPIRY (R574). -/
  | feTimerExpiry (axis : Nat)
  /-- QS_TIMEOUT (R98). -/
  | qsTimeout (axis : Nat)
  /-- STANDSTILL_REACHED (R98). -/
  | standstillReached (axis : Nat)
  /-- TORQUE_SAT (R96). -/
  | torqueSat (axis : Nat)
  /-- FEEDBACK_LOST (R72). -/
  | feedbackLost (axis : Nat)
  /-- SPLIT_LOST (R92). -/
  | splitLost (axis : Nat)
  /-- HANDOVER_BLEND_END (R167). -/
  | handoverBlendEnd (axis : Nat)
  /-- MAC (R212). -/
  | mac (engine : Nat) (lane : Nat) (psh : Nat) (sign : Nat) (acc : Nat) (a : Nat) (b : Nat) (fin : Bool)
  /-- MSU (R212). -/
  | msu (engine : Nat) (lane : Nat) (psh : Nat) (sign : Nat) (acc : Nat) (a : Nat) (b : Nat) (fin : Bool)
  /-- MPY (R212). -/
  | mpy (engine : Nat) (lane : Nat) (psh : Nat) (sign : Nat) (acc : Nat) (a : Nat) (b : Nat) (fin : Bool)
  /-- MEM_LOAD (R210). -/
  | memLoad (engine : Nat) (bus : Nat) (wide : Bool) (reg : Nat) (amode : Nat) (ptr : Nat) (ofs : Int) (fin : Bool)
  /-- MEM_STORE (R210). -/
  | memStore (engine : Nat) (bus : Nat) (wide : Bool) (reg : Nat) (amode : Nat) (ptr : Nat) (ofs : Int) (fin : Bool)
  /-- ALU_NOP (R205). -/
  | aluNop (engine : Nat) (fin : Bool)
  /-- ADD (R217). -/
  | add (engine : Nat) (dst : Nat) (a : Nat) (b : Nat) (fin : Bool)
  /-- SUB (R217). -/
  | sub (engine : Nat) (dst : Nat) (a : Nat) (b : Nat) (fin : Bool)
  /-- ADDS (R217). -/
  | adds (engine : Nat) (dst : Nat) (a : Nat) (b : Nat) (fin : Bool)
  /-- SUBS (R217). -/
  | subs (engine : Nat) (dst : Nat) (a : Nat) (b : Nat) (fin : Bool)
  /-- ADD64 (R217). -/
  | add64 (engine : Nat) (dst : Nat) (a : Nat) (b : Nat) (fin : Bool)
  /-- SUB64 (R217). -/
  | sub64 (engine : Nat) (dst : Nat) (a : Nat) (b : Nat) (fin : Bool)
  /-- AND (R205). -/
  | and (engine : Nat) (dst : Nat) (a : Nat) (b : Nat) (fin : Bool)
  /-- OR (R205). -/
  | or (engine : Nat) (dst : Nat) (a : Nat) (b : Nat) (fin : Bool)
  /-- XOR (R205). -/
  | xor (engine : Nat) (dst : Nat) (a : Nat) (b : Nat) (fin : Bool)
  /-- SHL (R205). -/
  | shl (engine : Nat) (dst : Nat) (a : Nat) (sh : Nat) (fin : Bool)
  /-- SHRA (R205). -/
  | shra (engine : Nat) (dst : Nat) (a : Nat) (sh : Nat) (fin : Bool)
  /-- SHRL (R205). -/
  | shrl (engine : Nat) (dst : Nat) (a : Nat) (sh : Nat) (fin : Bool)
  /-- MIN (R205). -/
  | min (engine : Nat) (dst : Nat) (a : Nat) (b : Nat) (fin : Bool)
  /-- MAX (R205). -/
  | max (engine : Nat) (dst : Nat) (a : Nat) (b : Nat) (fin : Bool)
  /-- CLAMP (R205). -/
  | clamp (engine : Nat) (dst : Nat) (a : Nat) (b : Nat) (fin : Bool)
  /-- CMP (R217). -/
  | cmp (engine : Nat) (a : Nat) (b : Nat) (fin : Bool)
  /-- CMP64 (R217). -/
  | cmp64 (engine : Nat) (a : Nat) (b : Nat) (fin : Bool)
  /-- SEL (R205). -/
  | sel (engine : Nat) (dst : Nat) (a : Nat) (b : Nat) (sh : Nat) (fin : Bool)
  /-- MOVI (R205). -/
  | movi (engine : Nat) (dst : Nat) (imm : Nat) (fin : Bool)
  /-- RND (R216). -/
  | rnd (engine : Nat) (dst : Nat) (a : Nat) (sh : Nat) (fin : Bool)
  /-- RND64 (R216). -/
  | rnd64 (engine : Nat) (dst : Nat) (a : Nat) (sh : Nat) (fin : Bool)
  /-- AMOV (R214). -/
  | amov (engine : Nat) (dst : Nat) (a : Nat) (fin : Bool)
  /-- ACLR (R215). -/
  | aclr (engine : Nat) (dst : Nat) (fin : Bool)
  /-- RDS (R205). -/
  | rds (engine : Nat) (dst : Nat) (sh : Nat) (fin : Bool)
  /-- WRS (R207). -/
  | wrs (engine : Nat) (sh : Nat) (a : Nat) (fin : Bool)
  /-- CTL_NOP (R205). -/
  | ctlNop (engine : Nat) (fin : Bool)
  /-- BR (R208). -/
  | br (engine : Nat) (addr : Nat) (fin : Bool)
  /-- BRC (R208). -/
  | brc (engine : Nat) (sh : Nat) (addr : Nat) (fin : Bool)
  /-- LOOP (R218). -/
  | loop (engine : Nat) (immSel : Bool) (a : Nat) (imm : Nat) (addr : Nat) (fin : Bool)
  /-- DJNZ1 (R208). -/
  | djnz1 (engine : Nat) (addr : Nat) (fin : Bool)
  /-- TRD (R220). -/
  | trd (engine : Nat) (dst : Nat) (a : Nat) (b : Nat) (fin : Bool)
  /-- TABLE_READ_RETURN (R221). -/
  | tableReadReturn (engine : Nat)
  /-- TWAIT (R221). -/
  | twait (engine : Nat) (fin : Bool)
  /-- DONE (R229). -/
  | done (engine : Nat) (elapsedNs : Nat)
  /-- ENGINE_TRAP (R222). -/
  | engineTrap (engine : Nat) (words : List Nat)
  /-- PREEMPT_OVERRUN (R224). -/
  | preemptOverrun (engine : Nat)
  /-- KERNEL_OVER_BUDGET (R234). -/
  | kernelOverBudget (engine : Nat)
  /-- PACE_PLAN_START (R243). -/
  | pacePlanStart (meridian : Nat)
  /-- PACE_PLAN_COMPLETE (R242). -/
  | pacePlanComplete
  /-- PLAN_PERIOD_EXPIRY (R243). -/
  | planPeriodExpiry
  /-- MARGIN_LOW_EXIT (R258). -/
  | marginLowExit
  /-- SEEING_MISMATCH (R236). -/
  | seeingMismatch (engine : Nat)
  /-- TEMP_SENSOR_READ (R238). -/
  | tempSensorRead (temps : List Int)
  /-- AGEING_UPDATE (R239). -/
  | ageingUpdate (since : Nat) (opsec : Nat)
  /-- AVS_ADJUST (R246). -/
  | avsAdjust (ok : Bool) (again : Bool)
  /-- AVS_READBACK (R248). -/
  | avsReadback (mv : Nat) (ok : Bool) (again : Bool)
  /-- LISTEN_TIME_EXPIRY (R298). -/
  | listenTimeExpiry
  /-- CLAIM_INTERVAL (R299). -/
  | claimInterval
  /-- CLAIM (R299). -/
  | claim (seg : Nat) (frame : List Byte)
  /-- CLAIM_TIMEOUT (R299). -/
  | claimTimeout
  /-- ENUM (R302). -/
  | enum (seg : Nat) (frame : List Byte)
  /-- DELAY (R305). -/
  | delay (seg : Nat) (elapsedPs : Nat) (frame : List Byte)
  /-- CONFIG (R303). -/
  | config (seg : Nat) (frame : List Byte)
  /-- START (R304). -/
  | start
  /-- SYNC_TIMEOUT (R310). -/
  | syncTimeout (seg : Nat)
  /-- JOIN_POLL_PERIOD_EXPIRY (R322). -/
  | joinPollPeriodExpiry
  /-- JOIN_POLL (R322). -/
  | joinPoll (seg : Nat) (frame : List Byte)
  /-- JOIN_GRANT (R323). -/
  | joinGrant (seg : Nat) (ringNs : Nat)
  /-- LINK_TEST (R320). -/
  | linkTest (seg : Nat) (frame : List Byte)
  /-- MAILBOX_FRAME_RETURN (R287). -/
  | mailboxFrameReturn (seg : Nat) (frame : List Byte)
  /-- ACYCLIC_FRAME_LAUNCH (R50). -/
  | acyclicFrameLaunch (seg : Nat) (atNs : Nat)
  /-- REINIT_NOTICE_END (R321). -/
  | reinitNoticeEnd (seg : Nat)
  /-- LINK_STATE_CHANGE (R317). -/
  | linkStateChange (plant : Bool) (port : Nat) (sideB : Bool) (up : Bool)
  /-- TWIN (R326). -/
  | twin (frame : List Byte)
  /-- STANDBY_PLATE_SEAL (R328). -/
  | standbyPlateSeal
  /-- LEADER_ALIVE (R325). -/
  | leaderAlive (seg : Nat) (frame : List Byte)
  /-- SILENCE_CHECK (R329). -/
  | silenceCheck
  /-- TAKEOVER (R329). -/
  | takeover
  /-- PTP_MESSAGE_RECEIVE (R345). -/
  | ptpMessageReceive (port : Nat) (instant : Int) (frame : List Byte)
  /-- PTP_MESSAGE_TRANSMIT (R346). -/
  | ptpMessageTransmit (port : Nat) (instant : Int) (kind : PtpKind)
  /-- TB_SOURCE_LOST (R343). -/
  | tbSourceLost
  /-- HOLDOVER_EXPIRY (R343). -/
  | holdoverExpiry
  /-- PPS_IN_EDGE (R356). -/
  | ppsInEdge (instant : Int) (falling : Bool)
  /-- PPS_OUT_PULSE (R356). -/
  | ppsOutPulse
  /-- TOUT_EDGE (R350). -/
  | toutEdge (out : Nat)
  /-- CAPTURE_EDGE (R353). -/
  | captureEdge (input : Nat) (instant : Int) (falling : Bool) (heldNs : Nat)
  /-- SI_CYCLE (R466). -/
  | siCycle
  /-- SAFE_INPUT_CHANGE (R469). -/
  | safeInputChange (channel : Nat) (high : Bool)
  /-- TEST_PULSE (R470). -/
  | testPulse (output : Nat) (highs : Nat)
  /-- DISCREPANCY_TIMEOUT (R471). -/
  | discrepancyTimeout (pair : Nat)
  /-- TWO_HAND_SYNC (R473). -/
  | twoHandSync (func : Nat)
  /-- RESET_INPUT_PULSE (R474). -/
  | resetInputPulse (pair : Nat) (ms : Nat)
  /-- CONN_WATCHDOG_EXPIRY (R481). -/
  | connWatchdogExpiry (conn : Nat)
  /-- CONN_START_TIMEOUT (R481). -/
  | connStartTimeout (conn : Nat)
  /-- STO_FB_FAULT (R484). -/
  | stoFbFault (conn : Nat) (chan : Nat)
  /-- SLS_VIOLATION (R485). -/
  | slsViolation (conn : Nat) (chan : Nat)
  /-- SAFE_OUT_OFF_PULSE (R466). -/
  | safeOutOffPulse (high : Nat)
  /-- SAFE_FB_MISMATCH (R472). -/
  | safeFbMismatch (fb : Nat)
  /-- SI_WATCHDOG_EXPIRY (R468). -/
  | siWatchdogExpiry
  /-- SI_FAULT (R467). -/
  | siFault (cause : Nat)
  /-- VDD_SAFE_WINDOW (R466). -/
  | vddSafeWindow
  /-- EVENT_INGRESS (R457). -/
  | eventIngress
  /-- LOG_WRITE (R458). -/
  | logWrite
  /-- LOG_PERSIST (R459). -/
  | logPersist (ok : Bool) (again : Bool)
  /-- LOG_ERASE_DONE (R463). -/
  | logEraseDone
  /-- PERSIST_RECORD_TIMER (R549). -/
  | persistRecordTimer (opsec : Nat) (ok : Bool) (again : Bool)
  /-- SCHEDULED_TEST_START (R516). -/
  | scheduledTestStart (kind : Nat)
  /-- BIST_BURST (R508). -/
  | bistBurst (waitNs : Nat)
  /-- LOGIC_BIST_DONE (R502). -/
  | logicBistDone (first : Bool) (again : Bool)
  /-- TEST_EARLY_STOP (R503). -/
  | testEarlyStop (cause : Nat)
  /-- MEMORY_BIST_DONE (R505). -/
  | memoryBistDone (lines : List (Nat × Nat)) (transient : Bool)
  /-- ENGINE_RELOAD_DONE (R504). -/
  | engineReloadDone (engine : Nat)
  /-- SCRUB_READ (R512). -/
  | scrubRead (bitsBad : Nat) (again : Bool) (changed : Bool)
  /-- POISON_READ (R513). -/
  | poisonRead (addr : Nat) (kind : Nat) (index : Nat)
  /-- FABRIC_BLOCK_TRANSFER (R11). -/
  | fabricBlockTransfer (path : FabricHop) (data : List Byte) (crc : Nat) (again : List Byte) (crcAgain : Nat)
  /-- LINK_RETURN (R515). -/
  | linkReturn (link : Nat) (clean : Bool)
  /-- MGT_RESTART_READY (R543). -/
  | mgtRestartReady
  /-- MGT_ROLLBACK_TIMEOUT (R543). -/
  | mgtRollbackTimeout
  /-- OWN_CLAIM (R366). -/
  | ownClaim (nonce : Nat)
  /-- OWN_HEARTBEAT (R367). -/
  | ownHeartbeat (token : Nat)
  /-- OWN_RELEASE (R368). -/
  | ownRelease (token : Nat)
  /-- OWNER_LEASE_EXPIRY (R369). -/
  | ownerLeaseExpiry
  /-- HOST_RESET (R368). -/
  | hostReset
  /-- PLATE_LATEST_READ (R393). -/
  | plateLatestRead
  /-- PIN_REQUEST (R394). -/
  | pinRequest (value : Nat)
  /-- PIN_RELEASE (R394). -/
  | pinRelease (value : Nat)
  /-- PIN_EXPIRY (R395). -/
  | pinExpiry
  /-- QUEUE_ENABLE (R372). -/
  | queueEnable (pair : Nat) (value : Nat)
  /-- CQ_TAIL_DOORBELL (R374). -/
  | cqTailDoorbell (pair : Nat) (value : Nat)
  /-- RQ_HEAD_DOORBELL (R379). -/
  | rqHeadDoorbell (pair : Nat) (value : Nat)
  /-- REGISTER_WRITE (R7). -/
  | registerWrite (ofs : Nat) (size : Nat) (value : Nat)
  /-- BAR2_WRITE (R362). -/
  | bar2Write (ofs : Nat) (bytes : List Byte)
  /-- COMMAND_FETCH (R377). -/
  | commandFetch (pair : Nat) (bytes : List Byte)
  /-- COMMAND_ADMISSION (R403). -/
  | commandAdmission
  /-- REPLY_POST (R379). -/
  | replyPost (pair : Nat)
  /-- HOST_EVENT_POST (R381). -/
  | hostEventPost
  /-- IRQ_MODERATION_TIMEOUT (R382). -/
  | irqModerationTimeout (pair : Nat)
  /-- HOST_DMA_ERROR (R384). -/
  | hostDmaError (pair : Nat) (again : Bool)
  /-- MGMT_SET_PARAMS (R407). -/
  | mgmtSetParams (h : CmdHead) (pay : List Byte)
  /-- MGMT_GET_PARAMS (R408). -/
  | mgmtGetParams (h : CmdHead) (pay : List Byte)
  /-- GET_INFO (R410). -/
  | getInfo (h : CmdHead) (pay : List Byte)
  /-- SET_OWNERSHIP (R370). -/
  | setOwnership (h : CmdHead) (pay : List Byte)
  /-- ABORT (R391). -/
  | abort (h : CmdHead) (pay : List Byte)
  /-- QUEUE_RESIZE (R385). -/
  | queueResize (h : CmdHead) (pay : List Byte)
  /-- STREAM_START (R397). -/
  | streamStart (h : CmdHead) (pay : List Byte)
  /-- STREAM_STOP (R397). -/
  | streamStop (h : CmdHead) (pay : List Byte)
  /-- CLEAR_COUNTERS (R411). -/
  | clearCounters (h : CmdHead) (pay : List Byte)
  /-- PACE_STATUS (R260). -/
  | paceStatus (h : CmdHead) (pay : List Byte)
  /-- BULK_OPEN (R409). -/
  | bulkOpen (h : CmdHead) (pay : List Byte)
  /-- BULK_WRITE (R409). -/
  | bulkWrite (h : CmdHead) (pay : List Byte)
  /-- BULK_CLOSE (R409). -/
  | bulkClose (h : CmdHead) (pay : List Byte)
  /-- AXIS_SET_PARAMS (R407). -/
  | axisSetParams (h : CmdHead) (pay : List Byte)
  /-- AXIS_GET_PARAMS (R408). -/
  | axisGetParams (h : CmdHead) (pay : List Byte)
  /-- AXIS_ADD (R156). -/
  | axisAdd (h : CmdHead) (pay : List Byte)
  /-- AXIS_REMOVE (R412). -/
  | axisRemove (h : CmdHead) (pay : List Byte)
  /-- AXIS_ENABLE (R98). -/
  | axisEnable (h : CmdHead) (pay : List Byte)
  /-- AXIS_DISABLE (R98). -/
  | axisDisable (h : CmdHead) (pay : List Byte)
  /-- FAULT_CLEAR (R99). -/
  | faultClear (h : CmdHead) (pay : List Byte)
  /-- TABLE_LOAD (R83). -/
  | tableLoad (h : CmdHead) (pay : List Byte)
  /-- BIND_SWITCH (R412). -/
  | bindSwitch (h : CmdHead) (pay : List Byte)
  /-- AXIS_STATUS (R412). -/
  | axisStatus (h : CmdHead) (pay : List Byte)
  /-- STEP_STATUS (R412). -/
  | stepStatus (h : CmdHead) (pay : List Byte)
  /-- SET_POSITION (R195). -/
  | setPosition (h : CmdHead) (pay : List Byte)
  /-- MODE (R164). -/
  | mode (h : CmdHead) (pay : List Byte)
  /-- ESTOP (R415). -/
  | estop (h : CmdHead) (pay : List Byte)
  /-- PROCESS_WRITE (R291). -/
  | processWrite (h : CmdHead) (pay : List Byte)
  /-- ORRERY_SET_PARAMS (R407). -/
  | orrerySetParams (h : CmdHead) (pay : List Byte)
  /-- ORRERY_GET_PARAMS (R408). -/
  | orreryGetParams (h : CmdHead) (pay : List Byte)
  /-- ORR_CONFIGURE (R124). -/
  | orrConfigure (h : CmdHead) (pay : List Byte)
  /-- ORR_REMOVE (R124). -/
  | orrRemove (h : CmdHead) (pay : List Byte)
  /-- ORR_SPEED (R573). -/
  | orrSpeed (h : CmdHead) (pay : List Byte)
  /-- ORR_STOP (R124). -/
  | orrStop (h : CmdHead) (pay : List Byte)
  /-- CAM_LOAD (R138). -/
  | camLoad (h : CmdHead) (pay : List Byte)
  /-- CAM_DELETE (R139). -/
  | camDelete (h : CmdHead) (pay : List Byte)
  /-- REG_REMOVE (R416). -/
  | regRemove (h : CmdHead) (pay : List Byte)
  /-- NET_SET_PARAMS (R407). -/
  | netSetParams (h : CmdHead) (pay : List Byte)
  /-- NET_GET_PARAMS (R408). -/
  | netGetParams (h : CmdHead) (pay : List Byte)
  /-- MAP_LOAD (R418). -/
  | mapLoad (h : CmdHead) (pay : List Byte)
  /-- MAP_PATCH (R289). -/
  | mapPatch (h : CmdHead) (pay : List Byte)
  /-- RING_START (R418). -/
  | ringStart (h : CmdHead) (pay : List Byte)
  /-- SEG_STATUS (R417). -/
  | segStatus (h : CmdHead) (pay : List Byte)
  /-- COLLIMATION (R307). -/
  | collimation (h : CmdHead) (pay : List Byte)
  /-- MAILBOX (R418). -/
  | mailbox (h : CmdHead) (pay : List Byte)
  /-- MAILBOX_TIMEOUT (R418). -/
  | mailboxTimeout (seg : Nat)
  /-- TIME_SET_PARAMS (R407). -/
  | timeSetParams (h : CmdHead) (pay : List Byte)
  /-- TIME_GET_PARAMS (R408). -/
  | timeGetParams (h : CmdHead) (pay : List Byte)
  /-- TIME_SET (R344). -/
  | timeSet (h : CmdHead) (pay : List Byte)
  /-- TIME_STATUS (R358). -/
  | timeStatus (h : CmdHead) (pay : List Byte)
  /-- CAPTURE_READ (R355). -/
  | captureRead (h : CmdHead) (pay : List Byte)
  /-- IO_STATUS (R419). -/
  | ioStatus (h : CmdHead) (pay : List Byte)
  /-- CHR_CONFIG (R437). -/
  | chrConfig (h : CmdHead) (pay : List Byte)
  /-- CHR_ARM (R436). -/
  | chrArm (h : CmdHead) (pay : List Byte)
  /-- CHR_DISARM (R436). -/
  | chrDisarm (h : CmdHead) (pay : List Byte)
  /-- CHR_FORCE (R436). -/
  | chrForce (h : CmdHead) (pay : List Byte)
  /-- CHR_READ (R439). -/
  | chrRead (h : CmdHead) (pay : List Byte)
  /-- CHR_STATUS (R440). -/
  | chrStatus (h : CmdHead) (pay : List Byte)
  /-- LOG_READ (R456). -/
  | logRead (h : CmdHead) (pay : List Byte)
  /-- LOG_STATUS (R464). -/
  | logStatus (h : CmdHead) (pay : List Byte)
  /-- LOG_MARK (R453). -/
  | logMark (h : CmdHead) (pay : List Byte)
  /-- LOG_CHALLENGE (R462). -/
  | logChallenge (h : CmdHead) (pay : List Byte)
  /-- LOG_CLEAR (R462). -/
  | logClear (h : CmdHead) (pay : List Byte)
  /-- SAFE_STATUS (R495). -/
  | safeStatus (h : CmdHead) (pay : List Byte)
  /-- SAFE_RESET (R482). -/
  | safeReset (h : CmdHead) (pay : List Byte)
  /-- SAFE_CHALLENGE (R490). -/
  | safeChallenge (h : CmdHead) (pay : List Byte)
  /-- SAFE_CONFIG (R491). -/
  | safeConfig (h : CmdHead) (pay : List Byte)
  /-- ST_RUN (R517). -/
  | stRun (h : CmdHead) (pay : List Byte)
  /-- ST_STATUS (R518). -/
  | stStatus (h : CmdHead) (pay : List Byte)
  /-- ST_SCHEDULE (R516). -/
  | stSchedule (h : CmdHead) (pay : List Byte)
  /-- REPAIR_COMMIT (R511). -/
  | repairCommit (h : CmdHead) (pay : List Byte)
  /-- IMAGE_OPEN (R540). -/
  | imageOpen (h : CmdHead) (pay : List Byte)
  /-- IMAGE_WRITE (R540). -/
  | imageWrite (h : CmdHead) (pay : List Byte)
  /-- IMAGE_VERIFY (R540). -/
  | imageVerify (h : CmdHead) (pay : List Byte)
  /-- IMAGE_ACTIVATE (R542). -/
  | imageActivate (h : CmdHead) (pay : List Byte)
  /-- IMAGE_STATUS (R550). -/
  | imageStatus (h : CmdHead) (pay : List Byte)
  /-- SAF_ACTIVATE (R492). -/
  | safActivate (h : CmdHead) (pay : List Byte)
  /-- EXTEST (R569). -/
  | extest (bootSel : Nat)
  /-- IDCODE (R569). -/
  | idcode
  /-- SAMPLE_PRELOAD (R569). -/
  | samplePreload (pins : Nat) (preload : Nat)
  /-- CLAMP_INSTRUCTION (R569). -/
  | clampInstruction (bootSel : Nat)
  /-- HIGHZ (R569). -/
  | highz (bootSel : Nat)
  /-- KEY_WRITE (R536). -/
  | keyWrite (bootSel : Nat) (dr : Nat)
  /-- KEY_FUSE_DONE (R569). -/
  | keyFuseDone (readBack : List Byte)
  /-- BYPASS (R569). -/
  | bypass
  /-- FOLLOWER_FRAME_RECEIVE (R300). -/
  | followerFrameReceive (seg : Nat) (frame : List Byte)
  /-- MEASURE_FRAME_LOST (R310). -/
  | measureFrameLost (seg : Nat)
  /-- REGISTER_READ (R363). -/
  | registerRead (ofs : Nat) (size : Nat)
  /-- ANNOUNCE_RECEIPT_TIMEOUT (R345). -/
  | announceReceiptTimeout (port : Nat)
  /-- IGMP_QUERY_RECEIVE (R345). -/
  | igmpQueryReceive (port : Nat)
  /-- TOUT_PULSE_END (R350). -/
  | toutPulseEnd (out : Nat)
  /-- SI_RESTART_DONE (R492). -/
  | siRestartDone
  deriving DecidableEq, Repr

end Sys2Proof
end

