-- ==== Sys2Proof/Decode.lean ====
section
/-! DEFINITION. The word of a row: spec/opcode_table.json gives no row bits (a row is an event or a command with its own operands, not a word of fixed
bits), so no word spells a command (log 6). -/

namespace Sys2Proof

/-- The command that a word of `nbits` bits spells: none, since the table gives no row any bits. -/
def decodeTableWord (_nbits _w : Nat) : Option Instr := none

end Sys2Proof
end

