-- ==== Sys2Proof/Machine/LogState.lean ====
section
/-! DEFINITION. State of the event router (R16, R381) and of the Logbook (chapter 15). -/

namespace Sys2Proof.Machine

/-- An event that waits for the host (Table 12.10): EVENT_SEQ, the stamp in TB seconds and nanoseconds, and whether control-plane events were dropped
before it. -/
structure HostEv where
  seq : Nat
  tbS : Nat
  tbNs : Nat
  ev : Ev
  deriving DecidableEq, Repr

/-- The event router: events that wait for the Logbook's ingress FIFO and for the host, the control plane's count of this cycle, EVENT_SEQ,
and counters that have saturated since the last clear. -/
structure Router where
  toLog : List Ev := []
  toHost : List HostEv := []
  cycleCnt : Nat := 0
  dropMark : Bool := false
  dropped : Nat := 0
  seq : Nat := 0
  deriving DecidableEq, Repr

/-- An entry of the ingress FIFO (R457): an event, or a LOST summary (DROPPED, first and last cycle). -/
inductive LogEntry where
  | ev (e : Ev)
  | lost (n first last : Nat)
  deriving DecidableEq, Repr

/-- The Logbook. `recs` are the records of the ring, oldest first, each with its SEQ; `flashRecs` counts those held in flash;
`clearPage` is the page of the newest CLEARED record while older pages are being erased, `bad` are the SEQ values of poisoned records (R513), `recFault` says that persistent records cannot be written. -/
structure Log where
  recs : List (Nat × List (BitVec 8)) := []
  next : Nat := 0
  fifo : List LogEntry := []
  peak : Nat := 0
  persistSeq : Nat := 0
  waiting : List (Nat × List (BitVec 8)) := []
  page : Nat := 0
  slot : Nat := 0
  flashRecs : Nat := 0
  seqRes : Nat := 0
  resUnsafe : Bool := false
  persistFault : Bool := false
  recFault : Bool := false
  erasing : Bool := false
  clearPage : Nat := 0
  clearPending : Nat := 0
  clearCount : Nat := 0
  fifoDropped : Nat := 0
  lostRecords : Nat := 0
  persistTransient : Nat := 0
  unpersisted : Nat := 0
  persistLasting : Nat := 0
  clearRefused : Nat := 0
  readRace : Nat := 0
  bad : List Nat := []
  deriving DecidableEq, Repr

end Sys2Proof.Machine
end

