-- ==== Sys2Proof/Machine/OpTable.lean ====
section
/-! DEFINITION. The opcodes (Tables 13.4 to 13.10): targets, EFFECTIVE letter, authorised mark, payload length and the largest reply. -/

namespace Sys2Proof.Machine

/-- The EFF column (chapter 13): M, 0, I, Q. -/
inductive Eff where
  | m | zero | i | q
  deriving DecidableEq, Repr

/-- One row of an opcode table: code, target kinds, EFF, authorised. -/
structure OpDesc where
  code : Nat
  kinds : List Nat
  eff : Eff
  auth : Bool := false
  deriving DecidableEq, Repr

/-- Management and axis configuration (Tables 13.4, 13.5). -/
def opTable1 : List OpDesc :=
  [⟨0x0001, [0], .m, false⟩, ⟨0x0002, [0], .q, false⟩, ⟨0x0003, [0], .q, false⟩, ⟨0x0004, [0], .i, false⟩, ⟨0x0005, [10], .zero, false⟩,
   ⟨0x0006, [10], .i, false⟩, ⟨0x0007, [11], .m, false⟩, ⟨0x0008, [11], .m, false⟩, ⟨0x0009, [0, 1, 2, 4, 5, 6, 8, 9, 13, 12], .m, false⟩,
   ⟨0x0010, [0], .q, false⟩, ⟨0x0020, [0], .i, false⟩, ⟨0x0021, [16], .i, false⟩, ⟨0x0022, [16], .i, false⟩,
   ⟨0x1001, [1, 2], .m, false⟩, ⟨0x1002, [1, 2], .q, false⟩, ⟨0x1010, [1, 2], .m, false⟩, ⟨0x1011, [1, 2], .m, false⟩, ⟨0x1012, [1, 2], .m, false⟩,
   ⟨0x1013, [1, 2], .m, false⟩, ⟨0x1014, [1, 2], .m, false⟩, ⟨0x1020, [1], .m, false⟩, ⟨0x1030, [1, 2], .m, false⟩, ⟨0x1040, [1], .q, false⟩,
   ⟨0x1041, [2], .q, false⟩, ⟨0x1050, [2], .m, false⟩]

/-- Motion, Orrery, network and time (Tables 13.6 to 13.9). -/
def opTable2 : List OpDesc :=
  [⟨0x2001, [1, 2], .m, false⟩, ⟨0x2100, [0, 1, 2, 5], .zero, false⟩, ⟨0x2200, [0], .m, false⟩,
   ⟨0x3001, [3, 4], .m, false⟩, ⟨0x3002, [3, 4], .q, false⟩, ⟨0x3010, [3], .m, false⟩, ⟨0x3011, [3], .m, false⟩, ⟨0x3012, [3], .m, false⟩,
   ⟨0x3013, [3], .m, false⟩, ⟨0x3020, [7], .m, false⟩, ⟨0x3021, [7], .m, false⟩, ⟨0x3030, [4], .m, false⟩,
   ⟨0x4001, [0, 5], .m, false⟩, ⟨0x4002, [0, 5], .q, false⟩, ⟨0x4010, [0], .m, false⟩, ⟨0x4011, [0], .m, false⟩, ⟨0x4012, [0, 5], .m, false⟩,
   ⟨0x4020, [5], .q, false⟩, ⟨0x4021, [5], .q, false⟩, ⟨0x4030, [6], .i, false⟩,
   ⟨0x5001, [0, 8, 9, 13], .m, false⟩, ⟨0x5002, [0, 8, 9, 13], .q, false⟩, ⟨0x5010, [0], .m, false⟩, ⟨0x5020, [0], .q, false⟩,
   ⟨0x5021, [9], .i, false⟩, ⟨0x5022, [8, 9, 13], .q, false⟩]

/-- Chronograph, Logbook, safety, self-test and images (Table 13.10). -/
def opTable3 : List OpDesc :=
  [⟨0x6001, [0], .m, false⟩, ⟨0x6002, [0], .m, false⟩, ⟨0x6003, [0], .m, false⟩, ⟨0x6004, [0], .m, false⟩, ⟨0x6005, [0], .i, false⟩,
   ⟨0x6006, [0], .q, false⟩, ⟨0x7001, [0], .i, false⟩, ⟨0x7002, [0], .q, false⟩, ⟨0x7003, [0], .i, false⟩, ⟨0x7010, [0], .i, true⟩,
   ⟨0x7011, [0], .i, true⟩, ⟨0x8001, [0, 14], .q, false⟩, ⟨0x8002, [0, 14], .m, false⟩, ⟨0x8010, [0], .i, true⟩, ⟨0x8011, [0], .m, true⟩,
   ⟨0x9001, [0, 12], .m, false⟩, ⟨0x9002, [0], .q, false⟩, ⟨0x9003, [0], .m, false⟩, ⟨0x9004, [0], .i, false⟩,
   ⟨0xA001, [15], .i, false⟩, ⟨0xA002, [15], .i, false⟩, ⟨0xA003, [15], .i, false⟩, ⟨0xA004, [15], .m, false⟩, ⟨0xA005, [0], .q, false⟩,
   ⟨0xA010, [15], .m, true⟩]

/-- Every opcode. -/
def opTable : List OpDesc := opTable1 ++ opTable2 ++ opTable3

/-- The row of an opcode. -/
def opDesc (c : Nat) : Option OpDesc := opTable.find? (fun d => d.code = c)

/-- The number of indices of a target kind (Table 13.1). -/
def kindSize : Nat → Nat
  | 0 => 1 | 1 => 512 | 2 => 1024 | 3 => 32 | 4 => 64 | 5 => 8 | 6 => 768 | 7 => 256 | 8 => 16 | 9 => 16 | 10 => 32 | 11 => 8 | 12 => 18
  | 13 => 2 | 14 => 512 | 15 => 512 | 16 => 17 | _ => 0

/-- The index lies in the range of its kind (Table 13.1). -/
def targetOk (k i : Nat) : Bool :=
  decide (i < kindSize k) && (k ≠ 16 || i ≠ 0) && (k ≠ 15 || i % 256 < 4)

/-- The payload of a 24-byte parameter entry list (R407, R408). -/
def entriesLen (pay : List Byte) : Nat := 8 + 24 * fieldLE pay 0 2

/-- PLEN is that of the opcode: the payload ends with the last field that the opcode's row lists (log 23). -/
def plenOk (c : Nat) (pay : List Byte) : Bool :=
  let n := pay.length
  match c with
  | 0x0001 | 0x0002 | 0x1001 | 0x1002 | 0x1010 | 0x3001 | 0x3002 | 0x4001 | 0x4002 | 0x5001 | 0x5002 => decide (8 ≤ n) && n = entriesLen pay
  | 0x0004 => n = 5
  | 0x0005 => n = 2
  | 0x0006 => n = 20
  | 0x0007 => decide (8 ≤ n) && n = 8 + 8 * fieldLE pay 1 1
  | 0x0020 => n = 4
  | 0x0021 => decide (8 ≤ n)
  | 0x1020 => n = 20
  | 0x1030 => n = 12
  | 0x1050 => n = 8
  | 0x2001 => n = 16
  | 0x2100 => n = 8
  | 0x2200 => decide (8 ≤ n) && n = 8 + ceilDiv (fieldLE pay 4 2) 8
  | 0x3012 => n = 8
  | 0x3020 => n = 36
  | 0x4010 => n = 136
  | 0x4011 => n = 8
  | 0x4030 => decide (8 ≤ n) && n = 8 + fieldLE pay 2 2
  | 0x5010 => n = 12
  | 0x5021 => n = 2
  | 0x6001 => n = 8
  | 0x6002 => n = 1
  | 0x6005 => n = 10
  | 0x7001 => n = 6
  | 0x7003 => decide (8 ≤ n)
  | 0x7011 => n = 48
  | 0x8011 => n = 56
  | 0x9001 => n = 2
  | 0x9003 => n = 32
  | 0xA001 => n = 4
  | 0xA002 => decide (8 ≤ n)
  | 0xA004 => n = 1
  | 0xA010 => n = 56
  | _ => n = 0

/-- The largest RLEN that the Reply column allows for the command's payload (R402). -/
def replyMax (c : Nat) (pay : List Byte) : Nat :=
  match c with
  | 0x0001 | 0x1001 | 0x1010 | 0x3001 | 0x4001 | 0x5001 => 8
  | 0x0002 | 0x1002 | 0x3002 | 0x4002 | 0x5002 => 8 + 24 * fieldLE pay 0 2
  | 0x0003 => 56
  | 0x0010 => 616
  | 0x0020 => 2
  | 0x1040 | 0x1041 | 0x4020 => 48
  | 0x4021 => 8 + 16 * 96
  | 0x4030 => 8 + fieldLE pay 0 2
  | 0x5020 => 96
  | 0x5021 => 8 + 16 * fieldLE pay 0 2
  | 0x5022 => 32
  | 0x6005 => 16 + fieldLE pay 8 2
  | 0x6006 => 256
  | 0x7001 => 8 + 32 * fieldLE pay 4 2
  | 0x7002 => 64
  | 0x7010 | 0x8010 | 0xA003 => 16
  | 0x8001 => 512
  | 0x9001 => 48
  | 0x9002 => 512
  | 0x9004 => 8 + 8 * 256
  | 0xA005 => 256
  | _ => 0

/-- Reply slots of a payload of `l` bytes (R379, R402). -/
def slotsFor (l : Nat) : Nat := ceilDiv (32 + l) 64

end Sys2Proof.Machine
end

