-- ==== Sys2Proof/Machine/Host.lean ====
section
/-! DEFINITION. The Host Interface Unit by itself (chapter 12): rings, records, replies, interrupts, doorbells, ownership, pins and the registers that
hold its own state. What reaches beyond the HIU is in the families that call it. -/

namespace Sys2Proof.Machine

/-! ## Rings -/

/-- Slots of the command ring (R371). -/
def Pair.cqSlots (p : Pair) : Nat := 2 ^ (p.qsize % 32)

/-- Slots of the reply ring (R371). -/
def Pair.rqSlots (p : Pair) : Nat := 2 ^ (bits p.qsize 12 8)

/-- ENABLE of QCTRL (Table 12.7). -/
def Pair.enable (p : Pair) : Bool := bit p.qctrl 0

/-- Command slots written by the host and not yet fetched (R374). -/
def Pair.unfetched (p : Pair) : Nat := (p.cqTailLast + p.cqSlots - p.cqHead) % p.cqSlots

/-- Reply slots that the device may write: one slot stays unused (R379). -/
def Pair.freeReply (p : Pair) : Nat := p.rqSlots - 1 - (p.rqTail + p.rqSlots - p.rqHeadLast) % p.rqSlots

/-- Reply slots that are free beyond reservations (R378, R381). -/
def Pair.spare (p : Pair) : Nat := p.freeReply - p.reserved

/-- A stream names the pair (R385). -/
def Hif.streamed (h : Hif) (i : Nat) : Bool := h.streams.any (fun e => e.2.pair = i)

/-- The pair is quiescent (R385). -/
def Hif.quiescent (h : Hif) (i : Nat) : Bool :=
  let p := h.pair i
  p.cqHead = p.cqTailLast && p.awaiting.isEmpty && p.out.isEmpty && p.rqHeadLast = p.rqTail && h.eventPair ≠ i && !h.streamed i

/-- Setting ENABLE resets the indices and the phase (R372); QSEQ restarts (R399). -/
def Pair.restart (p : Pair) : Pair :=
  { p with active := true, cqHead := 0, rqTail := 0, cqTailLast := 0, rqHeadLast := 0, phase := true, qseq := 0, unsignalled := 0 }

/-! ## Interrupts -/

/-- Word `w` of the MSI-X table; a vector is masked at reset (per PCIe, log 26). -/
def Hif.msixWord (h : Hif) (w : Nat) : Nat := Tab.getD h.msix w (if w % 4 = 3 then 1 else 0)

/-- Vector `v` is raised, or pending while it is masked (R382). -/
def Hif.raise (h : Hif) (v : Nat) : Hif :=
  if bit (h.msixWord (4 * v + 3)) 0 then { h with pba := setBit h.pba v } else { h with raised := Tab.set h.raised v (Tab.getD h.raised v 0 + 1) }

/-- A write to word `w` of the MSI-X table; a pending vector that is unmasked is raised. -/
def Hif.msixWrite (h : Hif) (w v : Nat) : Hif :=
  let h := { h with msix := Tab.set h.msix w v }
  if w % 4 = 3 && !bit v 0 && bit h.pba (w / 4) then Hif.raise { h with pba := clrBit h.pba (w / 4) } (w / 4) else h

/-- The signal of a pair's records written so far (R382). -/
def Hif.signal (h : Hif) (i : Nat) : Hif :=
  let p := h.pair i
  if bit p.qctrl 14 then (h.onPair i (fun p => { p with unsignalled := 0 })).raise (bits p.qctrl 13 8) else h

/-! ## Records -/

/-- The bytes of a record written slot by slot into the reply ring from slot `t` on. -/
def slotWrite (base slots : Nat) : Nat → List Byte → Nat → Memory → Memory
  | 0, _, _, m => m
  | n + 1, bs, t, m => slotWrite base slots n (bs.drop 64) ((t + 1) % slots) (Memory.writeList 0 m (base + 64 * t) (bs.take 64))

/-- A record filled up to whole slots, with PHASE and QSEQ (R379, Table 12.9). -/
def Pair.stamped (p : Pair) (bs : List Byte) : List Byte :=
  let b := bs ++ zeroBytes (64 * ceilDiv bs.length 64 - bs.length)
  putBytes (putBytes b 19 [if p.phase then 1 else 0]) 20 (leBytes 4 (incWrap 32 p.qseq))

/-- A record is written into the reply ring of pair `i` (R379), and the interrupt is raised when it is due (R382). -/
def Hif.write (h : Hif) (mem : Memory) (i : Nat) (bs : List Byte) (irq : Bool) : Hif × Memory :=
  let p := h.pair i
  let n := ceilDiv bs.length 64
  let mem := slotWrite p.rqBase p.rqSlots n (p.stamped bs) p.rqTail mem
  let t := p.rqTail + n
  let h := h.onPair i (fun p => { p with rqTail := t % p.rqSlots, phase := if p.rqSlots ≤ t then !p.phase else p.phase, qseq := incWrap 32 p.qseq,
                                         unsignalled := p.unsignalled + 1 })
  (if irq || decide (max 1 (p.irqMod % 65536) ≤ p.unsignalled + 1) then h.signal i else h, mem)

/-- The bytes of an event record without PHASE and QSEQ (Table 12.10). -/
def HostEv.bytes (e : HostEv) (dropped : Bool) : List Byte :=
  leBytes 2 e.ev.code ++ leBytes 2 e.ev.src ++ leBytes 4 e.seq ++ leBytes 8 e.ev.cycle ++ leBytes 2 (flag dropped 0 + flag e.ev.cpDrop 1) ++ [1, 0] ++ zeroBytes 4 ++
    leBytes 4 e.tbNs ++ zeroBytes 4 ++ leBytes 8 e.tbS ++ (e.ev.args ++ zeroBytes 24).take 24

/-- The oldest waiting event goes to the event pair, or is dropped for want of a free slot (R381); the reply queue of a STREAM pair takes none (Table 12.7). -/
def Hif.postEvent (h : Hif) (mem : Memory) (e : HostEv) : Hif × Memory :=
  let i := h.eventPair
  let p := h.pair i
  if p.active && !bit p.qctrl 2 && decide (1 ≤ p.spare) then Hif.write { h with evDropped := false } mem i (e.bytes h.evDropped) false
  else ({ h with eventsDropped := incSat 32 h.eventsDropped, evDropped := true }, mem)

/-! ## Replies -/

/-- What a command answers: status, note, payload, or that the reply is owed until the operation ends (R380). -/
structure CmdRes where
  status : Nat := 0
  note : Nat := 0
  pay : List Byte := []
  later : Bool := false
  deriving DecidableEq, Repr

/-- The bytes of a reply without PHASE and QSEQ (Table 12.9). -/
def replyBytes (op tag : Nat) (r : CmdRes) (done : Nat) : List Byte :=
  leBytes 2 op ++ leBytes 2 tag ++ leBytes 2 r.status ++ leBytes 2 r.note ++ leBytes 8 done ++ leBytes 2 r.pay.length ++ [0, 0] ++ zeroBytes 12 ++ r.pay

/-- The completion of a command joins the last 256 of its pair (R391). -/
def Pair.completes (p : Pair) (t : TagRec) : Pair := { p with completed := (t :: p.completed).take 256 }

/-- The commands whose reply may take a note from the Seal of its cycle: MODE (R167) and FAULT_CLEAR (R99). -/
def noteLater (op : Nat) : Bool := op = 0x2001 || op = 0x1014

/-- A waiting reply takes a note. -/
def OutRec.noted (o : OutRec) (note : Nat) : OutRec := { o with bytes := putBytes o.bytes 6 (leBytes 2 note), quiet := false }

/-- The interval of R385 ends for the pair that a QUEUE_RESIZE names, when its reply is received or ends without being posted. -/
def Hif.resized (h : Hif) (op key : Nat) : Hif := if op = 0x0006 then h.onPair (key % 16777216) (fun p => { p with resizing := false }) else h

/-- A command is complete: its reply waits for the ring, or QUIET suppresses it (R386, R391). `res` slots stay reserved until it is posted; `hold` is
the Plate that must be published first (R32). A pair that the device disabled gets no reply (R384). -/
def Hif.complete (h : Hif) (q : HostReq) (res : Nat) (r : CmdRes) (done hold : Nat) (dup : Bool) : Hif :=
  let key := 16777216 * q.h.kind + q.h.index
  let t : TagRec := { tag := q.h.tag, op := q.op, batch := q.h.batch, done := done, status := r.status, fin := true }
  let quiet := bit q.h.flags 1 && r.status = 0 && r.note = 0
  if !(h.pair q.h.pair).active || (quiet && !noteLater q.op) then
    (h.onPair q.h.pair (fun p =>
      { p with reserved := p.reserved - res, awaiting := if dup then p.awaiting else p.awaiting.filter (fun a => a.tag ≠ q.h.tag) }.completes t)).resized q.op key
  else
    h.onPair q.h.pair (fun p =>
      { p with out := p.out ++ [{ bytes := replyBytes q.op q.h.tag r done, res := res, irq := bit q.h.flags 3, estop := q.op = 0x2100, hold := hold,
                                  tag := q.h.tag, op := q.op, key := key, dup := dup, done := done, status := r.status, quiet := quiet }],
               awaiting := if dup then p.awaiting else p.awaiting.map (fun a => if a.tag = q.h.tag then { a with done := done, status := r.status, fin := true } else a) })

/-- The first waiting reply whose Plate is published. While the management plane restarts only what the HIU answers by itself is posted: BUSY and emergency stops
(R388, R543). -/
def nextOut (published : Nat) (restart : Bool) : List OutRec → Option (OutRec × List OutRec)
  | [] => none
  | o :: os =>
    if o.hold ≤ published && (!restart || o.estop || o.status = 0x0201) then some (o, os) else (nextOut published restart os).map (fun r => (r.1, o :: r.2))

/-- The reply has its slots: an emergency stop's reply waits for a slot that nothing has reserved (R378). -/
def Pair.room (p : Pair) (o : OutRec) : Bool :=
  let n := ceilDiv o.bytes.length 64
  if o.res = 0 then decide (n ≤ p.spare) else decide (n ≤ p.freeReply)

/-- A reply of pair `i` is posted (R379, R382). -/
def Hif.postReply (h : Hif) (mem : Memory) (published i : Nat) : Hif × Memory :=
  let p := h.pair i
  if !p.active then (h, mem) else
  match nextOut published h.mgtRestart p.out with
  | none => (h, mem)
  | some (o, os) =>
    if p.room o then
      let h := Hif.onPair { h with passed := [] } i (fun p =>
        let t : TagRec := { tag := o.tag, op := o.op, done := o.done, status := o.status, fin := true }
        let b := (p.awaiting.find? (fun (a : TagRec) => a.tag = o.tag)).map (fun (a : TagRec) => a.batch)
        let p := { p with out := os, reserved := p.reserved - o.res, awaiting := if o.dup then p.awaiting else p.awaiting.filter (fun a => a.tag ≠ o.tag) }
        p.completes { t with batch := if o.dup then 0 else b.getD 0 })
      let h := h.resized o.op o.key
      if o.quiet then (h, mem) else h.write mem i o.bytes o.irq
    else (h, mem)

/-! ## Doorbells and pair registers -/

/-- A CQ_TAIL doorbell (R374, R385). -/
def Pair.cqDoorbell (p : Pair) (v : Nat) : Pair :=
  if p.resizing then { p with dbLost := true } else if p.active then { p with cqTailLast := v % p.cqSlots } else p

/-- An RQ_HEAD doorbell (R379, R385). -/
def Pair.rqDoorbell (p : Pair) (v : Nat) : Pair :=
  if p.resizing then { p with dbLost := true } else if p.active then { p with rqHeadLast := v % p.rqSlots } else p

/-- A QSIZE value in range: both logarithms from 6 to 16 (Table 12.6). -/
def qsizeOk (v : Nat) : Bool := decide (6 ≤ v % 32 ∧ v % 32 ≤ 16 ∧ 6 ≤ bits v 12 8 ∧ bits v 12 8 ≤ 16)

/-- A write to QCTRL (R372, Table 12.7). -/
def Pair.ctrl (p : Pair) (v : Nat) : Pair :=
  let w := v % 8 + 256 * bits v 14 8
  if bit v 0 then
    if p.enable && p.active then { p with qctrl := w } else ({ p with qctrl := w } : Pair).restart
  else { p with qctrl := w, active := false }

/-- A 32-bit write at offset `o` of a pair's register block (Tables 12.6 to 12.8). The bases are written by `Pair.base`. Two writes out of range, of which the spec says nothing:
a QSIZE with a logarithm outside 6 to 16 while ENABLE is clear is discarded and sets no flag, and an IRQ_MOD whose [15:0] is 0 leaves that field as it was (DESIGN CHOICE,
log 44). -/
def Pair.regWrite (p : Pair) (o v : Nat) : Pair :=
  match o with
  | 0x10 => if p.enable then { p with cfgErr := true } else if qsizeOk v then { p with qsize := v % 32 + 256 * bits v 12 8 } else p
  | 0x14 => p.ctrl v
  | 0x20 => { p with dbLost := p.dbLost && !bit v 2, cfgErr := p.cfgErr && !bit v 3, slotErr := p.slotErr && !bit v 4, dmaErr := p.dmaErr && !bit v 5 }
  | 0x24 => { p with irqMod := (if v % 65536 = 0 then p.irqMod % 65536 else v % 65536) + 65536 * bits v 31 16 }
  | _ => p

/-- A write of CQ_BASE (offset 0) or RQ_BASE (offset 8) (R371). -/
def Pair.base (p : Pair) (o v : Nat) : Pair :=
  if p.enable then { p with cfgErr := true } else
  if o = 0 then { p with cqBase := v / 4096 * 4096 } else { p with rqBase := v / 4096 * 4096 }

/-- QSTAT (Table 12.8). -/
def Hif.qstat (h : Hif) (i : Nat) : Nat :=
  let p := h.pair i
  flag p.active 0 + flag (h.quiescent i) 1 + flag p.dbLost 2 + flag p.cfgErr 3 + flag p.slotErr 4 + flag p.dmaErr 5 + flag p.resizing 6 + flag (p.spare = 0) 7

/-- A 32-bit read at offset `o` of a pair's register block. -/
def Hif.pairReg (h : Hif) (i o : Nat) : Nat :=
  let p := h.pair i
  match o with
  | 0x10 => p.qsize | 0x14 => p.qctrl | 0x18 => p.cqHead | 0x1C => p.rqTail | 0x20 => h.qstat i | 0x24 => p.irqMod | 0x28 => p.cqTailLast | 0x2C => p.rqHeadLast
  | _ => 0

/-- The queue-resize command sets up a quiescent pair (R385). -/
def Hif.resize (h : Hif) (i cq rq size : Nat) : Hif :=
  h.onPair i (fun p => { { p with cqBase := cq, rqBase := rq, qsize := size }.restart with active := p.active })

/-! ## Pins -/

/-- A pin request for buffer `b` whose CYCLE reads `held` (R394). -/
def Hif.pinRequest (h : Hif) (b held : Nat) : Hif :=
  if h.pinCycle ≠ 0 && held = h.pinCycle then { h with pin := some (b, held), pinOutcome := 1 } else { h with pinOutcome := 2 }

/-- A release, an expiry or the end of ownership takes the pin away (R394, R395). -/
def Hif.pinDrop (h : Hif) (outcome : Nat) : Hif := { h with pin := none, pinOutcome := outcome }

/-- PIN_STATUS. -/
def Hif.pinStatus (h : Hif) : Nat :=
  match h.pin with
  | some (b, _) => h.pinOutcome + 4 * b + 16
  | none => h.pinOutcome

/-! ## Ownership -/

/-- A token that is not zero and not among those of the last 65,535 claims (R366), from candidate `c` on. -/
def freshToken (used : List Nat) : Nat → Nat → Nat
  | 0, c => c
  | k + 1, c => if used.contains c then freshToken used k (c % (2 ^ 32 - 1) + 1) else c

/-- A claim that succeeds (R366). `free` is where the token comes from. -/
def Hif.claim (h : Hif) (nonce free : Nat) : Hif :=
  let t := freshToken h.tokens 65536 (free % (2 ^ 32 - 1) + 1)
  { h with owned := true, epoch := incWrap 32 h.epoch, nonce := nonce, token := t, tokens := (t :: h.tokens).take 65535 }

/-- The HIU at the end of ownership (R368): queue pairs disabled, commands withdrawn without reply, open batches failed, pin and streams gone, handles and
nonces lapsed (R409, "Status and note codes" of chapter 13). -/
def Hif.disown (h : Hif) (cause : Nat) : Hif :=
  { h with owned := false, token := 0, lastCause := cause, pairs := h.pairs.map (fun p => { p with active := false, awaiting := [], out := [], reserved := 0, completed := [], resizing := false }),
           fetched := [], staged := [], batches := [], batchesFailed := addSat 32 h.batchesFailed (h.batches.filter (fun b => !b.failed)).length, pin := none, pinOutcome := 0, streams := [], bulks := [],
           openOps := [], nonceLog := none, nonceSafe := none, passed := [] }

/-- DEV_STATUS but for LEADER, STANDBY and RUN (Table 12.4). -/
def Hif.devStatus (h : Hif) : Nat :=
  flag h.mgtReady 0 + flag h.mgtRestart 1 + flag h.owned 2 + flag h.accessErr 5 + flag h.ownerLost 6 + flag h.recovery 7

/-- OWN_CTRL (Table 12.5). -/
def Hif.ownCtrl (h : Hif) : Nat := flag h.owned 0 + 2 * h.lastCause + 16 * h.lossAction

/-! ## Fetching -/

/-- A pair has a command that its turn could bring (R375): in use, not a stream pair, with slots not fetched, and not passed over this round. -/
def Hif.ready (h : Hif) (i : Nat) : Bool :=
  let p := h.pair i
  p.active && !bit p.qctrl 2 && decide (0 < p.unfetched) && !h.passed.contains i

/-- The pair whose turn it is (R375): HIPRI pairs before the others, round-robin from the one after the last. -/
def Hif.turn (h : Hif) : Option Nat :=
  let order := (List.range 32).map (fun k => (h.rr + 1 + k) % 32)
  match order.find? (fun i => h.ready i && bit (h.pair i).qctrl 1) with
  | some i => some i
  | none => order.find? (fun i => h.ready i)

/-- The header of a command (Table 12.11) in the bytes fetched from pair `i`. -/
def headOf (i : Nat) (b : List Byte) : HostReq :=
  let t := fieldLE b 4 4
  { op := fieldLE b 0 2,
    h := { pair := i, tag := fieldLE b 2 2, kind := t / 2 ^ 24, index := t % 2 ^ 24, effective := fieldLE b 8 8, flags := fieldLE b 16 2, batch := fieldLE b 20 4,
           auth := fieldLE b 24 4 },
    pay := (b.drop 32).take (fieldLE b 18 2) }

/-- The authority of a command at the interface: AUTH and the pair (R377, R383). -/
def Hif.authority (h : Hif) (q : HostReq) : Nat :=
  if !h.owned || q.h.auth ≠ h.token then 0x0401 else
  match opDesc q.op with
  | some d => if d.auth && q.h.pair ≠ 1 then 0x0403 else if q.h.pair = 1 && !d.auth && d.eff ≠ .q then 0x0403 else 0
  | none => if q.h.pair = 1 then 0x0403 else 0

/-- The header checks of R377 in their order, 0 when all pass. -/
def Hif.headCheck (h : Hif) (q : HostReq) (plen resv : Nat) : Nat :=
  if 4064 < plen then 0x0103 else if resv ≠ 0 || 16 ≤ q.h.flags then 0x0104 else
  let a := h.authority q
  if a ≠ 0 then a else if (h.pair q.h.pair).awaiting.any (fun t => t.tag = q.h.tag) then 0x0106 else 0

/-- The reply slots that a command reserves (R378, R402). -/
def reserveOf (q : HostReq) : Nat := if q.op = 0x2100 then 0 else slotsFor (replyMax q.op q.pay)

/-- Slots that a command of `plen` payload bytes occupies (R374). -/
def slotsOf (plen : Nat) : Nat := ceilDiv (32 + plen) 64

/-- The pair cannot take its next command now: slots missing, replies without room, a FENCE, or sixteen emergency-stop replies waiting (R374, R378, R386). -/
def Pair.blocked (p : Pair) (q : HostReq) (plen : Nat) : Bool :=
  decide (p.unfetched < slotsOf plen) || (bit q.h.flags 2 && (!p.awaiting.isEmpty || !p.out.isEmpty)) ||
    decide (16 ≤ (p.out.filter (fun o => o.estop)).length) ||
    (if p.rqSlots - 1 < reserveOf q then decide (p.spare < 1) else decide (p.spare < reserveOf q))

/-- What a fetch leads to: nothing, a reply at once (with its reservation), an emergency stop to admit, or a command for the MGC. -/
inductive FetchRes where
  | none
  | reply (q : HostReq) (res status : Nat) (dup : Bool)
  | estop (q : HostReq)
  | pass (q : HostReq) (res : Nat)
  deriving DecidableEq, Repr

/-- The HIU fetches the command at the head of pair `i`, whose slots hold `b` (R374 to R378, R383, R388). -/
def Hif.fetch (h : Hif) (i : Nat) (b : List Byte) : Hif × FetchRes :=
  if h.turn ≠ some i then (h, .none) else
  let p := h.pair i
  let plen := fieldLE b 18 2
  let q := headOf i b
  if decide (b.length < 64 * slotsOf plen) || p.blocked q plen then ({ h with rr := i, passed := i :: h.passed }, .none) else
  let est := q.op = 0x2100
  let res := reserveOf q
  let big := decide (p.rqSlots - 1 < res)
  let st := h.headCheck q plen (fieldLE b 28 4)
  let h := Hif.onPair { h with rr := i, passed := [] } i (fun p =>
    { p with cqHead := (p.cqHead + slotsOf plen) % p.cqSlots, slotErr := p.slotErr || decide (st ≠ 0), reserved := p.reserved + (if big then 1 else res),
             awaiting := if st = 0x0106 then p.awaiting else p.awaiting ++ [{ tag := q.h.tag, op := q.op, batch := q.h.batch }] })
  if st ≠ 0 then (h, .reply q (if big then 1 else res) st (st = 0x0106))
  else if big then (h, .reply q 1 0x0103 false)
  else if est then (h, .estop q)
  else if h.mgtRestart then (h, .reply q res 0x0201 false)
  else
    let h := if q.op = 0x0006 then h.onPair q.h.index (fun p => { p with resizing := true }) else h
    ({ h with fetched := h.fetched ++ [{ req := q, res := res }] }, .pass q res)

/-- Bytes of command staging in use: admitted and fetched commands with their headers, and bulk handles (R392, R409). -/
def Hif.stagingUsed (h : Hif) : Nat :=
  (h.staged.map (fun s => 32 + s.req.pay.length)).sum + (h.fetched.map (fun s => 32 + s.req.pay.length)).sum + (h.bulks.map (fun e => e.2.len)).sum

/-- Free bytes of the 2 MiB of command staging (R392). -/
def Hif.stagingFree (h : Hif) : Nat := 2097152 - h.stagingUsed

/-- The opcodes that consume a bulk handle (R409). -/
def consumes (op : Nat) : Bool := [0x1020, 0x3020, 0x4010, 0x6001, 0x8011].contains op

/-- The handle that a command names. -/
def handleOf (q : HostReq) : Nat := fieldLE q.pay 0 2

/-- The bytes of a handle, bytes never written reading zero (R409). -/
def Bulk.bytes (b : Bulk) (n : Nat) : List Byte := Memory.readList 0 b.data 0 n

/-- A consumer's handle is released when it takes effect, is rejected or is withdrawn (R409). A handle that another admitted command names is not its own. -/
def Hif.releaseHandle (h : Hif) (q : HostReq) (own : Bool) : Hif :=
  if consumes q.op && own then { h with bulks := Tab.del h.bulks (handleOf q) } else h

/-- Stream records: the oldest staged record of a stream is written when the ring has room for the whole of it (R398). -/
def Hif.streamWrite (h : Hif) (mem : Memory) (i : Nat) : Hif × Memory :=
  match Tab.find h.streams i with
  | none => (h, mem)
  | some s =>
    match s.halves with
    | [] => (h, mem)
    | r :: rs =>
      let p := h.pair s.pair
      if p.active && decide (ceilDiv r.length 64 ≤ p.freeReply) then
        let r := putBytes r 4 (leBytes 4 s.skipped)
        Hif.write { h with streams := Tab.set h.streams i { s with halves := rs, skipped := 0 } } mem s.pair r false
      else (h, mem)

end Sys2Proof.Machine
end

