-- ==== Sys2Proof/Machine/Logbook.lean ====
section
/-! DEFINITION. The Logbook (chapter 15): records, ingress, writing, persistence, restoring, clearing and status. -/

namespace Sys2Proof.Machine

/-- Base of the Logbook area in flash (Table 18.5). -/
abbrev logBase : Nat := 0x00900000

/-- `a` is newer than `b` as 32-bit sequence numbers (R39). -/
def seqNewer (a b : Nat) : Bool := let d := (a + 2 ^ 32 - b % 2 ^ 32) % 2 ^ 32; decide (0 < d ∧ d < 2 ^ 31)

/-- RFLAGS (Table 15.2). -/
def Ev.rflags (e : Ev) (cont : Bool) : Nat := flag cont 0 + flag e.mgmt 2 + flag e.late 3 + flag e.noCycle 4 + flag e.cpDrop 5

/-- ARGS as 24 bytes. -/
def Ev.args24 (e : Ev) : List Byte := (e.args ++ zeroBytes 24).take 24

/-- A primary record (Table 15.1). -/
def logRecord (seq pwr cycle opsec rflags src code : Nat) (pay : List Byte) : List Byte :=
  leBytes 4 seq ++ leBytes 4 pwr ++ leBytes 4 cycle ++ leBytes 5 opsec ++ leBytes 1 rflags ++ leBytes 2 src ++ leBytes 2 code ++ (pay ++ zeroBytes 10).take 10

/-- The records of an event from sequence number `seq` on: the primary and, when ARGS[10:23] hold anything, its continuation (R448). -/
def Ev.records (e : Ev) (seq : Nat) : List (Nat × List Byte) :=
  let a := e.args24
  let cont := (a.drop 10).any (· ≠ 0)
  let p := (seq, logRecord seq e.pwr (if e.noCycle then 0 else e.cycle) e.opsec (e.rflags cont) e.src e.code (a.take 10))
  if cont then
    let s2 := (seq + 1) % 2 ^ 32
    [p, (s2, leBytes 4 s2 ++ zeroBytes 13 ++ leBytes 1 2 ++ a.drop 10)]
  else [p]

/-- Two records lie at the same index of the ring (R445). -/
def sameIndex (a b : Nat × List Byte) : Bool := a.1 % 32768 = b.1 % 32768

/-- The records of a ring that `rs` leave there: those at another index (R445). -/
def ringKept (recs rs : List (Nat × List Byte)) : List (Nat × List Byte) := recs.filter (fun x => !rs.any (sameIndex x))

/-- Records enter the ring, each at its index (R445); one overwritten before it was persisted is missing from flash (R459). -/
def Log.put (l : Log) (rs : List (Nat × List Byte)) : Log :=
  let waiting := ringKept l.waiting rs
  { l with recs := ringKept l.recs rs ++ rs, next := (l.next + rs.length) % 2 ^ 32, waiting := waiting ++ rs,
           unpersisted := addSat 32 l.unpersisted (l.waiting.length - waiting.length) }

/-- An event arrives at the ingress FIFO (R457). -/
def Log.ingress (l : Log) (e : Ev) : Log :=
  let l := if l.fifo.length + 2 ≤ 256 then { l with fifo := l.fifo ++ [LogEntry.ev e] }
    else
      let l := { l with fifoDropped := incSat 32 l.fifoDropped }
      match l.fifo.getLast? with
      | some (.lost n f _) => { l with fifo := l.fifo.dropLast ++ [LogEntry.lost (min 0xFFFF (n + 1)) f (e.cycle % 2 ^ 32)] }
      | _ => if l.fifo.length < 256 then { l with fifo := l.fifo ++ [LogEntry.lost 1 (e.cycle % 2 ^ 32) (e.cycle % 2 ^ 32)] } else l
  { l with peak := max l.peak l.fifo.length }

/-- The next SEQ lies within 65,536 of SEQ_RES (R461): the reservation is raised; the caller writes the persistent record. -/
def Log.needsRes (l : Log) : Bool := !l.resUnsafe && decide ((l.seqRes + 2 ^ 32 - l.next) % 2 ^ 32 ≤ 65536 ∨ 2 ^ 31 ≤ (l.seqRes + 2 ^ 32 - l.next) % 2 ^ 32)

/-- The raised reservation (R461). -/
def Log.raiseRes (l : Log) : Log := { l with seqRes := (l.next + 1048576) % 2 ^ 32 }

/-- The stamp of the LOG's own records. -/
structure LogStamp where
  pwr : Nat
  cycle : Nat
  opsec : Nat
  noCycle : Bool
  deriving DecidableEq, Repr

/-- A record that the LOG writes itself (R452), with SOURCE 0xC000. -/
def Log.own (l : Log) (t : LogStamp) (code : Nat) (args : List Byte) : Log :=
  l.put (Ev.records { src := srcLog, code := code, args := args, mgmt := true, cycle := t.cycle, noCycle := t.noCycle, opsec := t.opsec, pwr := t.pwr } l.next)

/-- The writer takes the oldest entry (R458), or an accepted clear between two entries (R463). Answers the ARGS of CLEARED when it cleared. -/
def Log.write (l : Log) (t : LogStamp) : Log × Option (List Byte) :=
  if 0 < l.clearPending then
    let oldest := ((l.recs.head?).map (·.1)).getD l.next
    let newest := (l.next + 2 ^ 32 - 1) % 2 ^ 32
    let n := incSat 16 l.clearCount
    let args := leBytes 4 oldest ++ leBytes 4 newest ++ leBytes 2 n
    let page := if l.slot = 0 then l.page else (l.page + 1) % 512
    (Log.own { l with recs := [], waiting := [], clearCount := n, clearPending := l.clearPending - 1, erasing := true, page := page, slot := 0, clearPage := page } t eCLEARED args, some args)
  else
    match l.fifo with
    | [] => (l, none)
    | .ev e :: r => (Log.put { l with fifo := r } (e.records l.next), none)
    | .lost n f z :: r =>
      (Log.own { l with fifo := r, lostRecords := incSat 32 l.lostRecords } t eLOST (leBytes 2 n ++ leBytes 4 f ++ leBytes 4 z), none)

/-- The records that a page of flash holds: its slots that are not all 0xFF (R459). -/
def logPageRecs (flash : Memory) (page : Nat) : Nat :=
  ((List.range 128).filter (fun i => flash.any (fun c => decide (logBase + 4096 * page + 32 * i ≤ c.1 ∧ c.1 < logBase + 4096 * page + 32 * i + 32)))).length

/-- A page of records is programmed (R459): up to the end of the current page; a page is erased before its first slot is used. -/
def Log.persist (l : Log) (flash : Memory) : Log × Memory :=
  if l.persistFault then (l, flash) else
    let room := 128 - l.slot
    let now := l.waiting.take room
    let base := logBase + 4096 * l.page
    let gone := if l.slot = 0 then logPageRecs flash l.page else 0
    let flash := if l.slot = 0 then Memory.clear flash base 4096 else flash
    let flash := Memory.writeList 0xFF flash (base + 32 * l.slot) (now.map (·.2)).flatten
    let slot := l.slot + now.length
    ({ l with waiting := l.waiting.drop room, persistSeq := ((now.getLast?).map (·.1)).getD l.persistSeq, flashRecs := l.flashRecs - gone + now.length,
              page := if slot = 128 then (l.page + 1) % 512 else l.page, slot := slot % 128 }, flash)

/-- A lasting fault of a program or read (R459). -/
def Log.persistFailed (l : Log) : Log := { l with persistFault := true, persistLasting := incSat 16 l.persistLasting }

/-- The pages before the one that holds the newest CLEARED record are erased (R463): those from `first` to `last` in the ring of pages stay. -/
def logErase (flash : Memory) (first last : Nat) : Memory :=
  (List.range 512).foldl (fun f p => if (p + 512 - first) % 512 ≤ (last + 512 - first) % 512 then f else Memory.clear f (logBase + 4096 * p) 4096) flash

/-- The records found in flash (R460): each slot that is not all 0xFF, with its place. -/
def logScan (flash : Memory) : List (Nat × Nat × List Byte) :=
  (List.range 65536).filterMap (fun i =>
    let a := logBase + 32 * i
    if flash.any (fun c => decide (a ≤ c.1 ∧ c.1 < a + 32)) then
      let b := Memory.readList 0xFF flash a 32
      some (i, fieldLE b 0 4, b)
    else none)

/-- The newest by SEQ. -/
def newestSeq (rs : List (Nat × Nat × List Byte)) : Option (Nat × Nat × List Byte) :=
  rs.foldl (fun b r => match b with
    | none => some r
    | some x => if seqNewer r.2.1 x.2.1 then some r else some x) none

/-- Insertion of a record in SEQ order. -/
def seqInsert (r : Nat × List Byte) : List (Nat × List Byte) → List (Nat × List Byte)
  | [] => [r]
  | x :: xs => if seqNewer x.1 r.1 then r :: x :: xs else x :: seqInsert r xs

/-- The Logbook at boot (R460, R463): rebuilt from flash with at most 32,767 records, the records older than the newest CLEARED ignored, the next SEQ
set, RESTART written first. `keep` is the next SEQ that PD_AON kept, `res` the SEQ_RES of the newest valid persistent record. -/
def Log.restore (l : Log) (flash : Memory) (keep : Option Nat) (res : Nat) (unsafeRes : Bool) (t : LogStamp) : Log × Memory :=
  let all := logScan flash
  let cleared := newestSeq (all.filter (fun r => fieldLE r.2.2 20 2 = eCLEARED && fieldLE r.2.2 18 2 = srcLog && !bit (fieldLE r.2.2 17 1) 1))
  let live := match cleared with
    | some c => all.filter (fun r => !seqNewer c.2.1 r.2.1)
    | none => all
  let flash' := match cleared with
    | some _ => (List.range 512).foldl (fun f p => if live.any (fun r => r.1 / 128 = p) then f else Memory.clear f (logBase + 4096 * p) 4096) flash
    | none => flash
  let sorted := live.foldl (fun s r => seqInsert (r.2.1, r.2.2) s) []
  let recs := (sorted.drop (sorted.length - 32767)).foldl (fun s r => ringKept s [r] ++ [r]) []
  let newest := newestSeq live
  let persist := (newest.map (·.2.1)).getD l.persistSeq
  let later (a b : Nat) : Nat := if seqNewer b a then b else a
  let next0 := later ((persist + 32769) % 2 ^ 32) res
  let next := match keep with
    | some k => later next0 k
    | none => next0
  let at' := (newest.map (·.1)).getD 65535
  let l' : Log :=
    { l with recs := recs, next := next, fifo := [], waiting := [], persistSeq := persist, flashRecs := live.length, seqRes := res, resUnsafe := false,
             persistFault := false, erasing := false, clearPending := 0,
             page := (at' + 1) / 128 % 512, slot := (at' + 1) % 128 }
  (l'.own t eRESTART (leBytes 4 persist ++ leBytes 2 recs.length ++ leBytes 1 (flag unsafeRes 0)), flash')

/-- How far a SEQ lies before NEWEST_SEQ, modulo 2^32 (R456). -/
def Log.back (l : Log) (seq : Nat) : Nat := (l.next + 2 ^ 33 - 1 - seq % 2 ^ 32) % 2 ^ 32

/-- LOG_READ (R456): the records returned, NEXT_SEQ, whether more remain, and whether a record that fails R455 ended the reply. -/
def Log.read (l : Log) (start n : Nat) : List (List Byte) × Nat × Bool × Bool :=
  let held := if 2 ^ 31 ≤ l.back start then [] else l.recs.dropWhile (fun r => decide (l.back start < l.back r.1))
  let out := (held.take n).takeWhile (fun r => !l.bad.contains r.1)
  let more := decide (out.length < held.length)
  let race := decide (out.length < min n held.length)
  let next := match held[out.length]? with
    | some x => x.1
    | none => l.next
  (out.map (·.2), next, more, race)

/-- The status block (Table 15.6). -/
def Log.status (l : Log) (plate opsec pwr : Nat) : List Byte :=
  leBytes 8 plate ++ leBytes 4 ((l.next + 2 ^ 32 - 1) % 2 ^ 32) ++ leBytes 4 ((l.recs.head?.map (·.1)).getD l.next) ++ leBytes 4 l.persistSeq ++ leBytes 2 l.fifo.length
  ++ leBytes 2 l.peak ++ leBytes 2 (flag l.persistFault 0 + flag l.erasing 1 + flag l.recs.isEmpty 2) ++ leBytes 2 l.clearCount ++ leBytes 4 l.flashRecs
  ++ leBytes 8 opsec ++ leBytes 4 pwr ++ leBytes 4 20000 ++ zeroBytes 16

/-- The counters of Table 15.7, from device summary offset 0x600. -/
def Log.counters (l : Log) : List Byte :=
  leBytes 4 l.fifoDropped ++ leBytes 4 l.lostRecords ++ leBytes 4 l.persistTransient ++ leBytes 4 l.unpersisted ++ leBytes 2 l.persistLasting ++ leBytes 2 l.clearRefused
  ++ leBytes 4 l.readRace ++ leBytes 2 l.peak

end Sys2Proof.Machine
end

