-- ==== Sys2Proof/Machine/BootState.lean ====
section
/-! DEFINITION. State of reset, boot, images, key store, lifetime counts, power and the TAP (chapters 18 and 19). -/

namespace Sys2Proof.Machine

/-- A running image (R550): the bank it runs from, its Almanac entries (MGT, KRN, SEQ, SAF), build, digest and the minor in force. -/
structure RunImage where
  bank : Nat := 0
  almanac : List Nat := [0, 0, 0, 0]
  build : Nat := 0
  digest : List Byte := []
  common : Nat := 0
  deriving DecidableEq, Repr

/-- A live activation in progress (R542 to R546): kind 0 MGT, 1 KRN, 3 SAF; `engines` those that hold the new kernel. -/
structure Live where
  kind : Nat
  bank : Nat
  engines : List Nat := []
  back : Bool := false
  owner : Option OpenOp := none
  deriving DecidableEq, Repr

/-- The xSPI interface (R566): the level of XSPI_RESET_N, whether the flash has been switched from 1S-1S-1S to 8D-8D-8D, and whether its SFDP table has been read. -/
structure Xspi where
  resetN : Bool := false
  octal : Bool := false
  sfdp : Bool := false
  deriving DecidableEq, Repr

/-- Reset, boot and images. `bank` 0 A, 1 B, 255 in RECOVERY; `heldMs` counts RESET_N in PD_AON; `into` is the bank that a recovery activation boots (R539). -/
structure BootSt where
  cause : Nat := 1
  bootSel : Nat := 0
  xspi : Xspi := {}
  bank : Nat := 0
  into : Option Nat := none
  recovery : Bool := false
  fallback : Bool := false
  minor : Bool := false
  longMs : Nat := 0
  heldMs : Nat := 0
  fails : List Nat := [0, 0]
  images : List RunImage := [{}, {}, {}, {}]
  slotOpen : Option (Nat × Nat × Nat) := none
  live : Option Live := none
  integKey : Option (List Byte) := none
  ownerKey : Option (List Byte) := none
  pwr : Nat := 0
  opsec : Nat := 0
  wseq : Nat := 0
  seqKept : Option Nat := none
  boots : Nat := 0
  liveUpdates : Nat := 0
  flashTransient : Nat := 0
  fallbacks : Nat := 0
  longResets : Nat := 0
  rollbacks : Nat := 0
  flashLasting : Nat := 0
  deriving DecidableEq, Repr

/-- Power domains that may be off (Table 1.3), clock faults (R562) and rails. -/
structure Power where
  plant : Bool := true
  segb : Bool := true
  step : Bool := true
  trace : Bool := true
  tbLost : Bool := false
  sdLost : Bool := false
  peLost : Bool := false
  aon : Bool := true
  deriving DecidableEq, Repr

/-- The test access port (R536, R569): instruction register, boundary register, what drives the balls (0 the device, 1 the boundary register, 2 high
impedance), the last captured data register, KEY_WRITE's status and the entry being fused. -/
structure Tap where
  ir : Nat := 0x01
  boundary : Nat := 0
  drive : Nat := 0
  dr : Nat := 0
  keyStatus : Nat := 0
  keyEntry : Option (Nat × List Byte) := none
  deriving DecidableEq, Repr

end Sys2Proof.Machine
end

