-- ==== Sys2Proof/Machine/ChrState.lean ====
section
/-! DEFINITION. State of the Chronograph (chapter 14). Instants are ring counts in 2^−16 ns. -/

namespace Sys2Proof.Machine

/-- A channel descriptor (Table 14.2). -/
structure ChrChan where
  ofs : Nat
  type : Nat
  bitno : Nat
  cls : Nat
  node : Nat
  skew : Int
  deriving DecidableEq, Repr

/-- A condition descriptor (Table 14.4); level and hysteresis as raw stored values. -/
structure ChrCond where
  kind : Nat
  edge : Nat
  index : Nat
  code : Nat
  source : Nat
  level : Nat
  hyst : Nat
  target : Nat
  deriving DecidableEq, Repr

/-- A configuration (Tables 14.1, 14.2, 14.4). -/
structure ChrConf where
  reduce : Nat
  combine : Nat
  mask : Nat
  div : Nat
  phase : Nat
  interval : Nat
  ringBytes : Nat
  pre : Nat
  post : Nat
  holdoff : Nat
  autoTimeout : Nat
  window : Nat
  pair : Nat
  block : Nat
  flush : Nat
  chans : List ChrChan
  conds : List ChrCond
  deriving DecidableEq, Repr

/-- A stored frame: its bytes, the cycle of its last and first samples, its layout generation and sample count. -/
structure ChrFrame where
  bytes : List (BitVec 8)
  cycle : Nat
  first : Nat
  layout : Nat
  deriving DecidableEq, Repr

/-- The frame being built: last, least and greatest raw value of each channel; `partly` says that a sample was poisoned. -/
structure ChrBuild where
  vals : List (Nat × Nat × Nat)
  count : Nat := 0
  cycle : Nat := 0
  first : Nat := 0
  layout : Nat := 0
  trig : Bool := false
  mark : Bool := false
  layoutChg : Bool := false
  partly : Bool := false
  deriving DecidableEq, Repr

/-- A trigger (R433): Plate, instant, condition, layout, FORCED and AUTO. -/
structure ChrTrig where
  cycle : Nat
  instant : Int
  cond : Nat
  layout : Nat
  tbS : Nat := 0
  tbNs : Nat := 0
  forced : Bool := false
  auto : Bool := false
  deriving DecidableEq, Repr

/-- A capture (R434, R435): its number, slot, frames and trigger. -/
structure ChrCapture where
  num : Nat
  slot : Nat
  mode : Nat
  chans : Nat
  reduce : Nat
  frameBytes : Nat
  pre : List ChrFrame := []
  post : List ChrFrame := []
  trig : Option ChrTrig := none
  complete : Bool := false
  truncated : Bool := false
  deriving DecidableEq, Repr

/-- A happening that waits for the next sampled Plate (R432): kind 2 TCAP, 3 EVENT, 4 COMMAND. -/
structure ChrHap where
  kind : Nat
  a : Nat
  b : Nat
  instant : Int
  cycle : Nat
  deriving DecidableEq, Repr

/-- What a condition remembers (R431, R433). -/
structure ChrCondSt where
  prev : Option (Nat × Int) := none
  armRise : Bool := false
  armFall : Bool := false
  fired : Option (Nat × Int) := none
  deriving DecidableEq, Repr

/-- An entry on its way to the host in STREAM mode (R441, R442); `lost` are the frames that were dropped just before it (R443). -/
structure ChrOut where
  mark : Bool
  lost : Nat := 0
  bytes : List (BitVec 8)
  cycle : Nat
  layout : Nat
  deriving DecidableEq, Repr

/-- The Chronograph: states 0 IDLE, 1 WAIT, 2 POST, 3 HOLDOFF, 4 STREAMING. `poison` are the channels whose next sample is a poisoned word (R513).
`spare` is the frame that the latest PRE frame pushed out, which an AUTO trigger in that latest frame keeps as its oldest PRE frame; `lost` counts the frames dropped
since the last one that was stored. -/
structure Chr where
  state : Nat := 0
  mode : Nat := 0
  conf : Option ChrConf := none
  pending : Option ChrConf := none
  force : Option Int := none
  conds : List ChrCondSt := [{}, {}, {}, {}]
  seqPos : Nat := 0
  seqLast : Nat × Int := (0, 0)
  cnt : Nat := 0
  autoCnt : Nat := 0
  holdCnt : Nat := 0
  build : Option ChrBuild := none
  cur : Option ChrCapture := none
  stored : List ChrCapture := []
  last : Nat := 0
  haps : List ChrHap := []
  lastPlate : Nat := 0
  lastLayout : Nat := 0
  spare : Option ChrFrame := none
  fifo : List ChrOut := []
  poison : List Nat := []
  mark : Bool := false
  gap : Bool := false
  lost : Nat := 0
  triggers : Nat := 0
  captures : Nat := 0
  forced : Nat := 0
  overwritten : Nat := 0
  streamLost : Nat := 0
  readRace : Nat := 0
  capture : Nat := 0
  deriving DecidableEq, Repr

end Sys2Proof.Machine
end

