-- ==== Sys2Proof/Machine/PaceState.lean ====
section
/-! DEFINITION. State of the Pace Unit (chapter 8): the plan in force, the plan being built, temperatures, voltage, counters. -/

namespace Sys2Proof.Machine

/-- A pace plan (R242). `place` gives engine and slot of every servo axis, `bg` the engine of every background task by its number, `phases` the phase of every servo
and stepper axis by its TARGET; `test` is the engine that goes under test with its stand-in, `back` the engine that returns with its stand-in. -/
structure PacePlan where
  seq : Nat := 0
  cycle : Nat := 0
  roles : List Nat := List.replicate 16 0 ++ [1, 1]
  place : Tab (Nat × Nat) := []
  bg : List Nat := []
  phases : List (Nat × Nat) := []
  moved : List Nat := []
  test : Option (Nat × Option Nat) := none
  back : Option (Nat × Option Nat) := none
  shed : List Nat := []
  vdd : Nat := 780
  carries : List (Nat × Nat × Int) := []
  deriving DecidableEq, Repr

/-- The Pace Unit. `lateServed` says that the plan in work was started after the late run's trigger (R60); `firstPlan` is the cycle of the first plan (R246). -/
structure Pace where
  plan : PacePlan := {}
  building : Option Nat := none
  done : Option PacePlan := none
  trigger : Bool := false
  latePending : Bool := false
  lateServed : Bool := false
  firstPlan : Option Nat := none
  unshed : List Nat := []
  carry : List (Nat × Nat × Int) := []
  testAsk : Option Nat := none
  returnAsk : Option Nat := none
  suspects : List Nat := []
  marginLow : Bool := false
  suspended : Bool := false
  vddTarget : Nat := 780
  vddRead : Nat := 780
  vFloor : Nat := 700
  avsFault : Bool := false
  avsHold : Bool := true
  temps : List Int := List.replicate 8 0
  warned : List Bool := List.replicate 8 false
  thermN : Bool := false
  mismatchCnt : Nat := 0
  discarded : Nat := 0
  avsTransient : Nat := 0
  avsLasting : Nat := 0
  marginEntries : Nat := 0
  shedCnt : Nat := 0
  deriving DecidableEq, Repr

end Sys2Proof.Machine
end

