-- ==== Sys2Proof/Machine/RingState.lean ====
section
/-! DEFINITION. State of the Ngudra segments (chapters 9 and 10): Frame Map, slot status and Hold Store, segments, nodes, claims, the
twin image's state. Frames are byte lists from the destination address to the FCS. -/

namespace Sys2Proof.Machine

/-- A Frame Map entry (Table 9.10): kind 0 SERVO, 1 STEP, 2 PROC, 3 CORR, 4 SPARE. -/
structure MapEntry where
  input : Bool
  seg : Nat
  kind : Nat
  node : Nat
  forceCount : Bool
  ofs : Nat
  len : Nat
  target : Nat
  holdMax : Nat
  claimed : Bool := false
  deriving DecidableEq, Repr

/-- A segment descriptor (Table 9.15). -/
structure SegDesc where
  outOfs : Nat := 0
  inOfs : Nat := 0
  echoOfs : Nat := 0
  spareOfs : Nat := 0
  length : Nat := 0
  corrLength : Nat := 0
  nodes : Nat := 0
  deriving DecidableEq, Repr

/-- A position of the Frame Map's node list (R302, R323). -/
structure MapNode where
  seg : Nat
  pos : Nat
  vendor : Nat
  product : Nat
  kind : Nat
  caps : Nat
  reserved : Bool
  deriving DecidableEq, Repr

/-- A Frame Map: entries by index, segment descriptors, node list (R288, R575). -/
structure FrameMap where
  entries : Tab MapEntry := []
  descs : List SegDesc := List.replicate 8 {}
  nodes : List MapNode := []
  deriving DecidableEq, Repr

/-- The status record and the Hold Store content of an input entry (R292 to R294). -/
structure SlotStat where
  missed : Bool := false
  held : Bool := false
  invalid : Bool := false
  nodeInv : Bool := false
  age : Nat := 0
  missCnt : Nat := 0
  seen : Bool := false
  lastGood : Nat := 0
  hold : Option (List Byte) := none
  content : List Byte := []
  deriving DecidableEq, Repr

/-- A Collimation entry (R307). -/
structure Collim where
  headDelay : Nat := 0
  toDelay : Nat := 0
  dFwd : Nat := 0
  dRev : Nat := 0
  dWrap : Nat := 0
  deriving DecidableEq, Repr

/-- A node at a position (Tables 10.5, 10.9): states 0 ABSENT, 1 CONFIGURED, 2 OPERATIONAL, 3 LOST. -/
structure Node where
  state : Nat := 0
  stat : Nat := 0
  margin : Int := 0
  dev : Int := 0
  readyLow : Bool := false
  echoMissed : Bool := false
  timeUnlocked : Bool := false
  beyondBreak : Bool := false
  wrapping : Bool := false
  suspect : Bool := false
  joined : Bool := false
  head : Bool := false
  echoMissCnt : Nat := 0
  readyLowCnt : Nat := 0
  linkErrCnt : Nat := 0
  fcsFresh : Nat := 0
  okRun : Nat := 0
  missRun : Nat := 0
  marginRun : Nat := 0
  outRun : Nat := 0
  ident : List Byte := []
  col : Collim := {}
  deriving DecidableEq, Repr

/-- A mailbox exchange in progress (R287, R418). -/
structure MailReq where
  node : Nat
  seq : Nat
  cap : Nat
  sent : Bool
  tag : Nat
  pair : Nat
  deriving DecidableEq, Repr

/-- One segment (Table 10.4): states 0 DOWN, 1 LISTEN, 2 CLAIM, 3 ENUM, 4 MEASURE, 5 CONFIG, 6 SYNC, 7 RUN, 8 BROKEN, 9 REINIT,
10 FOLLOW. `queue` are acyclic frames that wait for the quiet window, `sent` those launched and not yet back; `cfgPos` is the position under CONFIG (0 while
other segments still measure; past the last one when every RESULT is 1), or a follower's own position; `devs` the forwarding devices that ENUM counted;
`claimRun` counts own claims returned in succession and `claimBack` says that one has returned at all; `retry` marks a segment whose claims never returned; `fwd` is the frame that a follower forwarded last. -/
structure Segment where
  state : Nat := 0
  upA : Bool := false
  upB : Bool := false
  linkMode : Nat := 1
  nodeWd : Nat := 4
  mapGen : Nat := 0
  tRing : Nat := 0
  tCring : Nat := 0
  silentRun : Nat := 0
  returnRun : Nat := 0
  returned : Bool := false
  accepted : Bool := false
  judged : Bool := false
  wrapPos : Nat := 0
  discardedCnt : Nat := 0
  linkTransient : Nat := 0
  linkLasting : Nat := 0
  breakCnt : Nat := 0
  joinCnt : Nat := 0
  seq : Nat := 0
  queue : List (List Byte) := []
  launched : List Byte := []
  corrLaunched : List Byte := []
  sent : List (List Byte) := []
  testDue : Bool := false
  reinitLeft : Option Nat := none
  reinit : Bool := false
  claimRun : Nat := 0
  claimBack : Bool := false
  cfgPos : Nat := 0
  cfgTries : Nat := 0
  pairs : Nat := 0
  losses : Nat := 0
  measId : Nat := 0
  rtSum : Int := 0
  t0Sum : Int := 0
  fSums : List (Int × Int) := []
  lastMeas : Option (Int × Nat) := none
  nodes : Tab Node := []
  mail : Option MailReq := none
  mailNext : Option MailReq := none
  devs : Nat := 0
  retry : Bool := false
  fwd : List Byte := []
  soMiss : Nat := 0
  joinIdent : Option (Nat × List Byte) := none
  joinCause : Nat := 0
  firstCycle : Nat := 0
  deriving DecidableEq, Repr

/-- The ring heads of the device (`freshLead`: the next Plate is the first since the takeover): role 0 none, 1 listening, 2 claiming, 3 leader, 4 passive follower, 5 standby. Twin states 0 OFF,
1 FILLING, 2 VERIFYING, 3 READY. -/
structure Ring where
  segs : List Segment := List.replicate 8 {}
  map : FrameMap := {}
  mapPending : Option FrameMap := none
  stats : Tab SlotStat := []
  slots : Tab (List Byte) := []
  corrs : Tab Int := []
  role : Nat := 0
  claimRound : Nat := 0
  lowerKey : Bool := false
  serial : Nat := 0
  highCycle : Nat := 0
  standbyPresent : Bool := false
  takeoverLeft : Nat := 0
  twin : Nat := 0
  imageGen : Nat := 0
  refOfs : Nat := 0
  refDone : Bool := false
  digestNext : Nat := 0
  digestOk : List Nat := []
  twinMiss : Nat := 0
  twinMissCnt : Nat := 0
  twinSeen : Bool := false
  silent : Nat := 0
  aliveSeen : Bool := false
  frameSeen : Bool := false
  takeoverCnt : Nat := 0
  tookOver : Bool := false
  freshLead : Bool := false
  leaderCycle : Nat := 0
  deposed : Bool := false
  aliveSent : Tab (List Byte) := []
  deriving DecidableEq, Repr

/-- Segment `i`. -/
def Ring.seg (r : Ring) (i : Nat) : Segment := r.segs.getD i {}

/-- Segment `i` changed. -/
def Ring.onSeg (r : Ring) (i : Nat) (f : Segment → Segment) : Ring := { r with segs := r.segs.modify i f }

/-- Node at a position of a segment. -/
def Segment.node (s : Segment) (p : Nat) : Node := Tab.getD s.nodes p {}

/-- Node at a position changed. -/
def Segment.onNode (s : Segment) (p : Nat) (f : Node → Node) : Segment := { s with nodes := Tab.set s.nodes p (f (s.node p)) }

/-- The descriptor of a segment. -/
def FrameMap.desc (m : FrameMap) (i : Nat) : SegDesc := m.descs.getD i {}

/-- A segment is configured when its descriptor is not zeros (R575). -/
def FrameMap.configured (m : FrameMap) (i : Nat) : Bool := (m.desc i).length ≠ 0

end Sys2Proof.Machine
end

