-- ==== Sys2Proof/Machine/SiState.lean ====
section
/-! DEFINITION. State of the Safety Island (chapter 16): configuration, inputs, functions, outputs and connections. -/

namespace Sys2Proof.Machine

/-- A pair entry (Table 16.10). -/
structure SiPair where
  contact : Nat := 0
  tpA : Nat := 255
  tpB : Nat := 255
  filter : Nat := 0
  disc : Nat := 0
  deriving DecidableEq, Repr

/-- A function entry (Table 16.11): types 1 ESTOP, 2 GUARD, 3 TWO_HAND, 4 OSSD, 5 RESET. -/
structure SiFunc where
  type : Nat
  mode : Nat
  src : Nat
  src2 : Nat
  resetPair : Nat
  action : Nat
  groups : Nat
  slsDelay : Nat
  deriving DecidableEq, Repr

/-- A connection entry (Table 16.12). -/
structure SiConn where
  id : Nat
  seg : Nat
  pos : Nat
  node : Nat
  fbOuts : Nat
  wd : Nat
  stoFb : Nat
  deriving DecidableEq, Repr

/-- A channel mapping (Table 16.13). -/
structure SiMap where
  conn : Nat
  chan : Nat
  kind : Nat
  axis : Nat
  groups : Nat
  limVel : Int
  deriving DecidableEq, Repr

/-- A safety configuration (R489): its block's bytes and CRC with the fields read from it. -/
structure SiConf where
  bytes : List Byte := []
  crc : Nat := 0
  ver : Nat := 0
  tpPeriod : Nat := 10
  outTest : Nat := 0
  outGroups : List Nat := [0, 0, 0, 0]
  pairs : List SiPair := []
  funcs : List SiFunc := []
  conns : List SiConn := []
  maps : List SiMap := []
  deriving DecidableEq, Repr

/-- A function's state (Table 16.4): 0 PERMIT, 1 DEMAND, 2 AWAIT_RESET, 3 PAIR_FAULT; for TWO_HAND whether both buttons were released and whether the
second came late. -/
structure FuncSt where
  state : Nat := 1
  released : Bool := false
  late : Bool := false
  deriving DecidableEq, Repr

/-- A connection's state (Table 16.7): 0 IDLE, 1 STARTING, 2 ACTIVE, 3 FAILED. `tx` is the latest message written, `launched` the last one launched,
`rx` the last one accepted; `sls` the channels latched off (R485). -/
structure ConnSt where
  state : Nat := 0
  txSeq : Nat := 0
  tx : List Byte := []
  launched : List Byte := []
  rx : List Byte := []
  rxSeq : Nat := 0
  based : Bool := false
  siData : Nat := 0
  soData : Nat := 0
  crcErr : Nat := 0
  seqErr : Nat := 0
  timeout : Nat := 0
  sls : Nat := 0
  deriving DecidableEq, Repr

/-- The Safety Island: states 0 NOCONFIG, 1 SAFE, 2 RUN, 3 FAULT. Levels, outputs and stop groups are bit masks. `posted` is what the SI last posted to
the control plane: TQ_EN and SLS_REQ of every connection; `low` are the channels whose TQ_EN has been 0 since the last Meridian. `last` is the configuration that a reset of the SI ended: its channels
stay without torque until another one is loaded (log 17). `standby` says that the device stands by, so that SAFE_OUT stays de-energised (R493). -/
structure Si where
  state : Nat := 0
  cause : Nat := 0
  held : Bool := false
  conf : Option SiConf := none
  last : Option SiConf := none
  pending : Option SiConf := none
  level : Nat := 0
  pairFault : List Nat := []
  funcs : List FuncSt := []
  conns : Tab ConnSt := []
  outs : Nat := 0
  fb : Nat := 0
  outLatch : Nat := 0
  segBlocked : List Nat := []
  loopRun : List Nat := List.replicate 8 0
  wdExpired : Bool := false
  written : Bool := false
  calm : Nat := 0
  posted : Tab (Nat × Nat) := []
  low : Tab Nat := []
  copy : Nat := 0
  standby : Bool := false
  restarting : Bool := false
  ecc : Nat := 0
  demands : Nat := 0
  loopMismatch : Nat := 0
  resets : Nat := 0
  pairFaultCnt : Nat := 0
  stoFbCnt : Nat := 0
  slsCnt : Nat := 0
  deriving DecidableEq, Repr

end Sys2Proof.Machine
end

