-- ==== Sys2Proof/Machine/TruState.lean ====
section
/-! DEFINITION. State of the Test and Repair Unit (chapter 17). -/

namespace Sys2Proof.Machine

/-- A logic test in progress (R501 to R503): `begun` is clear while an engine's hand-over is awaited. -/
structure LogicTest where
  block : Nat
  seed : Nat
  start : Nat
  begun : Bool := true
  progress : Nat := 0
  misr : Nat := 0
  owner : Option OpenOp := none
  deriving DecidableEq, Repr

/-- A memory test in progress (R505): the pool's block, the bank under test, banks done and still to do, repairs made. -/
structure MemTest where
  block : Nat
  bank : Nat
  left : List Nat := []
  start : Nat
  doneBanks : Nat := 0
  repairs : Nat := 0
  verdict : Nat := 0
  owner : Option OpenOp := none
  deriving DecidableEq, Repr

/-- A repair (R509, R511): bank, kind (0 row, 1 column), spare and address. -/
structure Repair where
  bank : Nat
  kind : Nat
  spare : Nat
  addr : Nat
  deriving DecidableEq, Repr

/-- The Test and Repair Unit. `sched` is the schedule block of Table 17.5; `stops` are the causes of Table 17.2 that have
taken effect while a test runs, with whether it is the memory test. `asked` are the rows, by bank and row, at which ECC saw a lasting fault and whose bank is to be tested
first (R509). -/
structure Tru where
  logic : Option LogicTest := none
  mem : Option MemTest := none
  stops : List (Nat × Bool) := []
  seeds : Tab Nat := []
  results : List (List Byte) := []
  sched : List Byte := [0x0F, 0, 0, 0] ++ leBytes 4 200 ++ leBytes 4 10 ++ leBytes 4 5 ++ leBytes 4 8 ++ leBytes 4 600 ++ leBytes 4 300 ++ leBytes 4 0
  nextLe : Nat := 0
  nextOther : Nat := 0
  nextBank : Nat := 0
  nextRouter : Nat := 0
  wanted : List Nat := []
  suspect : Bool := false
  degraded : List Nat := []
  redirected : List Nat := []
  failedBanks : List Nat := []
  critical : Bool := false
  fencedLinks : List Nat := []
  fencedEngines : List Nat := []
  fuseFenced : List Nat := []
  removedCores : List Nat := []
  passed : List Nat := []
  reload : List Nat := []
  soft : List Repair := []
  fused : List Repair := []
  asked : List (Nat × Nat) := []
  poisoned : List Nat := []
  scrubAddr : Nat := 0
  partialMisr : Nat := 0
  lastProgress : Nat := 0
  fabricTransient : Nat := 0
  fabricLasting : Nat := 0
  runs : Nat := 0
  transient : Nat := 0
  incomplete : Nat := 0
  eccCorrected : Nat := 0
  waits : Nat := 0
  scrubPasses : Nat := 0
  fails : Nat := 0
  eccLasting : Nat := 0
  eccUncorrectable : Nat := 0
  waitMax : Nat := 0
  deriving DecidableEq, Repr

end Sys2Proof.Machine
end

