-- ==== Sys2Proof/Machine/State.lean ====
section
/-! DEFINITION. The whole state: the queue of waiting commands, and the device. Each part of the device is declared beside the chapter that gives it;
here are the control plane's own registers, the state after reset, and the reasons a step can stop. -/

namespace Sys2Proof.Machine

open Sys2Proof

/-- The control plane's own state (chapters 1 and 2). `prm` are the DEVICE parameters in force and `stored` those that wait for a ring start; `cycle` is
the cycle in progress and `first` says that the next Meridian is the first of its numbering; `spCycle` the last cycle in which the Orreries advanced; `sealed` says that D_N has passed, `published` is the cycle of the latest
Plate and `latest` its buffer; `free` counts the free values taken (the model's own field, log 5). -/
structure Ctl where
  prm : Params := []
  stored : Params := []
  running : Bool := false
  first : Bool := false
  cycle : Nat := 0
  gate : Bool := false
  spCycle : Nat := 0
  gathered : Bool := false
  corrPacked : Bool := false
  corrLaunched : Bool := false
  sealed : Bool := false
  published : Nat := 0
  latest : Nat := 0
  layoutGen : Nat := 0
  layoutChg : Bool := false
  batches : Nat := 0
  commands : Nat := 0
  missed : Nat := 0
  dropped : Bool := false
  tapply : Nat := 0
  preCleared : List (Nat × Nat) := []
  prmBefore : Params := []
  free : Nat := 0
  deriving DecidableEq, Repr

/-- What queries answer from (R404): the parts of the device as they stood at the seal of the latest Plate. -/
structure Snap where
  ctl : Ctl := {}
  motion : Motion := {}
  engines : List Engine := []
  pace : Pace := {}
  ring : Ring := {}
  tu : Tu := {}
  host : Hif := {}
  chr : Chr := {}
  log : Log := {}
  si : Si := {}
  tru : Tru := {}
  boot : BootSt := {}
  flash : Memory := []
  deriving DecidableEq, Repr

/-- The device: everything but the queue of waiting commands. The Plate buffers, the process image, the flash and what the device wrote into host memory
are byte memories. -/
structure Dev where
  ctl : Ctl := {}
  motion : Motion := {}
  engines : List Engine := List.replicate 18 {}
  pace : Pace := {}
  ring : Ring := {}
  tu : Tu := {}
  host : Hif := {}
  chr : Chr := {}
  router : Router := {}
  log : Log := {}
  si : Si := {}
  tru : Tru := {}
  boot : BootSt := {}
  power : Power := {}
  tap : Tap := {}
  plates : List Memory := List.replicate 4 []
  image : Memory := []
  flash : Memory := []
  hostMem : Memory := []
  snap : Snap := {}
  deriving DecidableEq, Repr

/-- The machine: the commands that wait, first in first out, and the device. -/
structure State where
  pending : List Instr := []
  dev : Dev := {}
  deriving DecidableEq, Repr

/-- No command of this block stops the machine with a fault: what the spec calls a fault is a state of the device (log 1). -/
inductive Fault where
  deriving DecidableEq, Repr

/-- Why a step refuses a command. -/
inductive Refusal where
  /-- The dispatcher raises it for a command that has no meaning in this model yet; safe: the run stops. -/
  | notModelled (mnemonic : String)
  deriving DecidableEq, Repr

/-- The machine right after a power-on reset, before boot: every field at the value its rule states, or at the value the log names (log 2). -/
def State.reset : State := {}

end Sys2Proof.Machine
end

