-- ==== Sys2Proof/Machine/Time.lean ====
section
/-! DEFINITION. The Time Unit (chapter 11): counting, stamps, discipline, PTP, timed outputs, capture inputs and the time status block. -/

namespace Sys2Proof.Machine

/-! ## Ring count and time base -/

/-- The ring count in quarter nanoseconds. -/
def Tu.now (t : Tu) : Int := ((t.rc * 4 / 65536 : Nat) : Int)

/-- The ring count in whole nanoseconds (R335). -/
def Tu.rcNs (t : Tu) : Nat := t.rc / 65536

/-- The TB of a ring-count instant in quarter nanoseconds, in 2^−16 ns (R336). -/
def Tu.tbOf (t : Tu) (q : Int) : Int := q * 16384 + t.ofs

/-- RATE_MAX as a fraction. -/
def Tu.rateMax (t : Tu) : Rat := (Params.val t.prm pRATE_MAX : Rat) / 1000000

/-- RATE_TRIM as a fraction (2^−8 ppb). -/
def Tu.trim (t : Tu) : Rat := (Params.val t.prm pRATE_TRIM : Rat) / 256000000000

/-- A binary32 parameter of the Time Unit. -/
def Tu.f32 (t : Tu) (id : Nat) : Rat := f32ToRat (Params.nat t.prm id)

/-- RATE moves towards its target by at most RATE_SLEW_MAX for `dt` seconds (R337). -/
def Tu.slew (t : Tu) (dt : Rat) : Tu :=
  let lim := t.f32 pRATE_SLEW_MAX / 1000000 * dt
  let want := clampR (-t.rateMax) t.rateMax t.target
  let r := clampR (t.rate - lim) (t.rate + lim) want
  { t with rate := r, slewing := decide (r ≠ want) }

/-- The error of the internal oscillator, at most 2 % (R562): a free value at each period (log 5). -/
def oscError (k : Nat) : Rat := (((Config.freeNat k % 40001 : Nat) : Rat) - 20000) / 1000000

/-- One period of TB_REFCLK, or of what stands in for it (R562): RC and TB advance by 40 ns × (1 + RATE) (R337); without VDD_AON nothing counts. -/
def Tu.tick (t : Tu) : Tu :=
  if t.halted then t else
    let x := t.rcRem + (40 * 65536 : Rat) * (1 + t.rate) * (1 + if t.internal then oscError t.rc else 0)
    let k := x.floor.toNat
    Tu.slew { t with rc := (t.rc + k) % 2 ^ 80, rcRem := x - (k : Rat) } (1 / 25000000)

/-- RC reaches the instant `ns` that a commanded event names, if it has not (log 3); RATE slews for the time that passed. -/
def Tu.reach (t : Tu) (ns : Nat) : Tu :=
  if t.rc < ns * 65536 then
    Tu.slew { t with rc := ns * 65536, rcRem := 0 } (((ns * 65536 - t.rc : Nat) : Rat) / 65536000000000)
  else t

/-- RC reaches the instant `q` in quarter nanoseconds. -/
def Tu.reachQ (t : Tu) (q : Int) : Tu := t.reach ((q + 3) / 4).toNat

/-- RC(M_N) (R338). -/
def Tu.meridian (t : Tu) (tcyc n : Nat) : Nat := t.merRC0 + (n - t.merN0) * tcyc

/-- The extension of a `b`-bit value against a reference (R341). -/
def extend (b : Nat) (x ref : Int) : Int :=
  let d := (x - ref % 2 ^ b) % 2 ^ b
  ref + (if 2 ^ (b - 1) ≤ d then d - 2 ^ b else d)

/-- OFS_S (R336). -/
def Tu.ofsS (t : Tu) : Int := t.ofs / 65536000000000

/-- OFS_NS (R336). -/
def Tu.ofsNs (t : Tu) : Nat := (t.ofs % 65536000000000 / 65536).toNat

/-- TB seconds and nanoseconds of an instant in quarter ns (R336: 48-bit seconds, truncated to the nanosecond). -/
def Tu.stamp (t : Tu) (q : Int) : Nat × Nat :=
  let x := t.tbOf q / 65536
  ((x / 1000000000 % 2 ^ 48).toNat, (x % 1000000000).toNat)

/-- The stamp as 12 bytes: seconds u64 [47:0], nanoseconds u32. -/
def Tu.stampBytes (t : Tu) (q : Int) : List Byte :=
  let s := t.stamp q
  leBytes 8 s.1 ++ leBytes 4 s.2

/-! ## Timed outputs -/

/-- TOUT_START as TB quarter nanoseconds: seconds u64, ns u32, quarters u8. -/
def Tout.startQ (o : Tout) : Int :=
  let x := Params.nat o.prm pTOUT_START
  (((x % 2 ^ 48 * 1000000000 + x / 2 ^ 64 % 2 ^ 32) * 4 + x / 2 ^ 96 : Nat) : Int)

/-- The ring-count instant of TB time `q`, moved ahead by TOUT_LEAD, in quarter nanoseconds (R351). -/
def Tu.edgeAt (t : Tu) (o : Tout) (q : Int) : Int :=
  q - t.ofs / 16384 - rndHE ((Params.val o.prm pTOUT_LEAD : Rat) / 250)

/-- The PERIODIC edge of index `k`. -/
def Tu.periodic (t : Tu) (o : Tout) (k : Int) : TEdge :=
  { time := t.edgeAt o (o.startQ + k * Params.val o.prm pTOUT_PERIOD), k := k }

/-- The first k ≥ `lo` for which `e0` and k periods lie after `q`. -/
def Tout.periodicAfter (o : Tout) (e0 lo q : Int) : Int :=
  let p := Params.val o.prm pTOUT_PERIOD
  if p ≤ 0 then lo else max lo ((q - e0) / p + 1)

/-- The pattern starts at Meridian M (R350, R351): the pending edge is dropped and the new pattern armed 1 µs after the Meridian; a pulse in progress
ends at its own width, and without one only LEVEL keeps the level until A_M. `mq` is RC(M) and `aq` the apply instant of M, in quarter nanoseconds. -/
def Tu.arm (t : Tu) (mq aq : Int) (o : Tout) : Tout :=
  let mode := Params.nat o.prm pTOUT_MODE
  let o := { o with mode := mode, edges := [], lastK := none, active := o.active && (mode = 1 || o.pulseEnd.isSome) }
  let armAt := mq + 4000
  match o.mode with
  | 1 => { o with edges := [{ time := aq, level := some (Params.nat o.prm pTOUT_LEVEL = 1) }] }
  | 2 =>
    let e := t.edgeAt o o.startQ
    { o with edges := [if e < armAt then { time := armAt, late := true } else { time := e }] }
  | 3 =>
    let e := t.periodic o 0
    { o with edges := [if e.time < armAt then { time := armAt, late := true, k := o.periodicAfter e.time 1 armAt - 1 } else e] }
  | _ => o

/-- After a step of TB at Meridian M (R351): a SINGLE edge whose TB time now lies before M + 1 µs leaves at once; a PERIODIC pattern
resumes at its first k whose TB time lies after M + 1 µs. -/
def Tu.rearm (t : Tu) (mq : Int) (o : Tout) : Tout :=
  let armAt := mq + 4000
  let start := o.startQ - t.ofs / 16384
  match o.mode with
  | 2 =>
    if o.edges.isEmpty then o else
      { o with edges := [if start < armAt then { time := armAt, late := true } else { time := t.edgeAt o o.startQ }] }
  | 3 => { o with edges := [t.periodic o (o.periodicAfter start 0 armAt)] }
  | _ => o

/-- Output `i` reaches its next planned edge (R350 to R352). -/
def Tu.edge (t : Tu) (i : Nat) : Tu × List Ev :=
  let o := t.touts.getD i {}
  match o.edges with
  | [] => (t, [])
  | e :: rest =>
    let t := t.reachQ e.time
    let o :=
      match e.level with
      | some b => if o.pulseEnd.isSome then { o with edges := rest } else { o with edges := rest, active := b }
      | none =>
        let merged := o.mode = 4 && o.pulseEnd.isSome
        let o := { o with edges := rest, active := true, lastK := some e.k,
                          pulseEnd := some (e.time + 4 * Params.val o.prm pTOUT_WIDTH),
                          mergeCnt := if merged then incSat 32 o.mergeCnt else o.mergeCnt,
                          lateCnt := if e.late then incSat 32 o.lateCnt else o.lateCnt }
        if o.mode = 3 then { o with edges := [t.periodic o (e.k + 1)] } else o
    ({ t with touts := t.touts.set i o }, if e.late then [evC (srcTout i) eTOUT_LATE] else [])

/-- Output `i` reaches the end of its pulse (R350). -/
def Tu.pulseEnd (t : Tu) (i : Nat) : Tu :=
  let o := t.touts.getD i {}
  match o.pulseEnd with
  | none => t
  | some q =>
    let level := o.mode = 1 && Params.nat o.prm pTOUT_LEVEL = 1 && o.edges.isEmpty
    { t.reachQ q with touts := t.touts.set i { o with active := level, pulseEnd := none } }

/-- The least number of `lo … hi` that satisfies a monotone test, by halving. -/
def bisect : Nat → (Nat → Bool) → Nat → Nat → Nat
  | 0, _, lo, _ => lo
  | f + 1, p, lo, hi =>
    if hi ≤ lo then lo else
      let m := (lo + hi) / 2
      if p m then bisect f p lo m else bisect f p (m + 1) hi

/-- The Orrery's angle `q` quarter nanoseconds after A_N (R352), in turns. -/
def orrTheta (th om al j : Rat) (q : Nat) : Rat :=
  let u : Rat := (q : Rat) / 4000000000
  th + om * u + al * u * u / 2 + j * u * u * u / 6

/-- The ORRERY edges that fall from A_(N+1) to A_(N+2) are placed (R352); `aq` is A_N in quarter ns and `tq` the cycle. -/
def Tout.place (o : Tout) (th om al j : Rat) (aq : Int) (tq : Nat) : Tout :=
  if o.mode ≠ 4 || om ≤ 0 then o else
    let ang := fix 32 (Params.val o.prm pTOUT_ANGLE)
    let per := fix 32 (Params.val o.prm pTOUT_APERIOD)
    let f := orrTheta th om al j
    let k0 : Int := -((-((f tq - ang) / per)).floor)
    let k1 : Int := -((-((f (2 * tq) - ang) / per)).floor)
    let last : Int := (o.edges.map (·.k)).foldl max (o.lastK.getD (k0 - 1))
    let lo := max k0 (last + 1)
    let n := (k1 - lo).toNat
    let es := (List.range (min n 8)).map (fun (i : Nat) =>
      let k := lo + (i : Int)
      ({ time := aq + bisect 40 (fun q => decide (ang + per * (k : Rat) ≤ f q)) tq (2 * tq), k := k } : TEdge))
    { o with edges := o.edges ++ es, dropCnt := addSat 32 o.dropCnt (n - 8) }

/-! ## Capture inputs -/

/-- The capture entry of Table 11.5. -/
def Tu.capEntry (t : Tu) (i : Nat) (q : Int) (falling : Bool) (cycle : Nat) (c : Tcap) : List Byte :=
  t.stampBytes q ++ leBytes 4 ((q % 4).toNat + flag falling 2 + flag c.ovfPend 3 + flag c.steppedPend 4 + i % 16 * 256 + cycle % 65536 * 65536)

/-- Input `i` detects an edge at `q` (quarter ns); the new level then held for `held` ns (R353 to R355). -/
def Tu.capture (t : Tu) (i : Nat) (q : Int) (falling : Bool) (held cycle : Nat) : Tu :=
  let c := { t.tcaps.getD i {} with level := !falling }
  let sel := Params.nat c.prm pCAP_EDGE
  let wanted := sel = 2 || (sel = 1 && falling) || (sel = 0 && !falling)
  let close := match c.last with
    | some l => decide (q - l < 32)
    | none => false
  let c :=
    if c.skip = some falling then { c with skip := none, last := some q }
    else if close then { c with dense := incSat 32 c.dense, skip := some (!falling), last := some q }
    else
      let c := { c with last := some q, skip := none }
      if !wanted || held < Params.nat c.prm pCAP_FILTER then c else
        let c := { c with waiting := c.waiting ++ [(q, falling)] }
        if Params.nat c.prm pCAP_HOST ≠ 1 then c
        else if c.fifo.length < 256 then
          { c with fifo := c.fifo ++ [t.capEntry i q falling cycle c], ovfPend := false, steppedPend := false }
        else { c with ovfPend := true, overflow := incSat 16 c.overflow }
  { t with tcaps := t.tcaps.set i c }

/-- Delivery to the consumers at a Gather that starts at `g` (quarter ns): stamps at least 500 ns old, at most 16 (R354). -/
def Tcap.deliver (g : Int) (c : Tcap) : Tcap :=
  let due := c.waiting.filter (fun e => decide (e.1 + 2000 ≤ g))
  { c with delivered := due.take 16, waiting := c.waiting.filter (fun e => !decide (e.1 + 2000 ≤ g)), intDrop := addSat 32 c.intDrop (due.length - 16) }

/-- The capture-read command removes the `n` oldest entries of input `i` (R355). -/
def Tu.captureRead (t : Tu) (i n : Nat) : Tu × List (List Byte) :=
  let c := t.tcaps.getD i {}
  ({ t with tcaps := t.tcaps.set i { c with fifo := c.fifo.drop n } }, c.fifo.take n)

/-! ## Discipline -/

/-- The discipline becomes FREE: RATE ramps to RATE_TRIM (Table 11.1). -/
def Tu.goFree (t : Tu) : Tu := { t with state := 0, target := t.trim, inRun := 0, outRun := 0 }

/-- The PI servo of R342 on an offset in picoseconds; Σo is frozen while RATE is limited (log 22). -/
def Tu.servo (t : Tu) (o : Int) : Tu :=
  let os : Rat := (o : Rat) / 1000000000000
  let out (s : Rat) : Rat := t.trim - t.f32 pSERVO_KP * os - t.f32 pSERVO_KI * s
  let s' := t.sum + os
  let lim := decide (t.rateMax < absR (out s'))
  let s := if lim then t.sum else s'
  let r := clampR (-t.rateMax) t.rateMax (out s)
  { t with sum := s, target := r, rates := (t.rates ++ [r]).drop (t.rates.length - 15) }

/-- An offset update of a valid source (R343, Table 11.1). -/
def Tu.offset (t : Tu) (o : Int) : Tu × List Ev :=
  let t := { t with lastOffset := o }
  let mag := if o < 0 then -o else o
  let big := decide (1000 * Params.val t.prm pTB_STEP_LIMIT < mag)
  let inBand := decide (mag ≤ 1000 * Params.val t.prm pLOCK_BAND)
  match t.state with
  | 1 =>
    if big then ({ t with servoStep := some (-o), sum := 0, inRun := 0 }, [])
    else
      let t := t.servo o
      let run := if inBand then t.inRun + 1 else 0
      if 16 ≤ run then ({ t with state := 2, inRun := 0, outRun := 0 }, [evC srcTu eTIME_LOCKED]) else ({ t with inRun := run }, [])
  | 2 =>
    let t := t.servo o
    let run := if big then t.outRun + 1 else 0
    if 3 ≤ run then ({ t with state := 1, outRun := 0, inRun := 0, servoStep := some (-o) }, [evC srcTu eTIME_UNLOCKED])
    else ({ t with outRun := run }, [])
  | 3 => (Tu.servo { t with state := 1, sum := 0, inRun := if inBand then 1 else 0 } o, [])
  | _ => (t, [])

/-- The source is lost (R343, Table 11.1). -/
def Tu.lost (t : Tu) : Tu × List Ev :=
  match t.state with
  | 2 =>
    let m := if t.rates.isEmpty then t.rate else (t.rates.foldl (· + ·) 0) / (t.rates.length : Rat)
    ({ t with state := 3, target := m, inRun := 0, outRun := 0 }, [evC srcTu eTIME_HOLDOVER])
  | 1 => (t.goFree, [evC srcTu eTIME_FREE])
  | _ => (t, [])

/-- HOLDOVER_TIME passes in HOLDOVER (Table 11.1). -/
def Tu.holdoverEnd (t : Tu) : Tu × List Ev := if t.state = 3 then (t.goFree, [evC srcTu eTIME_FREE]) else (t, [])

/-- TB_SOURCE or RATE_TRIM takes effect (R342, Table 11.1); `named` says that TB_SOURCE is among the parameters, which leads from FREE to ACQUIRE whatever it was before. -/
def Tu.sourceEffect (t : Tu) (named : Bool) : Tu :=
  let s := Params.nat t.prm pTB_SOURCE
  if s = 0 then { (if t.source = 0 && t.state = 0 then { t with target := t.trim } else t.goFree) with source := 0 }
  else if t.state = 0 then
    if named then { t with source := s, state := 1, sum := 0, inRun := 0, outRun := 0, ppsLocked := false } else { t with target := t.trim }
  else if s = t.source then t
  else { t with source := s, ppsLocked := false }

/-- One step of TB_OFFSET by `amount` (2^−16 ns), with its event (R344). -/
def Tu.stepBy (t : Tu) (cycle : Nat) (amount : Int) : Tu × List Ev :=
  ({ t with ofs := t.ofs + amount, steps := incSat 16 t.steps, tcaps := t.tcaps.map (fun c => { c with steppedPend := true }) },
   [evC srcTu eTIME_STEPPED (leBytes 8 cycle ++ leBytes 8 (lowBits 64 (amount / 65536)))])

/-- The host's times that take effect at Meridian M, in order (R344): TB at M becomes the value given. -/
def Tu.applyHost (cycle : Nat) (mq : Int) : List Int → Tu → Tu × List Ev
  | [], t => (t, [])
  | x :: xs, t =>
    let r := t.stepBy cycle (x - t.tbOf mq)
    let r2 := Tu.applyHost cycle mq xs r.1
    (r2.1, r.2 ++ r2.2)

/-- The steps of Meridian M: host times first, then the servo's (R344), with the outputs and PPS re-armed (R351, R356). -/
def Tu.applySteps (t : Tu) (cycle : Nat) (mq : Int) : Tu × List Ev :=
  let h := Tu.applyHost cycle mq t.hostSet { t with hostSet := [] }
  let s := match t.servoStep with
    | some o =>
      let r := Tu.stepBy { h.1 with servoStep := none } cycle (rndHE ((o : Rat) * 65536 / 1000))
      (r.1, h.2 ++ r.2)
    | none => h
  if s.2.isEmpty then s else
    let t := s.1
    ({ t with touts := t.touts.map (t.rearm mq), ppsAfter := max t.ppsFall (mq + 4000) }, s.2)

/-! ## Pulse per second -/

/-- The next rise of TB_PPS_OUT: the first whole second of TB after the last pulse and any step (R356). -/
def Tu.ppsNext (t : Tu) : Int :=
  let after := max t.ppsAfter (max t.ppsFall t.now)
  let sec := t.tbOf after / 65536000000000 + 1
  (sec * 65536000000000 - t.ofs + 16383) / 16384

/-- TB_PPS_OUT makes its next pulse (R356). -/
def Tu.ppsOut (t : Tu) : Tu :=
  let q := t.ppsNext
  { t.reachQ q with ppsRise := some q, ppsFall := q + 4 * Params.val t.prm pPPS_WIDTH }

/-- The level of TB_PPS_OUT. -/
def Tu.ppsLevel (t : Tu) : Bool :=
  match t.ppsRise with
  | some q => decide (q ≤ t.now ∧ t.now < t.ppsFall)
  | none => false

/-- An edge on TB_PPS_IN stamped at `q` (R342, R356). -/
def Tu.ppsIn (t : Tu) (q : Int) (falling : Bool) : Tu × List Ev :=
  if falling ≠ decide (Params.nat t.prm pPPS_IN_EDGE = 1) then (t, []) else
    let t := { t with ppsPresent := true }
    let ps : Int := t.tbOf q * 1000 / 65536 - Params.val t.prm pPPS_IN_DELAY
    let o := wrapMod 1000000000000 ps
    if t.ppsLocked && decide (100000000 < (if o < 0 then -o else o)) then ({ t with ppsReject := incSat 32 t.ppsReject }, [])
    else if t.source ≠ 2 then (t, [])
    else
      let r := t.offset o
      ({ r.1 with ppsLocked := r.1.ppsLocked || decide (r.1.state = 2) }, r.2)

/-! ## PTP (R345 to R347; what IEEE 1588-2019 alone states is PRESUMED, log 19) -/

/-- The port is in use under PTP_ROLE (Table 11.2). -/
def Tu.portUsed (t : Tu) (i : Nat) : Bool := i = 0 || Params.nat t.prm pPTP_ROLE = 2

/-- The plant port restarts (Table 11.6): its data sets and its state begin again. -/
def Tu.restartPort (t : Tu) (i : Nat) (p : PlantPort) : PlantPort :=
  { p with state := if !t.portUsed i then 0 else if Params.nat t.prm pPTP_ROLE = 3 then 6 else 4, best := none, syncT1 := none, reqT3 := none,
           meanPath := none, answers := [], lastSent := none }

/-- The clockClass that the device announces as grandmaster (R347). -/
def Tu.ownClass (t : Tu) : Nat :=
  if t.state = 2 && t.source = 2 then 6 else if t.state = 3 then 7 else Params.nat t.prm pPTP_CLASS_FREE

/-- The order of clock data sets: lower wins. -/
def ptpKey (p1 cls acc var p2 gm steps : Nat) : List Nat := [p1, cls, acc, var, p2, gm, steps]

/-- Lexicographic order of keys. -/
def ptpLess : List Nat → List Nat → Bool
  | a :: as, b :: bs => if a < b then true else if b < a then false else ptpLess as bs
  | _, _ => false

/-- The key of an Announce. -/
def PtpMsg.key (m : PtpMsg) : List Nat := ptpKey m.prio1 m.cls m.accuracy m.variance m.prio2 m.gm m.steps

/-- The key of the device's own clock. -/
def Tu.ownKey (t : Tu) : List Nat :=
  ptpKey (Params.nat t.prm pPTP_PRIO1) t.ownClass 0xFE 0xFFFF (Params.nat t.prm pPTP_PRIO2) Config.clockIdentity 0

/-- The port follows a master: portState UNCALIBRATED or SLAVE. -/
def PlantPort.follows (p : PlantPort) : Bool := p.state = 8 || p.state = 9

/-- The Announce of the selected master. -/
def Tu.master (t : Tu) : Option PtpMsg := (t.ports.find? (fun p => p.follows)).bind (fun p => p.best)

/-- The state that the BMCA gives port `i` (R345, R347): MASTER where the own clock is better, or where the other port hears a better master of another grandmaster; PASSIVE
where that master has the same grandmaster. -/
def Tu.portState (t : Tu) (i : Nat) : Nat :=
  let role := Params.nat t.prm pPTP_ROLE
  let p := t.ports.getD i {}
  if !t.portUsed i then 0
  else if role = 3 then 6
  else match p.best with
    | none => if role = 0 then 4 else 6
    | some m =>
      let rival := match (t.ports.getD (1 - i) {}).best with
        | some x => if role = 2 && ptpLess (x.key ++ [x.source, 1 - i]) (m.key ++ [m.source, i]) then some x else none
        | none => none
      if role ≠ 0 && ptpLess t.ownKey m.key then 6
      else match rival with
        | some x => if x.gm = m.gm then 7 else 6
        | none => if p.state = 9 then 9 else 8

/-- The BMCA decides the state of port `i`, and with it that of a boundary clock's other port where that hears a master (R345, R347). -/
def Tu.bmca (t : Tu) (i : Nat) : Tu :=
  let decide1 (k : Nat) (u : Tu) : Tu := { u with ports := u.ports.modify k (fun p => { p with state := t.portState k }) }
  let both := Params.nat t.prm pPTP_ROLE = 2 && (t.ports.getD (1 - i) {}).best.isSome
  let u := if both then decide1 (1 - i) (decide1 i t) else decide1 i t
  match ((if both then [i, 1 - i] else [i]).find? (fun k => (u.ports.getD k {}).follows)).bind (fun k => (u.ports.getD k {}).best) with
  | some m => { u with gm := m.gm, gmClass := m.cls, stepsRemoved := m.steps + 1 }
  | none => u

/-- A port leaves SLAVE or UNCALIBRATED: the source is lost (R343). -/
def Tu.afterPorts (before t : Tu) : Tu × List Ev :=
  if t.source = 1 && [0, 1].any (fun i => (before.ports.getD i {}).follows && !(t.ports.getD i {}).follows) then t.lost else (t, [])

/-- The slave port's offset from t1 and t2 (R347): t2 − t1 − correction − mean path delay; the correction has delayAsymmetry in it. -/
def Tu.syncOffset (t : Tu) (i : Nat) : Tu × List Ev :=
  let p := t.ports.getD i {}
  match p.syncT1, p.meanPath with
  | some t1, some mp =>
    let t := { t with ports := t.ports.set i { p with syncNew := false, state := if p.state = 8 then 9 else p.state } }
    if p.syncNew && t.source = 1 && p.follows then t.offset (p.syncT2 - t1 - p.syncCorr - mp) else (t, [])
  | _, _ => (t, [])

/-- The supported message of R345: kind, domain, sdoId, transport; and a kind of the delay mechanism in force. -/
def Tu.ptpSupported (t : Tu) (m : PtpMsg) : Bool :=
  let p2p := decide (Params.nat t.prm pPTP_PROFILE = 1)
  let udp := decide (Params.nat t.prm pPTP_TRANSPORT = 1)
  m.sdoId = 0 && m.domain = Params.nat t.prm pPTP_DOMAIN && m.udp = udp &&
  (match m.kind with
   | .management | .signaling => false
   | .delayReq | .delayResp => !p2p
   | .pdelayReq | .pdelayResp | .pdelayRespFollowUp => p2p
   | _ => true)

/-- The port identity of plant port `i`: portNumber 1 or 2. -/
def ownPort (i : Nat) : Nat := Config.clockIdentity * 65536 + (i + 1)

/-- A PTP message arrives at port `i`, received at ring-count instant `q` (R345 to R347). -/
def Tu.ptpReceive (t : Tu) (i : Nat) (q : Int) (m : PtpMsg) : Tu × List Ev :=
  let p := t.ports.getD i {}
  if !t.ptpSupported m || p.state = 0 then ({ t with ports := t.ports.set i { p with discard := incSat 32 p.discard } }, []) else
    let t2 : Int := t.tbOf q * 1000 / 65536 + Params.val p.prm pPLT_RX_DELAY
    let put (p : PlantPort) : Tu := { t with ports := t.ports.set i p }
    let asym := Params.val p.prm pDELAY_ASYM
    let master := p.follows && p.best.map (fun b => b.source) = some m.source
    match m.kind with
    | .announce =>
      let take := match p.best with
        | none => true
        | some b => b.source = m.source || ptpLess m.key b.key
      if take then Tu.afterPorts t (Tu.bmca (put { p with best := some m }) i) else (t, [])
    | .sync =>
      if !master then (t, [])
      else if m.twoStep then (put { p with syncT1 := none, syncT2 := t2, syncSeq := m.seq, syncCorr := m.correction + asym }, [])
      else Tu.syncOffset (put { p with syncT1 := some m.stamp, syncNew := true, syncT2 := t2, syncSeq := m.seq, syncCorr := m.correction + asym }) i
    | .followUp =>
      if !master || m.seq ≠ p.syncSeq || p.syncT1.isSome then (t, [])
      else Tu.syncOffset (put { p with syncT1 := some m.stamp, syncNew := true, syncCorr := p.syncCorr + m.correction }) i
    | .delayReq =>
      if p.state ≠ 6 then (t, [])
      else (put { p with answers := p.answers ++ [{ kind := .delayResp, domain := m.domain, seq := m.seq, source := ownPort i,
                                                    requester := m.source, correction := m.correction, stamp := t2, udp := m.udp }] }, [])
    | .delayResp =>
      match p.reqT3 with
      | some t3 =>
        if !master || m.seq ≠ p.reqSeq || m.requester ≠ ownPort i then (t, [])
        else
          let mp := p.syncT1.map (fun t1 => ((p.syncT2 - t1 - p.syncCorr) + (m.stamp - t3 - m.correction)) / 2)
          Tu.syncOffset (put { p with reqT3 := none, meanPath := mp.orElse (fun _ => p.meanPath), respT4 := m.stamp }) i
      | none => (t, [])
    | .pdelayReq =>
      (put { p with answers := p.answers ++ [{ kind := .pdelayResp, domain := m.domain, seq := m.seq, source := ownPort i, requester := m.source,
                                               correction := m.correction, stamp := t2, udp := m.udp,
                                               twoStep := decide (Params.nat t.prm pPTP_STEPS = 2) }] }, [])
    | .pdelayResp =>
      match p.reqT3 with
      | some t1 =>
        if m.seq ≠ p.reqSeq || m.requester ≠ ownPort i then (t, [])
        else if m.twoStep then (put { p with respT2 := m.stamp - m.correction - asym, respT4 := t2 }, [])
        else (put { p with reqT3 := none, meanPath := some ((t2 - t1 - m.correction - asym) / 2) }, [])
      | none => (t, [])
    | .pdelayRespFollowUp =>
      match p.reqT3 with
      | some t1 =>
        if m.seq ≠ p.reqSeq || m.requester ≠ ownPort i then (t, [])
        else (put { p with reqT3 := none, meanPath := some (((p.respT4 - t1) - (m.stamp + m.correction - p.respT2)) / 2) }, [])
      | none => (t, [])
    | .management | .signaling => (t, [])

/-- The plant port sends a message of kind `k` at instant `q` (R345, R346); `false` where the port's state sends none of that kind. -/
def Tu.ptpSend (t : Tu) (i : Nat) (k : PtpKind) (q : Int) : Tu :=
  let p := t.ports.getD i {}
  let tx : Int := t.tbOf q * 1000 / 65536 + Params.val p.prm pPLT_TX_DELAY
  let two := decide (Params.nat t.prm pPTP_STEPS = 2)
  let p2p := decide (Params.nat t.prm pPTP_PROFILE = 1)
  let base : PtpMsg := { kind := k, domain := Params.nat t.prm pPTP_DOMAIN, source := ownPort i, udp := decide (Params.nat t.prm pPTP_TRANSPORT = 1) }
  let put (p : PlantPort) : Tu := { t with ports := t.ports.set i p }
  match k with
  | .sync =>
    if p.state ≠ 6 then t
    else put { p with txSeq := (p.txSeq + 1) % 65536, syncT2 := tx, lastSent := some { base with seq := p.txSeq, twoStep := two, stamp := if two then 0 else tx } }
  | .followUp =>
    match p.lastSent with
    | some m => if p.state = 6 && two && m.kind = .sync then put { p with lastSent := some { base with seq := m.seq, stamp := p.syncT2 } } else t
    | none => t
  | .announce =>
    if p.state ≠ 6 then t
    else
      let own := { base with seq := p.annSeq, prio1 := Params.nat t.prm pPTP_PRIO1, cls := t.ownClass, prio2 := Params.nat t.prm pPTP_PRIO2, gm := Config.clockIdentity }
      let m := match t.master with
        | some g => { own with prio1 := g.prio1, cls := g.cls, accuracy := g.accuracy, variance := g.variance, prio2 := g.prio2, gm := g.gm, steps := g.steps + 1 }
        | none => own
      put { p with annSeq := (p.annSeq + 1) % 65536, lastSent := some m }
  | .delayReq =>
    if p2p || !p.follows then t
    else put { p with reqSeq := (p.reqSeq + 1) % 65536, reqT3 := some tx, lastSent := some { base with seq := (p.reqSeq + 1) % 65536, correction := -Params.val p.prm pDELAY_ASYM } }
  | .pdelayReq =>
    if !p2p || p.state = 0 then t
    else put { p with reqSeq := (p.reqSeq + 1) % 65536, reqT3 := some tx, lastSent := some { base with seq := (p.reqSeq + 1) % 65536, correction := -Params.val p.prm pDELAY_ASYM } }
  | .delayResp =>
    match p.answers with
    | m :: r => if m.kind = .delayResp then put { p with answers := r, lastSent := some m } else t
    | [] => t
  | .pdelayResp =>
    match p.answers with
    | m :: r =>
      if m.kind ≠ .pdelayResp then t
      else if two then
        put { p with answers := { base with kind := .pdelayRespFollowUp, seq := m.seq, requester := m.requester, correction := m.correction, stamp := tx } :: r,
                     lastSent := some { m with correction := 0 } }
      else put { p with answers := r, lastSent := some { m with correction := m.correction + (tx - m.stamp) } }
    | [] => t
  | .pdelayRespFollowUp =>
    match p.answers with
    | m :: r => if m.kind = .pdelayRespFollowUp then put { p with answers := r, lastSent := some m } else t
    | [] => t
  | .management | .signaling => t

/-- ANNOUNCE_TIMEOUT intervals pass on port `i` without an Announce (R345). -/
def Tu.announceTimeout (t : Tu) (i : Nat) : Tu × List Ev :=
  let p := t.ports.getD i {}
  Tu.afterPorts t (Tu.bmca { t with ports := t.ports.set i { p with best := none } } i)

/-- The multicast groups that the device joins (Table 11.2): 224.0.1.129 and, under P2P, 224.0.0.107. -/
def Tu.groups (t : Tu) : List Nat :=
  if Params.nat t.prm pPTP_TRANSPORT = 1 then
    0xE0000181 :: (if Params.nat t.prm pPTP_PROFILE = 1 then [0xE000006B] else [])
  else []

/-- An IGMP query arrives at port `i`: IGMPv2 reports for the groups joined (R345). -/
def Tu.igmp (t : Tu) (i : Nat) : Tu :=
  let p := t.ports.getD i {}
  if p.state = 0 then t else { t with ports := t.ports.set i { p with igmp := t.groups } }

/-! ## Status -/

/-- The time status block (Table 11.7). -/
def Tu.status (t : Tu) : List Byte :=
  let ps (i : Nat) := (t.ports.getD i {}).state
  let sl := (t.ports.find? (fun p => p.follows)).getD (t.ports.getD 0 {})
  let own := !t.ports.any (fun p => p.follows)
  let gmSelf := own && t.ports.any (fun p => p.state = 6)
  let flags := flag (decide (t.rateMax ≤ absR t.rate)) 0 + flag t.slewing 1 + flag t.ppsPresent 2 + flag gmSelf 3
  leBytes 1 t.state ++ leBytes 1 (Params.nat t.prm pTB_SOURCE) ++ leBytes 1 (ps 0) ++ leBytes 1 (ps 1) ++ leBytes 2 t.steps ++ leBytes 2 flags
  ++ leBytes 8 (lowBits 64 t.lastOffset) ++ leBytes 8 (lowBits 64 (sl.meanPath.getD 0)) ++ leBytes 4 (lowBits 32 (rndHE (t.rate * 256000000000)))
  ++ leBytes 4 0 ++ leBytes 8 t.merN0 ++ leBytes 8 t.merRC0 ++ leBytes 8 (lowBits 64 t.ofsS) ++ leBytes 4 t.ofsNs ++ leBytes 2 (if own then 0 else t.stepsRemoved)
  ++ leBytes 2 0 ++ beBytes 8 (if own then Config.clockIdentity else t.gm) ++ leBytes 1 (if own then t.ownClass else t.gmClass) ++ zeroBytes 7

end Sys2Proof.Machine
end

