-- ==== Sys2Proof/Machine/Ops.lean ====
section
/-! DEFINITION. Shared operations over the device: how a command acts on it, parameters in force, instants of the cycle, events with their numbers and
stamps (R16, R21, R38, R449), and the completion of host commands. -/

namespace Sys2Proof.Machine

open Sys2Proof

/-! ## The device's parameters and instants -/

/-- A DEVICE parameter in force. -/
def Dev.prm (d : Dev) (id : Nat) : Nat := Params.nat d.ctl.prm id

/-- T_CYC in force (R44). -/
def Dev.tcyc (d : Dev) : Nat := d.prm pT_CYC

/-- EXEC_STYLE is RUN_AHEAD (R34). -/
def Dev.runAhead (d : Dev) : Bool := d.prm pEXEC_STYLE = 1

/-- The segments that the Frame Map configures (R575). -/
def Dev.segNos (d : Dev) : List Nat := (List.range 8).filter (fun i => d.ring.map.configured i)

/-- t_ring,max ("Phases and instants" of chapter 2). -/
def Dev.tringMax (d : Dev) : Nat := (d.segNos.map (fun i => (d.ring.seg i).tRing)).foldl max 0

/-- t_cring,max. -/
def Dev.tcringMax (d : Dev) : Nat := (d.segNos.map (fun i => (d.ring.seg i).tCring)).foldl max 0

/-- The ring count of Meridian `n` in ns (R338). -/
def Dev.mer (d : Dev) (n : Nat) : Nat := d.tu.meridian d.tcyc n

/-! ## Free values -/

/-- The next free value (log 5). -/
def Dev.freeVal (d : Dev) : Nat := Config.freeNat d.ctl.free

/-- A free value has been taken. -/
def Dev.took (d : Dev) : Dev := { d with ctl := { d.ctl with free := d.ctl.free + 1 } }

/-! ## Events -/

/-- The event comes from the control plane (Table 1.1): its buffer of 512 a cycle is that of R16. -/
def Ev.control (e : Ev) : Bool := !e.mgmt && [1, 2, 3, 4, 5, 6, 14, 15].contains (e.src / 4096)

/-- The cycle of a firmware stamp (R449): up to ceil(20 µs / T_CYC) later, or 50 ms over a restart of the management plane. -/
def stampCycle (cycle tcyc free : Nat) (late : Bool) : Nat :=
  cycle + free % (ceilDiv (if late then 50000000 else 20000) tcyc + 1)

/-- The event with its stamp (R449): opsec and PWR_CYCLES, the cycle or NO_CYCLE before the first Meridian. -/
def Dev.stampEv (d : Dev) (e : Ev) : Ev :=
  let late := e.mgmt && d.host.mgtRestart
  let c := if e.mgmt && 0 < d.ctl.cycle then stampCycle d.ctl.cycle d.tcyc d.freeVal late else d.ctl.cycle
  { e with cycle := c, noCycle := d.ctl.cycle = 0, late := late, opsec := d.boot.opsec, pwr := d.boot.pwr }

/-- An event numbered and handed to the Logbook and the host (R21); the Chronograph's EVENT conditions see it (R432). -/
def Dev.route (d : Dev) (e : Ev) (cpDrop : Bool) : Dev :=
  let e := { d.stampEv e with cpDrop := cpDrop }
  let seq := incWrap 32 d.router.seq
  let tb := d.tu.stamp d.tu.now
  { d with
    ctl := if e.mgmt then { d.ctl with free := d.ctl.free + 1 } else d.ctl
    router := { d.router with seq := seq, toLog := d.router.toLog ++ [e], toHost := d.router.toHost ++ [{ seq := seq, tbS := tb.1, tbNs := tb.2, ev := e }] }
    chr := if d.chr.state = 0 then d.chr else { d.chr with haps := d.chr.haps ++ [{ kind := 3, a := e.code, b := e.src, instant := d.tu.rc, cycle := e.cycle }] } }

/-- An event is emitted. The control plane's buffer takes 512 of its events a cycle; the next that fits after a drop carries a mark (R16). A dropped event takes no EVENT_SEQ
number (DESIGN CHOICE, log 45). -/
def Dev.emit (d : Dev) (e : Ev) : Dev :=
  if e.control then
    if d.router.cycleCnt < 512 then
      let d := d.route e d.router.dropMark
      { d with router := { d.router with cycleCnt := d.router.cycleCnt + 1, dropMark := false } }
    else { d with router := { d.router with dropMark := true, dropped := incSat 32 d.router.dropped }, ctl := { d.ctl with dropped := true } }
  else d.route e false

/-- Several events in order. -/
def Dev.emits (d : Dev) (es : List Ev) : Dev := es.foldl Dev.emit d

/-! ## Saturating counters that raise an event -/

/-- A SAT_EVENT counter (R38): the source, PLACE, the query's opcode, the offset, the width and the value. -/
structure SatCnt where
  src : Nat
  op : Nat
  ofs : Nat
  width : Nat
  val : Nat
  deriving DecidableEq, Repr

/-- The SAT_EVENT counters of the device summary (Tables 1.12, 8.8, 10.12, 12.15, 14.9, 15.7, 16.17, 17.9, 18.12). -/
def Dev.satDevice (d : Dev) : List SatCnt :=
  let c (o w v : Nat) : SatCnt := ⟨0, 0, o, w, v⟩
  [c 0x054 32 d.router.dropped, c 0x068 16 d.tru.fabricLasting, c 0x06C 16 d.pace.mismatchCnt, c 0x06E 16 d.pace.avsLasting, c 0x070 16 d.pace.marginEntries,
   c 0x072 16 d.ring.takeoverCnt, c 0x074 16 d.host.ownerLossCnt, c 0x078 32 d.host.eventsDropped, c 0x410 32 d.chr.streamLost, c 0x600 32 d.log.fifoDropped,
   c 0x60C 32 d.log.unpersisted, c 0x610 16 d.log.persistLasting, c 0x810 16 d.si.pairFaultCnt, c 0x812 16 d.si.stoFbCnt, c 0x814 16 d.si.slsCnt, c 0xC18 16 d.tru.fails,
   c 0xC1A 16 d.tru.eccLasting, c 0xC1C 16 d.tru.eccUncorrectable, c 0xE0C 16 d.boot.fallbacks, c 0xE0E 16 d.boot.longResets, c 0xE10 16 d.boot.rollbacks,
   c 0xE12 16 d.boot.flashLasting]

/-- The SAT_EVENT counters of axes, segments, nodes and capture inputs (Tables 4.14, 6.9, 10.12, 11.8). -/
def Dev.satObjects (d : Dev) : List SatCnt :=
  (d.motion.axes.map (fun e => [(⟨srcAxis e.1, 0x1040, 12, 16, e.2.swPos.chatter⟩ : SatCnt), ⟨srcAxis e.1, 0x1040, 14, 16, e.2.swNeg.chatter⟩, ⟨srcAxis e.1, 0x1040, 16, 16, e.2.swHome.chatter⟩])).flatten ++
  (d.motion.steppers.map (fun e => [(⟨srcStepper e.1, 0, 0x11000 + 32 * e.1 + 28, 16, e.2.stallCnt⟩ : SatCnt), ⟨srcStepper e.1, 0x1041, 26, 16, e.2.swPos.chatter⟩,
    ⟨srcStepper e.1, 0x1041, 28, 16, e.2.swNeg.chatter⟩, ⟨srcStepper e.1, 0x1041, 30, 16, e.2.swHome.chatter⟩])).flatten ++
  (d.ring.segs.zipIdx.map (fun s => [(⟨srcSeg s.2, 0x4020, 28, 16, s.1.linkLasting⟩ : SatCnt), ⟨srcSeg s.2, 0x4020, 30, 16, s.1.breakCnt⟩] ++
    s.1.nodes.map (fun n => (⟨srcNode s.2 n.1, 0, 0x1A000 + 16 * (96 * s.2 + n.1 - 1) + 12, 16, n.2.readyLowCnt⟩ : SatCnt)))).flatten ++
  (d.tu.tcaps.zipIdx.map (fun t => [(⟨srcTcap t.2, 0x5022, 16, 16, t.1.overflow⟩ : SatCnt), ⟨srcTcap t.2, 0x5022, 8, 32, t.1.intDrop⟩])).flatten

/-- Every SAT_EVENT counter of the device. -/
def Dev.sats (d : Dev) : List SatCnt := d.satDevice ++ d.satObjects

/-- A counter at its maximum. -/
def SatCnt.full (c : SatCnt) : Bool := c.val = 2 ^ c.width - 1

/-- The COUNTER_SATURATED event of a counter (R38). -/
def SatCnt.event (c : SatCnt) : Ev :=
  evC c.src eCOUNTER_SATURATED ([if c.op = 0 then 0 else 1, 0] ++ leBytes 2 c.op ++ leBytes 4 c.ofs)

/-- The counters that have reached their maximum between two states of the device (R38). -/
def satNew (a b : List SatCnt) : List SatCnt :=
  b.filter (fun c => c.full && !a.any (fun x => x.src = c.src && x.op = c.op && x.ofs = c.ofs && x.full))

/-- The device after a command, with the COUNTER_SATURATED events of the counters it filled; they take a path of their own past the buffer of R16. -/
def Dev.satCheck (before d : Dev) : Dev := (satNew before.sats d.sats).foldl (fun d c => d.route c.event false) d

/-! ## How a command acts -/

/-- A command changes the device by `f`; no SAT_EVENT counter is among what it changes. -/
def State.does (s : State) (f : Dev → Dev) : Host.Outcome State Fault Refusal := .next { s with dev := f s.dev }

/-- A command changes the device by `f`; counters that it fills raise their event. -/
def State.act (s : State) (f : Dev → Dev) : Host.Outcome State Fault Refusal := .next { s with dev := Dev.satCheck s.dev (f s.dev) }

/-! ## Parts of the device -/

/-- Loop engine `e`. -/
def Dev.engine (d : Dev) (e : Nat) : Engine := d.engines.getD e {}

/-- Loop engine `e` changed. -/
def Dev.onEngine (d : Dev) (e : Nat) (f : Engine → Engine) : Dev := { d with engines := d.engines.modify e f }

/-- Servo axis `a`, if configured. -/
def Dev.axis? (d : Dev) (a : Nat) : Option Axis := Tab.find d.motion.axes a

/-- Servo axis `a`. -/
def Dev.axis (d : Dev) (a : Nat) : Axis := Tab.getD d.motion.axes a {}

/-- Servo axis `a` changed, when it is configured. -/
def Dev.onAxis (d : Dev) (a : Nat) (f : Axis → Axis) : Dev := { d with motion := { d.motion with axes := Tab.upd d.motion.axes a f } }

/-- Stepper axis `a`, if configured. -/
def Dev.stepper? (d : Dev) (a : Nat) : Option Stepper := Tab.find d.motion.steppers a

/-- Stepper axis `a` changed, when it is configured. -/
def Dev.onStepper (d : Dev) (a : Nat) (f : Stepper → Stepper) : Dev := { d with motion := { d.motion with steppers := Tab.upd d.motion.steppers a f } }

/-- Orrery `i`, if it is not OFF. -/
def Dev.orr? (d : Dev) (i : Nat) : Option Orrery := (Tab.find d.motion.orrs i).filter (fun o => o.state ≠ 0)

/-- Orrery `i`. -/
def Dev.orr (d : Dev) (i : Nat) : Orrery := Tab.getD d.motion.orrs i {}

/-- Orrery `i` changed. -/
def Dev.onOrr (d : Dev) (i : Nat) (f : Orrery → Orrery) : Dev := { d with motion := { d.motion with orrs := Tab.set d.motion.orrs i (f (d.orr i)) } }

/-- The segment of the ring changed. -/
def Dev.onSeg (d : Dev) (i : Nat) (f : Segment → Segment) : Dev := { d with ring := d.ring.onSeg i f }

/-- The Time Unit changed, with the events that it emits. -/
def Dev.withTu (d : Dev) (r : Tu × List Ev) : Dev := Dev.emits { d with tu := r.1 } r.2

/-- The Safety Island changed, with the events that it emits. -/
def Dev.withSi (d : Dev) (r : Si × List Ev) : Dev := Dev.emits { d with si := r.1 } r.2

/-- The Test and Repair Unit changed, with the events that it emits. -/
def Dev.withTru (d : Dev) (r : Tru × List Ev) : Dev := Dev.emits { d with tru := r.1 } r.2

/-- The Chronograph changed, with the events that it emits. -/
def Dev.withChr (d : Dev) (r : Chr × List Ev) : Dev := Dev.emits { d with chr := r.1 } r.2

/-- Pair `i` of the HIU changed. -/
def Dev.onHost (d : Dev) (f : Hif → Hif) : Dev := { d with host := f d.host }

/-! ## Queries -/

/-- The device as queries see it now. -/
def Dev.view (d : Dev) : Snap :=
  { ctl := d.ctl, motion := d.motion, engines := d.engines, pace := d.pace, ring := d.ring, tu := d.tu, host := d.host, chr := d.chr, log := d.log, si := d.si,
    tru := d.tru, boot := d.boot, flash := d.flash }

/-- What queries answer from (R404): the device at the seal of the latest Plate, or as it stands before the first. -/
def Dev.seen (d : Dev) : Snap := if d.ctl.published = 0 then d.view else d.snap

/-! ## Completion of host commands -/

/-- A host command completes with `r`; a bulk handle that it consumed is released (R387, R409). -/
def Dev.reply (d : Dev) (q : HostReq) (res : Nat) (r : CmdRes) (done hold : Nat) (dup : Bool := false) : Dev :=
  { d with host := (d.host.complete q res r done hold dup).releaseHandle q (r.status ≠ 0x010D) }

/-- The reply of a command that was rejected or withdrawn now (R380). -/
def Dev.reject (d : Dev) (q : HostReq) (res status : Nat) : Dev := d.reply q res { status := status } d.ctl.cycle 0

/-- An operation over many cycles ends with `r` (R380), its reply held for the Plate of cycle `hold` (R32); without an owner nothing is posted. -/
def Dev.opEnd (d : Dev) (o : Option OpenOp) (r : CmdRes) (hold : Nat := 0) : Dev :=
  match o with
  | some o => match d.host.openOps.find? (fun x => x.req = o.req) with
    | some x => Dev.reply { d with host := { d.host with openOps := d.host.openOps.filter (fun y => y.req ≠ o.req) } } x.req x.res r d.ctl.cycle hold
    | none => d
  | none => d

/-- The open operations that `p` selects end with `r`. -/
def Dev.opsEnd (d : Dev) (p : HostReq → Bool) (r : CmdRes) (hold : Nat := 0) : Dev :=
  (d.host.openOps.filter (fun o => p o.req)).foldl (fun d o => d.opEnd (some o) r hold) d

end Sys2Proof.Machine
end

