-- ==== Sys2Proof/Machine/Operands.lean ====
section
/-! DEFINITION. Operand forms of the engine: address modes (R210, R211, Table 7.9), memory words and D pairs (R200, R201), MAC operands
and product shifts (R212, R213), special registers (R202, R203). -/

namespace Sys2Proof.Machine

/-- D register `r`. -/
def Engine.reg (e : Engine) (r : Nat) : Word := e.d.getD r 0

/-- The signed value of a D register. -/
def Engine.sreg (e : Engine) (r : Nat) : Int := (e.reg r).toInt

/-- The 64-bit value of the D pair whose even register is `r` (R201). -/
def Engine.pair (e : Engine) (r : Nat) : Nat := (e.reg r).toNat + 2 ^ 32 * (e.reg (r + 1)).toNat

/-- The signed value of a D pair. -/
def Engine.spair (e : Engine) (r : Nat) : Int := wrapS 64 (e.pair r)

/-- Special register `n` (Table 7.2). The numbers 26 to 127, which the table does not assign, read 0 and ignore a write (DESIGN CHOICE, log 51). -/
def Engine.spc (e : Engine) (n : Nat) : Nat := e.special.getD n 0

/-- The width in bits of special register `n` (Table 7.2). -/
def specialWidth (n : Nat) : Nat :=
  if n ≤ 11 then 13 else if n ≤ 17 then 14 else if n ≤ 20 then 13 else if n ≤ 22 then 16 else if n ≤ 24 then 12 else 32

/-- Special register `n` as RDS gives it: the modifiers MX, MY and MC are signed (Table 7.2). -/
def Engine.readSpecial (e : Engine) (n : Nat) : Word :=
  if 12 ≤ n && n ≤ 14 then BitVec.ofInt 32 (wrapS 14 (e.spc n)) else BitVec.ofNat 32 (e.spc n)

/-- One word of X (1), Y (2) or C (3) memory (R200). -/
def Engine.word (e : Engine) (bus a : Nat) : Word :=
  let a := a % 8192
  if bus = 1 then Tab.getD e.xm a 0 else if bus = 2 then Tab.getD e.ym a 0 else Tab.getD e.cm a 0

/-- The pointer's special number for a bus (Table 7.2). -/
def ptrNum (bus ptr : Nat) : Nat := 4 * (bus - 1) + ptr

/-- The address of an access (Table 7.9). -/
def Engine.address (e : Engine) (x : Access) : Nat :=
  let p : Int := e.spc (ptrNum x.bus x.ptr)
  if x.amode = 0 then (x.ofs % 8192).toNat
  else if x.amode = 2 then ((p + x.ofs) % 8192).toNat
  else (p % 8192).toNat

/-- The pointer after an access (Table 7.9); `none` where it is unchanged. -/
def Engine.postModify (e : Engine) (x : Access) : Option Nat :=
  let p : Int := e.spc (ptrNum x.bus x.ptr)
  let m := wrapS 14 (e.spc (11 + x.bus))
  let l : Int := e.spc (14 + x.bus)
  let b : Int := e.spc (17 + x.bus)
  let lin (o : Int) : Option Nat := some ((p + o) % 8192).toNat
  let circ (o : Int) : Option Nat := if l = 0 then lin o else some ((b + (p - b + o) % l) % 8192).toNat
  if x.amode = 3 then lin x.ofs else if x.amode = 4 then lin m
  else if x.amode = 5 then circ x.ofs else if x.amode = 6 then circ m else none

/-- The exact product of a lane after its product shift (R212, R213). -/
def Engine.product (e : Engine) (l : Lane) : Int :=
  let ua := l.sign = 1 || l.sign = 3
  let ub := l.sign = 2 || l.sign = 3
  let a : Int := if ua then (e.reg l.a).toNat else e.sreg l.a
  let b : Int := if ub then (e.reg (16 + l.b)).toNat else e.sreg (16 + l.b)
  let p := a * b
  if l.psh = 1 then 2 * p else if l.psh = 2 then rshHE p 16 else if l.psh = 3 then rshHE p 32 else p

end Sys2Proof.Machine
end

