-- ==== Sys2Proof/Machine/Flags.lean ====
section
/-! DEFINITION. ESTAT and the conditions (R203, Table 7.3, Table 7.8), CMP's flags, accumulator overflow (R214), rounding and saturation
flags (R216). -/

namespace Sys2Proof.Machine

/-- ESTAT (special register 25). -/
def Engine.estat (e : Engine) : Nat := e.spc 25

/-- The engine with ESTAT replaced. -/
def Engine.setEstat (e : Engine) (v : Nat) : Engine := { e with special := e.special.set 25 v }

/-- AOV of accumulator `n`. -/
def Engine.aov (e : Engine) (n : Nat) : Bool := bit e.estat n

/-- Condition code `c` of SEL and BRC (Table 7.8): 0 EQ, 1 NE, 2 LT, 3 GE, 4 LE, 5 GT, 6 AOV_ANY. -/
def Engine.cond (e : Engine) (c : Nat) : Bool :=
  let z := bit e.estat 10
  let n := bit e.estat 11
  let v := bit e.estat 12
  let lt := n != v
  if c = 0 then z else if c = 1 then !z else if c = 2 then lt else if c = 3 then !lt
  else if c = 4 then z || lt else if c = 5 then !z && !lt else if c = 6 then e.estat % 256 ≠ 0 else false

/-- Z, N and V of a − b in `w` bits (R217). -/
def cmpFlags (w : Nat) (a b : Int) : Bool × Bool × Bool :=
  let d := a - b
  let r := wrapS w d
  (r = 0, r < 0, r ≠ d)

/-- An accumulator's exact new value, saturated to 72 bits, and its overflow (R214). -/
def acc72 (x : Int) : Int × Bool := (satS 72 x, satS 72 x ≠ x)

/-- RND of `n` bits: value and whether saturation changed it (R216). -/
def rndAcc (n : Nat) (x : Int) (s : Nat) : Int × Bool :=
  let r := rshHE x s
  (satS n r, satS n r ≠ r)

/-- A field of ESTAT: AOV bits replaced for one accumulator. -/
def Engine.setAov (e : Engine) (n : Nat) (b : Bool) : Engine :=
  e.setEstat (if b then setBit e.estat n else clrBit e.estat n)

end Sys2Proof.Machine
end

