-- ==== Sys2Proof/Machine/Engine.lean ====
section
/-! DEFINITION. One engine's bundles: legality (R204), the write stage (R206, R207), collisions (R209), the MAC lanes (R212 to R214), the ALU
and CTL operations (Table 7.8, R208, R217), the hardware loop (R218) and the table port (R220, R221). -/

namespace Sys2Proof.Machine

/-! ### Writes -/

/-- One write takes effect (R206). WRS of ESTAT acts by the access codes of Table 7.3: SOV and WCOL are W1C, the rest RO. The write of a
loop start or end empties the repeat cache (R219); that of LOOP arrives at the third bundle after it, whose address is LS (R218). A write to an accumulator
that has frozen meanwhile changes nothing (R214). -/
def Engine.apply (e : Engine) : Wr → Engine
  | .d r v => { e with d := e.d.set r v }
  | .acc n v o => if e.aov n then e else let e1 := { e with acc := e.acc.set n v }; if o then e1.setAov n true else e1
  | .aclr n => Engine.setAov { e with acc := e.acc.set n 0 } n false
  | .mem bus a v =>
    if bus = 1 then { e with xm := Tab.set e.xm (a % 8192) v } else if bus = 2 then { e with ym := Tab.set e.ym (a % 8192) v } else e
  | .special n v =>
    if n = 25 then
      let s0 := if bit v 8 then clrBit e.estat 8 else e.estat
      e.setEstat (if bit v 9 then clrBit s0 9 else s0)
    else if 25 < n then e
    else { e with special := e.special.set n (v % 2 ^ specialWidth n), cache := if n = 23 || n = 24 then [] else e.cache }
  | .flags z n v =>
    let s0 := if z then setBit e.estat 10 else clrBit e.estat 10
    let s1 := if n then setBit s0 11 else clrBit s0 11
    e.setEstat (if v then setBit s1 12 else clrBit s1 12)
  | .sov => e.setEstat (setBit e.estat 8)
  | .wcol => e.setEstat (setBit e.estat 9)
  | .loopRegs c le => { e with special := ((e.special.set 21 c).set 23 (e.pcw % 4096)).set 24 le, cache := [] }

/-- Writes in order. -/
def Engine.applyAll (e : Engine) (ws : List Wr) : Engine := ws.foldl Engine.apply e

/-- Every bundle in flight completes (R223). -/
def Engine.drain (e : Engine) : Engine :=
  { ((e.applyAll e.w3).applyAll e.w2).applyAll e.w1 with w1 := [], w2 := [], w3 := [] }

/-- TPEND (Table 7.3) with the table reads `rs`: set while one has not returned. -/
def Engine.tpend (e : Engine) (rs : List TabReq) : Nat := if rs.any (fun r => r.got.isNone) then setBit e.estat 13 else clrBit e.estat 13

/-- A computation ends at once: the bundles in flight complete, no bundle is open or waits, and no table read is outstanding. -/
def Engine.halted (e0 : Engine) : Engine :=
  let e := e0.drain
  { (e.setEstat (e.tpend [])) with run := none, cur := {}, stall := none, reqs := [] }

/-- The destination of a write, for R209; `none` for flags that do not collide. -/
def Wr.dest : Wr → Option (Nat × Nat)
  | .d r _ => some (0, r)
  | .acc n _ _ => some (1, n)
  | .aclr n => some (1, n)
  | .mem b a _ => some (1 + b, a % 8192)
  | .special n _ => some (9, n)
  | .loopRegs _ _ => none
  | .flags _ _ _ => none
  | .sov => none
  | .wcol => none

/-- The results of one bundle in the priority of R209: the first of a destination is kept, the others are discarded and set WCOL. -/
def collide : List Wr → List (Nat × Nat) → List Wr
  | [], _ => []
  | w :: ws, seen =>
    match w.dest with
    | none => w :: collide ws seen
    | some k => if seen.contains k then .wcol :: collide ws seen else w :: collide ws (k :: seen)

/-! ### Legality -/

/-- Operations of the ALU that name a D pair as destination or operand (R201, R204). -/
def aluPairOdd (o : OpWord) : Bool :=
  let odd (n : Nat) : Bool := n % 2 = 1
  if o.op = 0x05 || o.op = 0x06 then odd o.dst || odd o.a || odd o.b
  else if o.op = 0x11 then odd o.a || odd o.b
  else if o.op = 0x15 then odd o.dst
  else if o.op = 0x16 then odd o.a
  else false

/-- A bundle breaks a rule of R204. -/
def Bundle.illegal (b : Bundle) : Bool :=
  let words := (if b.lanes.isEmpty then 0 else 1) + (b.accs.length + 1) / 2 + (if b.op.isSome then 1 else 0)
  b.bad || 4 < b.lanes.length || 4 < words || 4 < b.accs.length || words = 0 ||
  (b.lanes.any (fun l => 3 < l.lane || 7 < l.acc || 31 < l.a || 15 < l.b)) ||
  (b.lanes.map Lane.lane ≠ (b.lanes.map Lane.lane).dedup) ||
  (b.lanes.any (fun l => b.lanes.any (fun k => k.psh ≠ l.psh || k.sign ≠ l.sign))) ||
  (b.accs.map Access.bus ≠ (b.accs.map Access.bus).dedup) ||
  (b.accs.any (fun x => x.bus = 0 || 3 < x.bus || 6 < x.amode || 31 < x.reg || (x.bus = 3 && x.store) || (x.wide && x.reg % 2 = 1))) ||
  (match b.op with
   | none => false
   | some o => if o.ctl then (7 < o.op || (o.op = 5 && o.dst % 2 = 1)) else (0x19 < o.op || aluPairOdd o))

/-- The lanes of a MAC word (Table 7.5). -/
def lanesOf (w : Nat) : List Lane :=
  (List.range 4).filterMap (fun i =>
    let k := bits w (14 * i + 13) (14 * i + 12)
    if k = 0 then none
    else some { lane := i, kind := k, psh := bits w 59 58, sign := bits w 57 56, acc := bits w (14 * i + 11) (14 * i + 9), a := bits w (14 * i + 8) (14 * i + 4), b := bits w (14 * i + 3) (14 * i) })

/-- The access of one field of a MEM word (Table 7.6). -/
def accessOf (f : Nat) : List Access :=
  if bits f 29 28 = 0 then []
  else [{ bus := bits f 29 28, store := bit f 27, wide := bit f 26, reg := bits f 25 21, amode := bits f 20 17, ptr := bits f 16 15,
          ofs := if bits f 20 17 = 0 then (bits f 12 0 : Int) else wrapS 14 (bits f 13 0) }]

/-- The operation of an ALU or CTL word (Tables 7.7, 7.17). LOOP's choice of count stands in `b`, TRD's index register too. -/
def opOf (w : Nat) : OpWord :=
  if bits w 62 60 = 2 then { ctl := false, op := bits w 59 54, dst := bits w 53 49, a := bits w 48 44, b := bits w 43 39, sh := bits w 38 32, imm := bits w 31 0 }
  else { ctl := true, op := bits w 59 56, dst := if bits w 59 56 = 5 then bits w 4 0 else 0, a := bits w 39 35,
         b := if bits w 59 56 = 3 then bits w 29 29 else bits w 34 30, sh := bits w 42 40, imm := if bits w 59 56 = 3 then bits w 15 0 else 0, addr := bits w 55 44 }

/-- One part of a bundle joins the open bundle; a second word of class ALU or CTL makes it illegal (R204). -/
def Bundle.addOp (b : Bundle) (o : OpWord) : Bundle := if b.op.isSome then { b with bad := true } else { b with op := some o }

/-- An instruction word joins the open bundle (R205, Table 7.4). -/
def Bundle.addWord (b : Bundle) (w : Nat) : Bundle :=
  match bits w 62 60 with
  | 0 => { b with lanes := b.lanes ++ lanesOf w }
  | 1 => { b with accs := b.accs ++ accessOf (bits w 29 0) ++ accessOf (bits w 59 30) }
  | 2 => b.addOp (opOf w)
  | 3 => b.addOp (opOf w)
  | _ => { b with bad := true }

/-- The bundle that instruction words spell. -/
def bundleOf (ws : List Nat) : Bundle := ws.foldl Bundle.addWord {}

/-- A raw 64-bit instruction word breaks R204 or R205 on its own: reserved class or operation, reserved mode, a store on C, an odd pair, or a
CTL word with a non-zero unused field (Table 7.17). -/
def wordIllegal (w : Nat) : Bool :=
  let cls := bits w 62 60
  let acc (f : Nat) : Bool :=
    let bus := bits f 29 28
    bus ≠ 0 && (6 < bits f 20 17 || (bus = 3 && bit f 27) || (bit f 26 && bits f 25 21 % 2 = 1) || bit f 14)
  if cls = 0 then false
  else if cls = 1 then acc (bits w 29 0) || acc (bits w 59 30)
  else if cls = 2 then
    0x19 < bits w 59 54 || aluPairOdd { ctl := false, op := bits w 59 54, dst := bits w 53 49, a := bits w 48 44, b := bits w 43 39 }
  else if cls = 3 then
    let op := bits w 59 56
    let useA := op = 1 || op = 2 || op = 3 || op = 4
    let useRa := op = 5 || (op = 3 && !bit w 29)
    7 < op || bit w 43 || bits w 28 16 ≠ 0 || (!useA && bits w 55 44 ≠ 0) || (op ≠ 2 && bits w 42 40 ≠ 0) ||
    (!useRa && bits w 39 35 ≠ 0) || (op ≠ 5 && bits w 34 30 ≠ 0) || (op ≠ 3 && bit w 29) ||
    (if op = 5 then bits w 15 5 ≠ 0 || bit w 0 else if op = 3 && bit w 29 then false else bits w 15 0 ≠ 0) ||
    (op = 2 && bits w 42 40 = 7)
  else true

/-- A raw bundle is illegal (R204): a word that is illegal on its own, too many words of a class, or two accesses on one bus. -/
def wordsIllegal (ws : List Nat) : Bool :=
  let cls (c : Nat) : Nat := (ws.filter (fun w => bits w 62 60 = c)).length
  let buses := (bundleOf ws).accs.map Access.bus
  ws.isEmpty || ws.any wordIllegal || 1 < cls 0 || 2 < cls 1 || (bundleOf ws).bad || 4 < ws.length || buses ≠ buses.dedup

/-! ### The results of a bundle -/

/-- The accumulators that the MAC word names, each with its exact sum (R212, R214). A frozen accumulator is left unchanged. -/
def Engine.macWrites (e : Engine) (ls : List Lane) : List Wr :=
  (List.range 8).filterMap (fun n =>
    let mine := ls.filter (fun l => l.acc = n)
    if mine.isEmpty || e.aov n then none
    else
      let base := if mine.any (fun l => l.kind = 3) then 0 else e.acc.getD n 0
      let sum := mine.foldl (fun s l => if l.kind = 2 then s - e.product l else s + e.product l) base
      let r := acc72 sum
      some (.acc n r.1 r.2))

/-- A pair write (R201). -/
def pairWr (r : Nat) (x : Int) : List Wr :=
  let v := lowBits 64 x
  [.d r (BitVec.ofNat 32 v), .d (r + 1) (BitVec.ofNat 32 (v / 2 ^ 32))]

/-- The writes of an ALU operation (Table 7.8, R214 to R217). -/
def Engine.aluWrites (e : Engine) (o : OpWord) : List Wr :=
  let a := e.sreg o.a
  let b := e.sreg o.b
  let one (x : Int) : List Wr := [.d o.dst (BitVec.ofInt 32 x)]
  let ua := e.reg o.a
  let ub := e.reg o.b
  match o.op with
  | 0x01 => one (a + b)
  | 0x02 => one (a - b)
  | 0x03 => one (satS 32 (a + b))
  | 0x04 => one (satS 32 (a - b))
  | 0x05 => pairWr o.dst (e.spair o.a + e.spair o.b)
  | 0x06 => pairWr o.dst (e.spair o.a - e.spair o.b)
  | 0x07 => [.d o.dst (ua &&& ub)]
  | 0x08 => [.d o.dst (ua ||| ub)]
  | 0x09 => [.d o.dst (ua ^^^ ub)]
  | 0x0A => [.d o.dst (ua <<< (o.sh % 32))]
  | 0x0B => [.d o.dst (ua.sshiftRight (o.sh % 32))]
  | 0x0C => [.d o.dst (ua >>> (o.sh % 32))]
  | 0x0D => one (min a b)
  | 0x0E => one (max a b)
  | 0x0F => one (min (max a (-b)) b)
  | 0x10 => let f := cmpFlags 32 a b; [.flags f.1 f.2.1 f.2.2]
  | 0x11 => let f := cmpFlags 64 (e.spair o.a) (e.spair o.b); [.flags f.1 f.2.1 f.2.2]
  | 0x12 => [.d o.dst (if e.cond (o.sh % 8) then ua else ub)]
  | 0x13 => [.d o.dst (BitVec.ofNat 32 o.imm)]
  | 0x14 => let r := rndAcc 32 (e.acc.getD (o.a % 8) 0) (o.sh % 64); .d o.dst (BitVec.ofInt 32 r.1) :: (if r.2 then [.sov] else [])
  | 0x15 => let r := rndAcc 64 (e.acc.getD (o.a % 8) 0) (o.sh % 64); pairWr o.dst r.1 ++ (if r.2 then [.sov] else [])
  | 0x16 => if e.aov (o.dst % 8) then [] else let r := acc72 (e.spair o.a); [.acc (o.dst % 8) r.1 r.2]
  | 0x17 => [.aclr (o.dst % 8)]
  | 0x18 => [.d o.dst (e.readSpecial o.sh)]
  | 0x19 => [.special o.sh (e.reg o.a).toNat]
  | _ => []

/-- The writes of the loads and stores of a bundle, loads first by bus (R201, R209, R210). A handler's store outside X 0x1000 to 0x1FFF is
discarded and sets WCOL (R224). -/
def Engine.memWrites (e : Engine) (handler : Bool) (xs : List Access) : List Wr :=
  let order := sortBy (fun x y => x.bus ≤ y.bus) xs
  order.flatMap (fun x =>
    let a := e.address x
    if x.store then
      let ok (a : Nat) : Bool := !handler || (x.bus = 1 && 0x1000 ≤ a % 8192)
      let w0 : Wr := if ok a then .mem x.bus a (e.reg x.reg) else .wcol
      let w1 : Wr := if ok (a + 1) then .mem x.bus (a + 1) (e.reg (x.reg + 1)) else .wcol
      if x.wide then [w0, w1] else [w0]
    else if x.wide then [.d x.reg (e.word x.bus a), .d (x.reg + 1) (e.word x.bus (a + 1))]
    else [.d x.reg (e.word x.bus a)])

/-- The pointers after the accesses of a bundle (R207: seen by the next bundle's address computation). -/
def Engine.postModifyAll (e : Engine) (xs : List Access) : Engine :=
  xs.foldl (fun (s : Engine) x =>
    match e.postModify x with
    | some p => { s with special := s.special.set (ptrNum x.bus x.ptr) p }
    | none => s) e

/-- The writes that a CTL operation leaves in flight, and its branch (R208, R218, R221). -/
def Engine.ctl (e : Engine) (o : OpWord) : List Wr × Option Nat :=
  match o.op with
  | 0x1 => ([], some o.addr)
  | 0x2 => ([], if e.cond (o.sh % 8) then some o.addr else none)
  | 0x3 =>
    let c := if o.b = 1 then o.imm % 65536 else (e.reg o.a).toNat % 65536
    ([.loopRegs c o.addr], if c = 0 then some ((o.addr + 1) % 4096) else none)
  | 0x4 =>
    let c := (e.spc 22 + 65535) % 65536
    ([.special 22 c], if c ≠ 0 then some o.addr else none)
  | 0x6 => (e.reqs.flatMap (fun r => match r.got with
      | some g => [.d r.dst (BitVec.ofInt 32 g.1), .d (r.dst + 1) (BitVec.ofInt 32 g.2)]
      | none => []), none)
  | _ => ([], none)

/-- The next program address after a bundle that starts at `pc` and has `n` words: a branch whose delay is over, the hardware loop
(R218), or the next word. Answers the address and LC0. -/
def Engine.nextPc (e : Engine) (n : Nat) : Nat × Nat :=
  let last := (e.pcw + n - 1) % 4096
  let lc := e.spc 21
  match e.brDue with
  | some t => (t, if e.spc 23 ≤ t && t ≤ e.spc 24 then lc else 0)
  | none =>
    if last = e.spc 24 && 1 < lc then (e.spc 23, lc - 1)
    else if last = e.spc 24 && lc = 1 then ((last + 1) % 4096, 0)
    else ((e.pcw + n) % 4096, lc)

/-- The fetch goes back from LE to LS after a bundle of `n` words (R218). -/
def Engine.loopsBack (e : Engine) (n : Nat) : Bool := e.brDue.isNone && (e.pcw + n - 1) % 4096 = e.spc 24 && 1 < e.spc 21

/-- The number of words of the loop body. -/
def Engine.body (e : Engine) : Nat := (e.spc 24 + 4096 - e.spc 23) % 4096 + 1

/-- The bundle steps that the return from LE to LS costs: none for a body that the repeat cache holds, one for a longer one (R219). -/
def Engine.backSteps (e : Engine) (n : Nat) : Nat := if e.loopsBack n && 16 < e.body then 1 else 0

/-- The repeat cache after a bundle of `n` words: the first pass of a body of at most 16 words is captured when it ends (R219). -/
def Engine.cached (e : Engine) (n : Nat) : List (BitVec 64) :=
  if e.loopsBack n && e.body ≤ 16 && e.cache.isEmpty then (List.range e.body).map (fun i => Tab.getD e.pm ((e.spc 23 + i) % 4096) 0) else e.cache

/-- The number of words of a bundle. -/
def Bundle.words (b : Bundle) : Nat :=
  (if b.lanes.isEmpty then 0 else 1) + (b.accs.length + 1) / 2 + (if b.op.isSome then 1 else 0)

/-- The bundle waits: a fifth TRD, or a TWAIT with a read outstanding (R220, R221). -/
def Engine.mustWait (e : Engine) (b : Bundle) : Bool :=
  match b.op with
  | some o => o.ctl && ((o.op = 5 && 4 ≤ (e.reqs.filter (fun r => r.got.isNone)).length) || (o.op = 6 && e.reqs.any (fun r => r.got.isNone)))
  | none => false

/-- A legal bundle that need not wait issues: the writes of three bundles before are seen, its own enter the pipeline (R206). -/
def Engine.issue (e0 : Engine) (b : Bundle) : Engine :=
  let e := e0.applyAll e0.w3
  let handler : Bool := match e.run with | some r => decide (r.kind = 2) | none => false
  let mac := e.macWrites b.lanes
  let alu := match b.op with | some o => if o.ctl then [] else e.aluWrites o | none => []
  let mem := e.memWrites handler b.accs
  let ct := match b.op with | some o => if o.ctl then e.ctl o else ([], none) | none => ([], none)
  let ws := collide (mac ++ alu ++ ct.1 ++ mem) []
  let nx := e.nextPc b.words
  let reqs := match b.op with
    | some o => if o.ctl && o.op = 5 then e.reqs ++ [{ handle := (e.reg o.a).toNat, idx := (e.reg o.b).toNat, dst := o.dst }]
                else if o.ctl && o.op = 6 then [] else e.reqs
    | none => e.reqs
  let e1 := e.postModifyAll b.accs
  { e1 with
    special := (e1.special.set 21 nx.2).set 25 (e1.tpend reqs)
    pcw := nx.1, brDue := e.brNext, brNext := ct.2, cache := e.cached b.words, reqs := reqs, w1 := ws, w2 := e.w1, w3 := e.w2, cur := {}, stall := none
    run := e.run.map (fun r => { r with steps := r.steps + 1 + e.backSteps b.words, reads := r.reads + (if reqs.length = e.reqs.length + 1 then 1 else 0) }) }

/-- A lane joins the open bundle. -/
def Bundle.addLane (b : Bundle) (l : Lane) : Bundle := { b with lanes := b.lanes ++ [l] }

/-- An access joins the open bundle. -/
def Bundle.addAcc (b : Bundle) (x : Access) : Bundle := { b with accs := b.accs ++ [x] }

/-- What adding a part to the open bundle of an engine leads to: the bundle stays open, waits, issues, or is illegal (a trap). -/
inductive IssueRes where
  | ok (e : Engine)
  | trap
  deriving Repr

/-- The open bundle `b` with END (`fin`) set or not. -/
def Engine.take (e : Engine) (b : Bundle) (fin : Bool) : IssueRes :=
  if !fin then .ok { e with cur := b }
  else if b.illegal then .trap
  else if e.mustWait b then .ok { e with cur := {}, stall := some b }
  else .ok (e.issue b)

/-- A waiting bundle is tried again after a table read has returned (R220, R221). -/
def Engine.retry (e : Engine) : Engine :=
  match e.stall with
  | some b => if e.mustWait b then e else e.issue b
  | none => e

/-- The entry registers of a computation (R226, Table 7.12): accumulators and AOV clear, loop counts 0, cache empty. -/
def Engine.enter (e0 : Engine) (r : Run) (bank : Bool) (cycle : Nat) : Engine :=
  let e := e0.drain
  let d := ((((e.d.set 0 (BitVec.ofNat 32 r.slot)).set 1 (BitVec.ofNat 32 r.axis)).set 2 (BitVec.ofNat 32 r.pass)).set 3 (BitVec.ofNat 32 cycle))
  let d := if r.kind = 1 then d.set 4 (if e.saveValid then 1 else 0) else d
  let cb := 128 * r.slot + (if bank then 64 else 0)
  let wb := 128 * r.slot + (if bank then 0 else 64)
  let sp := ((((((e.special.set 0 cb).set 1 wb).set 4 (128 * r.slot)).set 5 (0x1000 + 64 * r.slot)).set 6 (0x1800 + 64 * r.slot)).set 8 0)
  let sp := ((sp.set 21 0).set 22 0).set 25 (e.tpend [] / 256 * 256)
  let entry := if r.kind = 1 then 0x108 else if r.kind = 2 then 0x100
    else 0x020 * r.kernel + (if r.pass = 1 then 0x08 else if r.pass = 2 then 0x10 else 0)
  { e with d := d, special := sp, acc := List.replicate 8 0, pcw := entry, cur := {}, stall := none, reqs := [], brDue := none, brNext := none, cache := [],
           run := some r }

/-- The preemption of R223: bundles in flight complete, the handler starts at 0x100 with PCAUSE and PAXIS. No register is saved (R225). -/
def Engine.preempt (e0 : Engine) (cause : Nat) : Engine :=
  let wasAxis : Bool := match e0.run with | some r => decide (r.kind = 0) | none => false
  let e := e0.halted
  let st := e.estat
  let st := st - 2 ^ 14 * bits st 16 14 + 2 ^ 14 * cause
  let st := if wasAxis then setBit st 17 else clrBit st 17
  { (e.setEstat st) with pcw := 0x100, cur := {}, stall := none, reqs := [], brDue := none, brNext := none, cache := [], pcause := cause,
                         run := some { kind := 2, slot := 0, axis := 0, kernel := 0, pass := 0 } }

/-- Words `o` to `o + n − 1` of an engine memory. -/
def wordsAt (m : Tab Word) (o n : Nat) : List Word := (List.range n).map (fun i => Tab.getD m (o + i) 0)

/-- Words stored from `o` on. -/
def putWords (m : Tab Word) (o : Nat) : List Word → Tab Word
  | [] => m
  | w :: ws => putWords (Tab.set m o w) (o + 1) ws

/-- Two words, low first, of a 64-bit quantity (R201). -/
def words64 (x : Int) : List Word :=
  let v := lowBits 64 x
  [BitVec.ofNat 32 v, BitVec.ofNat 32 (v / 2 ^ 32)]

end Sys2Proof.Machine
end

