-- ==== Sys2Proof/Machine/Planner.lean ====
section
/-! DEFINITION. The profile generator: minimum-time jerk-limited plans (R103, R107 to R116), in au and seconds. Square
roots and bisections are carried to 2^−64, inside the one LSB that R103 allows (log 8). A replan continues from the exact state of the plan in force (R108). -/

namespace Sys2Proof.Machine

/-- The state that a plan starts from, in au and seconds. -/
structure Kin where
  p : Rat
  v : Rat
  a : Rat
  deriving DecidableEq, Repr

/-- The state of a set-point. -/
def SetPoint.kin (s : SetPoint) : Kin := ⟨fix 32 s.p, fix 40 s.v, fix 32 s.a⟩

/-- What the planner takes as equal: 2^−40 au or s, which covers its square roots and bisections (log 8). -/
def planTol : Rat := 1 / (2 : Rat) ^ 40

/-- The state (p, v, a) after `t` seconds of jerk `j`. -/
def moveBy (p v a j t : Rat) : Rat × Rat × Rat :=
  (p + v * t + a * t ^ 2 / 2 + j * t ^ 3 / 6, v + a * t + j * t ^ 2 / 2, a + j * t)

/-- The state at the end of phases that start in (p, v, a). -/
def runPhases : List Phase → Rat → Rat → Rat → Rat × Rat × Rat
  | [], p, v, a => (p, v, a)
  | f :: fs, p, v, a =>
    let e := moveBy p v a f.jerk f.dur
    runPhases fs e.1 e.2.1 e.2.2

/-- The length of phases in seconds. -/
def phasesTime : List Phase → Rat
  | [] => 0
  | f :: fs => f.dur + phasesTime fs

/-- The phase that holds `t` and the state there: (p, v, a, j); `none` at and after the end. -/
def phaseAt : List Phase → Rat → Rat → Rat → Rat → Option (Rat × Rat × Rat × Rat)
  | [], _, _, _, _ => none
  | f :: fs, p, v, a, t =>
    if t < f.dur then
      let e := moveBy p v a f.jerk t
      some (e.1, e.2.1, e.2.2, f.jerk)
    else
      let e := moveBy p v a f.jerk f.dur
      phaseAt fs e.1 e.2.1 e.2.2 (t - f.dur)

/-- The plan at `t` seconds after its origin (R103): exact, and the final state at and after the end. -/
def Plan.at (pl : Plan) (t : Rat) : Rat × Rat × Rat × Rat :=
  match (if phasesTime pl.phases ≤ t + planTol then none else phaseAt pl.phases pl.p0 pl.v0 pl.a0 t) with
  | some r => r
  | none => if pl.hold then (pl.pf, 0, 0, 0) else (pl.pf + pl.vf * (t - phasesTime pl.phases), pl.vf, 0, 0)

/-- The plan has ended at `t`. -/
def Plan.ended (pl : Plan) (t : Rat) : Bool := phasesTime pl.phases ≤ t + planTol

/-- The seconds from a plan's origin to cycle `n` (R103; R179 moves the origin by `lag` cycles). -/
def Plan.time (pl : Plan) (tcyc n : Nat) : Rat :=
  (((n : Int) - (pl.n0 : Int) - (pl.lag : Int) : Int) : Rat) * (tcyc : Rat) / 1000000000

/-- The set-points of cycle `n`, each rounded once, half to even, to its format (R103). -/
def Plan.setPoint (pl : Plan) (tcyc n : Nat) : SetPoint :=
  let r := pl.at (pl.time tcyc n)
  { p := toFix 64 32 r.1, v := toFix 64 40 r.2.1, a := toFix 64 32 r.2.2.1, j := toFix 64 24 r.2.2.2 }

/-- One leg of a velocity change upwards by `dv`, from acceleration `as` to acceleration `ae` under the limit `L`; an acceleration beyond `L` is reduced at J
first (R109). -/
def leg (J L as ae dv : Rat) : List Phase :=
  let ap2 := (2 * J * dv + as ^ 2 + ae ^ 2) / 2
  if ap2 ≤ L ^ 2 then
    let ap := max (sqrtR ap2) (max as ae)
    [⟨(ap - as) / J, J⟩, ⟨(ap - ae) / J, -J⟩]
  else if L < as then [⟨(as - L) / J, -J⟩, ⟨max 0 ((dv - (as ^ 2 - ae ^ 2) / (2 * J)) / L), 0⟩, ⟨max 0 ((L - ae) / J), -J⟩]
  else
    let hold := (dv - (2 * L ^ 2 - as ^ 2 - ae ^ 2) / (2 * J)) / L
    [⟨(L - as) / J, J⟩, ⟨max 0 hold, 0⟩, ⟨max 0 ((L - ae) / J), -J⟩]

/-- A velocity change upwards from (v, a), 0 ≤ a, to (vf, 0), with limit `D` while v < 0 and `A` afterwards (R107). -/
def rise (J A D v a vf : Rat) : List Phase :=
  if 0 ≤ v then leg J A a 0 (vf - v)
  else if vf ≤ 0 then leg J D a 0 (vf - v)
  else
    let m := min A D
    let c2 := min (m ^ 2) (min (2 * J * vf) (2 * J * (-v) + a ^ 2))
    let low2 := a ^ 2 - 2 * J * (-v)
    let ac := sqrtR (max c2 (max 0 low2))
    leg J D a ac (-v) ++ leg J A ac 0 vf

/-- The minimum-time change from (v0, a0) to velocity `vf` at zero acceleration (R107), an acceleration beyond its
limit being reduced first at J (R109). `A` bounds |a| while |v| grows and `D` while it falls. -/
def velPhases (J A D v0 a0 vf : Rat) : List Phase :=
  let vs := v0 + a0 * absR a0 / (2 * J)
  let s : Rat := if vs ≤ vf then 1 else -1
  let v := s * v0
  let a := s * a0
  let f := s * vf
  let ph : List Phase :=
    if a < 0 then ⟨-a / J, J⟩ :: rise J A D (s * vs) 0 f
    else
      let L := if v < 0 then D else A
      if L < a then ⟨(a - L) / J, -J⟩ :: rise J A D (v + (a ^ 2 - L ^ 2) / (2 * J)) L f
      else rise J A D v a f
  ph.map (fun q => ⟨q.dur, s * q.jerk⟩)

/-- Travel of phases from (v0, a0). -/
def travel (ph : List Phase) (v0 a0 : Rat) : Rat := (runPhases ph 0 v0 a0).1

/-- Travel of the shortest stop. -/
def stopTravel (J D v0 a0 : Rat) : Rat := travel (velPhases J D D v0 a0 0) v0 a0

/-- Phases mirrored. -/
def mirror (ph : List Phase) : List Phase := ph.map (fun q => ⟨q.dur, -q.jerk⟩)

/-- The first `t` seconds of phases. -/
def phasesUpTo : List Phase → Rat → List Phase
  | [], _ => []
  | f :: fs, t => if t < f.dur then [⟨t, f.jerk⟩] else f :: phasesUpTo fs (t - f.dur)

/-- `t` seconds of the phases `up`, then the shortest change to rest. -/
def brakeAfter (J A D v0 a0 : Rat) (up : List Phase) (t : Rat) : List Phase :=
  let u := phasesUpTo up t
  let e := runPhases u 0 v0 a0
  u ++ velPhases J A D e.2.1 e.2.2 0

/-- The time between `lo` and `hi` for which the phases `up` are followed, so that the stop after them ends `dist` away: the travel grows with that time. -/
def brakeTime (J A D v0 a0 dist : Rat) (up : List Phase) : Nat → Rat → Rat → Rat
  | 0, lo, _ => lo
  | k + 1, lo, hi =>
    let m := (lo + hi) / 2
    if travel (brakeAfter J A D v0 a0 up m) v0 a0 ≤ dist then brakeTime J A D v0 a0 dist up k m hi
    else brakeTime J A D v0 a0 dist up k lo m

/-- The minimum-time phases that travel `dist`, which is not short of the shortest stop, to rest: the fastest change to the velocity V is followed as long as a stop
can still end at the target, with V held where it is reached. -/
def upPhases (J A D V v0 a0 dist : Rat) : List Phase :=
  let up := velPhases J A D v0 a0 V
  let full := travel (up ++ velPhases J A D V 0 0) v0 a0
  if full ≤ dist then up ++ ⟨(dist - full) / V, 0⟩ :: velPhases J A D V 0 0
  else brakeAfter J A D v0 a0 up (brakeTime J A D v0 a0 dist up 96 0 (phasesTime up))

/-- The minimum-time phases that travel `dist` from (v0, a0) to rest under V, A, D and J (R107): the shortest stop where it ends there; else towards the side of its
rest point on which the target lies. -/
def posPhases (J A D V v0 a0 dist : Rat) : List Phase :=
  let st := velPhases J A D v0 a0 0
  let rest := travel st v0 a0
  if absR (rest - dist) ≤ planTol && (v0 ≠ 0 || a0 ≠ 0) then st
  else if rest ≤ dist then upPhases J A D V v0 a0 dist
  else mirror (upPhases J A D V (-v0) (-a0) (-dist))

/-- The shortest stop passes the target (R113) by more than `tol`. A target that lies behind the moving axis is reached by stopping and reversing: it is not passed, and sets no
OVERSHOOT_PLANNED (DESIGN CHOICE, log 47). -/
def passes (tol J D v0 a0 dist : Rat) : Bool :=
  let st := stopTravel J D v0 a0
  (0 < st && -tol ≤ dist && dist + tol < st) || (st < 0 && dist ≤ tol && st < dist - tol)

/-- To rest and back to the target by a second plan (R113, R115). -/
def overshootPhases (J A D V v0 a0 dist : Rat) : List Phase :=
  let st := velPhases J D D v0 a0 0
  st ++ posPhases J A D V 0 0 (dist - travel st v0 a0)

/-- The smallest deceleration from `lo` to `hi` that reaches `dist` without overshoot (d* of R114), by bisection. -/
def leastDec (J v0 a0 dist : Rat) : Nat → Rat → Rat → Rat
  | 0, _, hi => hi
  | k + 1, lo, hi =>
    let m := (lo + hi) / 2
    if passes 0 J m v0 a0 dist then leastDec J v0 a0 dist k m hi else leastDec J v0 a0 dist k lo m

/-- The smallest jerk from `lo` to `hi` that reaches `dist` without overshoot (j* of R116), by bisection. -/
def leastJerk (D v0 a0 dist : Rat) : Nat → Rat → Rat → Rat
  | 0, _, hi => hi
  | k + 1, lo, hi =>
    let m := (lo + hi) / 2
    if passes 0 m D v0 a0 dist then leastJerk D v0 a0 dist k m hi else leastJerk D v0 a0 dist k lo m

/-- The smallest velocity limit up to `hi` whose profile of `dist` ends within `t` (AT_POSITION, R133), by bisection. -/
def leastVel (J A v0 a0 dist t : Rat) : Nat → Rat → Rat → Rat
  | 0, _, hi => hi
  | k + 1, lo, hi =>
    let m := (lo + hi) / 2
    if phasesTime (posPhases J A A m v0 a0 dist) ≤ t then leastVel J A v0 a0 dist t k lo m
    else leastVel J A v0 a0 dist t k m hi

/-- The limits of a profile in au and seconds. -/
structure Limits where
  v : Rat
  a : Rat
  d : Rat
  j : Rat
  deriving DecidableEq, Repr

/-- The plan to rest at `pf` with origin `n0` from the state `k` (R107, R113). -/
def planPos (n0 : Nat) (k : Kin) (pf : Rat) (l : Limits) : Plan :=
  let p := k.p
  let v := k.v
  let a := k.a
  let ph := if passes planTol l.j l.d v a (pf - p) then overshootPhases l.j l.a l.d l.v v a (pf - p)
    else posPhases l.j l.a l.d l.v v a (pf - p)
  { n0 := n0, p0 := p, v0 := v, a0 := a, phases := ph, pf := pf, hold := true }

/-- The minimum-time plan to rest at `pf` with origin `n0` from the state `k`, a reversal included (R107, R132). -/
def planVia (n0 : Nat) (k : Kin) (pf : Rat) (l : Limits) : Plan :=
  { n0 := n0, p0 := k.p, v0 := k.v, a0 := k.a, phases := posPhases l.j l.a l.d l.v k.v k.a (pf - k.p), pf := pf, hold := true }

/-- The plan to velocity `vf` with origin `n0` from the state `k` (R107). -/
def planVel (n0 : Nat) (k : Kin) (vf : Rat) (l : Limits) : Plan :=
  let p := k.p
  let v := k.v
  let a := k.a
  let ph := velPhases l.j l.a l.d v a vf
  { n0 := n0, p0 := p, v0 := v, a0 := a, phases := ph, pf := (runPhases ph p v a).1, vf := vf, hold := false }

/-- The stop profile under `d` and `j` (R111): |a| is bounded by `d` throughout, then the position is held. -/
def planStop (n0 : Nat) (k : Kin) (d j : Rat) : Plan :=
  let p := k.p
  let v := k.v
  let a := k.a
  let ph := velPhases j d d v a 0
  { n0 := n0, p0 := p, v0 := v, a0 := a, phases := ph, pf := (runPhases ph p v a).1, hold := true }

/-- What remains of phases after `t` seconds holds a jerk beyond `J`. -/
def exceedsFrom (J : Rat) : List Phase → Rat → Bool
  | [], _ => false
  | f :: fs, t => decide (t < f.dur ∧ J < absR f.jerk) || exceedsFrom J fs (t - f.dur)

/-- At `t` the plan is in a constant-velocity phase or at rest (R116). -/
def Plan.steady (pl : Plan) (t : Rat) : Bool := let q := pl.at t; decide (q.2.2.1 = 0 ∧ q.2.2.2 = 0)

/-- The plan's remaining part would exceed the jerk `J`, and it is neither at constant velocity nor at rest (R116). -/
def Plan.needsJerk (pl : Plan) (t J : Rat) : Bool := exceedsFrom J pl.phases t && !pl.steady t

/-- The plan moved by `x` au as a whole (R152). -/
def Plan.shift (pl : Plan) (x : Rat) : Plan := { pl with p0 := pl.p0 + x, pf := pl.pf + x }

end Sys2Proof.Machine
end

