-- ==== Sys2Proof/Machine/Servo.lean ====
section
/-! DEFINITION. The standard servo kernel (R68 to R101), the supervision of a servo axis (R93 to R100), the mode structures and
the hand-over (R155 to R170): functions from an axis to what one computation of it produces. -/

namespace Sys2Proof.Machine

/-- What a computation reports beside its result: an event by its code's number and two arguments. -/
structure AxEvent where
  code : Nat
  a : Int := 0
  b : Int := 0
  deriving DecidableEq, Repr

/-- The servo faults' codes (Table 3.4, Table 4.11, R256). -/
abbrev fOVERRUN : Nat := 0x0101
abbrev fFOLLOWING : Nat := 0x0102
abbrev fFOLLOWING_HARD : Nat := 0x0103
abbrev fFEEDBACK_LOST : Nat := 0x0104
abbrev fARITH : Nat := 0x0105
abbrev fSPLIT_LOST : Nat := 0x0106
abbrev fTORQUE_SAT : Nat := 0x0107
abbrev fNODE_FAULT : Nat := 0x0108
abbrev fHOST_ESTOP : Nat := 0x0109
abbrev fSAFE_TORQUE_OFF : Nat := 0x010A
abbrev fLIMIT_POS : Nat := 0x0201
abbrev fLIMIT_NEG : Nat := 0x0202
abbrev fSW_LIMIT : Nat := 0x0203
abbrev fHOME_FAILED : Nat := 0x0204
abbrev fSWITCH_CHATTER : Nat := 0x0205
abbrev fFOLLOW_OVERSPEED : Nat := 0x0206
abbrev fPOS_RANGE : Nat := 0x0207
abbrev fREG_LOST : Nat := 0x0208
abbrev fSTALL : Nat := 0x0301
abbrev fSTEP_OVERRUN : Nat := 0x0302
abbrev fSTEP_NODE_FAULT : Nat := 0x0303
abbrev fSTEP_HOME_FAILED : Nat := 0x0304
abbrev fSTEP_FB_LOST : Nat := 0x0305
abbrev fSTEP_SAFE_OFF : Nat := 0x0306
abbrev fPACE_SHED : Nat := 0x0401

/-- Default and permitted reaction classes of a fault code: bit c of `allowed` permits class c (Tables 3.4, 4.11, 6.8, R256). -/
def reactDefault (code : Nat) : Nat × Nat :=
  if code = fOVERRUN then (2, 12) else if code = fFOLLOWING then (2, 14) else if code = fFOLLOWING_HARD then (3, 12)
  else if code = fFEEDBACK_LOST then (3, 8) else if code = fARITH then (3, 12) else if code = fSPLIT_LOST then (2, 14)
  else if code = fTORQUE_SAT then (1, 7) else if code = fNODE_FAULT then (3, 8)
  else if code = fSAFE_TORQUE_OFF then (3, 8) else if code = fLIMIT_POS then (2, 12) else if code = fLIMIT_NEG then (2, 12)
  else if code = fSW_LIMIT then (2, 12) else if code = fHOME_FAILED then (2, 12) else if code = fSWITCH_CHATTER then (1, 7)
  else if code = fFOLLOW_OVERSPEED then (2, 14) else if code = fPOS_RANGE then (2, 12) else if code = fREG_LOST then (1, 7)
  else if code = fSTALL then (2, 12) else if code = fSTEP_OVERRUN then (2, 12) else if code = fSTEP_NODE_FAULT then (3, 8)
  else if code = fSTEP_HOME_FAILED then (2, 12) else if code = fSTEP_FB_LOST then (1, 7) else if code = fSTEP_SAFE_OFF then (3, 8)
  else if code = fPACE_SHED then (3, 8) else (0, 0)

/-- The key under which REACT_code with its SUB is kept (R405, R406). -/
def reactKey (id code : Nat) : Nat := 65536 * code + id

/-- The class configured for a fault of an axis (R95, R96, R153). -/
def classOf (p : Params) (id code : Nat) : Nat := (Tab.getD p (reactKey id code) ((reactDefault code).1 : Int)).toNat

/-! ### Supervision (Table 3.3, Table 3.5) -/

/-- Table 3.3, class TORQUE_OFF: torque 0, drive enable clear, integrators and filter histories 0, blend ended (R168). -/
def Work.cutTorque (w : Work) : Work :=
  { w with
    k := { w.k with iP := 0, iV := 0, n1 := { on := w.k.n1.on }, n2 := { on := w.k.n2.on }, lp := { on := w.k.lp.on },
                    blend := none, tauPrev := 0, tauNew := 0 }
    r := { w.r with trq := 0, drive := false, blending := false } }

/-- A condition of class WARN holds: WARN_CODE is the lowest code among those that hold (Table 3.3, R95). -/
def Sup.addWarn (s : Sup) (code : Nat) : Sup :=
  let h := if s.warnHold.contains code then s.warnHold else code :: s.warnHold
  { s with warnHold := h, warn := h.foldl min code, reaction := if s.fault = 0 then 1 else s.reaction }

/-- A condition of class WARN no longer holds. -/
def Sup.dropWarn (s : Sup) (code : Nat) : Sup :=
  let h := s.warnHold.filter (fun c => c ≠ code)
  { s with warnHold := h, warn := match h with | [] => 0 | c :: cs => cs.foldl min c,
           reaction := if s.fault = 0 then (if h.isEmpty then 0 else 1) else s.reaction }

/-- The conditions of Table 3.4 of class WARN that end with FE_TIMING and with control: FOLLOWING and TORQUE_SAT. -/
def Sup.dropSup (s : Sup) : Sup := (s.dropWarn fFOLLOWING).dropWarn fTORQUE_SAT

/-- Entry of TORQUE_OFF with `code` latched; mode STOP (Table 5.4). -/
def Work.enterTorqueOff (w : Work) (code : Nat) : Work :=
  let w := w.cutTorque
  { w with sup := { w.sup with state := 5, fault := code, reaction := 3, mode := 7, feCnt := none, qsCnt := none,
                               stillCnt := none, offNew := true, qsNew := false, newFault := true }.dropSup }

/-- Entry of QUICKSTOP with `code` latched; mode STOP (Table 3.5). -/
def Work.enterQuickStop (w : Work) (code : Nat) : Work :=
  { w with sup := { w.sup with state := 3, fault := code, reaction := 2, mode := 7, feCnt := none, qsCnt := none, stillCnt := none,
                               qsFrom := w.sup.mode, qsNew := true, newFault := true }.dropSup }

/-- The QS timer starts in the axis cycle that enters QUICKSTOP (R574): where the entry comes after the cycle's own count, it stands at 0 from here on. -/
def Work.timed (w : Work) : Work :=
  if w.sup.state = 3 && w.sup.qsCnt.isNone then { w with sup := { w.sup with qsCnt := some 0 } } else w

/-- Of two conditions of equal class that arise in one axis cycle the lower code is latched; a later one leaves FAULT_CODE as it is (R97). -/
def Work.lowest (w : Work) (code : Nat) : Work := if w.sup.newFault && code < w.sup.fault then { w with sup := { w.sup with fault := code } } else w

/-- A fault of `code` and class `cls` (R95, R97, Table 3.5). In OFF it latches nothing. -/
def Work.raise (w : Work) (code cls : Nat) : Work :=
  let st := w.sup.state
  if st = 0 then w
  else if cls = 0 then w
  else if cls = 1 then (if st = 1 || st = 2 then { w with sup := w.sup.addWarn code } else w)
  else if cls = 2 then (if st = 1 || st = 2 then w.enterQuickStop code else if st = 3 then w.lowest code else w)
  else if st = 5 then (if w.sup.reaction = 3 then w.lowest code else w)
  else w.enterTorqueOff code

/-- Torque-off by the SI, in any state (Table 3.5 last row, R100); a latched fault of equal class keeps its code (R97). -/
def Work.safeOff (w : Work) : Work :=
  if w.sup.state = 5 then { w.cutTorque with sup := { w.sup with reaction := 3 } }
  else w.enterTorqueOff fSAFE_TORQUE_OFF

/-- A reaction escalates to TORQUE_OFF and keeps FAULT_CODE (R97). -/
def Work.escalate (w : Work) : Work := let x := w.enterTorqueOff w.sup.fault; { x with sup := { x.sup with newFault := false } }

/-- Conditions of one axis cycle: highest class first, lowest code first among equals (R97). -/
def orderConds (cs : List (Nat × Nat)) : List (Nat × Nat) :=
  (sortBy (fun x y => y.2 < x.2 || (x.2 = y.2 && x.1 ≤ y.1)) cs)

/-- All conditions of one axis cycle raised (R97). -/
def Work.raiseAll (w : Work) (cs : List (Nat × Nat)) : Work := (orderConds cs).foldl (fun w c => w.raise c.1 c.2) w

/-! ### Arithmetic -/

/-- The axis period T in seconds (R43, R68). -/
def axisPeriod (tcyc d : Nat) : Rat := ((tcyc * d : Nat) : Rat) / 1000000000

/-- A factor that lies within 2^−k of 1, whatever `e` is. -/
def nearOne (k : Nat) (e : Rat) : Rat :=
  let lim : Rat := 1 / (2 : Rat) ^ k - 1 / (2 : Rat) ^ (k + 30)
  1 + clampR (-lim) lim e

/-- A converted gain: relative error below 2^−30 ("Parameters" of chapter 3). -/
def gain (b : Nat) : Rat := f32ToRat b * nearOne 30 (Config.gainError b)

/-- A gain of an axis. -/
def Axis.gain (ax : Axis) (id : Nat) : Rat := Machine.gain (ax.prm.nat id)

/-- Ceiling of a time in µs over the period T: the axis-cycle count at which it is reached (R574). -/
def cyclesOf (us : Nat) (T : Rat) : Nat := ceilNat (((us : Nat) : Rat) / 1000000 / T)

/-- Reduction of a position into 0 to MODULUS for a modulo axis (R70). -/
def reduceMod (m p : Int) : Int := if m ≤ 0 then p else p % m

/-- The loop structure of a mode: 0 position, 1 velocity, 2 torque (R155). -/
def structOf (mode : Nat) : Nat := if mode = 1 then 1 else if mode = 2 then 2 else 0

/-- A table of the pool read at position `p` (Q32.32) with origin `o` (R81), as a fraction of the torque scale. f keeps 16 fraction bits: the bits below them are cut off
(DESIGN CHOICE, log 46: R81 does not say whether they are rounded). -/
def TrqTable.read (t : TrqTable) (o p : Int) : Rat :=
  if t.n = 0 || t.period = 0 then 0 else
    let ph := (p - o) % (t.period : Int)
    let x := ph * (t.n : Int) * 65536 / (t.period : Int)
    let i := (x / 65536).toNat
    let f : Rat := ((x % 65536 : Int) : Rat) / 65536
    let e0 : Rat := (t.entries.getD (i % t.n) 0 : Int)
    let e1 : Rat := (t.entries.getD ((i + 1) % t.n) 0 : Int)
    (e0 + f * (e1 - e0)) / 32768

/-- A loaded table read, or 0 (R80). -/
def tableAt (t : Option TrqTable) (o p : Int) : Rat :=
  match t with
  | some t => t.read o p
  | none => 0

/-- Coefficients b0, b1, b2, a1, a2 of a filter at frequency `f` (R77); `zn` is `none` for the low-pass. The tangent carries the error that the conversion
of a coefficient may have (DEDUCED, log 5). -/
def coeffs (f T zd : Rat) (zn : Option Rat) : Rat × Rat × Rat × Rat × Rat :=
  let k := tanPi (f * T) * nearOne 30 (Config.tanError (f * T))
  let norm := 1 / (1 + 2 * zd * k + k * k)
  let a1 := 2 * (k * k - 1) * norm
  let a2 := (1 - 2 * zd * k + k * k) * norm
  match zn with
  | some zn => ((1 + 2 * zn * k + k * k) * norm, a1, (1 - 2 * zn * k + k * k) * norm, a1, a2)
  | none => (k * k * norm, 2 * k * k * norm, k * k * norm, a1, a2)

/-- The b0 of a filter, 1 when it passes its input unchanged (R77, R89). -/
def b0Of (f T zd : Rat) (zn : Option Rat) : Rat := if f = 0 then 1 else (coeffs f T zd zn).1

/-- One filter step (R77, R79); `x` as a fraction of the torque scale. -/
def Biquad.step (h : Biquad) (f T zd : Rat) (zn : Option Rat) (x : Rat) : Biquad × Rat :=
  if f = 0 then ({ h with on := false }, x)
  else
    let xi := rndHE (x * 2147483648)
    let h := if h.on then h else { x1 := xi, x2 := xi, y1 := xi, y2 := xi, on := true }
    let c := coeffs f T zd zn
    let y := c.1 * x + c.2.1 * fix 31 h.x1 + c.2.2.1 * fix 31 h.x2 - c.2.2.2.1 * fix 31 h.y1 - c.2.2.2.2 * fix 31 h.y2
    ({ x1 := xi, x2 := h.x1, y1 := rndHE (y * 2147483648), y2 := h.y1, on := true }, y)

/-- The history seeded with `u` in all four places (R79, R166). -/
def Biquad.seed (u : Rat) (f : Rat) : Biquad :=
  let x := rndHE (u * 2147483648)
  { x1 := x, x2 := x, y1 := x, y2 := x, on := f ≠ 0 }

/-- The three filters in their order (R80). -/
def Axis.filters (ax : Axis) (T : Rat) (k : Kern) (u : Rat) : Kern × Rat :=
  let r1 := k.n1.step (ax.gain pNOTCH1_F) T (ax.gain pNOTCH1_ZD) (some (ax.gain pNOTCH1_ZN)) u
  let r2 := k.n2.step (ax.gain pNOTCH2_F) T (ax.gain pNOTCH2_ZD) (some (ax.gain pNOTCH2_ZN)) r1.2
  let r3 := k.lp.step (ax.gain pLP_F) T (ax.gain pLP_Z) none r2.2
  ({ k with n1 := r1.1, n2 := r2.1, lp := r3.1 }, r3.2)

/-- The three filters seeded with `u`, so that w equals u (R166). -/
def Axis.seedFilters (ax : Axis) (k : Kern) (u : Rat) : Kern :=
  { k with n1 := Biquad.seed u (ax.gain pNOTCH1_F), n2 := Biquad.seed u (ax.gain pNOTCH2_F), lp := Biquad.seed u (ax.gain pLP_F) }

/-- L1 and L2 of the observer (R74), with the error that the conversion of λ may have (DEDUCED, log 5). -/
def Axis.obsGains (ax : Axis) (T : Rat) : Rat × Rat :=
  let x := ax.gain pOBS_BW * T
  let lam := expNegTwoPi x * nearOne 30 (Config.expError x)
  (1 - lam * lam, (1 - lam) * (1 - lam))

/-- The observer's prediction p_pre, v_pre (R74). -/
def Axis.obsPredict (ax : Axis) (T : Rat) (k : Kern) : Rat × Rat :=
  let am := ax.gain pTRQ_TO_ACC * fix 31 k.tauPrev
  (k.pHat + k.vHat * T + am * T * T / 2, k.vHat + am * T)

/-! ### Feedback (R69 to R74) -/

/-- The sample is used: fresh, not a Hold Store repeat, and |FB_OFFSET| within FB_OFFSET_MAX (R71, R72). -/
def Axis.sampleGood (ax : Axis) : Bool :=
  ax.fb.fresh && !ax.fb.held && !ax.fb.missed && ax.fb.offset.natAbs ≤ ax.prm.nat pFB_OFFSET_MAX

/-- Steps 1 to 3 of R68: extension, conversion, instant correction, velocity; or the extrapolation of R72. A new axis cycle begins with them. -/
def Axis.feedback (ax : Axis) (T : Rat) (w0 : Work) : Work :=
  let w := { w0 with sup := { w0.sup with newFault := false } }
  let k := w.k
  let m := ax.prm.val pMODULUS
  let obsEn := ax.prm.nat pOBS_EN = 1
  if ax.sampleGood then
    let c : Int := (ax.fb.count : Int)
    let ext := if k.hasCount then k.count + wrapS 32 (c - k.count) else wrapS 32 c
    let pMeas := ext * ax.prm.val pFB_SCALE + ax.prm.val pPOS_OFFSET
    let corr := fix 40 k.vAct * (ax.fb.offset : Rat) / 1000000000
    let p := reduceMod m (satS 64 (rndHE ((pMeas : Rat) - corr * 4294967296)))
    let d : Int := if k.hasCount then wrapMod m (p - k.pAct) else 0
    let vDiff := toFix 64 40 (fix 32 d / T)
    let pre := ax.obsPredict T k
    let g := ax.obsGains T
    let r := fix 32 (wrapMod m (satS 64 (rndHE ((fix 32 p - pre.1) * 4294967296))))
    let k1 := { k with count := ext, hasCount := true, pAct := p }
    let k2 : Kern :=
      if !obsEn then { k1 with vAct := vDiff, obsOn := false }
      else if !k.obsOn then { k1 with vAct := vDiff, obsOn := true, pHat := fix 32 p, vHat := fix 40 vDiff }
      else
        let vh := pre.2 + g.2 / T * r
        { k1 with vAct := toFix 64 40 vh, pHat := pre.1 + g.1 * r, vHat := vh }
    { w with k := k2, sup := { w.sup with fbMissRun := 0 },
             r := { w.r with posAct := k2.pAct, velAct := k2.vAct } }
  else
    let p := reduceMod m (toFix 64 32 (fix 32 k.pAct + fix 40 k.vAct * T))
    let pre := ax.obsPredict T k
    let k2 := { k with pAct := p, pHat := if k.obsOn && obsEn then pre.1 else k.pHat, vHat := if k.obsOn && obsEn then pre.2 else k.vHat,
                       obsOn := k.obsOn && obsEn }
    { w with k := k2, sup := { w.sup with fbMissRun := incSat 4 w.sup.fbMissRun },
             r := { w.r with posAct := k2.pAct, velAct := k2.vAct } }

/-! ### Supervision of one axis cycle (step 4 of R68) -/

/-- The mode whose structure the computation uses: the one that a quick stop left, until its set-points act (R68). -/
def Sup.loopMode (s : Sup) : Nat := if s.qsNew then s.qsFrom else s.mode

/-- FOLLOW_ERR: e_p, or 0 where the position loop is open (R75, R76). -/
def Axis.followErr (ax : Axis) (w : Work) (sp : SetPoint) : Int :=
  if structOf w.sup.loopMode = 0 && w.sup.state ≠ 0 && w.sup.state ≠ 5 then wrapMod (ax.prm.val pMODULUS) (sp.p - w.k.pAct) else 0

/-- FOLLOW_ERR of the record: a torque-off that this cycle's delivery decided keeps the delivered set-point, so its error is shown. -/
def Axis.recordErr (ax : Axis) (w : Work) (sp : SetPoint) : Int :=
  if w.sup.state = 5 && w.sup.offNew && structOf w.sup.loopMode = 0 then wrapMod (ax.prm.val pMODULUS) (sp.p - w.k.pAct) else ax.followErr w sp

/-- Following-error supervision of Table 3.5 and the timers of R574 (R93). -/
def Axis.followSup (ax : Axis) (w : Work) (e : Int) : Work :=
  let s := w.sup
  let lim := ax.prm.val pFE_LIMIT
  let ab : Int := e.natAbs
  if structOf s.loopMode ≠ 0 then
    { w with sup := { s.dropWarn fFOLLOWING with state := if s.state = 2 then 1 else s.state, feCnt := none } }
  else if s.state = 1 then
    (if lim < ab then { w with sup := { s with state := 2, feCnt := some 0, feExc := incSat 16 s.feExc } } else w)
  else if s.state = 2 then
    (if ab ≤ lim - ax.prm.val pFE_HYST then { w with sup := { s.dropWarn fFOLLOWING with state := 1, feCnt := none } }
     else { w with sup := { s with feCnt := s.feCnt.map (· + 1) } })
  else w

/-- QS timer and standstill count of one axis cycle in QUICKSTOP (Table 3.5, R574). -/
def Axis.quickStopCounts (ax : Axis) (w : Work) : Work :=
  let s := w.sup
  if s.state = 3 then
    let tick (c : Option Nat) : Option Nat := some (match c with | some n => n + 1 | none => 0)
    let still := (w.k.vAct.natAbs : Int) < ax.prm.val pSTANDSTILL_VEL
    { w with sup := { s with qsCnt := tick s.qsCnt, stillCnt := if still then tick s.stillCnt else none } }
  else w

/-- The conditions that step 4 itself decides: FOLLOWING_HARD and NODE_FAULT (Table 3.4), with their classes. -/
def Axis.conds (ax : Axis) (w : Work) (e : Int) : List (Nat × Nat) :=
  let hard := ax.prm.val pFE_HARD < (e.natAbs : Int) && structOf w.sup.loopMode = 0
  (if hard then [(fFOLLOWING_HARD, if w.sup.state = 3 || w.sup.state = 4 then 3 else classOf ax.prm pREACT_code fFOLLOWING_HARD)] else []) ++
  (if ax.fb.fault then [(fNODE_FAULT, classOf ax.prm pREACT_code fNODE_FAULT)] else [])

/-- Step 4 of R68, with those of its conditions whose codes `keep` names. -/
def Axis.superviseBy (ax : Axis) (w : Work) (sp : SetPoint) (keep : Nat → Bool) : Work :=
  let w := ax.quickStopCounts w
  let e := ax.followErr w sp
  let w := { w with r := { w.r with followErr := ax.recordErr w sp } }
  let cs := (ax.conds w e).filter (fun c => keep c.1)
  let w := (ax.followSup w e).raiseAll cs
  (if ax.safeOff then w.safeOff else w).timed

/-- Step 4 of R68. -/
def Axis.supervise (ax : Axis) (w : Work) (sp : SetPoint) : Work := ax.superviseBy w sp (fun _ => true)

/-- What the commit of R91 evaluates after a correction pass that has looked at FE_HARD alone (R94). -/
def Axis.commitSup (ax : Axis) (w : Work) : Work :=
  (w.raiseAll (if ax.fb.fault then [(fNODE_FAULT, classOf ax.prm pREACT_code fNODE_FAULT)] else [])).timed

/-! ### Loops, torque and hand-over (steps 5 to 9 of R68) -/

/-- The outcome of steps 5 to 9. -/
structure LoopOut where
  k : Kern
  tau : Int
  w : Rat := 0
  ff : Rat := 0
  tab : Rat := 0
  dirf : Rat := 0
  vClamp : Bool := false
  tClamp : Bool := false
  pClamp : Bool := false
  iClamp : Bool := false
  blending : Bool := false
  limited : Bool := false
  aov : Bool := false

/-- A sum leaves the 72-bit accumulator of an engine, held with the `frac` fraction bits of its format: AOV (R214). Which scale the standard kernel gives its
accumulators the spec does not say (DEDUCED, log 7). -/
def overflows (frac : Nat) (x : Rat) : Bool := (2 : Rat) ^ (71 - frac) ≤ absR x

/-- The torque limit in force: TRQ_LIM, or HOME_TORQUE in PRESS (Table 4.10). -/
def Axis.trqLim (ax : Axis) : Rat := fix 31 (match ax.trqOvr with | some t => t | none => ax.prm.val pTRQ_LIM)

/-- The position loop (R75): I_P, v_ref and their clamps. `hold0` keeps I_P in cycle 0 of a seeded hand-over (R166) and on a
missed sample (R72). The last answer is AOV. -/
def Axis.posLoop (ax : Axis) (T : Rat) (k : Kern) (e : Int) (sp : SetPoint) (hold0 : Bool) : Int × Rat × Bool × Bool × Bool :=
  let ep := fix 32 e
  let lim := fix 40 (ax.prm.val pPOS_I_LIM)
  let raw := fix 40 k.iP + ax.gain pKPP * ax.gain pKIP * T * ep
  let grow := k.vSat && absR (fix 40 k.iP) < absR raw
  let ip := if hold0 then k.iP else if grow then toFix 64 40 (clampR (-lim) lim (fix 40 k.iP)) else toFix 64 40 (clampR (-lim) lim raw)
  let vlim := fix 40 (ax.prm.val pVEL_REF_LIM)
  let v := ax.gain pKPP * ep + fix 40 ip + ax.gain pKVFF * fix 40 sp.v
  (ip, clampR (-vlim) vlim v, vlim < absR v, !hold0 && (grow || lim < absR raw), overflows 40 raw || overflows 40 v)

/-- The direction factor of R80. -/
def Axis.dirFactor (ax : Axis) (sp : SetPoint) : Rat := clampR (-1) 1 (fix 40 sp.v / fix 40 (ax.prm.val pFRIC_VZONE))

/-- tau_tb of R80 at a position. -/
def Axis.tabTorque (ax : Axis) (sp : SetPoint) (p : Int) : Rat :=
  tableAt ax.cog (ax.prm.val pCOG_ORIGIN) p + tableAt ax.fric (ax.prm.val pFRIC_ORIGIN) p * ax.dirFactor sp

/-- The blend of R167 added to τ_new; k advances. -/
def blendStep (b : Option Blend) (tauNew lim : Rat) : Option Blend × Rat × Bool :=
  match b with
  | none => (none, tauNew, false)
  | some b =>
    if b.k < b.h then
      (some { b with k := b.k + 1 }, clampR (-lim) lim (tauNew + fix 31 b.d0 * ((b.h - b.k : Nat) : Rat) / (b.h : Rat)), true)
    else (some b, tauNew, false)

/-- The residual of a hand-over (R166, R167): no blend within HANDOVER_BAND, else a blend over H axis cycles. -/
def Axis.startBlend (ax : Axis) (T : Rat) (tauOld tauNew : Int) : Option Blend :=
  let d0 := tauOld - tauNew
  let h := cyclesOf (ax.prm.nat pHANDOVER_TIME) T
  if (d0.natAbs : Int) ≤ ax.prm.val pHANDOVER_BAND || h = 0 then none else some { d0 := d0, k := 0, h := h }

/-- The speed clamp of TRQ mode (R159). -/
def speedClamp (kpv v V tau : Rat) : Rat :=
  if kpv = 0 then
    (if 0 < v && V ≤ v then min tau 0 else if v < 0 && V ≤ -v then max tau 0 else tau)
  else if 0 < v then min tau (kpv * (V - v)) else if v < 0 then max tau (-(kpv * (V + v))) else tau

/-- The velocity bound V of R159 under LIMIT. -/
def Axis.trqVlim (ax : Axis) : Rat :=
  match ax.slsLim with
  | some l => min (fix 40 (ax.prm.val pTRQ_VLIM)) (fix 40 l)
  | none => fix 40 (ax.prm.val pTRQ_VLIM)

/-- Steps 5 to 9 of R68 in the structure of `mode`, on the feedback (p, v) held in `k`. `missed` says that R72 made that feedback: it leaves I_P and I_V
unchanged. -/
def Axis.loops (ax : Axis) (T : Rat) (k : Kern) (mode : Nat) (sp : SetPoint) (e : Int) (hand : Option Hand) (missed : Bool) : LoopOut :=
  let lim := ax.trqLim
  let v := fix 40 k.vAct
  let ff := ax.gain pKAFF * fix 32 sp.a + ax.gain pKJFF * fix 24 sp.j
  let tb := ax.tabTorque sp k.pAct
  let kpv := ax.gain pKPV
  let hk : Nat := match hand with | some h => if h.armed then h.kind else 9 | none => 9
  let tOld : Int := match hand with | some h => h.tauOld | none => 0
  if structOf mode = 2 then
    let slew := ax.gain pTRQ_SLEW * T
    let tgt := fix 31 (ax.prm.val pTRQ_SET)
    let tr := if hk ≠ 9 then fix 31 tOld - tb else k.tauR + clampR (-slew) slew (tgt - k.tauR)
    let raw := tr + tb
    let t1 := clampR (-lim) lim raw
    let t2 := speedClamp kpv v ax.trqVlim t1
    let tn := toFix 32 31 t2
    let bl := if hk ≠ 9 then ax.startBlend T tOld tn else k.blend
    let b := blendStep bl t2 lim
    { k := { k with iP := 0, tauR := tr, blend := b.1, tauNew := tn, tauPrev := toFix 32 31 b.2.1, tSat := lim ≤ absR t2 },
      aov := overflows 31 tr || overflows 31 raw, tau := toFix 32 31 b.2.1, w := 0, ff := 0, tab := tb, dirf := ax.dirFactor sp, tClamp := lim < absR raw,
      blending := b.2.2, limited := lim < absR raw || t1 ≠ t2 }
  else
    let seeded := hk = 1 || hk = 2 || hk = 3
    let k0 := if seeded then { k with iP := 0 } else k
    let pl := if structOf mode = 0 then ax.posLoop T k0 e sp (seeded || missed)
      else
        let vlim := fix 40 (ax.prm.val pVEL_REF_LIM)
        (0, clampR (-vlim) vlim (fix 40 sp.v), vlim < absR (fix 40 sp.v), false, false)
    let ev := pl.2.1 - v
    let ilim := fix 31 (ax.prm.val pVEL_I_LIM)
    let rawI := fix 31 k0.iV + kpv * ax.gain pKIV * T * ev
    let grow := k0.tSat && absR (fix 31 k0.iV) < absR rawI
    let seed := fix 31 tOld - ff - tb - kpv * ev
    let iv : Int :=
      if hk = 3 then 0
      else if seeded then toFix 32 31 (clampR (-ilim) ilim seed)
      else if missed then k0.iV
      else if grow then toFix 32 31 (clampR (-ilim) ilim (fix 31 k0.iV))
      else toFix 32 31 (clampR (-ilim) ilim rawI)
    let iCl : Bool := if seeded then hk ≠ 3 && ilim < absR seed else !missed && (grow || ilim < absR rawI)
    let u := kpv * ev + fix 31 iv
    let fl := if seeded then (ax.seedFilters k0 u, u) else ax.filters T k0 u
    let raw := fl.2 + ff + tb
    let t1 := clampR (-lim) lim raw
    let tn := toFix 32 31 t1
    let bl := if hk ≠ 9 then ax.startBlend T tOld tn else k.blend
    let b := blendStep bl t1 lim
    { k := { fl.1 with iP := pl.1, iV := iv, vSat := pl.2.2.1, blend := b.1, tauNew := tn, tauPrev := toFix 32 31 b.2.1,
                       tSat := lim ≤ absR t1 },
      tau := toFix 32 31 b.2.1, w := fl.2, ff := ff, tab := tb, dirf := ax.dirFactor sp,
      vClamp := pl.2.2.1, tClamp := lim < absR raw, pClamp := pl.2.2.2.1, iClamp := iCl,
      blending := b.2.2, limited := pl.2.2.1 || lim < absR raw || iCl || pl.2.2.2.1,
      aov := pl.2.2.2.2 || overflows 40 ev || overflows 31 (if seeded then seed else rawI) || overflows 31 u || overflows 31 fl.2 || overflows 31 raw }

/-- SUPV and the other KERNEL_OUT words (Table 3.6). -/
def koutWords (s : Sup) (o : LoopOut) (corr : Int) (pbound : Bool) : List Nat :=
  [lowBits 32 (toFix 32 31 o.w), lowBits 32 (toFix 32 31 o.ff), lowBits 32 (toFix 32 31 o.tab), ratToF32 (fix 40 o.k.iP),
   lowBits 32 o.k.iV, lowBits 32 corr,
   s.feExc + 65536 * s.retractRun + 1048576 * s.fbMissRun + flag o.vClamp 24 + flag o.tClamp 25 + flag o.pClamp 26 +
     flag o.iClamp 27 + flag pbound 28]

/-- AOV after the accumulations of a pass: those of the loops, and those of the observer where it runs (R214, R232). -/
def Axis.arith (ax : Axis) (T : Rat) (k : Kern) (o : LoopOut) : Bool :=
  o.aov || (k.obsOn && ax.prm.nat pOBS_EN = 1 && (overflows 32 (ax.obsPredict T k).1 || overflows 40 (ax.obsPredict T k).2))

/-- The torque-saturation count of Table 3.4 after a computation: |τ_cmd| at TRQ_LIM (R167, R574). -/
def Axis.satCount (ax : Axis) (s : Sup) (tau : Int) : Sup :=
  if ax.prm.nat pTRQ_SAT_TIME ≠ 0 && ax.prm.val pTRQ_LIM ≤ (tau.natAbs : Int) && s.state ≠ 0 && s.state ≠ 5 then
    { s with satCnt := some (match s.satCnt with | some n => n + 1 | none => 0) }
  else { (s.dropWarn fTORQUE_SAT) with satCnt := none }

/-- The hard-stop count of homing (Table 4.10 PRESS, R574). -/
def Axis.pressCount (ax : Axis) (w : Work) (tau : Int) : Sup :=
  let s := w.sup
  if ax.home.state = 5 && ax.prm.val pHOME_TORQUE ≤ (tau.natAbs : Int) && (w.k.vAct.natAbs : Int) < ax.prm.val pSTANDSTILL_VEL then
    { s with hsCnt := some (match s.hsCnt with | some n => n + 1 | none => 0) }
  else { s with hsCnt := none }

/-- The ARITH path of R232: the committed I_P, I_V, filter histories and observer of `w0` are kept, and FAULT_REQ ARITH is raised. -/
def Axis.arithPath (ax : Axis) (w w0 : Work) : Work :=
  let c := classOf ax.prm pREACT_code fARITH
  let kept := { w with k := { w.k with iP := w0.k.iP, iV := w0.k.iV, n1 := w0.k.n1, n2 := w0.k.n2, lp := w0.k.lp,
                                       obsOn := w0.k.obsOn, pHat := w0.k.pHat, vHat := w0.k.vHat } }
  let w1 := (kept.raise fARITH c).timed
  { w1 with r := { w1.r with trq := if w1.sup.state = 5 then 0 else w0.r.trq, drive := w1.sup.state ≠ 5 } }

/-- Steps 5 to 9 of R68 in the structure of `mode`, for a supervised sample `w`; `w0` is the state before supervision, which an ARITH condition keeps (R232). -/
def Axis.act (ax : Axis) (T : Rat) (w w0 : Work) (mode : Nat) (sp : SetPoint) (missed : Bool) : Work × LoopOut :=
  if w.sup.state = 0 || w.sup.state = 5 then
    let w := w.cutTorque
    let o : LoopOut := { k := w.k, tau := 0 }
    ({ w with sup := { ax.satCount w.sup 0 with hsCnt := none }, r := { w.r with kout := koutWords w.sup o 0 false } }, o)
  else
    let o := ax.loops T w.k mode sp w.r.followErr ax.hand missed
    if ax.arith T w0.k o then
      let w := ax.arithPath w w0
      let o := { o with k := w.k, tau := w.r.trq, limited := true, aov := true }
      ({ w with r := { w.r with kout := koutWords w.sup o 0 false } }, o)
    else
      let sup := ax.satCount w.sup o.tau
      let w := { w with k := o.k, sup := sup, r := { w.r with trq := o.tau, drive := true, blending := o.blending } }
      let w := { w with sup := ax.pressCount w o.tau }
      ({ w with r := { w.r with kout := koutWords w.sup o 0 false } }, o)

/-- Steps 4 to 9 of R68 for the sample held in `w0.k`, with R165's precedence: torque-off overrides everything, a quick stop
decided now is governed from the set-points already delivered (R68). -/
def Axis.compute (ax : Axis) (T : Rat) (w0 : Work) (sp : SetPoint) : Work × LoopOut := ax.act T (ax.supervise w0 sp) w0 w0.sup.loopMode sp (!ax.sampleGood)

/-- A FULL pass of kernel 0 (R68). -/
def Axis.fullPass (ax : Axis) (T : Rat) : Work :=
  (ax.compute T (ax.feedback T ax.w) ax.sp).1

/-! ### Split-phase computation (R87 to R92) -/

/-- The prediction of S_N from the state committed one axis period before (R88). -/
def Axis.predict (ax : Axis) (T : Rat) (k : Kern) (sp : SetPoint) : Int × Int × Bool :=
  let m := ax.prm.val pMODULUS
  if k.obsOn && ax.prm.nat pOBS_EN = 1 then
    let pre := ax.obsPredict T k
    (reduceMod m (toFix 64 32 pre.1), toFix 64 40 pre.2, true)
  else
    let p := fix 32 k.pAct + fix 40 k.vAct * T + fix 32 sp.a * T * T / 2
    (reduceMod m (toFix 64 32 p), toFix 64 40 ((p - fix 32 k.pAct) / T), false)

/-- Steps 5 to 9 on the predicted feedback; supervision waits for the real sample (R87, R94). -/
def Axis.specRun (ax : Axis) (T : Rat) (sp : SetPoint) : Work × LoopOut :=
  let pr := ax.predict T ax.w.k ax.spPrev
  let wp := { ax.w with k := { ax.w.k with pAct := pr.1, vAct := pr.2.1 } }
  ax.act T { wp with r := { wp.r with followErr := ax.followErr wp sp } } wp wp.sup.loopMode sp false

/-- A SPEC pass: the whole kernel on the predicted feedback; it commits nothing of the prediction (R87, R91), but an ARITH fault is latched (R232). -/
def Axis.specPass (ax : Axis) (T : Rat) (sp : SetPoint) : Spec × Work :=
  let pr := ax.predict T ax.w.k ax.spPrev
  let c := ax.specRun T sp
  ({ tau := c.2.tau, pTil := pr.1, vTil := pr.2.1, obsForm := pr.2.2, dirf := c.2.dirf, limited := c.2.limited, ready := true },
   { ax.w with sup := if c.2.aov then c.1.sup else ax.w.sup, r := { ax.w.r with trq := c.1.r.trq, drive := c.1.r.drive, blending := c.1.r.blending } })

/-- B0 of R89. -/
def Axis.b0 (ax : Axis) (T : Rat) : Rat :=
  b0Of (ax.gain pNOTCH1_F) T (ax.gain pNOTCH1_ZD) (some (ax.gain pNOTCH1_ZN)) *
  b0Of (ax.gain pNOTCH2_F) T (ax.gain pNOTCH2_ZD) (some (ax.gain pNOTCH2_ZN)) * b0Of (ax.gain pLP_F) T (ax.gain pLP_Z) none

/-- C_SPLIT in the structure of the mode in force (R89, R170). -/
def Axis.cSplit (ax : Axis) (T G : Rat) : Rat :=
  let kv := ax.gain pKPV * (1 + ax.gain pKIV * T)
  if structOf ax.w.sup.mode = 2 then 0
  else if structOf ax.w.sup.mode = 1 then ax.b0 T * kv * G
  else ax.b0 T * kv * (ax.gain pKPP * (1 + ax.gain pKIP * T) + G)

/-- The causes of a retract decided in the correction pass (Table 3.2): 4 feedback, 5 SPLIT_PBOUND, 6 a limit, 3 a fault: FE_HARD (R94), ARITH (R232) or SAFE_OFF. -/
def Axis.corrCauses (ax : Axis) (wNew : Work) (dp : Int) (tauSum : Rat) (lim2 aov : Bool) : List Nat :=
  (if ax.sampleGood then [] else [4]) ++
  (if ax.prm.val pSPLIT_PBOUND < (dp.natAbs : Int) then [5] else []) ++
  (if ax.spec.limited || lim2 || ax.trqLim < absR tauSum then [6] else []) ++
  (if aov || ((wNew.sup.state = 3 || wNew.sup.state = 5) && wNew.sup.state ≠ ax.w.sup.state) then [3] else [])

/-- The causes of Table 3.2 that count in RETRACT_RUN. -/
def causeCounts (c : Nat) : Bool := c = 4 || c = 5 || c = 6 || c = 7

/-- Steps 4 to 9 of R68 in a correction pass, with FE_HARD alone of the supervision (R94). A hand-over that waits for its first speculative pass leaves the loops'
state as it is (R168; log 7). -/
def Axis.corrRun (ax : Axis) (T : Rat) (wf : Work) : Work × LoopOut :=
  let hard (ax : Axis) : Work := ax.superviseBy wf ax.sp (fun c => c = fFOLLOWING_HARD)
  let run (ax : Axis) : Work × LoopOut := ax.act T (hard ax) wf wf.sup.loopMode ax.sp (!ax.sampleGood)
  match ax.hand with
  | some h => if h.ahead then run { ax with hand := none } else if h.armed then run ax else (hard ax, { k := wf.k, tau := ax.w.r.trq })
  | none => run ax

/-- A CORR pass (R89 to R92, R94): the state committed from the real sample, Δ, and the retract causes it decides. -/
def Axis.corrPass (ax : Axis) (T : Rat) : Work × Int × List Nat :=
  let wf := ax.feedback T ax.w
  let dp := wrapMod (ax.prm.val pMODULUS) (wf.k.pAct - ax.spec.pTil)
  let g := if ax.spec.obsForm then (ax.obsGains T).2 / T else 1 / T
  let cs := ax.cSplit T g
  let d := -cs * fix 32 dp + (tableAt ax.cog (ax.prm.val pCOG_ORIGIN) wf.k.pAct - tableAt ax.cog (ax.prm.val pCOG_ORIGIN) ax.spec.pTil) +
    (tableAt ax.fric (ax.prm.val pFRIC_ORIGIN) wf.k.pAct - tableAt ax.fric (ax.prm.val pFRIC_ORIGIN) ax.spec.pTil) * ax.spec.dirf
  let c := ax.corrRun T wf
  let aov := c.2.aov || (overflows 31 d && wf.sup.state ≠ 0 && wf.sup.state ≠ 5)
  let c1 := if aov && !c.2.aov then ax.arithPath c.1 ax.w else c.1
  let delta := toFix 32 31 d
  let causes := ax.spec.retract ++ ax.corrCauses c1 dp (fix 31 ax.spec.tau + fix 31 delta) c.2.limited aov
  let applied := if causes.isEmpty then ax.spec.tau + delta else ax.applied
  let w := { c1 with k := { c1.k with tauPrev := applied, tSat := if causes.isEmpty then c1.k.tSat else ax.trqLim ≤ absR (fix 31 applied) } }
  let run := if causes.isEmpty then 0 else if causes.any causeCounts then incSat 4 w.sup.retractRun else w.sup.retractRun
  let w := { w with sup := { w.sup with retractRun := run } }
  let waits := match ax.hand with | some h => !h.ahead && !h.armed | none => false
  let words := koutWords w.sup c.2 (if causes.isEmpty then delta else 0) (causes.contains 5)
  let w := { w with r := { w.r with kout := if waits then ax.w.r.kout.take 3 ++ words.drop 3 else words } }
  (ax.commitSup w, if causes.isEmpty then delta else 0, causes)

/-- SPLIT of an axis (R160): SPLIT_EN, RUN_AHEAD style and a state with torque. -/
def Axis.isSplit (ax : Axis) (runAhead : Bool) : Bool :=
  ax.prm.nat pSPLIT_EN = 1 && runAhead && ax.w.sup.state ≠ 0 && ax.w.sup.state ≠ 5

/-- The OVERLAYS of a servo axis but TRACE and REG, which other units decide (R160). -/
def Axis.overlays (ax : Axis) (runAhead reg trace : Bool) : Nat :=
  flag (ax.isSplit runAhead) 0 + flag (ax.cog.isSome || ax.fric.isSome) 1 + flag reg 2 + flag ax.slsLim.isSome 3 + flag trace 4 +
  flag ax.migrating 5 + flag ax.shadowed 6

end Sys2Proof.Machine
end

