-- ==== Sys2Proof/Machine/Planning.lean ====
section
/-! DEFINITION. The duration predictor and the deterministic assignment of the Pace Unit (R235 to R247, R253 to R258). -/

namespace Sys2Proof.Machine

/-- PACE_BUDGET × W in ns (R45, R51, R54). -/
def paceBudget (tcyc tring : Nat) : Rat := ((tcyc : Rat) - 2500 - (tring : Rat) - 1000) * 55 / 100

/-- WCB and TRD_MAX of a kernel and pass (R233, Table 7.16). -/
def declOf (ver kernel pass : Nat) : Nat × Nat :=
  if kernel = 0 then (if pass = 1 then (110, 2) else if pass = 2 then (24, 2) else (122, 2)) else Config.kernelDecl ver kernel pass

/-- t_pass(S) in ns (R240). -/
def tPass (d : Nat × Nat) (s : Nat) : Rat :=
  if s = 0 then 10 ^ 9 else ((d.1 : Rat) * (17875 / 10000) + (d.2 : Rat) * (9625 / 10000)) * 32768 / (s : Rat)

/-- Predicted cost in ns of one axis in a cycle of its phase on an engine of index `s` (R87, R240). -/
def Axis.cost (ax : Axis) (runAhead : Bool) (ver s : Nat) : Rat :=
  let k := ax.prm.nat pKERNEL_SEL
  if ax.prm.nat pSPLIT_EN = 1 && runAhead then tPass (declOf ver k 1) s + tPass (declOf ver k 2) s else tPass (declOf ver k 0) s

/-- S_CORNER (R241). -/
def sCorner : Nat := 18022

/-- S_EFF of an engine (R241). -/
def sEff (marginLow : Bool) (e : Engine) : Nat := if marginLow then e.sPlan else min sCorner e.sPlan

/-- The SEEING index of a probe count (R235). -/
def seeingOf (n : Nat) : Nat := min 65535 (8 * n)

/-- S_PLAN from the window of indices (R237). -/
def sPlanOf (window : List Nat) (guard : Nat) : Nat :=
  match window with
  | [] => 0
  | x :: xs => xs.foldl min x - guard

/-- An entry of the assignment: axis, engine, slot, cost function's inputs. -/
structure Placed where
  axis : Nat
  engine : Nat
  slot : Nat
  div : Nat
  phase : Nat
  cost : Nat → Rat

/-- Load of an engine in the cycles congruent to `c` modulo 8 (R54). -/
def loadAt (ps : List Placed) (seff : Nat → Nat) (bg : Nat → Rat) (e c : Nat) : Rat :=
  ps.foldl (fun t p => if p.engine = e && c % p.div = p.phase then t + p.cost (seff e) else t) (bg e)

/-- The largest load of an engine over the phases. -/
def loadOf (ps : List Placed) (seff : Nat → Nat) (bg : Nat → Rat) (e : Nat) : Rat :=
  (List.range 8).foldl (fun m c => max m (loadAt ps seff bg e c)) 0

/-- The lowest free slot of an engine, if one of the 32 is free (R227). -/
def freeSlot (ps : List Placed) (e : Nat) : Option Nat :=
  (List.range 32).find? (fun s => !ps.any (fun p => p.engine = e && p.slot = s))

/-- An axis placed on another engine. -/
def moveTo (ps : List Placed) (axis e slot : Nat) : List Placed :=
  ps.map (fun p => if p.axis = axis then { p with engine := e, slot := slot } else p)

/-- The carrying engine with the least load that can take the axis and stays within the budget (R244 step 2). -/
def bestDest (ps : List Placed) (seff : Nat → Nat) (bg : Nat → Rat) (engines sources : List Nat) (budget : Rat) (axis : Nat) : Option (Nat × Nat) :=
  let cands := engines.filterMap (fun e =>
    if sources.contains e then none else
      match freeSlot ps e with
      | some s => let l := loadOf (moveTo ps axis e s) seff bg e
                  if l ≤ budget then some (loadOf ps seff bg e, e, s) else none
      | none => none)
  match cands with
  | [] => none
  | c :: cs => let b := cs.foldl (fun (m : Rat × Nat × Nat) (x : Rat × Nat × Nat) => if x.1 < m.1 then x else m) c; some b.2

/-- Step 2 of R244: axes leave the engines that break R54, within MIGRATE_MAX, two off one engine, each axis once (R245); none moves to a `barred` engine
(R250). -/
def relieve (seff : Nat → Nat) (bg : Nat → Rat) (engines barred : List Nat) (budget : Rat) (perEngine : Nat) :
    Nat → List Placed → List Nat → List Nat → List Nat → List Placed × List Nat
  | 0, ps, moved, _, _ => (ps, moved)
  | k + 1, ps, moved, sources, dests =>
    let broken := engines.filter (fun e => budget < loadOf ps seff bg e && !dests.contains e && (sources.filter (· = e)).length < perEngine)
    let cands := ps.filter (fun p => broken.contains p.engine && !moved.contains p.axis)
    let order := sortBy (fun x y => y.cost (seff y.engine) < x.cost (seff x.engine) ||
      (x.cost (seff x.engine) = y.cost (seff y.engine) && x.axis ≤ y.axis)) cands
    match order.findSome? (fun p => (bestDest ps seff bg engines (p.engine :: sources ++ barred) budget p.axis).map (fun d => (p, d))) with
    | some (p, d) =>
      relieve seff bg engines barred budget perEngine k (moveTo ps p.axis d.1 d.2) (moved ++ [p.axis]) (p.engine :: sources) (d.1 :: dests)
    | none => (ps, moved)

/-- Step 3 of R244: one axis from the most to the least loaded carrying engine when they differ by more than the band; a `barred` least-loaded engine takes none. -/
def balance (seff : Nat → Nat) (bg : Nat → Rat) (engines barred : List Nat) (band : Rat) (ps : List Placed) : List Placed × List Nat :=
  let ls := engines.map (fun e => (loadOf ps seff bg e, e))
  match ls with
  | [] => (ps, [])
  | l :: r =>
    let mx := r.foldl (fun (m : Rat × Nat) (x : Rat × Nat) => if m.1 < x.1 then x else m) l
    let mn := r.foldl (fun (m : Rat × Nat) (x : Rat × Nat) => if x.1 < m.1 then x else m) l
    match freeSlot ps mn.2 with
    | none => (ps, [])
    | some s =>
      if mx.1 - mn.1 ≤ band || barred.contains mn.2 then (ps, [])
      else
        let cands := ps.filter (fun p => p.engine = mx.2 && p.cost (seff mx.2) < mx.1 - mn.1)
        let order := sortBy (fun x y => y.cost (seff mx.2) < x.cost (seff mx.2) || (x.cost (seff mx.2) = y.cost (seff mx.2) && x.axis ≤ y.axis)) cands
        match order with
        | [] => (ps, [])
        | p :: _ => (moveTo ps p.axis mn.2 s, [p.axis])

/-- Axes that no engine carries yet are placed on the least loaded engine that can take them (R244). Answers those left over. -/
def placeNew (seff : Nat → Nat) (bg : Nat → Rat) (engines : List Nat) (budget : Rat) : List Placed → List Placed → List Placed × List Nat
  | [], ps => (ps, [])
  | a :: as, ps =>
    match bestDest (ps ++ [a]) seff bg engines [] budget a.axis with
    | some d => placeNew seff bg engines budget as (ps ++ [{ a with engine := d.1, slot := d.2 }])
    | none => let r := placeNew seff bg engines budget as ps; (r.1, a.axis :: r.2)

/-- Every engine in use meets R54. -/
def meets (seff : Nat → Nat) (bg : Nat → Rat) (engines : List Nat) (budget : Rat) (ps : List Placed) : Bool :=
  engines.all (fun e => loadOf ps seff bg e ≤ budget)

/-- The axes shed until the rest `fits`: lowest PACE_PRIORITY first, highest axis number at equal priority (R256). -/
def shedUntil (fits : List Placed → Bool) (prio : Nat → Int) : Nat → List Placed → List Nat → List Nat
  | 0, _, sh => sh
  | k + 1, ps, sh =>
    if fits ps then sh
    else
      match ps with
      | [] => sh
      | p :: r =>
        let v := r.foldl (fun (m : Placed) (x : Placed) => if prio x.axis < prio m.axis || (prio x.axis = prio m.axis && m.axis < x.axis) then x else m) p
        shedUntil fits prio k (ps.filter (fun q => q.axis ≠ v.axis)) (sh ++ [v.axis])

/-- Some plan meets R54: the axes, largest cost first, placed one by one on empty engines (how the model decides that no plan does, log 31). -/
def placeable (seff : Nat → Nat) (bg : Nat → Rat) (engines : List Nat) (budget : Rat) (ps : List Placed) : Bool :=
  let order := sortBy (fun x y => y.cost sCorner < x.cost sCorner || (x.cost sCorner = y.cost sCorner && x.axis ≤ y.axis)) ps
  (placeNew seff bg engines budget order []).2.isEmpty && engines.all (fun e => bg e ≤ budget)

/-- The sensor local to an engine (Table 8.1). -/
def localSensor (e : Nat) : Nat := e / 6

/-- S_REF of an engine at a voltage in mV and a temperature in 1/16 °C, interpolated bilinearly between the entries of its table (R239); outside the table the lines of
its outer cells continue (DESIGN CHOICE, log 58). -/
def sRef (e : Nat) (mv : Nat) (t : Int) : Rat :=
  let i : Nat := if mv < 780 then 0 else 1
  let j : Nat := if t < 400 then 0 else 1
  let x : Rat := ((mv : Rat) - (700 + 80 * (i : Rat))) / 80
  let y : Rat := if j = 0 then ((t : Rat) + 640) / 1040 else ((t : Rat) - 400) / 1600
  let r (a b : Nat) : Rat := (Config.seeingRef e (i + a) (j + b) : Rat)
  (r 0 0 * (1 - x) + r 1 0 * x) * (1 - y) + (r 0 1 * (1 - x) + r 1 1 * x) * y

/-- V_FLOOR of R247 for an engine whose AGE_DRIFT (Q1.15) exceeds AGE_EOL of 6 %: the lowest multiple of 5 mV at which the aged index at
125 °C reaches S_CORNER, at most 860 mV. -/
def floorFor (e : Nat) (drift : Int) : Nat :=
  match ((List.range 33).map (fun i => 700 + 5 * i)).find? (fun v =>
      (sCorner : Rat) ≤ sRef e v 2000 * (1 - fix 15 drift)) with
  | some v => v
  | none => 860

/-- AGE_DRIFT above AGE_EOL (6 %). -/
def ageEol (drift : Int) : Bool := 6 / 100 < fix 15 drift

/-- PLAN_LEAD (R242). -/
def planLead (tcyc : Nat) : Nat := max 2 (ceilDiv 100000 tcyc)

end Sys2Proof.Machine
end

