-- ==== Sys2Proof/Machine/Setpoints.lean ====
section
/-! DEFINITION. Set-points: Orreries and ladders (R121 to R126, R144, R145), followers and flying engage (R127 to R134), cams
(R135 to R139), the replans of DEC_POLICY (R113 to R117), homing (R150 to R152), register correction (R140, R141, R174) and the
set-points of one axis in one cycle (R103 to R106, R157). -/

namespace Sys2Proof.Machine

/-- T_CYC in seconds. -/
def secOf (tcyc : Nat) : Rat := (tcyc : Rat) / 1000000000

/-! ### Limits and replans -/

/-- VMAX in force: under LIMIT the smaller of VMAX and LIM_VEL (R171). -/
def Axis.vmax (ax : Axis) : Int :=
  match ax.slsLim with
  | some l => min (ax.prm.val pVMAX) l
  | none => ax.prm.val pVMAX

/-- DMAX_eff and JMAX_eff (R114, R116): the parameters unless a lowered limit is deferred. -/
def Axis.dmaxEff (ax : Axis) : Int := if ax.defer.deferred then ax.defer.dmaxEff else ax.prm.val pDMAX

/-- JMAX_eff (R116). -/
def Axis.jmaxEff (ax : Axis) : Int := if ax.defer.deferred then ax.defer.jmaxEff else ax.prm.val pJMAX

/-- AXIS_DIVISOR in force. -/
def Axis.div (ax : Axis) : Nat := max 1 (ax.prm.nat pAXIS_DIVISOR)

/-- The limits of the profile generator with a deceleration and a jerk limit. -/
def Axis.limits (ax : Axis) (d j : Int) : Limits :=
  { v := fix 40 ax.vmax, a := fix 32 (ax.prm.val pAMAX), d := fix 32 d, j := fix 24 j }

/-- A target for a modulo axis is kept as given; its travel from `p` is the shortest way (R73's range). -/
def Axis.travelTo (ax : Axis) (p tgt : Int) : Int := wrapMod (ax.prm.val pMODULUS) (tgt - p)

/-- What a target move's replan answers: the plan, the deferral, a NOTE (0x0021 LIMIT_DEFERRED, 0x0022 OVERSHOOT_PLANNED, 0 none, R117) and the events
LIMIT_DEFERRED (1), OVERSHOOT_PLANNED (2), OVERSHOOT_BLOCKED (3). -/
structure Replan where
  plan : Plan
  defer : Defer
  note : Nat
  evs : List AxEvent

/-- The limits that a target move rests on: DMAX and JMAX, DMAX_eff and JMAX_eff in force before the replan, whether the command lowered one of them, whether
JMAX_eff keeps its value until the next steady point (R116), whether an overshoot to the same target is under way, which lasts until the axis is at rest there (R113, R115), and
DEC_POLICY's KEEP_FEASIBLE (R113 to R116). -/
structure MoveLimits where
  d : Int
  j : Int
  oldD : Int
  oldJ : Int
  lowered : Bool := false
  held : Bool := false
  passed : Bool := false
  keep : Bool

/-- The target `dist` away is unreachable under deceleration `d` and jerk `j` (R113). -/
def unreachable (k : Kin) (dist : Rat) (d j : Int) : Bool := passes planTol (fix 24 j) (fix 32 d) k.v k.a dist

/-- The greatest deceleration and jerk that a deferral may use (R114, R116). -/
def MoveLimits.top (m : MoveLimits) : Int × Int := (max m.d m.oldD, max m.j m.oldJ)

/-- The least value of a format from `x` down or up by one LSB that does not fail, at most `top`: what a bisection found, never below the least feasible value. -/
def leastLsb (x : Rat) (top : Int) (fails : Int → Bool) : Int := min top (if fails x.floor then x.floor + 1 else x.floor)

/-- d* of R114 under the jerk `j`: the smallest value of its format that does not overshoot. -/
def MoveLimits.dStar (m : MoveLimits) (k : Kin) (dist : Rat) (j : Int) : Int :=
  if unreachable k dist m.d j then leastLsb (leastDec (fix 24 j) k.v k.a dist 80 (fix 32 m.d) (fix 32 m.top.1) * 4294967296) m.top.1 (fun d => unreachable k dist d j) else m.d

/-- j* of R116 under the deceleration `d`: the smallest value of its format that does not overshoot. -/
def MoveLimits.jStar (m : MoveLimits) (k : Kin) (dist : Rat) (d : Int) : Int :=
  if unreachable k dist d m.j then leastLsb (leastJerk (fix 32 d) k.v k.a dist 80 (fix 24 m.j) (fix 24 m.top.2) * 16777216) m.top.2 (fun j => unreachable k dist d j) else m.j

/-- A plan under deferred limits (R114, R116): the command that lowered one of them notes it; `blocked` says that R115 gives way to R114. -/
def deferredPlan (n0 : Nat) (k : Kin) (pf : Rat) (lim : Int → Int → Limits) (m : MoveLimits) (d j : Int) (blocked : Bool) : Replan :=
  { plan := planPos n0 k pf (lim d j), defer := { dmaxEff := d, jmaxEff := j, deferred := d ≠ m.d || j ≠ m.j, overshoot := m.passed }, note := if m.lowered then 0x0021 else 0,
    evs := (if m.lowered && d ≠ m.d then [{ code := 1, a := d }] else []) ++ (if blocked then [{ code := 3 }] else []) }

/-- A plan that passes the target and comes back (R113), with NOTE and event where R115 decided it. -/
def overshootPlan (n0 : Nat) (k : Kin) (pf dist : Rat) (lim : Int → Int → Limits) (m : MoveLimits) (honor : Bool) : Replan :=
  { plan := planPos n0 k pf (lim m.d m.j), defer := { dmaxEff := m.d, jmaxEff := m.j, overshoot := true }, note := if honor then 0x0022 else 0,
    evs := if honor then [{ code := 2, a := toFix 64 32 (absR (stopTravel (fix 24 m.j) (fix 32 m.d) k.v k.a - dist)) }] else [] }

/-- The plan that travels `dist` to `pf` with origin `n0` from the state `k` (R107, R113 to R116); `lim` gives the other limits and `outside` says that a rest
point lies beyond an enabled software limit. -/
def replanMove (n0 : Nat) (k : Kin) (pf dist : Rat) (lim : Int → Int → Limits) (m : MoveLimits) (outside : Rat → Bool) : Replan :=
  let un := unreachable k dist
  let soft (blocked : Bool) : Replan :=
    let d := m.dStar k dist (if un m.top.1 m.j then m.top.2 else m.j)
    deferredPlan n0 k pf lim m d (m.jStar k dist d) blocked
  if m.held && m.keep && !un m.top.1 m.top.2 then deferredPlan n0 k pf lim m (m.dStar k dist m.top.2) m.top.2 false
  else if !un m.d m.j then { plan := planPos n0 k pf (lim m.d m.j), defer := { dmaxEff := m.d, jmaxEff := m.j, overshoot := m.passed }, note := 0, evs := [] }
  else if un m.top.1 m.top.2 || (m.top.1 = m.d && m.top.2 = m.j) then overshootPlan n0 k pf dist lim m false
  else if m.keep then soft false
  else if outside (k.p + stopTravel (fix 24 m.j) (fix 32 m.d) k.v k.a) then soft true
  else overshootPlan n0 k pf dist lim m m.lowered

/-- A rest point lies beyond an enabled software limit (R115), which a modulo axis ignores (R112). -/
def Params.beyond (p : Params) (rest : Rat) : Bool :=
  p.nat pSW_LIM_EN = 1 && p.val pMODULUS = 0 && (fix 32 (p.val pSW_LIM_POS) < rest || rest < fix 32 (p.val pSW_LIM_NEG))

/-- The plan to `tgt` with origin `n0` from the state `k` (R107, R113 to R116). `oldD`, `oldJ` are DMAX_eff and JMAX_eff in
force before this replan; `lowered` says that the command lowered DMAX or JMAX, `held` that JMAX_eff keeps its value (R116). Answers the axis, a NOTE and the
events of `Replan`. -/
def Axis.replanPos (ax : Axis) (n0 : Nat) (k : Kin) (tgt : Int) (oldD oldJ : Int) (lowered held : Bool) : Axis × Nat × List AxEvent :=
  let p := toFix 64 32 k.p
  let dist := fix 32 (ax.travelTo p tgt) + (fix 32 p - k.p)
  let r := replanMove n0 k (k.p + dist) dist ax.limits
    { d := ax.prm.val pDMAX, j := ax.prm.val pJMAX, oldD := oldD, oldJ := oldJ, lowered := lowered, held := held, passed := ax.defer.overshoot && tgt = ax.target,
      keep := ax.prm.nat pDEC_POLICY = 0 } ax.prm.beyond
  ({ ax with target := tgt, defer := r.defer, plan := some r.plan }, r.note, r.evs)

/-- The exact state of the plan in force at cycle `n`, where `s` is its set-point there; else the state of `s` (R108). -/
def planKin (pl : Option Plan) (modulus : Int) (tcyc n : Nat) (s : SetPoint) : Kin :=
  match pl with
  | some pl =>
    let q := pl.at (pl.time tcyc n)
    let p := toFix 64 32 q.1
    if toFix 64 40 q.2.1 = s.v && toFix 64 32 q.2.2.1 = s.a && reduceMod modulus p = s.p then ⟨q.1 + (fix 32 s.p - fix 32 p), q.2.1, q.2.2.1⟩ else s.kin
  | none => s.kin

/-- The state of a servo axis that a replan continues from. -/
def Axis.kin (ax : Axis) (tcyc n : Nat) (s : SetPoint) : Kin := if ax.fol.isSome then s.kin else planKin ax.plan (ax.prm.val pMODULUS) tcyc n s

/-- A VEL target bounded by the VMAX in force (R573). -/
def Axis.boundVel (ax : Axis) (v : Int) : Int := max (-ax.vmax) (min ax.vmax v)

/-- Bringing the acceleration to zero at jerk `j` carries the velocity past the target velocity `vf` (R116 on a velocity move). -/
def passesVel (j v a vf : Rat) : Bool := decide (0 ≤ a * (vf - v) ∧ a ≠ 0 ∧ 2 * j * absR (vf - v) < a ^ 2)

/-- j* of R116 on a velocity move: the smallest value of its format that does not pass the target velocity. -/
def jStarVel (k : Kin) (vf : Rat) (j top : Int) : Int :=
  if passesVel (fix 24 j) k.v k.a vf then leastLsb (k.a ^ 2 / (2 * absR (vf - k.v)) * 16777216) top (fun j => passesVel (fix 24 j) k.v k.a vf) else j

/-- JMAX_eff of a velocity move under the lowered JMAX `j` where `oldJ` was in force (R116). -/
def jerkVel (k : Kin) (vf : Rat) (j oldJ : Int) (held keep : Bool) : Int :=
  let top := max j oldJ
  if !keep then j else if held then top else if passesVel (fix 24 top) k.v k.a vf then j else jStarVel k vf j top

/-- The plan to velocity `v` (R107, R116), with a NOTE: `oldJ` is JMAX_eff in force before it. -/
def Axis.replanVel (ax : Axis) (n0 : Nat) (k : Kin) (v oldJ : Int) (lowered held : Bool) : Axis × Nat × List AxEvent :=
  let d := ax.prm.val pDMAX
  let j := jerkVel k (fix 40 v) (ax.prm.val pJMAX) oldJ held (ax.prm.nat pDEC_POLICY = 0)
  let put := decide (j ≠ ax.prm.val pJMAX)
  ({ ax with velTgt := v, plan := some (planVel n0 k (fix 40 v) (ax.limits d j)), defer := { dmaxEff := d, jmaxEff := j, deferred := put } }, if lowered && put then 0x0021 else 0, [])

/-- The stop profile (R111): DMAX and JMAX, or QS_DEC and QS_JERK for a quick stop; a follower leaves its Orrery. -/
def Axis.replanStop (ax : Axis) (n0 : Nat) (k : Kin) (quick : Bool) : Axis :=
  let d := if quick then ax.prm.val pQS_DEC else ax.prm.val pDMAX
  let j := if quick then ax.prm.val pQS_JERK else ax.prm.val pJMAX
  { ax with plan := some (planStop n0 k (fix 32 d) (fix 24 j)), fol := none, defer := {} }

/-- A homing velocity (R151), bounded by the least LIM_VEL of this homing: a search that LIMIT slowed does not speed up of its own accord (R171, R173). -/
def Axis.homeVel (ax : Axis) (id : Nat) : Int :=
  match ax.homeCap with
  | some l => min (ax.prm.val id) l
  | none => ax.prm.val id

/-! ### Orreries -/

/-- The ratio R_i in force of a ladder, 1.0 where it never changed (R144). -/
def Orrery.ratio (o : Orrery) (i : Nat) : Rat := o.ladder.getD (i - 1) 1

/-- F_i before its bounded error (R144), by distance from the pivot. -/
def ladderWalk (o : Orrery) (p i : Nat) : Nat → Rat
  | 0 => 1
  | k + 1 => if p < i then ladderWalk o p (i - 1) k * o.ratio i else if i < p then ladderWalk o p (i + 1) k / o.ratio (i + 1) else 1

/-- F_i with relative error below 2^−40 (R144). -/
def Orrery.factor (o : Orrery) (i : Nat) : Rat :=
  let p := o.prm.nat pLADDER_PIVOT
  ladderWalk o p i 16 * (if i = p then 1 else nearOne 40 (Config.ladderError i))

/-- One ladder ratio moves towards its parameter by at most LADDER_RATE × T_CYC (R145). -/
def Orrery.rampLadder (o : Orrery) (tcyc : Nat) : Orrery :=
  let st := f32ToRat (o.prm.nat pLADDER_RATE) * secOf tcyc
  { o with ladder := (List.range 15).map (fun i =>
      let cur := o.ladder.getD i 1
      let tgt := f32ToRat (o.prm.nat (pLADDER_R_1 + i))
      cur + clampR (-st) st (tgt - cur)) }

/-- A ratio is still ramping (LADDER_RAMPING, R145). -/
def Orrery.ramping (o : Orrery) : Bool :=
  (List.range 15).any (fun i => o.ladder.getD i 1 ≠ f32ToRat (o.prm.nat (pLADDER_R_1 + i)))

/-- ORR_VMAX in force: bounded by the followers that carry LIMIT (R172). -/
def Orrery.vmax (o : Orrery) : Int :=
  match o.bound with
  | some b => min (o.prm.val pORR_VMAX) b
  | none => o.prm.val pORR_VMAX

/-- The Orrery's state as a set-point of a speed plan: position ω is planned as velocity (R121). -/
def Orrery.sp (o : Orrery) : SetPoint := { p := 0, v := o.omega, a := o.alpha, j := 0 }

/-- ω planned to `w` under deceleration `d` (R121, Table 4.3). -/
def Orrery.planTo (o : Orrery) (n0 : Nat) (w d : Int) : Orrery :=
  { o with plan := some (planVel n0 o.sp.kin (fix 40 w)
      { v := fix 40 o.vmax, a := fix 32 (o.prm.val pORR_AMAX), d := fix 32 d, j := fix 24 (o.prm.val pORR_JMAX) }) }

/-- A speed command's plan; a target beyond ORR_VMAX is replaced (R573). -/
def Orrery.speed (o : Orrery) (n0 : Nat) (w : Int) : Orrery :=
  let t := max (-o.vmax) (min o.vmax w)
  { (o.planTo n0 t (o.prm.val pORR_DMAX)) with tgt := t, state := 2 }

/-- A stop under ORR_DMAX, or under ORR_QS_DEC with FAULT_STOP set (Table 4.3). -/
def Orrery.stop (o : Orrery) (n0 : Nat) (quick : Bool) : Orrery :=
  if o.axisSrc || o.state = 0 then o
  else if o.state = 2 || (quick && o.state = 3) then
    let d := if quick then o.prm.val pORR_QS_DEC else o.prm.val pORR_DMAX
    { (o.planTo n0 0 d) with tgt := 0, state := 3, faultStop := quick || o.faultStop }
  else { o with tgt := 0 }

/-- A VIRTUAL Orrery in cycle `n` (R121): ω, α and jerk of the plan; ΔΘ = ω × T_CYC rounded half to even. -/
def Orrery.advance (o : Orrery) (tcyc n : Nat) : Orrery :=
  let r := match o.plan with
    | some pl => (pl.setPoint tcyc n, (pl.at (pl.time tcyc n)).2.2.2, pl.ended (pl.time tcyc n))
    | none => ({ v := o.omega }, 0, true)
  let th := o.theta + rndHE (fix 40 r.1.v * secOf tcyc * (2 : Rat) ^ 64)
  let ol := o.rampLadder tcyc
  let o := { ol with thetaPrev := o.theta, theta := th, omega := r.1.v, alpha := r.1.a, jerk := r.2.1, cycle := n, hist := ((n, th) :: o.hist).take 8 }
  if o.state = 3 && r.2.2 && o.omega = 0 then { o with state := 1, faultStop := false, plan := none } else o

/-- An AXIS_ACT Orrery in cycle `n` (R122), from its source axis's last two positions and last velocity. -/
def Orrery.follow (o : Orrery) (tcyc n : Nat) (modulus p1 p2 v1 : Int) : Orrery :=
  let s := f32ToRat (o.prm.nat pORR_SCALE)
  let th := o.theta + rndHE (s * fix 32 (wrapMod modulus (p1 - p2)) * (2 : Rat) ^ 64)
  let om := toFix 64 40 (s * fix 40 v1)
  let ol := o.rampLadder tcyc
  { ol with thetaPrev := o.theta, theta := th, omega := om, jerk := 0, cycle := n, alpha := toFix 64 32 ((fix 40 om - fix 40 o.omega) / secOf tcyc), hist := ((n, th) :: o.hist).take 8 }

/-! ### Followers -/

/-- The cam's position and its first three derivatives at `phi` turns (R135). -/
def Cam.eval (c : Cam) (phi : Rat) : Rat × Rat × Rat × Rat :=
  let span := fix 32 (c.span : Int)
  let h := span / (c.n : Rat)
  let i := ((phi * (c.n : Rat) / span).floor).toNat
  let s := (phi - (i : Rat) * h) / h
  let q0 := c.pts.getD i (0, 0)
  let q1 := if i + 1 = c.n then ((c.pts.getD 0 (0, 0)).1 + c.lift, (c.pts.getD 0 (0, 0)).2) else c.pts.getD (i + 1) (0, 0)
  let y0 := fix 32 q0.1
  let y1 := fix 32 q1.1
  let m0 := h * fix 32 q0.2
  let m1 := h * fix 32 q1.2
  ((2*s^3 - 3*s^2 + 1) * y0 + (s^3 - 2*s^2 + s) * m0 + (-2*s^3 + 3*s^2) * y1 + (s^3 - s^2) * m1,
   ((6*s^2 - 6*s) * y0 + (3*s^2 - 4*s + 1) * m0 + (-6*s^2 + 6*s) * y1 + (3*s^2 - 2*s) * m1) / h,
   ((12*s - 6) * y0 + (6*s - 4) * m0 + (-12*s + 6) * y1 + (6*s - 2) * m1) / h^2,
   (12 * y0 + 6 * m0 - 12 * y1 + 6 * m1) / h^3)

/-- kspan and phi of a master angle (R135). -/
def Cam.place (c : Cam) (u : Rat) : Int × Rat :=
  let span := fix 32 (c.span : Int)
  if span = 0 then (0, 0) else
    let k := (u / span).floor
    (k, u - (k : Rat) * span)

/-- PHASE_M of a CAM follower in cycle `n`, as its phase plan has it, with its derivatives, in turns (R139's last paragraph). -/
def Follower.phaseMAt (f : Follower) (tcyc n : Nat) : Rat × Rat × Rat × Rat :=
  let q := f.phaseM.at (f.phaseM.time tcyc n)
  (q.1 / f.phaseMK, q.2.1 / f.phaseMK, q.2.2.1 / f.phaseMK, q.2.2.2 / f.phaseMK)

/-- u_m of a CAM follower in cycle `n` (R135). -/
def Axis.camAngle (ax : Axis) (f : Follower) (tcyc n : Nat) (theta : Int) : Rat := fix 64 (theta - ax.prm.val pTHETA_C) + (f.phaseMAt tcyc n).1

/-- An exact quotient in Q32.32, reduced modulo MODULUS on a modulo follower before it is rounded (R127). -/
def reduceRat (m : Int) (x : Rat) : Rat := if m ≤ 0 then x else x - (m : Rat) * ((x / (m : Rat)).floor : Int)

/-- The target T(Θ) of a follower in cycle `n` without its phase (R127, R135): position (Q32.32 before the phase), then the derivatives; a moving PHASE_M adds
its own to those of Θ. -/
def Axis.target' (ax : Axis) (f : Follower) (o : Orrery) (cam : Option Cam) (tcyc n : Nat) : Int × Rat × Rat × Rat :=
  let w := fix 40 o.omega
  let al := fix 32 o.alpha
  if f.cam then
    match cam with
    | none => (0, 0, 0, 0)
    | some c =>
      let pl := c.place (ax.camAngle f tcyc n o.theta)
      let e := c.eval pl.2
      let m := f.phaseMAt tcyc n
      let w := w + m.2.1
      let al := al + m.2.2.1
      (ax.prm.val pCAM_BASE + pl.1 * c.lift + rndHE (e.1 * 4294967296), e.2.1 * w, e.2.2.1 * w^2 + e.2.1 * al,
       e.2.2.2 * w^3 + 3 * e.2.2.1 * w * al + e.2.1 * (o.jerk + m.2.2.2))
  else
    let q : Rat := (f.num : Rat) / (f.den : Rat)
    (f.gRef + rndHE (reduceRat (ax.prm.val pMODULUS) ((f.num * (o.theta - f.thetaRef) : Int) / ((f.den : Rat) * 4294967296))), q * w, q * al, q * o.jerk)

/-- The follower's phase state at cycle `n` (R127, R129). -/
def Follower.phaseAt (f : Follower) (tcyc n : Nat) : Rat × Rat × Rat × Rat := f.phase.at (f.phase.time tcyc n)

/-- The relative plan's state at cycle `n` (R132), zero once engaged. -/
def Follower.engageAt (f : Follower) (tcyc n : Nat) : Rat × Rat × Rat × Rat :=
  match f.engage with
  | some e => e.at (e.time tcyc n)
  | none => (0, 0, 0, 0)

/-- The limits of phase moves (R129), in au. -/
def Axis.phaseLimits (ax : Axis) (d j : Int) : Limits :=
  { v := fix 40 (ax.prm.val pPH_VMAX), a := fix 32 (ax.prm.val pPH_AMAX), d := fix 32 d, j := fix 24 j }

/-- The limits that a phase move rests on (R117): PH_DMAX and PH_JMAX in place of DMAX and JMAX; `df` is the deferral in force, `same` says that the target stays. -/
def Axis.phaseMoveLimits (ax : Axis) (df : Defer) (oldD oldJ : Int) (lowered held same : Bool) : MoveLimits :=
  { d := ax.prm.val pPH_DMAX, j := ax.prm.val pPH_JMAX, oldD := if df.deferred then df.dmaxEff else oldD, oldJ := if df.deferred then df.jmaxEff else oldJ,
    lowered := lowered, held := held, passed := df.overshoot && same, keep := ax.prm.nat pDEC_POLICY = 0 }

/-- A phase move to `tgt` (Q32.32) under PH_* from the phase state of cycle `n0` (R129, R104, R117). `oldD` and `oldJ` are PH_DMAX and PH_JMAX before the change that brings
it. PHASE_F keeps its target (R174). -/
def Axis.phaseMoveN (ax : Axis) (tcyc n0 : Nat) (tgt : Int) (oldD oldJ : Int) (lowered held : Bool) : Axis × Nat × List AxEvent :=
  match ax.fol with
  | none => (ax, 0, [])
  | some f =>
    let s := f.phaseAt tcyc n0
    let r := replanMove n0 ⟨s.1, s.2.1, s.2.2.1⟩ (fix 32 tgt) (fix 32 tgt - s.1) ax.phaseLimits
      (ax.phaseMoveLimits f.phDefer oldD oldJ lowered held (tgt = f.phaseTgt)) (fun _ => false)
    ({ ax with prm := Tab.set ax.prm pPHASE_F tgt, fol := some { f with phase := r.plan, phaseTgt := tgt, phDefer := r.defer } }, r.note, r.evs)

/-- A phase move that no limit change brings (R129, R141). -/
def Axis.phaseMove (ax : Axis) (tcyc n0 : Nat) (tgt : Int) : Axis := (ax.phaseMoveN tcyc n0 tgt (ax.prm.val pPH_DMAX) (ax.prm.val pPH_JMAX) false false).1

/-- PHASE_M in use moves to `tgt` turns (Q32.32) as a phase move whose state and target are converted to au through the table slope at the current phi, a slope of zero
counting as 1 (R139; log 33). -/
def Axis.phaseMMoveN (ax : Axis) (o : Orrery) (cam : Option Cam) (tcyc n0 : Nat) (tgt : Int) (oldD oldJ : Int) (lowered held : Bool) : Axis × Nat × List AxEvent :=
  match ax.fol, cam with
  | some f, some c =>
    let s := f.phaseMAt tcyc n0
    let sl := absR (c.eval (c.place (ax.camAngle f tcyc n0 o.theta)).2).2.1
    let k := if sl = 0 then 1 else sl
    let r := replanMove n0 ⟨k * s.1, k * s.2.1, k * s.2.2.1⟩ (k * fix 32 tgt) (k * (fix 32 tgt - s.1)) ax.phaseLimits
      (ax.phaseMoveLimits f.phMDefer oldD oldJ lowered held (tgt = f.phaseMTgt)) (fun _ => false)
    ({ ax with fol := some { f with phaseM := r.plan, phaseMTgt := tgt, phaseMK := k, phMDefer := r.defer } }, r.note, r.evs)
  | _, _ => (ax, 0, [])

/-- The ladder factor of a follower: 1 without a ladder (R128). -/
def Axis.ladderF (ax : Axis) (o : Orrery) : Rat :=
  let r := ax.prm.nat pLADDER_RUNG
  if r = 255 || o.prm.nat pLADDER_RUNGS = 0 then 1 else o.factor r

/-- The set-points of a coupled follower in cycle `n` (R127, R128, R132, R135). -/
def Axis.followSp (ax : Axis) (f : Follower) (o : Orrery) (cam : Option Cam) (tcyc n : Nat) : SetPoint :=
  let m := ax.prm.val pMODULUS
  if f.vel then
    let q := ax.ladderF o * (f.num : Rat) / (f.den : Rat)
    let x := f.engageAt tcyc n
    let v := toFix 64 40 (q * fix 40 o.omega + x.2.1)
    { p := reduceMod m (toFix 64 32 (fix 32 ax.sp.p + (fix 40 ax.sp.v + fix 40 v) * secOf (tcyc * max 1 (ax.prm.nat pAXIS_DIVISOR)) / 2)), v := v,
      a := toFix 64 32 (q * fix 32 o.alpha + x.2.2.1), j := toFix 64 24 (q * o.jerk + x.2.2.2) }
  else
    let t := ax.target' f o cam tcyc n
    let ph := f.phaseAt tcyc n
    let x := f.engageAt tcyc n
    { p := (if m ≤ 0 then t.1 + rndHE (ph.1 * 4294967296) + rndHE (x.1 * 4294967296)
            else (t.1 + rndHE (ph.1 * 4294967296) + rndHE (x.1 * 4294967296)) % m),
      v := toFix 64 40 (t.2.1 + ph.2.1 + x.2.1), a := toFix 64 32 (t.2.2.1 + ph.2.2.1 + x.2.2.1),
      j := toFix 64 24 (t.2.2.2 + ph.2.2.2 + x.2.2.2) }

/-- The limits of a flying engage (R132). -/
def Axis.engLimits (ax : Axis) : Limits :=
  let a := fix 32 (ax.prm.val pENG_AREL)
  { v := fix 40 (ax.prm.val pENG_VREL), a := a, d := a, j := fix 24 (ax.prm.val pENG_JREL) }

/-- The relative plan x(t) from the state `k` (R132 to R134). `te` is the time to the master's ENG_THETA of an AT_POSITION engage, `some none` when the plan in force never
reaches it. The answer says whether the engage is late. A profile that ends before that instant rests until it. -/
def engRun (n0 : Nat) (k : Kin) (l : Limits) (te : Option (Option Rat)) : Plan × Bool :=
  let best := planVia n0 k 0 l
  match te with
  | none => (best, false)
  | some none => (best, true)
  | some (some t) =>
    if t + planTol < phasesTime best.phases then (best, true)
    else
      let p := planVia n0 k 0 { l with v := leastVel l.j l.a k.v k.a (-k.p) t 80 0 l.v }
      ({ p with phases := p.phases ++ [⟨max 0 (t - phasesTime p.phases), 0⟩] }, false)

/-- The times inside a phase of length `dur` at which its velocity is zero, in order. -/
def turnTimes (v a j dur : Rat) : List Rat :=
  let rs : List Rat :=
    if j = 0 then (if a = 0 then [] else [-v / a])
    else
      let disc := a ^ 2 - 2 * j * v
      if disc < 0 then [] else
        let r1 := (-a - sqrtR disc) / j
        let r2 := (-a + sqrtR disc) / j
        [min r1 r2, max r1 r2]
  rs.filter (fun t => decide (0 < t ∧ t < dur))

/-- The time between `lo` and `hi` at which a travel that is monotone there is `d`, by bisection. -/
def hitTime (v a j d : Rat) : Nat → Rat → Rat → Rat
  | 0, _, hi => hi
  | k + 1, lo, hi =>
    let m := (lo + hi) / 2
    if 0 < ((moveBy 0 v a j m).1 - d) * ((moveBy 0 v a j lo).1 - d) then hitTime v a j d k m hi else hitTime v a j d k lo m

/-- The first time at which a phase has travelled `d`: `breaks` are the ends of its monotone pieces. -/
def hitPhase (v a j d : Rat) : List Rat → Rat → Option Rat
  | [], _ => none
  | b :: bs, lo =>
    if ((moveBy 0 v a j lo).1 - d) * ((moveBy 0 v a j b).1 - d) ≤ 0 then some (hitTime v a j d 80 lo b) else hitPhase v a j d bs b

/-- The first time at which phases from (v, a) have travelled `d`; after them the velocity is `vf`. -/
def hitPhases (vf : Rat) : List Phase → Rat → Rat → Rat → Option Rat
  | [], _, _, d => if d = 0 then some 0 else if 0 < d * vf then some (d / vf) else none
  | f :: fs, v, a, d =>
    match hitPhase v a f.jerk d (turnTimes v a f.jerk f.dur ++ [f.dur]) 0 with
    | some t => some t
    | none =>
      let e := moveBy 0 v a f.jerk f.dur
      (hitPhases vf fs e.2.1 e.2.2 (d - e.1)).map (fun t => f.dur + t)

/-- What is left of phases after `t` seconds. -/
def phasesFrom : List Phase → Rat → List Phase
  | [], _ => []
  | f :: fs, t => if t < f.dur then ⟨f.dur - max 0 t, f.jerk⟩ :: fs else phasesFrom fs (t - f.dur)

/-- Seconds until Θ reaches `th` under the Orrery plan in force; `none` when it never does (R133). -/
def Orrery.timeTo (o : Orrery) (tcyc : Nat) (th : Int) : Option Rat :=
  let d := fix 64 (th - o.theta)
  match o.plan with
  | some pl =>
    let t0 := pl.time tcyc o.cycle
    let s := pl.at t0
    hitPhases pl.vf (phasesFrom pl.phases t0) s.2.1 s.2.2.1 d
  | none => hitPhases (fix 40 o.omega) [] 0 0 d

/-- The time to the end of an AT_POSITION engage (R133). -/
def Follower.endTime (f : Follower) (o : Orrery) (tcyc : Nat) : Option (Option Rat) := if f.atPos then some (o.timeTo tcyc f.engTheta) else none

/-- A follower starts or goes on with its relative plan from the state `k` (R128, R132 to R134); with VELOCITY coupling the relative velocity alone goes to zero (log 33). -/
def Axis.engageRun (ax : Axis) (f : Follower) (o : Orrery) (tcyc n0 : Nat) (k : Kin) : Axis :=
  if f.vel then { ax with fol := some { f with engage := some (planVel n0 k 0 ax.engLimits), late := false } }
  else
    let r := engRun n0 k ax.engLimits (f.endTime o tcyc)
    { ax with fol := some { f with engage := some r.1, late := r.2 } }

/-- A flying engage with origin `n0` from set-point `s` (R132, R133): x0 is wrapped in NEAREST mode. -/
def Axis.engage (ax : Axis) (f : Follower) (o : Orrery) (cam : Option Cam) (tcyc n0 : Nat) (s : SetPoint) : Axis :=
  if f.vel then
    let q := ax.ladderF o * (f.num : Rat) / (f.den : Rat)
    ax.engageRun f o tcyc n0 ⟨0, fix 40 s.v - q * fix 40 o.omega, fix 32 s.a - q * fix 32 o.alpha⟩
  else
    let t := ax.target' f o cam tcyc n0
    let ph := f.phaseAt tcyc n0
    let m := if f.atPos then 0 else ax.prm.val pMODULUS
    ax.engageRun f o tcyc n0 ⟨fix 32 (wrapMod m (s.p - t.1 - rndHE (ph.1 * 4294967296))), fix 40 s.v - t.2.1 - ph.2.1, fix 32 s.a - t.2.2.1 - ph.2.2.1⟩

/-- An engage in progress is replanned from its state of cycle `n0` (R108, R134). -/
def Axis.reEngage (ax : Axis) (f : Follower) (o : Orrery) (tcyc n0 : Nat) : Axis :=
  if f.engage.isNone then ax else
    let x := f.engageAt tcyc n0
    ax.engageRun f o tcyc n0 ⟨x.1, x.2.1, x.2.2.1⟩

/-! ### Homing -/

/-- The state in which the sequencer searches (Table 4.10). -/
def Homing.searching (h : Homing) : Bool := h.state = 1 || h.state = 2 || h.state = 3 || h.state = 4 || h.state = 5

/-- Two switches are bound to the same input: the same capture input, or the same node point (R151). -/
def Switch.same (s t : Switch) : Bool := s.src.isSome && t.src.isSome && s.node = t.node && (if s.node then s.bitAddr = t.bitAddr else s.src = t.src)

/-- A limit switch that is active when homing starts counts as activated (DESIGN CHOICE, log 40). -/
def Switch.rehit (s : Switch) : Switch := { s with hit := s.active }

/-- The sequencer has taken up a switch's activation, unless the axis stands (R151). -/
def Switch.taken (s : Switch) (v : Rat) : Switch := { s with hit := s.hit && decide (v = 0) }

/-- Limit ahead: an accepted activation of a limit switch in the current direction of motion, other than of the home switch's own input (R151). -/
def limitAhead (pos neg home : Switch) (v : Rat) : Bool := (pos.hit && decide (0 < v) && !pos.same home) || (neg.hit && decide (v < 0) && !neg.same home)

/-- The plan of a search at velocity parameter `id` in the current direction, `rev` for the opposite one (R151). -/
def Axis.searchPlan (ax : Axis) (n0 : Nat) (s : SetPoint) (id : Nat) (neg : Bool) : Axis :=
  let v := ax.homeVel id
  let acc := fix 32 (ax.prm.val pHOME_ACC)
  { ax with plan := some (planVel n0 s.kin (fix 40 (if neg then -v else v)) { v := fix 40 v, a := acc, d := acc, j := fix 24 (ax.prm.val pJMAX) }) }

/-- Decelerate to rest under HOME_ACC (R151). -/
def Axis.homeStop (ax : Axis) (n0 : Nat) (s : SetPoint) : Axis :=
  { ax with plan := some (planStop n0 s.kin (fix 32 (ax.prm.val pHOME_ACC)) (fix 24 (ax.prm.val pJMAX))) }

/-- A kernel's positions shifted by `d` (R152). -/
def Kern.shift (k : Kern) (m d : Int) : Kern := { k with pAct := reduceMod m (k.pAct + d), pHat := k.pHat + fix 32 d }

/-- The reference of an axis shifts by `d` (R152): POS_OFFSET, p_set and the plan in force, COG_ORIGIN and FRIC_ORIGIN, and with them p_act and every position that the
kernel keeps, so that FOLLOW_ERR, the torque and the alignment of the tables stay. -/
def Axis.shiftRef (ax : Axis) (d : Int) : Axis :=
  let m := ax.prm.val pMODULUS
  let up (p : Params) (id : Nat) : Params := Tab.set p id (p.val id + d)
  let kern (w : Work) : Work := { w with k := w.k.shift m d }
  { ax with prm := up (up (up ax.prm pPOS_OFFSET) pCOG_ORIGIN) pFRIC_ORIGIN
            sp := { ax.sp with p := reduceMod m (ax.sp.p + d) }, spPrev := { ax.spPrev with p := reduceMod m (ax.spPrev.p + d) }
            plan := ax.plan.map (fun p => p.shift (fix 32 d)), w := kern ax.w, cand := ax.cand.map kern
            pActPrev := reduceMod m (ax.pActPrev + d), spec := { ax.spec with pTil := reduceMod m (ax.spec.pTil + d) } }

/-- The ABSOLUTE method (R152): the count is seeded anew under R69 from the sample at hand, POS_OFFSET is HOME_POS, and everything shifts with p_act. -/
def Axis.homeAbsolute (ax : Axis) : Axis :=
  let c := wrapS 32 ax.w.k.count
  let d := c * ax.prm.val pFB_SCALE + ax.prm.val pHOME_POS - ax.w.k.pAct
  let a := ax.shiftRef d
  { a with prm := Tab.set a.prm pPOS_OFFSET (ax.prm.val pHOME_POS), w := { a.w with k := { a.w.k with count := c } } }

/-- HOME takes effect with origin `n0` (Table 4.10, IDLE rows). -/
def Axis.startHome (ax : Axis) (n0 : Nat) (s : SetPoint) : Axis :=
  let ax := { ax with prm := ax.stored.foldl (fun (p : Params) (e : Nat × Int) => if e.1 / 256 % 256 = 0x49 then Tab.set p e.1 e.2 else p) ax.prm,
                      stored := ax.stored.filter (fun (e : Nat × Int) => e.1 / 256 % 256 ≠ 0x49) }
  let me := ax.prm.nat pHOME_METHOD
  let neg := ax.prm.nat pHOME_DIR = 1
  let h : Homing := { ax.home with dirNeg := neg, reversed := false, capture := 0, start := s.p, cause := 0, pressDone := false, referenced := false, travel := 0, began := n0 }
  let ax := { ax with swPos := ax.swPos.rehit, swNeg := ax.swNeg.rehit, homeCap := ax.slsLim }
  if me = 4 then { ax with home := { h with state := 8, referenced := true } }.homeAbsolute
  else if me = 1 then { ax with home := { h with state := 4 }, indexArm := true }.searchPlan n0 s pHOME_VEL_SLOW neg
  else if me = 3 then
    { ax with home := { h with state := 5 }, trqOvr := some (ax.prm.val pHOME_TORQUE) }.searchPlan n0 s pHOME_VEL_SLOW neg
  else if ax.swHome.active then { ax with home := { h with state := 2 } }.searchPlan n0 s pHOME_VEL_SLOW (!neg)
  else { ax with home := { h with state := 1 } }.searchPlan n0 s pHOME_VEL_FAST neg

/-- Homing fails with a cause: 1 LIMIT, 2 TRAVEL, 3 TIMEOUT, 4 CHATTER (Table 4.10). TRQ_LIM is restored. -/
def Axis.homeFail (ax : Axis) (cause : Nat) : Axis :=
  { ax with home := { ax.home with state := 9, cause := cause }, trqOvr := none, indexArm := false,
            w := ax.w.raise fHOME_FAILED (classOf ax.prm pREACT_code fHOME_FAILED) }

/-- R152: the reference is set by the shift HOME_POS − capture, with the move to HOME_TARGET where there is one. For the set-points of a split axis's next cycle (`ahead`) the
shift waits for that cycle's Meridian. -/
def Axis.applyReference (ax : Axis) (n0 : Nat) (ahead : Bool) : Axis :=
  let d := ax.prm.val pHOME_POS - ax.home.capture
  let acc := fix 32 (ax.prm.val pHOME_ACC)
  let l : Limits := { v := fix 40 (ax.homeVel pHOME_VEL_FAST), a := acc, d := acc, j := fix 24 (ax.prm.val pJMAX) }
  let ax := { ax with home := { ax.home with referenced := true } }
  let ax := if ax.prm.nat pHOME_TARGET_EN = 1 then { ax with home := { ax.home with state := 7 }, plan := some (planPos n0 ax.sp.kin (fix 32 (ax.prm.val pHOME_TARGET - d)) l) }
    else { ax with home := { ax.home with state := 8 } }
  if ahead then { ax with refShift := some d } else ax.shiftRef d

/-- The set-point from which an internal decision for cycle `n` goes on: the last one delivered, which is that of the axis cycle before `n` (R104). -/
def Axis.before (ax : Axis) (n : Nat) : Nat := min (n - 1) (max ax.spCycle (n - ax.div))

/-- The travel of a homing search grows by what the last set-point added (Table 4.10). -/
def Homing.moved (h : Homing) (m p : Int) : Homing := { h with travel := h.travel + wrapMod m (p - h.start), start := p }

/-- One decision of the homing sequencer from the data of the axis cycle before `n` (R104, Table 4.10). The events are HOME_DONE (10) and
HOME_FAILED (11). -/
def Axis.homeStep (ax0 : Axis) (tcyc n : Nat) (ahead : Bool) : Axis × List AxEvent :=
  let n0 := ax0.before n
  let v := fix 40 ax0.sp.v
  let ahead := limitAhead ax0.swPos ax0.swNeg ax0.swHome v
  let ax := { ax0 with home := ax0.home.moved (ax0.prm.val pMODULUS) ax0.sp.p, swPos := ax0.swPos.taken v, swNeg := ax0.swNeg.taken v }
  let h := ax.home
  let rest := match ax.plan with | some p => p.ended (p.time tcyc n0) | none => true
  let neg := ax.prm.nat pHOME_DIR = 1
  let fail (c : Nat) : Axis × List AxEvent := (ax.homeFail c, [{ code := 11, a := c }])
  if h.searching && (ax.prm.val pHOME_SEARCH_MAX < (h.travel.natAbs : Int)) then fail 2
  else if h.searching && ax.swHome.chatterCond then fail 4
  else if h.state = 5 && ahead then fail 1
  else if (h.state = 1 || h.state = 4) && ahead && ax.prm.nat pHOME_LIM_REVERSE = 1 && !h.reversed then
    ({ ax with home := { h with reversed := true, dirNeg := !h.dirNeg } }.searchPlan n0 ax.sp
        (if h.state = 1 then pHOME_VEL_FAST else pHOME_VEL_SLOW) (!h.dirNeg), [])
  else if (h.state = 1 || h.state = 2 || h.state = 3 || h.state = 4) && ahead then fail 1
  else if h.state = 1 && ax.swHome.active then
    ({ ax with home := { h with state := 2 } }.searchPlan n0 ax.sp pHOME_VEL_SLOW (!neg), [])
  else if h.state = 2 && !ax.swHome.active then
    ({ ax with home := { h with state := 3 } }.searchPlan n0 ax.sp pHOME_VEL_SLOW neg, [])
  else if h.state = 3 && ax.swHome.active then
    (if ax.prm.nat pHOME_METHOD = 2 then ({ ax with home := { h with state := 4 }, indexArm := true }, [])
     else ({ ax with home := { h with state := 6, capture := ax.swHome.pos } }.homeStop n0 ax.sp, []))
  else if h.state = 4 && ax.fb.index.isSome then
    ({ ax with home := { h with state := 6, capture := ax.fb.index.getD 0 }, indexArm := false }.homeStop n0 ax.sp, [])
  else if h.state = 5 && h.pressDone then
    ({ ax with home := { h with state := 6, capture := ax.w.k.pAct }, trqOvr := none, sp := { p := ax.w.k.pAct },
               plan := none }, [])
  else if h.state = 6 && rest then
    let a := ax.applyReference n0 ahead
    (a, if a.home.state = 8 then [{ code := 10 }] else [])
  else if h.state = 7 && rest then ({ ax with home := { h with state := 8 } }, [{ code := 10 }])
  else if h.state = 8 then
    ({ ax with w := { ax.w with sup := { ax.w.sup with mode := 6 } }, plan := none }, [])
  else (ax, [])

/-! ### Register correction -/

/-- Θ at stamp `t` (quarter ns) by linear interpolation between the apply instants of the kept cycles, extrapolated with ω after the
latest (R140). `aInst` gives A_n. -/
def Orrery.thetaAt (o : Orrery) (aInst : Nat → Int) (t : Int) : Rat :=
  let rec go : List (Nat × Int) → Rat
    | (n1, t1) :: (n0, t0) :: r =>
      if aInst n0 ≤ t && t ≤ aInst n1 then
        fix 64 t0 + (fix 64 t1 - fix 64 t0) * ((t - aInst n0 : Int) : Rat) / ((aInst n1 - aInst n0 : Int) : Rat)
      else go ((n0, t0) :: r)
    | (n0, t0) :: [] => fix 64 t0 + fix 40 o.omega * ((t - aInst n0 : Int) : Rat) / 4000000000
    | [] => fix 64 o.theta
  match o.hist with
  | (n, th) :: r => if aInst n < t then fix 64 th + fix 40 o.omega * ((t - aInst n : Int) : Rat) / 4000000000 else go ((n, th) :: r)
  | [] => fix 64 o.theta

/-- m of R140 in Q32.32 turns: Θ_mark − REG_NOMINAL wrapped modulo REG_PERIOD. -/
def RegCh.markDev (c : RegCh) (theta : Rat) : Int :=
  wrapMod (c.prm.val pREG_PERIOD) (rndHE (theta * 4294967296) - c.prm.val pREG_NOMINAL)

/-- The period of master travel, centred on REG_NOMINAL, that holds an angle (R141). -/
def RegCh.periodOf (c : RegCh) (theta : Rat) : Int :=
  let p := fix 32 (c.prm.val pREG_PERIOD)
  if p = 0 then 0 else ((theta - fix 32 (c.prm.val pREG_NOMINAL)) / p + 1 / 2).floor

/-- The channel counts: it is past the period in which it resumed (R174). -/
def RegCh.counts (c : RegCh) : Bool := c.hold.isNone

/-- The channel enters period `per` (R141): each period since the last that held no accepted mark counts as missed. A channel that was off counts from the first period that
begins after the one in which it resumed (R174). -/
def RegCh.rollTo (c : RegCh) (per : Int) : RegCh :=
  match c.hold with
  | some h => if per = h then c else { c with hold := none, period := some per, taken := false }
  | none =>
    match c.period with
    | none => { c with period := some per, taken := false }
    | some p =>
      if per = p then c
      else
        let k := (per - p).natAbs - (if c.taken then 1 else 0)
        { c with missed := addSat 32 c.missed k, missRun := addSat 8 c.missRun k, period := some per, taken := false }

/-- One mark of a channel (R141): the channel and the correction of PHASE_F it asks for. -/
def RegCh.mark (c : RegCh) (theta : Rat) (num : Int) (den : Nat) : RegCh × Int :=
  let c := c.rollTo (c.periodOf theta)
  if !c.counts then (c, 0)
  else
    let m := c.markDev theta
    if !c.taken && (m.natAbs : Int) ≤ c.prm.val pREG_WINDOW then
      let e := rndHE ((m * num : Int) / (den : Rat))
      let g := f32ToRat (c.prm.nat pREG_GAIN)
      let step := c.prm.val pREG_STEP_MAX
      let d : Int := if c.prm.val pREG_DEADBAND < (e.natAbs : Int) then max (-step) (min step (rndHE (-(g * (e : Rat))))) else 0
      ({ c with taken := true, err := e, corr := c.corr + d, marks := incSat 32 c.marks, missRun := 0, lost := false }, d)
    else ({ c with reject := incSat 32 c.reject }, 0)

/-- All marks of a cycle (R141), then the channel follows the master to the cycle's Θ. -/
def RegCh.takeMarks (c : RegCh) (o : Orrery) (aInst : Nat → Int) (num : Int) (den : Nat) : List Int → RegCh × Int
  | [] => (c.rollTo (c.periodOf (fix 64 o.theta)), 0)
  | t :: ts =>
    let r := c.mark (o.thetaAt aInst t) num den
    let q := RegCh.takeMarks r.1 o aInst num den ts
    (q.1, r.2 + q.2)

/-- REG_STATE (Table 4.8): 0 while the channel is suspended or lets its first period pass (R174). -/
def RegCh.stateNow (c : RegCh) : Nat := if c.off || !c.counts then 0 else if c.lost then 2 else 1

/-! ### The set-points of one axis in one cycle -/

/-- The axis leaves its Orrery by a reaction: the Orrery has yet to hear of it where it has not taken the reaction up (R124). -/
def Axis.leavesOrr (ax : Axis) : Axis :=
  { ax with leftOrr := if ax.orrTold then none else (match ax.fol with | some f => some f.orr | none => ax.leftOrr), orrTold := false }

/-- The stops that a reaction decided since the last delivery (R68, R104, Table 5.4): a quick stop starts its plan and its
hand-over from the seed of R163, a torque-off decouples and leaves the homing sequencer. `ahead` says that the set-points are those of a split axis's next
cycle. -/
def Axis.takeDecisions (ax : Axis) (tcyc n : Nat) (ahead : Bool) : Axis :=
  if ax.w.sup.qsNew then
    let old := ax.w.sup.qsFrom
    let k := ax.w.k
    let s : SetPoint := if old = 1 then { ax.sp with p := k.pAct } else if old = 2 then { p := k.pAct, v := k.vAct } else ax.sp
    let ax := { ax.leavesOrr with sp := s }.replanStop (ax.before n) (ax.kin tcyc (ax.before n) s) true
    { ax with w := { ax.w with sup := { ax.w.sup with qsNew := false } }, home := ax.home.leave, trqOvr := none, indexArm := false,
              hand := some { kind := if structOf old = 0 then 0 else 1, tauOld := if ahead then ax.applied else ax.appliedPrev, armed := !ahead, ahead := ahead } }
  else if ax.w.sup.offNew then
    let ax := ax.leavesOrr
    { ax with w := { ax.w with sup := { ax.w.sup with offNew := false } }, plan := none, fol := none, trqOvr := none, indexArm := false, hand := none,
              home := ax.home.leave }
  else ax

/-- The raw set-points of cycle `n` from the mode's source (R155, R157). -/
def Axis.sourceSp (ax : Axis) (tcyc n : Nat) (o : Option Orrery) (cam : Option Cam) : SetPoint :=
  let s := ax.w.sup
  if s.state = 0 || s.state = 5 || s.mode = 2 then { p := ax.w.k.pAct }
  else
    match s.mode, ax.fol, o with
    | 3, some f, some o => ax.followSp f o cam tcyc n
    | 4, some f, some o => ax.followSp f o cam tcyc n
    | _, _, _ =>
      match ax.plan with
      | some pl =>
        let q := pl.setPoint tcyc n
        { q with p := reduceMod (ax.prm.val pMODULUS) q.p }
      | none => { p := ax.sp.p }

/-- The software limits in VEL, GEAR and CAM (R112): p_set clamped, condition SW_LIMIT. -/
def Axis.softLimit (ax : Axis) (sp : SetPoint) : SetPoint × Bool :=
  let m := ax.w.sup.mode
  if ax.prm.nat pSW_LIM_EN = 1 && ax.prm.val pMODULUS = 0 && (m = 1 || m = 3 || m = 4) && ax.w.sup.state ≠ 0 && ax.w.sup.state ≠ 5 then
    let hi := ax.prm.val pSW_LIM_POS
    let lo := ax.prm.val pSW_LIM_NEG
    if hi < sp.p then ({ sp with p := hi }, true) else if sp.p < lo then ({ sp with p := lo }, true) else (sp, false)
  else (sp, false)

/-- The direction in which the axis is to move by its target (R149): POS towards the target, VEL the target velocity, TRQ the sign of the target torque. -/
def Axis.aim (ax : Axis) (p : Int) : Int :=
  if ax.w.sup.state = 0 || ax.w.sup.state = 5 then 0
  else match ax.w.sup.mode with
    | 0 => ax.travelTo p ax.target
    | 1 => ax.velTgt
    | 2 => ax.prm.val pTRQ_SET
    | _ => 0

/-- Conditions that arise from the set-points of a cycle (R112, R127, R130, R149, R172), with their classes: `raw` is the set-point before the clamp of R112, `act` says that the
Orrery has source AXIS_ACT, on which LIM_VEL bounds the follower itself. -/
def Axis.spConds (ax : Axis) (raw sp : SetPoint) (soft act : Bool) : List (Nat × Nat) :=
  let m := ax.w.sup.mode
  let c (code : Nat) (b : Bool) : List (Nat × Nat) := if b then [(code, classOf ax.prm pREACT_code code)] else []
  let aim := ax.aim sp.p
  c fSW_LIMIT soft ++
  c fFOLLOW_OVERSPEED ((m = 3 || m = 4) && (if act then ax.vmax else ax.prm.val pVMAX) < (sp.v.natAbs : Int)) ++
  c fPOS_RANGE ((m = 3 || m = 4) && ax.prm.val pMODULUS = 0 && (raw.p < -(2 ^ 63) || 2 ^ 63 ≤ raw.p)) ++
  c fLIMIT_POS (m ≠ 5 && ax.swPos.active && (0 < sp.v || 0 < aim)) ++
  c fLIMIT_NEG (m ≠ 5 && ax.swNeg.active && (sp.v < 0 || aim < 0))

/-- A set-point as it is delivered, and the conditions that it meets. -/
def Axis.judge (ax : Axis) (raw : SetPoint) (act : Bool) : SetPoint × List (Nat × Nat) :=
  let sl := ax.softLimit raw
  ({ sl.1 with p := satS 64 sl.1.p }, ax.spConds raw sl.1 sl.2 act)

/-- The conditions of a set-point act on the axis: FOLLOW_OVERSPEED that no longer holds ends its warning. -/
def Axis.spRaise (ax : Axis) (cs : List (Nat × Nat)) : Axis :=
  let w := if cs.any (fun c => c.1 = fFOLLOW_OVERSPEED) then ax.w else { ax.w with sup := ax.w.sup.dropWarn fFOLLOW_OVERSPEED }
  { ax with w := w.raiseAll cs }

/-- The plan of an axis at rest at its target ends deferral and overshoot (R113 to R116). -/
def Axis.settleDefer (ax : Axis) (tcyc n : Nat) : Axis :=
  match ax.plan with
  | some pl => if pl.hold && pl.ended (pl.time tcyc n) then { ax with defer := {}, deferPrev := false, overPrev := false } else ax
  | none => ax

/-- Phase moves at rest at their targets end deferral and overshoot (R117). -/
def Follower.settle (f : Follower) (tcyc n : Nat) : Follower :=
  let f := if f.phase.ended (f.phase.time tcyc n) then { f with phDefer := {} } else f
  if f.phaseM.ended (f.phaseM.time tcyc n) then { f with phMDefer := {} } else f

/-- What the plans of an axis end in cycle `n` (R113 to R117, R132): a deferral or an overshoot at rest at its target, and an engage, with ENGAGED (12). -/
def Axis.settle (ax : Axis) (tcyc n : Nat) : Axis × List AxEvent :=
  let ax := if ax.w.sup.mode = 0 || ax.w.sup.mode = 1 || ax.w.sup.mode = 7 then ax.settleDefer tcyc n else ax
  match ax.fol with
  | none => (ax, [])
  | some f0 =>
    let f := f0.settle tcyc n
    let ax := { ax with fol := some f, deferPrev := ax.deferPrev && (f.phDefer.deferred || f.phMDefer.deferred), overPrev := ax.overPrev && (f.phDefer.overshoot || f.phMDefer.overshoot) }
    match f.engage with
    | some e => if e.ended (e.time tcyc n) then ({ ax with fol := some { f with engage := none, late := false } }, [{ code := 12 }]) else (ax, [])
    | none => (ax, [])

/-- A jerk limit is deferred and its plan is at constant velocity or at rest: from there the planner looks for j* (R116). -/
def Defer.looks (df : Defer) (jmax : Int) (pl : Plan) (t : Rat) : Bool := df.deferred && df.jmaxEff ≠ jmax && pl.steady t

/-- The steady point of a move whose jerk limit is deferred: from cycle `n` on the plan rests on j* (R104, R116). -/
def Axis.jerkPoint (ax : Axis) (tcyc n : Nat) : Axis :=
  match ax.plan with
  | some pl =>
    if ax.defer.looks (ax.prm.val pJMAX) pl (pl.time tcyc n) then
      if ax.w.sup.mode = 0 then (ax.replanPos n (ax.kin tcyc n ax.sp) ax.target ax.defer.dmaxEff ax.defer.jmaxEff false false).1
      else if ax.w.sup.mode = 1 then (ax.replanVel n (ax.kin tcyc n ax.sp) ax.velTgt ax.defer.jmaxEff false false).1
      else ax
    else ax
  | none => ax

/-- The steady point of a phase move whose jerk limit is deferred (R116, R117). -/
def Axis.phasePoint (ax : Axis) (o : Option Orrery) (cam : Option Cam) (tcyc n : Nat) : Axis :=
  let j := ax.prm.val pPH_JMAX
  let d := ax.prm.val pPH_DMAX
  let ax := match ax.fol with
    | some f => if f.phDefer.looks j f.phase (f.phase.time tcyc n) then (ax.phaseMoveN tcyc n f.phaseTgt d j false false).1 else ax
    | none => ax
  match ax.fol, o with
  | some f, some o => if f.phMDefer.looks j f.phaseM (f.phaseM.time tcyc n) then (ax.phaseMMoveN o cam tcyc n f.phaseMTgt d j false false).1 else ax
  | _, _ => ax

/-- LIMIT_DEFERRED and OVERSHOOT_PLANNED of an axis: of its own move and of its phase moves (R113 to R117). -/
def Axis.deferNow (ax : Axis) : Bool := ax.defer.deferred || (match ax.fol with | some f => f.phDefer.deferred || f.phMDefer.deferred | none => false)

/-- OVERSHOOT_PLANNED of an axis (R113, R115). -/
def Axis.overNow (ax : Axis) : Bool := ax.defer.overshoot || (match ax.fol with | some f => f.phDefer.overshoot || f.phMDefer.overshoot | none => false)

/-- What a delivery answers: the axis, events of the planner and of homing (ENGAGED is 12), and the conditions of the set-points. -/
structure Delivery where
  ax : Axis
  evs : List AxEvent
  conds : List (Nat × Nat)

/-- The delivery of the set-points of cycle `n` to one axis (R103 to R105, R112, R116, R127 to R135, R149, R151, R157). -/
def Axis.deliver (ax : Axis) (tcyc n : Nat) (ahead : Bool) (o : Option Orrery) (cam : Option Cam) : Delivery :=
  let ax := ax.takeDecisions tcyc n ahead
  let hs := if ax.w.sup.mode = 5 && ax.w.sup.state ≠ 0 && ax.w.sup.state ≠ 5 then ax.homeStep tcyc n ahead else (ax, [])
  let ax := hs.1.takeDecisions tcyc n ahead
  let j := ax.judge (ax.sourceSp tcyc n o cam) (match o with | some o => o.axisSrc | none => false)
  let ax1 := { ax.spRaise j.2 with spPrev := ax.sp, sp := j.1, spCycle := n, deferPrev := ax.deferNow, overPrev := ax.overNow }
  { ax := (ax1.jerkPoint tcyc n).phasePoint o cam tcyc n, evs := hs.2, conds := j.2 }

end Sys2Proof.Machine
end

