-- ==== Sys2Proof/Machine/StepKernel.lean ====
section
/-! DEFINITION. The standard step kernel: one update of a stepper axis (R176 to R195), and the reactions of Table 6.5. -/

namespace Sys2Proof.Machine

/-- The update period T_U in seconds (R177). -/
def Stepper.period (s : Stepper) (tcyc : Nat) : Rat := secOf (tcyc * s.prm.nat pST_STEP_DIV)

/-- A gain of a stepper axis. -/
def Stepper.f (s : Stepper) (id : Nat) : Rat := gain (s.prm.nat id)

/-- The speed of `v` (Q24.40 au/s) in full steps per second (R186, R188). -/
def Stepper.fsps (s : Stepper) (v : Int) : Rat := fix 40 v * (s.prm.nat pST_FS_PER_AU : Rat)

/-- θ_x with 32 fraction bits (R185). -/
def Stepper.thetaX (s : Stepper) (p : Int) : Int :=
  p * (s.prm.nat pST_FS_PER_AU : Int) * 16384 + (s.prm.nat pST_EANGLE_OFFSET : Int) * 4294967296

/-- The grid step of a level in LSB (Table 6.4). -/
def gridOf (level : Nat) : Nat := 64 * 4 ^ level

/-- EANGLE on the grid of a level (R185). -/
def eangleOf (theta : Int) (level : Nat) : Nat :=
  let g := gridOf level
  (((g : Int) * rndHE ((theta : Rat) / (4294967296 * (g : Rat)))) % 65536).toNat

/-- The entry speed of level `l + 1` (Table 6.4). -/
def Stepper.resV (s : Stepper) (l : Nat) : Rat := s.f (pST_RES_V1 + l)

/-- The requested level (R186). -/
def Stepper.requested (s : Stepper) (v : Int) : Nat :=
  let sp := absR (s.fsps v)
  if s.level < s.prm.nat pST_RES_MAX_LEVEL && s.resV s.level ≤ sp then s.level + 1
  else if 0 < s.level && sp < s.resV (s.level - 1) * (1 - s.f pST_RES_HYST) then s.level - 1
  else s.level

/-- θ_x reaches or passes a point of the coarser grid in the direction of motion (R187). -/
def crosses (prev now : Int) (level : Nat) : Bool :=
  let g : Int := (gridOf level : Int) * 4294967296
  if prev < now then prev / g < now / g else if now < prev then (-prev) / g < (-now) / g else false

/-- The level of this update (R186, R187). -/
def Stepper.stepLevel (s : Stepper) (theta v : Int) : Stepper :=
  let r := s.requested v
  if r < s.level then { s with level := r, request := r, pending := false, resSwitchCnt := incWrap 32 s.resSwitchCnt }
  else if s.level < r then
    (if v ≠ 0 && crosses s.thetaPrev theta r then { s with level := r, request := r, pending := false, resSwitchCnt := incWrap 32 s.resSwitchCnt }
     else { s with request := r, pending := true })
  else { s with request := r, pending := false }

/-- A signed Q1.15 field of the feedback word (Table 6.2). -/
def Stepper.q15 (s : Stepper) (o : Nat) : Rat := fix 15 (fieldLES s.fb o 2)

/-- The load-angle estimate of R188 and R189: delta, ratio below EMF_RATIO_MIN, and validity. The angles are exact, and delta is rounded once, half to even
(DEDUCED from the worked example, log 5). -/
def Stepper.estimate (s : Stepper) (tcyc : Nat) (v : Int) : Int × Bool × Bool :=
  let U := s.f pST_U_SCALE
  let I := s.f pST_I_SCALE
  let tu := s.period tcyc
  let ia := fix 15 s.ia * I
  let ib := fix 15 s.ib * I
  let imA := s.q15 4 * I
  let imB := s.q15 6 * I
  let eA := s.q15 0 * U - s.f pST_R_PH * imA - s.f pST_L_PH * (s.q15 8 * I - ia) / tu
  let eB := s.q15 2 * U - s.f pST_R_PH * imB - s.f pST_L_PH * (s.q15 10 * I - ib) / tu
  let vf := s.fsps v
  let turn := atan2Turn imB imA Config.atan2Zero - atan2Turn eB eA Config.atan2Zero
  let valid := s.fbFresh && s.fbPrevFresh && bit (fieldLE s.fb 12 2) 2 && s.f pST_LA_VMIN ≤ absR vf
  let lim := s.f pST_EMF_RATIO_MIN * s.f pST_KE * absR vf
  (wrapS 16 (rndHE ((turn + sgnR vf / 4) * 65536)), eA * eA + eB * eB < lim * lim, valid)

/-- STALL_RUN and LOAD_ANGLE (R189, R190). An estimate that brings STALL_RUN to STALL_COUNT or beyond it makes the declaration due. -/
def Stepper.watch (s : Stepper) (tcyc : Nat) (v : Int) : Stepper :=
  let e := s.estimate tcyc v
  let s1 := { s with laValid := e.2.2, la := if e.2.2 then e.1 else s.la, laBefore := s.laLast, laLast := if e.2.2 then some e.1 else s.laLast, stallDue := false,
                     ia := if s.fbFresh then fieldLES s.fb 8 2 else s.ia, ib := if s.fbFresh then fieldLES s.fb 10 2 else s.ib,
                     fbPrevFresh := s.fbFresh }
  if s.prm.nat pST_STALL_EN = 1 && e.2.2 then
    (if (s.prm.nat pST_STALL_ANGLE : Int) < (e.1.natAbs : Int) || e.2.1 then
      { s1 with stallRun := incSat 4 s.stallRun, stallDue := decide (s.prm.nat pST_STALL_COUNT ≤ incSat 4 s.stallRun) }
     else { s1 with stallRun := 0 })
  else s1

/-- The amplitude of R184 and Table 6.5. -/
def Stepper.amplitude (s : Stepper) : Nat :=
  if s.state = 0 || s.state = 5 then 0
  else if s.state = 4 then s.prm.nat pST_I_HOLD
  else if s.mode = 5 && s.home.searching then s.prm.nat pST_I_HOME
  else if s.sp.v ≠ 0 || s.sp.a ≠ 0 then s.prm.nat pST_I_RUN
  else if s.holding then s.prm.nat pST_I_HOLD else s.prm.nat pST_I_RUN

/-- The exact state of a stepper's set-point at cycle `n`: of its plan, else at rest where it stands (R108, R183). -/
def Stepper.kinAt (s : Stepper) (tcyc n : Nat) : Kin :=
  match s.plan with
  | some pl => let q := pl.at (pl.time tcyc n); ⟨q.1, q.2.1, q.2.2.1⟩
  | none => ⟨fix 32 s.sp.p, 0, 0⟩

/-- Torque-off of a stepper axis (Table 6.5). -/
def Stepper.torqueOff (s : Stepper) (code : Nat) : Stepper :=
  { s with state := 5, fault := if s.reaction = 3 then s.fault else code, reaction := 3, amp := 0, enabled := false, lost := true, referenced := false, mode := 7, plan := none,
           home := s.home.leave }

/-- WARN_CODE is the lowest code among the conditions of class WARN that hold, and REACTION follows it while no fault is latched (R95, R191). -/
def Stepper.warns (s : Stepper) (h : List Nat) : Stepper :=
  { s with warnHold := h, warn := match h with | [] => 0 | c :: cs => cs.foldl min c, reaction := if s.fault = 0 then (if h.isEmpty then 0 else 1) else s.reaction }

/-- A condition of a stepper no longer holds (R198). -/
def Stepper.dropCond (s : Stepper) (code : Nat) : Stepper :=
  let s := { s with held := s.held.filter (· ≠ code) }
  if s.warnHold.contains code then s.warns (s.warnHold.filter (· ≠ code)) else s

/-- A fault of a stepper axis by class (Table 6.5, R97); in OFF it latches nothing. A quick stop starts from the set-point of cycle `n`. -/
def Stepper.raise (s : Stepper) (tcyc n code cls : Nat) : Stepper :=
  if s.state = 0 || s.state = 5 || cls = 0 then s
  else if cls = 1 then (if s.state = 1 && !s.warnHold.contains code then s.warns (code :: s.warnHold) else s)
  else if cls = 3 then s.torqueOff code
  else if code = fSTALL then
    (if s.state = 1 || s.state = 2 then
      { s with state := 4, fault := if s.fault = 0 then code else s.fault, reaction := 2, amp := s.prm.nat pST_I_HOLD, lost := true, referenced := false, mode := 7,
               plan := none, sp := { s.sp with v := 0, a := 0, j := 0 }, home := s.home.leave }
     else s)
  else if s.state = 1 then
    { s with state := 2, fault := code, reaction := 2, mode := 7, home := s.home.leave,
             plan := some (planStop n (s.kinAt tcyc n) (fix 32 (s.prm.val pST_STEP_QS_DEC)) (fix 24 (s.prm.val pST_JMAX))) }
  else s

/-- All conditions of one update raised: the highest class first, the lowest code first among equals (R97, R191). -/
def Stepper.raiseAll (s : Stepper) (tcyc n : Nat) (cs : List (Nat × Nat)) : Stepper := (orderConds cs).foldl (fun (s : Stepper) c => s.raise tcyc n c.1 c.2) s

/-- The class configured for a stepper's fault (R198, R193). -/
def Stepper.cls (s : Stepper) (code : Nat) : Nat := classOf s.prm pST_REACT_code code

/-- POS_CMD as the host sees it: p_set with the offset that homing and SET_POSITION give it (R194, R195; log 21). -/
def Stepper.posCmd (s : Stepper) : Int := s.sp.p + s.posOffset

/-- Velocity search of a stepper's homing from its set-point of cycle `n0` (R194, R195). -/
def Stepper.search (s : Stepper) (tcyc n0 id : Nat) (neg : Bool) : Stepper :=
  let v := s.prm.val id
  let acc := fix 32 (s.prm.val pST_HOME_ACC)
  { s with plan := some (planVel n0 (s.kinAt tcyc n0) (fix 40 (if neg then -v else v)) { v := fix 40 v, a := acc, d := acc, j := fix 24 (s.prm.val pST_JMAX) }) }

/-- The reference is set: the capture reads HOME_POS (R194 step 3, R195). -/
def Stepper.reference (s : Stepper) (cap : Int) : Stepper :=
  { s with posOffset := s.prm.val pST_HOME_POS - cap, lost := false, referenced := true }

/-- HOME takes effect on a stepper axis with origin `n0` (R183, R194, R195). A limit switch that is active counts as activated (DESIGN CHOICE, log 40). -/
def Stepper.startHome (s : Stepper) (tcyc n0 : Nat) : Stepper :=
  let s := { s with prm := s.stored.foldl (fun (p : Params) (e : Nat × Int) => Tab.set p e.1 e.2) s.prm, stored := [], mode := 5, referenced := false,
                    swPos := s.swPos.rehit, swNeg := s.swNeg.rehit, laLast := none, laBefore := none }
  let me := s.prm.nat pST_HOME_METHOD
  let neg := s.prm.nat pST_HOME_DIR = 1
  let h : Homing := { s.home with dirNeg := neg, reversed := false, start := rndHE ((s.kinAt tcyc n0).p * 4294967296), cause := 0, began := n0 }
  if me = 4 then { s.reference 0 with home := { h with state := 8 } }
  else if me = 3 then { s with home := { h with state := 5 } }.search tcyc n0 pST_HOME_VEL_SLOW neg
  else if s.swHome.active then { s with home := { h with state := 2 } }.search tcyc n0 pST_HOME_VEL_SLOW (!neg)
  else { s with home := { h with state := 1 } }.search tcyc n0 pST_HOME_VEL_FAST neg

/-- Homing of a stepper axis fails (R194): the quick stop starts from its set-point of cycle `n`. -/
def Stepper.homeFail (s : Stepper) (tcyc n cause : Nat) : Stepper :=
  { s with home := { s.home with state := 9, cause := cause } }.raise tcyc n fSTEP_HOME_FAILED (s.cls fSTEP_HOME_FAILED)

/-- The homing sequencer of a stepper axis in the update of cycle `n` (R194, R195; Table 4.10 for SWITCH): decided from what cycle `n - 1` left, with origin
`n - 1` (R104). Events HOME_DONE (10), HOME_FAILED (11). A limit switch ahead and the chatter of the home switch end HARD_STOP homing too, and the move away from
the stop runs at HOME_VEL_SLOW (DESIGN CHOICE, log 41). -/
def Stepper.homeStep (s0 : Stepper) (tcyc n : Nat) : Stepper × List AxEvent :=
  let h := s0.home
  let n0 := n - 1
  let k := s0.kinAt tcyc n0
  let rest := match s0.plan with | some p => p.ended (p.time tcyc n0) | none => true
  let neg := s0.prm.nat pST_HOME_DIR = 1
  let ahead := limitAhead s0.swPos s0.swNeg s0.swHome k.v
  let s := { s0 with swPos := s0.swPos.taken k.v, swNeg := s0.swNeg.taken k.v }
  let fail (c : Nat) : Stepper × List AxEvent := (s.homeFail tcyc n0 c, [{ code := 11, a := c }])
  let finish (s : Stepper) : Stepper × List AxEvent :=
    ({ s with home := { s.home with state := 8 }, mode := 6, plan := none, sp := { p := toFix 64 32 (s.kinAt tcyc n0).p } }, [{ code := 10 }])
  let acc := fix 32 (s.prm.val pST_HOME_ACC)
  let J := fix 24 (s.prm.val pST_JMAX)
  if h.searching && fix 32 (s.prm.val pST_HOME_SEARCH_MAX) < absR (k.p - fix 32 h.start) then fail 2
  else if h.searching && s.swHome.chatterCond then fail 4
  else if h.state = 1 && ahead && s.prm.nat pST_HOME_LIM_REVERSE = 1 && !h.reversed then
    ({ s with home := { h with reversed := true, dirNeg := !h.dirNeg } }.search tcyc n0 pST_HOME_VEL_FAST (!h.dirNeg), [])
  else if h.searching && ahead then fail 1
  else if h.state = 1 && s.swHome.active then ({ s with home := { h with state := 2 } }.search tcyc n0 pST_HOME_VEL_SLOW (!neg), [])
  else if h.state = 2 && !s.swHome.active then ({ s with home := { h with state := 3 } }.search tcyc n0 pST_HOME_VEL_SLOW neg, [])
  else if h.state = 3 && s.swHome.active then
    ({ s with home := { h with state := 6, capture := s.swHome.pos }, plan := some (planStop n0 k acc J) }, [])
  else if h.state = 6 && s.prm.nat pST_HOME_METHOD = 3 then
    let cap := h.capture
    let s := { s with sp := { p := cap } }.reference cap
    let back := fix 32 (s.prm.val pST_HOME_BACKOFF)
    let l : Limits := { v := fix 40 (s.prm.val pST_HOME_VEL_SLOW), a := acc, d := acc, j := J }
    ({ s with home := { h with state := 7 }, plan := some (planPos n s.sp.kin (fix 32 cap + (if neg then back else -back)) l) }, [])
  else if h.state = 6 && rest then finish (s.reference h.capture)
  else if h.state = 7 && rest then finish s
  else if h.state = 8 then ({ s with mode := 6, plan := none }, [])
  else (s, [])

/-- The limits of a stepper's profile generator. -/
def Stepper.limits (s : Stepper) (d j : Int) : Limits :=
  { v := fix 40 (s.prm.val pST_VMAX), a := fix 32 (s.prm.val pST_AMAX), d := fix 32 d, j := fix 24 j }

/-- DMAX_eff and JMAX_eff of a stepper (R114, R116). -/
def Stepper.eff (s : Stepper) : Int × Int :=
  if s.defer.deferred then (s.defer.dmaxEff, s.defer.jmaxEff) else (s.prm.val pST_DMAX, s.prm.val pST_JMAX)

/-- Where a POS plan of a stepper ends. -/
def Stepper.planEnd (s : Stepper) : Int := match s.plan with | some pl => rndHE (pl.pf * 4294967296) | none => s.sp.p

/-- A stepper's plan to `tgt` in its own position (R107, R113 to R116). -/
def Stepper.replanPos (s : Stepper) (n0 : Nat) (k : Kin) (tgt oldD oldJ : Int) (lowered held : Bool) : Stepper × Nat × List AxEvent :=
  let r := replanMove n0 k (fix 32 tgt) (fix 32 tgt - k.p) s.limits
    { d := s.prm.val pST_DMAX, j := s.prm.val pST_JMAX, oldD := oldD, oldJ := oldJ, lowered := lowered, held := held, passed := s.defer.overshoot && tgt = s.planEnd,
      keep := s.prm.nat pST_DEC_POLICY = 0 } (fun _ => false)
  ({ s with plan := some r.plan, defer := r.defer }, r.note, r.evs)

/-- A stepper's plan to velocity `v` (R107, R116), with a NOTE; `oldJ` is JMAX_eff in force before it. -/
def Stepper.replanVel (s : Stepper) (n0 : Nat) (k : Kin) (v oldJ : Int) (lowered held : Bool) : Stepper × Nat × List AxEvent :=
  let d := s.prm.val pST_DMAX
  let j := jerkVel k (fix 40 v) (s.prm.val pST_JMAX) oldJ held (s.prm.nat pST_DEC_POLICY = 0)
  let put := decide (j ≠ s.prm.val pST_JMAX)
  ({ s with velTgt := v, plan := some (planVel n0 k (fix 40 v) (s.limits d j)), defer := { dmaxEff := d, jmaxEff := j, deferred := put } }, if lowered && put then 0x0021 else 0, [])

/-- A move of a stepper whose set-point of cycle `n` is computed: at a steady point the planner looks for j* (R116), and at rest deferral and overshoot end. -/
def Stepper.settle (s : Stepper) (tcyc n : Nat) : Stepper :=
  match s.plan with
  | some pl =>
    if (s.mode ≠ 0 && s.mode ≠ 1) || s.state ≠ 1 then s
    else if pl.hold && pl.ended (pl.time tcyc n) then { s with defer := {} }
    else if s.defer.looks (s.prm.val pST_JMAX) pl (pl.time tcyc n) then
      let k := planKin s.plan 0 tcyc n s.sp
      if s.mode = 0 then (s.replanPos n k s.planEnd s.defer.dmaxEff s.defer.jmaxEff false false).1 else (s.replanVel n k s.velTgt s.defer.jmaxEff false false).1
    else s
  | none => s

/-- The set-point of an update computed in cycle `n` (R103, R183). A stalled axis keeps its set-point (Table 6.5). -/
def Stepper.setPoint (s : Stepper) (tcyc n : Nat) : SetPoint :=
  if s.state = 0 || s.state = 4 || s.state = 5 then { s.sp with v := 0, a := 0, j := 0 }
  else match s.plan with
    | some pl => pl.setPoint tcyc n
    | none => { p := s.sp.p }

/-- HOLD_DELAY in whole update periods, rounded up (R182, R184). -/
def Stepper.holdPeriods (s : Stepper) (tcyc : Nat) : Nat := cyclesOf (s.prm.nat pST_HOLD_DELAY) (s.period tcyc)

/-- The update's set-point enters: the periods at rest count on, from 0 in the first update at rest (R184). -/
def Stepper.takeSp (s : Stepper) (sp : SetPoint) (n : Nat) : Stepper :=
  let still := sp.v = 0 && sp.a = 0
  { s with sp := sp, spCycle := n, fbMissed := !s.fbFresh, holding := s.holding && still,
           restRun := if still then some (match s.restRun with | some k => k + 1 | none => 0) else none }

/-- Where the set-point is to go: the sign of what a POS plan has left at cycle `n`, or of the velocity target in VEL (R149). -/
def Stepper.aim (s : Stepper) (tcyc n : Nat) : Rat :=
  if s.mode = 0 then (match s.plan with | some pl => pl.pf - (s.kinAt tcyc n).p | none => 0) else if s.mode = 1 then (s.velTgt : Rat) else 0

/-- The conditions that an update decides (R193, R198). -/
def Stepper.updConds (s : Stepper) (homing : Bool) (tcyc n : Nat) : List (Nat × Nat) :=
  let ns := fieldLE s.fb 12 2
  let x := s.aim tcyc n
  (if s.fbFresh && (bit ns 0 || bit ns 1) then [(fSTEP_NODE_FAULT, 3)] else []) ++
  (if !homing && s.swPos.active && (0 < s.sp.v || 0 < x) then [(fLIMIT_POS, s.cls fLIMIT_POS)] else []) ++
  (if !homing && s.swNeg.active && (s.sp.v < 0 || x < 0) then [(fLIMIT_NEG, s.cls fLIMIT_NEG)] else [])

/-- One update (R185 to R190): set-point, load angle, stall run, level, angle and amplitude, and the conditions of R198. Answers the events of homing and the
conditions that hold. -/
def Stepper.update (s0 : Stepper) (tcyc n : Nat) : Stepper × List AxEvent × List (Nat × Nat) :=
  let hs := if s0.mode = 5 && s0.state = 1 then s0.homeStep tcyc n else (s0, [])
  let s := hs.1
  let sp := s.setPoint tcyc n
  let s := ((s.watch tcyc sp.v).takeSp sp n).settle tcyc n
  let th := s.thetaX sp.p
  let s := if s.state = 4 then s else
    let s1 := s.stepLevel th sp.v
    { s1 with eangle := eangleOf th s1.level, thetaPrev := th }
  let rest := match s.plan with | some p => p.ended (p.time tcyc n) | none => true
  let s := if s.state = 2 && rest then { s with state := 3 } else s
  let cs := s.updConds (s0.mode = 5) tcyc n
  let s := s.raiseAll tcyc n cs
  ({ s with amp := s.amplitude, enabled := s.state ≠ 0 && s.state ≠ 5, updated := true }, hs.2, cs)

/-- A HARD_STOP homing runs: a stall is no fault (Table 6.8). -/
def Stepper.hardStop (s : Stepper) : Bool := s.mode = 5 && s.prm.nat pST_HOME_METHOD = 3 && (s.home.state = 5 || s.home.state = 6 || s.home.state = 7)

/-- The stall declaration (R190, R191, R194): in the search of HARD_STOP homing it is the capture, in the rest of that homing it only counts, else it is the fault
STALL. The load angle of the capture is the last valid one before the estimate that declares the stall (DEDUCED, log 41). -/
def Stepper.declareStall (s : Stepper) (tcyc n : Nat) : Stepper :=
  let s := { s with stallDue := false, stallCnt := incSat 16 s.stallCnt }
  if s.hardStop then
    if s.home.state = 5 then
      let cap := s.sp.p - rndHE ((s.laBefore.getD 0 : Rat) * 4294967296 / (16384 * (s.prm.nat pST_FS_PER_AU : Rat)))
      { s with home := { s.home with state := 6, capture := cap }, plan := none, sp := { p := s.sp.p } }
    else s
  else s.raise tcyc n fSTALL (s.cls fSTALL)

/-- ST_FLAGS (Table 6.7). HOLD_CURRENT compares values: an amplitude that equals I_HOLD sets it, whichever parameter gave it (DESIGN CHOICE, log 42). -/
def Stepper.flags (s : Stepper) : Nat :=
  flag s.stale 0 + flag s.fbMissed 1 + flag s.laValid 2 + flag s.lost 3 + flag s.referenced 4 + flag (s.sp.v ≠ 0 || s.sp.a ≠ 0) 5 +
  flag (s.amp = s.prm.nat pST_I_HOLD && s.state ≠ 0 && s.state ≠ 5) 6 + flag s.pending 7 + flag s.safeOff 8 + flag s.enabled 9 +
  flag (s.mode = 5 && s.home.state ≠ 0 && s.home.state ≠ 9) 10

/-- The set-point word of a stepper's output slot (Table 6.1). -/
def Stepper.slotWord (s : Stepper) : List Byte :=
  leBytes 2 s.eangle ++ leBytes 2 s.amp ++ leBytes 1 (flag s.enabled 0 + flag s.stale 1) ++ leBytes 1 s.cmdAge ++ zeroBytes 2

end Sys2Proof.Machine
end

