-- ==== Sys2Proof/Machine/AxisOps.lean ====
section
/-! DEFINITION. What the chapters share about axes: where a result lives until the Seal, set-points of a cycle, the events of conditions and of internal
decisions (R97, R451), and the passes of the standard servo kernel as one engine makes them. -/

namespace Sys2Proof.Machine

open Sys2Proof

/-! ## The result that waits for the Seal -/

/-- The kernel state and supervision as the cycle has them now: the result that waits for the Seal, or the committed one (R230). -/
def Axis.now (ax : Axis) : Work := ax.cand.getD ax.w

/-- The kernel state and supervision as the cycle has them now, changed. -/
def Axis.onWork (ax : Axis) (f : Work → Work) : Axis :=
  match ax.cand with
  | some c => { ax with cand := some (f c) }
  | none => { ax with w := f ax.w }

/-- A step that works on the current result as if it were committed. -/
def Axis.through (ax : Axis) (f : Axis → Axis × List AxEvent) : Axis × List AxEvent :=
  match ax.cand with
  | some c => let r := f { ax with w := c }; ({ r.1 with w := ax.w, cand := some r.1.w }, r.2)
  | none => f ax

/-- AXIS_PHASE in force. -/
def Axis.phase (ax : Axis) : Nat := ax.prm.nat pAXIS_PHASE

/-- Cycle `n` is one of the axis's phase (R43). -/
def Axis.inPhase (ax : Axis) (n : Nat) : Bool := n % ax.div = ax.phase

/-- The axis period T (R68). -/
def Dev.period (d : Dev) (ax : Axis) : Rat := axisPeriod d.tcyc ax.div

/-- The axis is split in this cycle (R160). -/
def Dev.split (d : Dev) (ax : Axis) : Bool := ax.isSplit d.runAhead

/-- The set-point of cycle `n` of an axis: of the plan where one moves it, else the delivered one (R103, R104). -/
def Axis.spOf (ax : Axis) (tcyc n : Nat) : SetPoint :=
  let kept := if ax.spCycle ≤ n then ax.sp else ax.spPrev
  if ax.w.sup.state = 0 || ax.w.sup.state = 5 || ax.fol.isSome then kept
  else match ax.plan with
    | some pl => let q := pl.setPoint tcyc n; { q with p := reduceMod (ax.prm.val pMODULUS) q.p }
    | none => kept

/-- The delivered set-point that the computation of cycle `n` uses. -/
def Axis.delivered (ax : Axis) (n : Nat) : SetPoint := if ax.spCycle ≤ n then ax.sp else ax.spPrev

/-! ## Events of axes -/

/-- The event of a condition: its code is the fault's, its ARGS the class and the state (R451). -/
def condEvent (src code cls state : Nat) : Ev := evC src code [BitVec.ofNat 8 cls, BitVec.ofNat 8 state]

/-- Conditions that begin to hold among those that hold now (R95, R97: each arises once), and the list kept of those of `group` that hold. -/
def newConds (held group : List Nat) (cs : List (Nat × Nat)) : List (Nat × Nat) × List Nat :=
  (cs.filter (fun c => !held.contains c.1), held.filter (fun c => !group.contains c) ++ cs.map (fun c => c.1))

/-- An event of the planner or of the homing sequencer; HOME_DONE and HOME_FAILED carry HOME_STATE and REFERENCED ("Homing" of chapter 4). -/
def axEvent (src failCode cls state : Nat) (h : Homing) (e : AxEvent) : Ev :=
  let hs := [BitVec.ofNat 8 h.state, if h.referenced then 1 else 0]
  if e.code = 1 then evC src eLIMIT_DEFERRED (leBytes 8 (lowBits 64 e.a))
  else if e.code = 2 then evC src eOVERSHOOT_PLANNED (leBytes 8 (lowBits 64 e.a))
  else if e.code = 3 then evC src eOVERSHOOT_BLOCKED
  else if e.code = 10 then evC src eHOME_DONE hs
  else if e.code = 11 then evC src failCode ([BitVec.ofNat 8 cls, BitVec.ofNat 8 state] ++ hs)
  else evC src eENGAGED

/-- The events of a servo axis. -/
def Axis.events (ax : Axis) (a : Nat) (es : List AxEvent) : List Ev :=
  es.map (axEvent (srcAxis a) fHOME_FAILED (classOf ax.prm pREACT_code fHOME_FAILED) ax.now.sup.state ax.home)

/-- The events of a stepper axis. -/
def Stepper.events (s : Stepper) (a : Nat) (es : List AxEvent) : List Ev :=
  es.map (axEvent (srcStepper a) fSTEP_HOME_FAILED (s.cls fSTEP_HOME_FAILED) s.state { s.home with referenced := s.referenced })

/-- A condition of a servo axis that a row of its own reports: the event, and the reaction of its class (R95, R97). In OFF it latches nothing (R98). -/
def Dev.axisCond (d : Dev) (a code : Nat) : Dev :=
  match d.axis? a with
  | none => d
  | some ax =>
    let cls := classOf ax.prm pREACT_code code
    let late := ax.cand.isSome || d.ctl.sealed
    (d.onAxis a (fun ax => ax.onWork (fun w => let w := w.raise code cls; if late then w.timed else w))).emit (condEvent (srcAxis a) code cls ((ax.now.raise code cls).sup.state))

/-- A condition of a stepper axis (R198). -/
def Dev.stepperCond (d : Dev) (a code : Nat) : Dev :=
  match d.stepper? a with
  | none => d
  | some s =>
    let cls := s.cls code
    (d.onStepper a (fun s => s.raise d.tcyc d.ctl.cycle code cls)).emit (condEvent (srcStepper a) code cls ((s.raise d.tcyc d.ctl.cycle code cls).state))

/-! ## The passes of kernel 0 -/

/-- The conditions that steps 4 to 9 of R68 decide from the sample in `w0`: those of step 4, ARITH of R232 (`aov`), SAFE_TORQUE_OFF. -/
def Axis.passConds (ax : Axis) (w0 : Work) (sp : SetPoint) (aov : Bool) : List (Nat × Nat) :=
  let w := ax.quickStopCounts w0
  ax.conds w (ax.followErr w sp) ++ (if aov then [(fARITH, classOf ax.prm pREACT_code fARITH)] else []) ++
    (if ax.safeOff then [(fSAFE_TORQUE_OFF, 3)] else [])

/-- The codes whose conditions a pass of the kernel decides. -/
abbrev kernelConds : List Nat := [fFOLLOWING_HARD, fARITH, fNODE_FAULT, fSAFE_TORQUE_OFF]

/-- The conditions held before a pass: in QUICKSTOP and HALTED, |e_p| > FE_HARD is an event of its own row of Table 3.5. -/
def Axis.heldFor (ax : Axis) : List Nat :=
  if ax.w.sup.state = 3 || ax.w.sup.state = 4 then ax.held.filter (· ≠ fFOLLOWING_HARD) else ax.held

/-- A sample is rejected for its FB_OFFSET (R71). -/
def Axis.boundMissed (ax : Axis) : Bool := ax.fb.fresh && !ax.fb.held && !ax.fb.missed && ax.prm.nat pFB_OFFSET_MAX < ax.fb.offset.natAbs

/-- The events of the sample and of the conditions of a pass. -/
def Axis.passEvents (ax : Axis) (a : Nat) (after : Work) (cs : List (Nat × Nat)) : List Ev :=
  (if ax.boundMissed then [evC (srcAxis a) eFB_TIME_BOUND (leBytes 2 a ++ leBytes 4 (lowBits 32 ax.fb.offset))] else []) ++
  (newConds ax.heldFor kernelConds cs).1.map (fun c => condEvent (srcAxis a) c.1 c.2 after.sup.state)

/-- The event of a hand-over whose residual lies above the band (R167). -/
def Axis.handEvents (ax : Axis) (a : Nat) (k : Kern) (st : Nat) : List Ev :=
  match ax.hand with
  | none => []
  | some h =>
    let d0 := h.tauOld - k.tauNew
    if st = 0 || st = 5 || !h.armed || (d0.natAbs : Int) ≤ ax.prm.val pHANDOVER_BAND then []
    else [evC (srcAxis a) (if ax.prm.nat pHANDOVER_TIME = 0 then eHANDOVER_STEP else eHANDOVER_BLEND) (leBytes 4 (lowBits 32 d0))]

/-- The output block's words 0 to 17 (Table 7.15). -/
def outBlock (trq corr octrl fault warn : Nat) (r : AxRec) (st : Nat) : List Nat :=
  let two (x : Int) : List Nat := let v := lowBits 64 x; [v % 2 ^ 32, v / 2 ^ 32]
  [trq, corr, octrl, fault + 65536 * warn] ++ two r.posAct ++ two r.velAct ++ two r.followErr ++ [st] ++ r.kout

/-- What a pass of an axis leaves: the axis, the output block, COMMIT and the events. -/
structure PassRes where
  ax : Axis
  words : List Nat
  commit : Bool
  evs : List Ev

/-- OCTRL of kernel 0 (Table 7.15). -/
def octrlOf (w : Work) (drive retract commit : Bool) : Nat :=
  flag drive 0 + flag retract 1 + flag (w.sup.fault ≠ 0) 2 + flag (w.sup.warn ≠ 0) 3 + flag commit 4

/-- A FULL pass (R68, R229). -/
def Axis.doFull (ax : Axis) (a : Nat) (T : Rat) (n : Nat) : PassRes :=
  let axn := { ax with sp := ax.delivered n }
  let wf := axn.feedback T axn.w
  let c := axn.compute T wf axn.sp
  let w := c.1
  let cs := axn.passConds wf axn.sp c.2.aov
  { ax := { ax with cand := some w, held := (newConds ax.heldFor kernelConds cs).2 }
    words := outBlock (lowBits 32 w.r.trq) 0 (octrlOf w w.r.drive false true) w.sup.fault w.sup.warn w.r w.sup.state
    commit := true
    evs := axn.passEvents a w cs ++ axn.handEvents a w.k w.sup.state }

/-- A CORR pass (R89 to R92, R229): Δ or the retract for the correction frame, unless it has been packed (R52). -/
def Axis.doCorr (ax : Axis) (a : Nat) (T : Rat) (n : Nat) (packed : Bool) : PassRes :=
  let axn := { ax with sp := ax.delivered n }
  let c := axn.corrPass T
  let w := c.1
  let cs := axn.passConds (axn.feedback T axn.w) axn.sp (w.sup.fault = fARITH && w.sup.newFault)
  let ax1 := if packed then ax else { ax with out := { ax.out with corr := c.2.1, retract := !c.2.2.isEmpty }, spec := { ax.spec with retract := c.2.2 } }
  { ax := { ax1 with cand := some w, held := (newConds ax.heldFor kernelConds cs).2 }
    words := outBlock (lowBits 32 w.r.trq) (lowBits 32 c.2.1) (octrlOf w w.r.drive (!c.2.2.isEmpty) true) w.sup.fault w.sup.warn w.r w.sup.state
    commit := true
    evs := axn.passEvents a w cs }

/-- The torque that the node of a split axis holds after this cycle's correction (R166, R168); `t` is what it held before. -/
def Axis.heldTorque (ax : Axis) (t : Int) : Int := if ax.out.spec && !ax.out.retract then satS 32 (ax.spec.tau + ax.out.corr) else t

/-- A SPEC pass for the axis's next cycle (R87, R88, R229). A hand-over that the correction pass has used is over; one that waited starts here (R168). -/
def Axis.doSpec (ax : Axis) (a : Nat) (T : Rat) (n : Nat) : PassRes :=
  let hand : Option Hand := match ax.hand with
    | some h => if h.armed then none else some { h with armed := true, tauOld := if h.kind = 3 then 0 else ax.heldTorque h.tauOld }
    | none => none
  let axs := { ax with w := ax.now, hand := hand, spPrev := ax.delivered n }
  let r := axs.specPass T axs.sp
  let c := axs.specRun T axs.sp
  let w := r.2
  let nc := if c.2.aov && !ax.held.contains fARITH then [(fARITH, classOf ax.prm pREACT_code fARITH)] else []
  { ax := { ax with cand := some w, specNext := some r.1, held := nc.map (fun x => x.1) ++ ax.held }
    words := outBlock (lowBits 32 r.1.tau) 0 (octrlOf w w.r.drive false false) w.sup.fault w.sup.warn w.r w.sup.state
    commit := false
    evs := axs.handEvents a c.1.k w.sup.state ++ nc.map (fun x => condEvent (srcAxis a) x.1 x.2 w.sup.state) }

/-- The codes whose conditions have rows of their own or come with a delivery: what a kernel's words ask for is none of them. -/
abbrev rowConds : List Nat := [fOVERRUN, fFOLLOWING, fFEEDBACK_LOST, fSPLIT_LOST, fTORQUE_SAT, fREG_LOST, fSWITCH_CHATTER, fSW_LIMIT, fFOLLOW_OVERSPEED, fPOS_RANGE, fLIMIT_POS, fLIMIT_NEG]

/-- A pass of another kernel: the sequencer takes the words of its output block, and latches the fault and the warning that they ask for (R229). -/
def Axis.doWords (ax : Axis) (a pass : Nat) (ws : List Nat) (packed : Bool) : PassRes :=
  let g (i : Nat) : Nat := ws.getD i 0
  let g64 (i : Nat) : Int := wrapS 64 (g i + 2 ^ 32 * g (i + 1))
  let oc := g 2
  let w := ax.now
  let r : AxRec := { w.r with trq := if pass = 2 then w.r.trq else wrapS 32 (g 0), drive := if pass = 2 then w.r.drive else bit oc 0, posAct := g64 4, velAct := g64 6,
                              followErr := g64 8, kout := (List.range 7).map (fun i => g (11 + i)) }
  let fc := g 3 % 65536
  let wc := g 3 / 65536
  let cls := classOf ax.prm pREACT_code fc
  let wr := if bit oc 2 then { w with r := r }.raise fc cls else { w with r := r }
  let st := if wr.sup.state ≠ w.sup.state || 5 < g 10 % 256 then wr.sup.state else g 10 % 256
  let w := { wr with sup := { wr.sup with state := st } }
  let w := if bit oc 3 then { w with sup := w.sup.addWarn wc } else w
  let cs := (if bit oc 2 then [(fc, cls)] else []) ++ (if bit oc 3 then [(wc, 1)] else [])
  let nc := newConds ax.held (ax.held.filter (fun c => !rowConds.contains c)) cs
  let ret := bit oc 1 || !ax.spec.retract.isEmpty
  let ax := if pass = 2 && !packed then
      { ax with out := { ax.out with corr := if ret then 0 else wrapS 32 (g 1), retract := ret }, spec := { ax.spec with retract := if ret then 3 :: ax.spec.retract else [] } }
    else if pass = 1 then { ax with specNext := some { tau := wrapS 32 (g 0), ready := true } } else ax
  { ax := { ax with cand := some w, held := nc.2 }, words := ws, commit := bit oc 4, evs := nc.1.map (fun c => condEvent (srcAxis a) c.1 c.2 w.sup.state) }

end Sys2Proof.Machine
end

