-- ==== Sys2Proof/Machine/CycleOps.lean ====
section
/-! DEFINITION. The instants of a base cycle (R45, R46, R49) and the placement of axes on engines that they rest on. -/

namespace Sys2Proof.Machine

open Sys2Proof

/-! Table 2.2, in ns. -/
abbrev gateLead : Nat := 2000
abbrev gatherNs : Nat := 1000
abbrev sealReserve : Nat := 2500
abbrev quietGuard : Nat := 1000
abbrev corrPackNs : Nat := 250

/-- S_EFF of engine `e` (R241). -/
def Dev.seff (d : Dev) (e : Nat) : Nat := sEff d.pace.marginLow (d.engine e)

/-- The axes placed by the plan in force, with their predicted costs (R240). -/
def Dev.placed (d : Dev) : List Placed :=
  d.pace.plan.place.filterMap (fun p => (d.axis? p.1).map (fun ax =>
    { axis := p.1, engine := p.2.1, slot := p.2.2, div := ax.div, phase := ax.phase, cost := fun s => ax.cost d.runAhead (d.engine p.2.1).version s }))

/-- The cost of the correction pass alone (R46). -/
def Axis.corrCost (ax : Axis) (ver s : Nat) : Rat :=
  if ax.prm.nat pSPLIT_EN = 1 then tPass (declOf ver (ax.prm.nat pKERNEL_SEL) 2) s else 0

/-- The worst predicted correction pass of any engine (R46). -/
def Dev.worstCorr (d : Dev) : Rat :=
  let ps := d.pace.plan.place.filterMap (fun p => (d.axis? p.1).map (fun ax =>
    ({ axis := p.1, engine := p.2.1, slot := p.2.2, div := ax.div, phase := ax.phase, cost := fun s => ax.corrCost (d.engine p.2.1).version s } : Placed)))
  (List.range 18).foldl (fun m e => max m (loadOf ps d.seff (fun _ => 0) e)) 0

/-- CORR_TURN in ns, rounded up (R46). -/
def Dev.corrTurn (d : Dev) : Nat := max 500 (ceilNat (d.worstCorr + (corrPackNs : Rat)))

/-- T_CL (R46). -/
def Dev.tcl (d : Dev) : Nat := d.tringMax + gatherNs + d.corrTurn

/-- T_APPLY for the style in force (R46). -/
def Dev.tApplyOf (d : Dev) (runAhead : Bool) : Nat :=
  if runAhead then d.tcl + d.tcringMax + d.prm pAPPLY_GUARD else d.tringMax + d.prm pAPPLY_GUARD

/-- T_APPLY in force: that of the ring start, or of the last change of EXEC_STYLE. -/
def Dev.tApply (d : Dev) : Nat := d.ctl.tapply

/-- The Reduce window W (R51). -/
def Dev.windowW (d : Dev) : Int := (d.tcyc : Int) - sealReserve - d.tringMax - gatherNs

/-- Opening of the quiet window of a segment, as an offset from the Meridian (R49). -/
def Dev.quietOpen (d : Dev) (seg : Nat) : Nat :=
  if d.runAhead then d.tcl + (d.ring.seg seg).tCring else (d.ring.seg seg).tRing

/-- Close of the quiet window (R49). -/
def Dev.quietClose (d : Dev) : Nat := d.tcyc - quietGuard

/-- The instant D_N in ns of the ring count (R46). -/
def Dev.dn (d : Dev) : Nat := d.mer d.ctl.cycle + d.tcyc - sealReserve

/-- A cycle configuration is accepted (R48). -/
def cycleOk (tcyc lead tapply tringMax : Nat) (opens : List Nat) : Bool :=
  tapply + lead ≤ tcyc && sealReserve + tringMax + gatherNs < tcyc && opens.all (fun o => o + 2000 + quietGuard ≤ tcyc)

/-- The device with DEVICE parameters `p` in force accepts its cycle configuration (R48). -/
def Dev.cycleFits (d : Dev) (p : Params) : Bool :=
  let d := { d with ctl := { d.ctl with prm := p } }
  cycleOk d.tcyc (d.prm pSAMPLE_LEAD) (d.tApplyOf d.runAhead) d.tringMax (d.segNos.map d.quietOpen)

/-! ## Parameters that wait for a ring start -/

/-- The stored values come into force. -/
def mergeParams (inForce stored : Params) : Params := stored.foldl (fun p e => Tab.set p e.1 e.2) inForce

/-- The shorter of T_CYC in force and T_CYC stored for the next ring start: what an update period must suit (R177). -/
def Dev.tcycLeast (d : Dev) : Nat := min d.tcyc ((mergeParams d.ctl.prm d.ctl.stored).nat pT_CYC)

/-- The longer of the two: what a watchdog of a safety connection must suit (R488). -/
def Dev.tcycMost (d : Dev) : Nat := max d.tcyc ((mergeParams d.ctl.prm d.ctl.stored).nat pT_CYC)

/-- The key of a segment's parameter. -/
def segKey (id seg : Nat) : Nat := 65536 * seg + id

/-- A parameter of a segment in force. -/
def Dev.segPrm (d : Dev) (id seg : Nat) : Nat := ((Tab.find d.ctl.prm (segKey id seg)).getD (paramDefault id)).toNat

end Sys2Proof.Machine
end

