-- ==== Sys2Proof/Machine/MotionOps.lean ====
section
/-! DEFINITION. Motion of the whole device in one cycle: Orreries advance (R121, R122, R124), cam versions switch (R138, R139), register channels correct
phases (R140, R141, R174), engages are replanned (R134), and set-points are delivered (R103 to R105, R118 to R120). -/

namespace Sys2Proof.Machine

open Sys2Proof

/-! ## Followers -/

/-- The cam version that a follower uses. -/
def Dev.camOf (d : Dev) (f : Follower) : Option Cam := if f.cam then (Tab.find d.motion.cams f.camId).map (fun c => c.cur) else none

/-- The axis is coupled to Orrery `i` (FOLLOWERS of Table 4.4). -/
def Axis.follows (ax : Axis) (i : Nat) : Bool := match ax.fol with | some f => f.orr = i | none => false

/-- The axes coupled to Orrery `i`. -/
def Dev.followers (d : Dev) (i : Nat) : List (Nat × Axis) := d.motion.axes.filter (fun e => e.2.follows i)

/-- The axes that use cam table `c` (R137). -/
def Dev.camUsers (d : Dev) (c : Nat) : List (Nat × Axis) :=
  d.motion.axes.filter (fun e => match e.2.fol with | some f => f.cam && f.camId = c | none => false)

/-- A split axis's correction entry is to carry a retract for `cause` (R106, Table 3.2), unless the frame has been packed. -/
def Dev.retract (d : Dev) (a cause : Nat) : Dev :=
  match d.axis? a with
  | some ax => if d.split ax && !d.ctl.corrPacked then
      d.onAxis a (fun ax => { ax with spec := { ax.spec with retract := if ax.spec.retract.contains cause then ax.spec.retract else cause :: ax.spec.retract } })
    else d
  | none => d

/-! ## The cycle that a change starts from -/

/-- The cycle whose set-points a change starts from: M − 1 (R103, R163). Once the Orreries have advanced into the cycle in progress it is that cycle. -/
def Dev.origin (d : Dev) : Nat := if d.ctl.spCycle < d.ctl.cycle then d.ctl.cycle - 1 else d.ctl.cycle

/-- A plan that is not over at cycle `n`. -/
def planRuns (p : Option Plan) (tcyc n : Nat) : Bool := match p with | some pl => !pl.ended (pl.time tcyc n) | none => false

/-! ## Orreries in a cycle -/

/-- An Orrery advances into cycle `n` (R121, R122). -/
def Dev.orrInto (d : Dev) (n : Nat) (o : Orrery) : Orrery :=
  if o.state = 0 then o else if o.axisSrc then
    let src := d.axis o.srcAxis
    o.follow d.tcyc n (src.prm.val pMODULUS) src.w.k.pAct src.pActPrev src.w.k.vAct
  else o.advance d.tcyc n

/-- The axis is not computed in the cycle in progress, so that its p_act of this cycle is known: it stays (R43). -/
def Dev.idleNow (d : Dev) (a : Nat) (ax : Axis) : Bool := !ax.inPhase d.ctl.cycle || ax.shed || !Tab.has d.pace.plan.place a

/-- The travel that an AXIS_ACT Orrery takes up for the cycle after the one in progress is known (R120, R122). -/
def Dev.sourceKnown (d : Dev) (o : Orrery) : Bool :=
  let src := d.axis o.srcAxis
  d.ctl.sealed || src.cand.isSome || d.idleNow o.srcAxis src

/-- The Orrery's state of cycle `n` from that of the cycle before: final for VIRTUAL; for AXIS_ACT from what its source has computed, and an extrapolation with ω where
it has not (R120). -/
def Dev.orrNext (d : Dev) (n : Nat) (o : Orrery) : Orrery :=
  if !o.axisSrc then o.advance d.tcyc n
  else
    let src := d.axis o.srcAxis
    let m := src.prm.val pMODULUS
    let k := src.w.k
    if n ≤ d.ctl.cycle || (n = d.ctl.cycle + 1 && d.ctl.sealed) then o.follow d.tcyc n m k.pAct src.pActPrev k.vAct
    else if n = d.ctl.cycle + 1 && d.sourceKnown o then
      match src.cand with
      | some c => o.follow d.tcyc n m c.k.pAct k.pAct c.k.vAct
      | none => o.follow d.tcyc n m k.pAct k.pAct k.vAct
    else { o with thetaPrev := o.theta, theta := o.theta + rndHE (fix 40 o.omega * secOf d.tcyc * (2 : Rat) ^ 64), alpha := 0, jerk := 0, cycle := n }

/-- An Orrery as of cycle `m`, `m` not before the cycle that it has advanced into. -/
def Dev.orrRun (d : Dev) (o : Orrery) (m : Nat) : Orrery := (List.range (m - d.ctl.spCycle)).foldl (fun o k => d.orrNext (d.ctl.spCycle + 1 + k) o) o

/-- Orrery `i` as of cycle `m`. -/
def Dev.orrAt (d : Dev) (i m : Nat) : Option Orrery := (d.orr? i).map (fun o => d.orrRun o m)

/-- The state of Orrery `i` for cycle `m` is final, not a provisional extrapolation (R120). -/
def Dev.orrFinal (d : Dev) (i m : Nat) : Bool :=
  match d.orr? i with
  | some o => !o.axisSrc || decide (m ≤ d.ctl.cycle) || (decide (m = d.ctl.cycle + 1) && d.sourceKnown o)
  | none => true

/-! ## The Ephemeris (R118 to R120) -/

/-- The key of an Orrery's Ephemeris entries; an axis's are under its number. -/
abbrev ephOrr (i : Nat) : Nat := 512 + i

/-- `k` entries of an axis from cycle `m` on, one for each of its axis cycles, from the plans in force. -/
def Dev.ephRun (d : Dev) (ax : Axis) (m : Nat) : Nat → List (Nat × SetPoint)
  | 0 => []
  | k + 1 =>
    let o := match ax.fol with | some f => d.orrAt f.orr m | none => none
    let cam := match ax.fol with | some f => d.camOf f | none => none
    let s := (ax.judge (ax.sourceSp d.tcyc m o cam) false).1
    (m, s) :: d.ephRun { ax with sp := s } (m + ax.div) k

/-- The entries of a split axis: the set-point delivered for its next axis cycle, and those after it. -/
def Dev.ephAxis (d : Dev) (ax : Axis) : List (Nat × SetPoint) :=
  let axn := { ax with w := ax.now }
  if d.ctl.cycle < ax.spCycle then (ax.spCycle, ax.sp) :: d.ephRun axn (ax.spCycle + ax.div) (d.prm pEPH_DEPTH - 1)
  else d.ephRun axn (ax.spCycle + ax.div) (d.prm pEPH_DEPTH)

/-- The entries of an Orrery. -/
def Dev.ephOf (d : Dev) (o : Orrery) : List (Nat × SetPoint) :=
  (List.range (d.prm pEPH_DEPTH)).map (fun k =>
    let n := d.ctl.cycle + 1 + k
    let r := d.orrRun o n
    (n, ({ p := wrapS 64 (r.theta / 2 ^ 32), v := r.omega, a := r.alpha, j := toFix 64 24 r.jerk } : SetPoint)))

/-- The Ephemeris holds up to EPH_DEPTH entries ahead of the cycle in progress for every split axis and every Orrery, made from the plans in force: entries that a change
invalidates are replaced, and provisional ones refreshed (R118 to R120). In ISOLATED style it is empty. -/
def Dev.ephemeris (d : Dev) : Dev :=
  let es : Tab (List (Nat × SetPoint)) :=
    if d.runAhead then
      (d.motion.axes.filter (fun e => d.split e.2)).map (fun e => (e.1, d.ephAxis e.2)) ++ (d.motion.orrs.filter (fun e => e.2.state ≠ 0)).map (fun e => (ephOrr e.1, d.ephOf e.2))
    else []
  { d with motion := { d.motion with eph := es } }

/-! ## Set-points already delivered ahead -/

/-- The codes whose conditions a delivery decides. -/
abbrev deliverConds : List Nat := [fSW_LIMIT, fFOLLOW_OVERSPEED, fPOS_RANGE, fLIMIT_POS, fLIMIT_NEG]

/-- The set-point that an axis has for `ax.spCycle`, made anew from its plans: the axis and the conditions. -/
def Axis.remake (ax : Axis) (tcyc : Nat) (o : Option Orrery) (cam : Option Cam) : Axis × List (Nat × Nat) :=
  let axn := { ax with sp := ax.spPrev, w := ax.now }
  let j := axn.judge (axn.sourceSp tcyc ax.spCycle o cam) (match o with | some o => o.axisSrc | none => false)
  let up := ({ ax with w := ax.now } : Axis).spRaise j.2
  ({ ax.onWork (fun _ => up.w) with sp := j.1 }, j.2)

/-- The set-point that an axis holds for the cycle in progress or a later one is that of its new plan, with what it meets (R106, R119, R138). -/
def Dev.respoint (d : Dev) (a : Nat) : Dev :=
  match d.axis? a with
  | none => d
  | some ax =>
    if ax.spCycle < d.ctl.cycle then d
    else
      let o := match ax.fol with | some f => d.orrAt f.orr ax.spCycle | none => none
      let cam := match ax.fol with | some f => d.camOf f | none => none
      let r := ax.remake d.tcyc o cam
      let nc := newConds ax.held deliverConds r.2
      let ax1 := { r.1 with held := nc.2 }
      ((d.onAxis a (fun _ => ax1)).emits (nc.1.map (fun c => condEvent (srcAxis a) c.1 c.2 ax1.now.sup.state))).ephemeris

/-- The set-points that a split axis was already given for a cycle after the one that a change starts from are those of its new plan (R106, R119). -/
def Dev.refresh (d : Dev) (a : Nat) : Dev :=
  match d.axis? a with
  | some ax => if ax.spCycle ≤ d.origin then d.ephemeris else d.respoint a
  | none => d

/-- A change of a split axis at this Meridian: its correction entry carries a retract for `cause` (Table 3.2), and set-points delivered ahead follow. -/
def Dev.changed (d : Dev) (a cause : Nat) : Dev := (d.retract a cause).refresh a

/-- A step that may change the set-point already delivered to axis `a`: a split axis then retracts (R106). -/
def Dev.retractIf (d : Dev) (a : Nat) (f : Dev → Dev) : Dev :=
  let e := f d
  if (e.axis? a).map (·.sp) = (d.axis? a).map (·.sp) then e else e.retract a 2

/-- A limit or coupling change: it retracts a split axis only where the set-points already delivered to it change (R106). -/
def Dev.reshaped (d : Dev) (a : Nat) : Dev := d.retractIf a (fun d => d.refresh a)

/-! ## Changes of an Orrery's plan -/

/-- An Orrery's plan changes with origin `n0`: engages in progress are replanned (R134), and followers whose delivered set-points change retract (R106). -/
def Dev.replanOrr (d : Dev) (i n0 : Nat) (f : Orrery → Orrery) : Dev :=
  let d := d.onOrr i f
  let fs := d.followers i
  let d := fs.foldl (fun (d : Dev) e => d.onAxis e.1 (fun ax => match ax.fol with | some g => ax.reEngage g (d.orr i) d.tcyc n0 | none => ax)) d
  fs.foldl (fun (d : Dev) e => d.reshaped e.1) d

/-- The bound of an Orrery that its followers under LIMIT impose (R172). -/
def Dev.orrBound (d : Dev) (i : Nat) : Option Int :=
  let o := d.orr i
  (d.followers i).foldl (fun m e =>
    match e.2.fol, e.2.slsLim with
    | some f, some l =>
      let F := e.2.ladderF o
      let k : Rat := if f.cam then (match d.camOf f with | some c => c.slopeMax * (f.num.natAbs : Rat) / (f.den : Rat) * F | none => 0)
        else (f.num.natAbs : Rat) / (f.den : Rat) * F
      if k = 0 then m else
        let b : Int := (fix 40 l / absR k * (2 : Rat) ^ 40).floor
        some (match m with | some x => min x b | none => b)
    | _, _ => m) none

/-- The bound of a VIRTUAL Orrery is taken afresh; a change replans it with origin `n0` and emits ORRERY_LIMITED (R172, R173, R573). The lifting of the bound, when its last
follower's limit goes, emits nothing (DESIGN CHOICE, log 49). -/
def Dev.limitOrr (d : Dev) (i n0 : Nat) : Dev :=
  match d.orr? i with
  | none => d
  | some o =>
    let b := if o.axisSrc then none else d.orrBound i
    if b = o.bound then d
    else
      let o1 := { o with bound := b }
      let t := max (-o1.vmax) (min o1.vmax o.tgt)
      let f (o : Orrery) : Orrery :=
        let o := { o with bound := b }
        if o.state = 2 && (t ≠ o.tgt || planRuns o.plan d.tcyc n0) then { (o.planTo n0 t (o.prm.val pORR_DMAX)) with tgt := t } else o
      let d := d.replanOrr i n0 f
      match b with
      | some x => d.emit (evC (srcOrr i) eORRERY_LIMITED (leBytes 8 (lowBits 64 x)))
      | none => d

/-- A follower takes a reaction: ORR_FAULT_ACTION stops its Orrery with origin `n0` (R124); `quick` is the emergency stop. -/
def Dev.orrFault (d : Dev) (i n0 : Nat) (quick : Bool) : Dev :=
  let o := d.orr i
  let act := if quick then 2 else o.prm.nat pORR_FAULT_ACTION
  if act = 0 || o.axisSrc || o.state = 0 || o.state = 1 || (o.state = 3 && (act = 1 || o.faultStop)) then d
  else d.replanOrr i n0 (fun o => o.stop n0 (act = 2))

/-- The Orrery that a reaction of the last cycle concerns and that has not taken it up: the one that the axis left, or the one it is still coupled to. -/
def Axis.orrToTell (ax : Axis) : Option Nat :=
  match ax.leftOrr with
  | some i => some i
  | none => if (ax.now.sup.qsNew || ax.now.sup.offNew) && !ax.orrTold then ax.fol.map (fun f => f.orr) else none

/-- Reactions of followers that the last cycle decided stop their Orreries (R104, R124). -/
def Dev.orrFaults (d : Dev) (n : Nat) : Dev :=
  d.motion.axes.foldl (fun d e => match e.2.orrToTell with
    | some i => (d.onAxis e.1 (fun ax => { ax with leftOrr := none, orrTold := ax.leftOrr.isNone })).orrFault i (n - 1) false
    | none => d) d

/-! ## Cam switches (R138, R139) -/

/-- kspan of a follower (R135). -/
def Dev.kspanOf (d : Dev) (ax : Axis) (f : Follower) (c : Cam) : Int := (c.place (ax.camAngle f d.tcyc d.ctl.cycle (d.orr f.orr).theta)).1

/-- |P_new − P_old| of a follower at its phi, in Q32.32 (R139). -/
def Dev.camJump (d : Dev) (ax : Axis) (f : Follower) (old new : Cam) : Int :=
  let phi := (old.place (ax.camAngle f d.tcyc d.ctl.cycle (d.orr f.orr).theta)).2
  (rndHE ((new.eval phi).1 * 4294967296) - rndHE ((old.eval phi).1 * 4294967296)).natAbs

/-- The kspan of the followers of a table when they were first seen after the load took effect. -/
def Dev.camMarks (d : Dev) (c : Nat) (s : CamSlot) : Tab Int :=
  (d.camUsers c).foldl (fun m e => match e.2.fol with | some f => if Tab.has m e.1 then m else Tab.set m e.1 (d.kspanOf e.2 f s.cur) | none => m) s.marks

/-- The waiting version of a table in cycle `n`: it switches, is refused, or waits on (R138, R139). In the switch cycle every follower's set-point is that of
the new version. The old version's pages are free again in the cycle after a switch. -/
def Dev.camSwitch (d : Dev) (n c : Nat) : Dev :=
  match Tab.find d.motion.cams c with
  | none => d
  | some s0 =>
    let s := { s0 with freeing := 0, marks := d.camMarks c s0 }
    let put (s : CamSlot) (d : Dev) : Dev := { d with motion := { d.motion with cams := Tab.set d.motion.cams c s } }
    match s.next with
    | none => put s d
    | some nw =>
      let us := d.camUsers c
      let turned := us.all (fun e => match e.2.fol with | some f => d.kspanOf e.2 f s.cur ≠ Tab.getD s.marks e.1 0 | none => true)
      if n < s.since || (s.atSpan && !turned) then put s d
      else
        let jump := us.any (fun e => match e.2.fol with | some f => (s.band : Int) < d.camJump e.2 f s.cur nw | none => false)
        let this (q : HostReq) : Bool := q.op = 0x3020 && q.h.index = c && q.h.tag = s.tag
        if s.band ≠ 0 && jump then (put { s with next := none, marks := [] } d).opsEnd this { status := 0x0208 } n
        else (us.foldl (fun (d : Dev) e => d.retractIf e.1 (fun d => d.respoint e.1)) (put { s with cur := nw, next := none, marks := [], freeing := s.cur.pages } d)).opsEnd this { status := 0 } n

/-! ## Register correction -/

/-- A_n in quarter ns of the ring count. -/
def Dev.applyInst (d : Dev) (n : Nat) : Int := ((4 * (d.mer n + d.tApply) : Nat) : Int)

/-- A register channel works with its axis (R174): in GEAR or CAM; one that was suspended waits for the end of the engage. -/
def Axis.regOn (ax : Axis) (off : Bool) : Bool :=
  (ax.now.sup.mode = 3 || ax.now.sup.mode = 4) && ax.now.sup.state ≠ 0 && ax.now.sup.state ≠ 5 &&
    (match ax.fol with | some f => !off || f.engage.isNone | none => false)

/-- A register channel takes the marks that cycle `n` gathered; the correction is a phase move with origin `n` (R104, R141). A suspended channel drops them; where it resumes it
lets the period in progress pass (R174). -/
def Dev.regChannel (d : Dev) (n c : Nat) : Dev :=
  match Tab.find d.motion.regs c with
  | none => d
  | some ch =>
    let a := ch.prm.nat pREG_AXIS
    let put (ch : RegCh) (d : Dev) : Dev := { d with motion := { d.motion with regs := Tab.set d.motion.regs c ch } }
    let off := put { ch with off := true, stamps := [] } d
    match d.axis? a with
    | none => off
    | some ax =>
      match ax.fol with
      | some f =>
        if !ax.regOn ch.off then off
        else if ch.off then put { ch with off := false, hold := some (ch.periodOf (fix 64 (d.orr f.orr).theta)), missRun := 0, stamps := [] } d
        else
          let r := RegCh.takeMarks { ch with stamps := [] } (d.orr f.orr) d.applyInst f.num f.den ch.stamps
          let d := put r.1 d
          let d := if ch.lost && !r.1.lost then d.onAxis a (fun ax => { ax.onWork (fun w => { w with sup := w.sup.dropWarn fREG_LOST }) with held := ax.held.filter (· ≠ fREG_LOST) }) else d
          if r.2 = 0 then d else (d.onAxis a (fun ax => ax.phaseMove d.tcyc n (f.phaseTgt + r.2))).refresh a
      | none => off

/-- Every register channel takes the marks of the cycle in progress. -/
def Dev.regChannels (d : Dev) : Dev := (d.motion.regs.map (fun e => e.1)).foldl (fun (d : Dev) c => d.regChannel d.ctl.cycle c) d

/-! ## The set-points of a cycle -/

/-- Gather, the first delivery of a cycle, or the Seal: reactions of the last cycle act, then every Orrery and every cam table advances, and every bound of an Orrery is taken
afresh (R104, R121 to R124, R138, R172). -/
def Dev.advance (d : Dev) : Dev :=
  let n := d.ctl.cycle
  if d.ctl.spCycle < n then
    let d := d.orrFaults n
    let d := { d with motion := { d.motion with orrs := Tab.mapAll d.motion.orrs (fun _ o => d.orrInto n o) }, ctl := { d.ctl with spCycle := n } }
    let d := (d.motion.cams.map (fun e => e.1)).foldl (fun d c => d.camSwitch n c) d
    ((d.motion.orrs.map (fun e => e.1)).foldl (fun (d : Dev) i => d.limitOrr i n) d).ephemeris
  else d

/-- The delivery works on the result that waits for the Seal, where there is one. -/
def Axis.deliverNow (ax : Axis) (tcyc n : Nat) (ahead : Bool) (o : Option Orrery) (cam : Option Cam) : Delivery :=
  match ax.cand with
  | some c => let r := { ax with w := c }.deliver tcyc n ahead o cam; { r with ax := { r.ax with w := ax.w, cand := some r.ax.w } }
  | none => ax.deliver tcyc n ahead o cam

/-- The set-points of cycle `m` go to axis `a`, with the events of what they decide. Those of a follower wait until its Orrery's state is final (R120; DEDUCED, log 54). -/
def Dev.deliverAt (d : Dev) (a m : Nat) (ax : Axis) : Dev :=
  let o := match ax.fol with | some f => d.orrAt f.orr m | none => none
  let cam := match ax.fol with | some f => d.camOf f | none => none
  let final := match ax.fol with | some f => d.orrFinal f.orr m | none => true
  if !final then d
  else
    let r := ax.deliverNow d.tcyc m (d.ctl.cycle < m) o cam
    let nc := newConds ax.held deliverConds r.conds
    let ax1 := { r.ax with held := nc.2 }
    ((d.onAxis a (fun _ => ax1)).emits (ax1.events a r.evs ++ nc.1.map (fun c => condEvent (srcAxis a) c.1 c.2 ax1.now.sup.state))).ephemeris

/-- The PU delivers the set-points of an axis (R105): those of the cycle in progress, then, for a split axis, those of its next axis cycle. -/
def Dev.deliver (d : Dev) (a : Nat) : Dev :=
  match d.axis? a with
  | none => d
  | some ax0 =>
    let n := d.ctl.cycle
    if !d.ctl.running || d.ctl.first || d.ctl.sealed || ax0.blocked || !ax0.inPhase n then d
    else
      let d := d.advance
      let ax := d.axis a
      if ax.spCycle < n then d.deliverAt a n ax
      else if d.split ax && ax.spCycle < n + ax.div then d.deliverAt a (n + ax.div) ax
      else d

end Sys2Proof.Machine
end

