-- ==== Sys2Proof/Machine/AxisRows.lean ====
section
/-! DEFINITION. The commands of axes between Gather and Seal: delivery of set-points, the supervision steps that act on a count reached, switches and homing
timers, and the stepper updates (chapters 3 to 6). A row whose count is not reached changes nothing (log 1). -/

namespace Sys2Proof.Machine

open Sys2Proof

/-- SETPOINT_DELIVERY (R103 to R105). -/
def execSetpointDelivery (axis : Nat) (s : State) : Host.Outcome State Fault Refusal := s.act (fun d => d.deliver axis)

/-! ## Conditions with a row of their own (Tables 3.4, 3.5) -/

/-- A condition that holds acts once: it is kept among those that hold, and its reaction and event follow (R95, R97). -/
def Dev.axisFires (d : Dev) (a code : Nat) : Dev :=
  match d.axis? a with
  | some ax => if ax.held.contains code then d else (d.axisCond a code).onAxis a (fun ax => { ax with held := code :: ax.held })
  | none => d

/-- The count has reached `n` (R574). -/
def reached (c : Option Nat) (n : Nat) : Bool := match c with | some k => n ≤ k | none => false

/-- FE_TIME passes in FE_TIMING (Table 3.5). -/
def Axis.feDue (ax : Axis) (T : Rat) : Bool :=
  ax.now.sup.state = 2 && reached ax.now.sup.feCnt (cyclesOf (ax.prm.nat pFE_TIME) T) && !ax.now.sup.warnHold.contains fFOLLOWING

/-- The FE timer's fault FOLLOWING. -/
def Dev.feTimer (d : Dev) (a : Nat) : Dev :=
  match d.axis? a with
  | some ax => if ax.feDue (d.period ax) then d.axisCond a fFOLLOWING else d
  | none => d

/-- FE_TIMER_EXPIRY. -/
def execFeTimerExpiry (axis : Nat) (s : State) : Host.Outcome State Fault Refusal := s.act (fun d => d.feTimer axis)

/-- The standstill of QUICKSTOP is complete (Table 3.5). -/
def Axis.stillDue (ax : Axis) (T : Rat) : Bool :=
  ax.now.sup.state = 3 && reached ax.now.sup.stillCnt (cyclesOf (ax.prm.nat pSTANDSTILL_TIME) T)

/-- QS_TIMEOUT passes in QUICKSTOP, and the standstill is not complete in the same axis cycle (R98). -/
def Axis.qsDue (ax : Axis) (T : Rat) : Bool :=
  ax.now.sup.state = 3 && reached ax.now.sup.qsCnt (cyclesOf (ax.prm.nat pQS_TIMEOUT) T) && !ax.stillDue T

/-- The reaction escalates to TORQUE_OFF (R97). -/
def Dev.qsTimeout (d : Dev) (a : Nat) : Dev :=
  match d.axis? a with
  | some ax => if ax.qsDue (d.period ax) then (d.onAxis a (fun ax => ax.onWork Work.escalate)).emit (evC (srcAxis a) eQS_TIMEOUT) else d
  | none => d

/-- QS_TIMEOUT. -/
def execQsTimeout (axis : Nat) (s : State) : Host.Outcome State Fault Refusal := s.act (fun d => d.qsTimeout axis)

/-- HALTED: the position is held, the timers stop (Table 3.5). -/
def Work.halt (w : Work) : Work := { w with sup := { w.sup with state := 4, qsCnt := none, stillCnt := none } }

/-- The axis comes to rest in QUICKSTOP. -/
def Dev.standstill (d : Dev) (a : Nat) : Dev :=
  match d.axis? a with
  | some ax => if ax.stillDue (d.period ax) then d.onAxis a (fun ax => ax.onWork Work.halt) else d
  | none => d

/-- STANDSTILL_REACHED. -/
def execStandstillReached (axis : Nat) (s : State) : Host.Outcome State Fault Refusal := s.does (fun d => d.standstill axis)

/-- |τ| stays at TRQ_LIM for TRQ_SAT_TIME, which 0 switches off (Table 3.4). -/
def Axis.satDue (ax : Axis) (T : Rat) : Bool :=
  ax.prm.nat pTRQ_SAT_TIME ≠ 0 && reached ax.now.sup.satCnt (cyclesOf (ax.prm.nat pTRQ_SAT_TIME) T)

/-- The torque saturation's condition. -/
def Dev.torqueSat (d : Dev) (a : Nat) : Dev :=
  match d.axis? a with
  | some ax => if ax.satDue (d.period ax) then d.axisFires a fTORQUE_SAT else d
  | none => d

/-- TORQUE_SAT. -/
def execTorqueSat (axis : Nat) (s : State) : Host.Outcome State Fault Refusal := s.act (fun d => d.torqueSat axis)

/-- FB_MISS_RUN has reached FB_MISS_LIMIT (R72). -/
def Axis.fbLost (ax : Axis) : Bool := ax.prm.nat pFB_MISS_LIMIT ≤ ax.now.sup.fbMissRun

/-- The lost feedback's condition. -/
def Dev.feedbackLost (d : Dev) (a : Nat) : Dev :=
  match d.axis? a with
  | some ax => if ax.fbLost then d.axisFires a fFEEDBACK_LOST else d
  | none => d

/-- FEEDBACK_LOST. -/
def execFeedbackLost (axis : Nat) (s : State) : Host.Outcome State Fault Refusal := s.act (fun d => d.feedbackLost axis)

/-- RETRACT_RUN has reached SPLIT_RETRACT_LIMIT (R92). -/
def Axis.splitLost (ax : Axis) : Bool := ax.prm.nat pSPLIT_RETRACT_LIMIT ≤ ax.now.sup.retractRun

/-- The lost split's condition. -/
def Dev.splitLost (d : Dev) (a : Nat) : Dev :=
  match d.axis? a with
  | some ax => if ax.splitLost then d.axisFires a fSPLIT_LOST else d
  | none => d

/-- SPLIT_LOST. -/
def execSplitLost (axis : Nat) (s : State) : Host.Outcome State Fault Refusal := s.act (fun d => d.splitLost axis)

/-- The codes of conditions with a row of their own that hold for an axis now; the Seal drops the others from those held. -/
def Axis.rowHolds (ax : Axis) (T : Rat) (code : Nat) : Bool :=
  if code = fTORQUE_SAT then ax.satDue T
  else if code = fFEEDBACK_LOST then ax.fbLost
  else if code = fSPLIT_LOST then ax.splitLost
  else if code = fSWITCH_CHATTER then ax.swPos.chatterCond || ax.swNeg.chatterCond || ax.swHome.chatterCond
  else true

/-- Conditions that no longer hold are dropped, and with them their warnings (Table 3.3). -/
def Axis.prune (ax : Axis) (T : Rat) : Axis :=
  let gone := ax.held.filter (fun c => !ax.rowHolds T c)
  { (gone.foldl (fun ax c => ax.onWork (fun w => { w with sup := w.sup.dropWarn c })) ax) with held := ax.held.filter (fun c => ax.rowHolds T c) }

/-- The blend has run its H cycles (R167): the new mode's torque applies alone. -/
def Work.endBlend (w : Work) : Work :=
  match w.k.blend with
  | some b => if b.h ≤ b.k && !w.r.blending then { w with k := { w.k with blend := none } } else w
  | none => w

/-- HANDOVER_BLEND_END. -/
def execHandoverBlendEnd (axis : Nat) (s : State) : Host.Outcome State Fault Refusal :=
  s.does (fun d => d.onAxis axis (fun ax => ax.onWork Work.endBlend))

/-- STALE_RUN has reached OVR_LIMIT at this Seal (R59). -/
def Axis.overrunDue (ax : Axis) : Bool := ax.stale && ax.prm.nat pOVR_LIMIT ≤ ax.staleRun

/-- The overrun's fault; where its class is QUICKSTOP and the axis is in a quick stop, whatever fault began it, the Seal escalates when the axis is late again (R59). -/
def Dev.overrun (d : Dev) (a : Nat) : Dev :=
  match d.axis? a with
  | some ax =>
    if d.ctl.sealed && ax.overrunDue && !ax.held.contains fOVERRUN then
      (d.axisFires a fOVERRUN).onAxis a (fun ax => ax.onWork (fun w => { w with sup := { w.sup with lateAgain := w.sup.state = 3 && classOf ax.prm pREACT_code fOVERRUN = 2 } }))
    else d
  | none => d

/-- A stepper's overrun (R179). -/
def Dev.stepOverrun (d : Dev) (a : Nat) : Dev :=
  match d.stepper? a with
  | some s =>
    if d.ctl.sealed && s.stale && s.prm.nat pST_OVR_LIMIT ≤ s.staleRun && !s.held.contains fSTEP_OVERRUN then
      (d.stepperCond a fSTEP_OVERRUN).onStepper a (fun s => { s with held := fSTEP_OVERRUN :: s.held, lateAgain := s.state = 2 && s.cls fSTEP_OVERRUN = 2 })
    else d
  | none => d

/-- OVERRUN_LIMIT. -/
def execOverrunLimit (step : Bool) (axis : Nat) (s : State) : Host.Outcome State Fault Refusal :=
  s.act (fun d => if step then d.stepOverrun axis else d.overrun axis)

/-! ## Register channels -/

/-- REG_MISS_RUN reaches REG_MISS_LIMIT (R141). -/
def Dev.regLost (d : Dev) (c : Nat) : Dev :=
  match Tab.find d.motion.regs c with
  | some ch =>
    if ch.prm.nat pREG_MISS_LIMIT ≤ ch.missRun && !ch.lost && ch.stateNow = 1 then
      let d := { d with motion := { d.motion with regs := Tab.set d.motion.regs c { ch with lost := true } } }
      d.axisFires (ch.prm.nat pREG_AXIS) fREG_LOST
    else d
  | none => d

/-- REG_LOST. -/
def execRegLost (ch : Nat) (s : State) : Host.Outcome State Fault Refusal := s.act (fun d => d.regLost ch)

/-! ## Switches (R146, R147) -/

/-- The bit of the process image at a bit address. -/
def imageBit (m : Memory) (b : Nat) : Bool := bit (Memory.read 0 m (b / 8)).toNat (b % 8)

/-- DEBOUNCE_TIME in base cycles, rounded up. -/
def Switch.debounceCycles (sw : Switch) (tcyc : Nat) : Nat := ceilDiv (sw.debounce * 1000) tcyc

/-- The raw value has held for DEBOUNCE_TIME and differs from the accepted state. A limit switch becomes active without delay, so that only its release
waits (R146). -/
def Switch.settle (sw : Switch) (tcyc : Nat) (limit : Bool) : Switch :=
  if sw.src.isSome && sw.raw ≠ sw.active && sw.debounceCycles tcyc ≤ sw.runCycles && !(limit && sw.raw) then
    { sw with active := sw.raw }
  else sw

/-- A switch of an axis by number: 0 positive limit, 1 negative limit, 2 home. -/
def Axis.switch (ax : Axis) (which : Nat) : Switch := if which = 0 then ax.swPos else if which = 1 then ax.swNeg else ax.swHome

/-- A switch of an axis changed. -/
def Axis.onSwitch (ax : Axis) (which : Nat) (f : Switch → Switch) : Axis :=
  if which = 0 then { ax with swPos := f ax.swPos } else if which = 1 then { ax with swNeg := f ax.swNeg } else if which = 2 then { ax with swHome := f ax.swHome } else ax

/-- A switch of a stepper axis by number. -/
def Stepper.switch (s : Stepper) (which : Nat) : Switch := if which = 0 then s.swPos else if which = 1 then s.swNeg else s.swHome

/-- A switch of a stepper axis changed. -/
def Stepper.onSwitch (s : Stepper) (which : Nat) (f : Switch → Switch) : Stepper :=
  if which = 0 then { s with swPos := f s.swPos } else if which = 1 then { s with swNeg := f s.swNeg } else if which = 2 then { s with swHome := f s.swHome } else s

/-- SWITCH_DEBOUNCE_EXPIRY. -/
def execSwitchDebounceExpiry (step : Bool) (axis which : Nat) (s : State) : Host.Outcome State Fault Refusal :=
  s.does (fun d =>
    let f (sw : Switch) : Switch := sw.settle d.tcyc (which ≠ 2)
    if step then d.onStepper axis (fun x => x.onSwitch which f) else d.onAxis axis (fun ax => ax.onSwitch which f))

/-- More than CHATTER_LIMIT raw edges lie within one DEBOUNCE_TIME (R147). -/
def Switch.chatters (sw : Switch) : Bool := sw.src.isSome && sw.chatterLimit < sw.burst && !sw.chatterCond

/-- The condition SWITCH_CHATTER of an axis. -/
def Dev.chatter (d : Dev) (step : Bool) (a which : Nat) : Dev :=
  let mark (sw : Switch) : Switch := { sw with chatterCond := true }
  if step then
    match d.stepper? a with
    | some s => if which < 3 && (s.switch which).chatters then (d.stepperCond a fSWITCH_CHATTER).onStepper a (fun s => { s.onSwitch which mark with held := if s.held.contains fSWITCH_CHATTER then s.held else fSWITCH_CHATTER :: s.held }) else d
    | none => d
  else
    match d.axis? a with
    | some ax => if which < 3 && (ax.switch which).chatters then (d.axisFires a fSWITCH_CHATTER).onAxis a (fun ax => ax.onSwitch which mark) else d
    | none => d

/-- SWITCH_CHATTER. -/
def execSwitchChatter (step : Bool) (axis which : Nat) (s : State) : Host.Outcome State Fault Refusal := s.act (fun d => d.chatter step axis which)

/-! ## Homing timers (Table 4.10) -/

/-- HOME_TIMEOUT has passed since the homing began, in whole base cycles (Table 4.9). -/
def Homing.timedOut (h : Homing) (ms tcyc n : Nat) : Bool := decide (ms * 1000000 ≤ (n - h.began) * tcyc)

/-- HOME_TIMEOUT passes in a state from FAST to PRESS: homing fails with cause TIMEOUT. -/
def Dev.homeTimeout (d : Dev) (step : Bool) (a : Nat) : Dev :=
  if step then
    match d.stepper? a with
    | some s =>
      if s.mode = 5 && s.state = 1 && s.home.searching && s.home.timedOut (s.prm.nat pST_HOME_TIMEOUT) d.tcyc d.ctl.cycle then
        let s1 := s.homeFail d.tcyc d.ctl.cycle 3
        (d.onStepper a (fun _ => s1)).emits (s1.events a [{ code := 11, a := 3 }])
      else d
    | none => d
  else
    match d.axis? a with
    | some ax =>
      if ax.now.sup.mode = 5 && (ax.now.sup.state = 1 || ax.now.sup.state = 2) && ax.home.searching &&
          ax.home.timedOut (ax.prm.nat pHOME_TIMEOUT) d.tcyc d.ctl.cycle then
        let r := ax.through (fun ax => (ax.homeFail 3, [{ code := 11, a := 3 }]))
        (d.onAxis a (fun _ => r.1)).emits (r.1.events a r.2)
      else d
    | none => d

/-- HOME_TIMEOUT. -/
def execHomeTimeout (step : Bool) (axis : Nat) (s : State) : Host.Outcome State Fault Refusal := s.act (fun d => d.homeTimeout step axis)

/-- The hard-stop dwell is complete: the sequencer leaves PRESS at its next decision (Table 4.10, R574). -/
def Axis.pressEnd (ax : Axis) (T : Rat) : Axis :=
  if ax.home.state = 5 && reached ax.now.sup.hsCnt (cyclesOf (ax.prm.nat pHOME_HS_TIME) T) then { ax with home := { ax.home with pressDone := true } } else ax

/-- HOME_HS_TIME_EXPIRY. -/
def execHomeHsTimeExpiry (axis : Nat) (s : State) : Host.Outcome State Fault Refusal :=
  s.does (fun d => d.onAxis axis (fun ax => ax.pressEnd (d.period ax)))

/-! ## Steppers (chapter 6) -/

/-- Cycle `n` is one of the stepper's phase (R177). -/
def Stepper.inPhase (s : Stepper) (n : Nat) : Bool := n % max 1 (s.prm.nat pST_STEP_DIV) = s.prm.nat pST_STEP_PHASE

/-- S_N in ns of the ring count (R46). -/
def Dev.sampleNs (d : Dev) (n : Nat) : Int := (d.mer n : Int) - (d.prm pSAMPLE_LEAD : Int)

/-- The position of a switch at its first raw edge, interpolated between the samples at `t0` and `t1` (quarter ns) with positions `p0` and `p1` (R148). An edge
stamped after `t1` is placed on the same line until the next sample is known. -/
def Switch.place (sw : Switch) (m t0 t1 p0 p1 : Int) : Switch :=
  if sw.src.isSome && (t0 < sw.runStamp || sw.runCycles = 0) then
    let u : Rat := if t0 < t1 then ((sw.runStamp - t0 : Int) : Rat) / ((t1 - t0 : Int) : Rat) else 1
    { sw with pos := reduceMod m (p0 + rndHE ((wrapMod m (p1 - p0) : Rat) * u)) }
  else sw

/-- The positions of a stepper's switches: p_set at the edge, interpolated with FB_OFFSET 0 between the last update and this one (R148, R195). -/
def Dev.placeSteps (d : Dev) (s : Stepper) : Stepper :=
  let n := d.ctl.cycle
  let f (sw : Switch) : Switch := sw.place 0 (4 * d.sampleNs s.spCycle) (4 * d.sampleNs n) s.sp.p (s.setPoint d.tcyc n).p
  { s with swPos := f s.swPos, swNeg := f s.swNeg, swHome := f s.swHome }

/-- The step engine computes a stepper's set-point of this cycle (R185 to R190). -/
def Dev.stepUpdate (d : Dev) (a : Nat) : Dev :=
  match d.stepper? a with
  | some s =>
    let n := d.ctl.cycle
    if !d.ctl.running || !d.ctl.gathered || d.ctl.sealed || s.updated || s.blocked || !s.inPhase n then d
    else
      let r := (d.placeSteps s).update d.tcyc n
      let nc := newConds s.held [fSTEP_NODE_FAULT, fLIMIT_POS, fLIMIT_NEG] r.2.2
      let s1 := { r.1 with held := nc.2 }
      (d.onStepper a (fun _ => s1)).emits (s1.events a r.2.1 ++ nc.1.map (fun c => condEvent (srcStepper a) c.1 c.2 s1.state))
  | none => d

/-- STEP_UPDATE. -/
def execStepUpdate (axis : Nat) (s : State) : Host.Outcome State Fault Refusal := s.act (fun d => d.stepUpdate axis)

/-- STALL_RUN reaches STALL_COUNT with the last update's estimate (R190). -/
def Dev.stall (d : Dev) (a : Nat) : Dev :=
  match d.stepper? a with
  | some s =>
    if (s.state = 1 || s.state = 2) && s.prm.nat pST_STALL_EN = 1 && s.prm.nat pST_STALL_COUNT ≤ s.stallRun && s.stallDue then
      let s1 := s.declareStall d.tcyc d.ctl.cycle
      let d := d.onStepper a (fun _ => s1)
      if s.hardStop then d else d.emit (condEvent (srcStepper a) fSTALL (s.cls fSTALL) s1.state)
    else d
  | none => d

/-- STALL_DECLARED. -/
def execStallDeclared (axis : Nat) (s : State) : Host.Outcome State Fault Refusal := s.act (fun d => d.stall axis)

/-- HOLD_DELAY passes at rest: in the update that reaches it the amplitude falls to I_HOLD (R184). -/
def Stepper.holdDelay (s : Stepper) (tcyc : Nat) : Stepper :=
  if s.updated && s.state ≠ 0 && s.state ≠ 5 && reached s.restRun (s.holdPeriods tcyc) then { { s with holding := true } with amp := { s with holding := true }.amplitude } else s

/-- HOLD_DELAY_EXPIRY. -/
def execHoldDelayExpiry (axis : Nat) (s : State) : Host.Outcome State Fault Refusal := s.does (fun d => d.onStepper axis (fun x => x.holdDelay d.tcyc))

/-- Sixteen input slots in succession are missed while STALL_EN is set (Table 6.8). -/
def Dev.stepFbLost (d : Dev) (a : Nat) : Dev :=
  match d.stepper? a with
  | some s =>
    if 16 ≤ s.missRun && s.prm.nat pST_STALL_EN = 1 && !s.held.contains fSTEP_FB_LOST then
      (d.stepperCond a fSTEP_FB_LOST).onStepper a (fun s => { s with held := fSTEP_FB_LOST :: s.held })
    else d
  | none => d

/-- STEP_FB_LOST. -/
def execStepFbLost (axis : Nat) (s : State) : Host.Outcome State Fault Refusal := s.act (fun d => d.stepFbLost axis)

end Sys2Proof.Machine
end

