-- ==== Sys2Proof/Machine/HostOps.lean ====
section
/-! DEFINITION. Staged commands and batches (R26 to R31): withdrawal, failure, and the notes that the Seal adds to replies. -/

namespace Sys2Proof.Machine

open Sys2Proof

/-- The staged command is a member of the batch with the BATCH and EFFECTIVE written in its header (R26); `mer` is the Meridian of a closed batch, 0 of an open one. -/
def Staged.member (s : Staged) (id eff mer : Nat) : Bool := s.req.h.batch = id && s.req.h.effective = eff && s.meridian = mer && id ≠ 0

/-- The staged commands that `p` selects are withdrawn, each with the status that `st` gives it. -/
def Dev.withdraw (d : Dev) (p : Staged → Bool) (st : Staged → Nat) : Dev :=
  (d.host.staged.filter p).foldl (fun d s => d.reject s.req s.res (st s)) { d with host := { d.host with staged := d.host.staged.filter (fun s => !p s) } }

/-- The record of an open batch. -/
def Hif.batch? (h : Hif) (id eff : Nat) : Option Batch := h.batches.find? (fun b => b.id = id && b.effective = eff)

/-- One more batch has failed. -/
def Dev.batchCount (d : Dev) : Dev := { d with host := { d.host with batchesFailed := incSat 32 d.host.batchesFailed } }

/-- The open batch is remembered as failed: its later members return BATCH_WITHDRAWN (R27). -/
def Dev.batchMark (d : Dev) (id eff pair : Nat) : Dev :=
  match d.host.batch? id eff with
  | some b =>
    if b.failed then d
    else Dev.batchCount { d with host := { d.host with batches := d.host.batches.map (fun b => if b.id = id && b.effective = eff then { b with failed := true } else b) } }
  | none => Dev.batchCount { d with host := { d.host with batches := d.host.batches ++ [{ id := id, pair := pair, effective := eff, failed := true }] } }

/-- An open batch fails (R27): its staged members return BATCH_WITHDRAWN. -/
def Dev.failBatch (d : Dev) (id eff pair : Nat) : Dev := (d.batchMark id eff pair).withdraw (fun s => s.member id eff 0) (fun _ => 0x0502)

/-- A closed batch is withdrawn as a whole (R391). -/
def Dev.failClosed (d : Dev) (id eff mer : Nat) : Dev := d.batchCount.withdraw (fun s => s.member id eff mer) (fun _ => 0x0502)

/-- The axis is in HOLD or STOP (R34). -/
def holdsStill (mode : Nat) : Bool := mode = 6 || mode = 7

/-- Every configured axis is in HOLD or STOP (R34). -/
def Dev.allStill (d : Dev) : Bool := d.motion.axes.all (fun x => holdsStill x.2.now.sup.mode) && d.motion.steppers.all (fun x => holdsStill x.2.mode)

/-- The staged commands remember that an axis is not in HOLD or STOP (R34). -/
def Dev.watchStyle (d : Dev) : Dev :=
  if d.allStill then d else { d with host := { d.host with staged := d.host.staged.map (fun s => { s with req := { s.req with moved := true } }) } }

/-- The open batch is no longer kept. -/
def Dev.dropBatch (d : Dev) (id eff : Nat) : Dev :=
  { d with host := { d.host with batches := d.host.batches.filter (fun b => !(b.id = id && b.effective = eff)) } }

/-- The reply of opcode `op` to target `key` that waits for Plate `n` takes a note, in place of one that it has (DESIGN CHOICE, log 50: the spec orders no two notes). -/
def Dev.noteReply (d : Dev) (op key n note : Nat) : Dev :=
  { d with host := { d.host with pairs := d.host.pairs.map (fun (p : Pair) =>
      { p with out := p.out.map (fun o => if o.op = op && o.key = key && o.hold = n && o.status = 0 then o.noted note else o) }) } }

/-- The HOME_STATE of a command's target. -/
def Dev.homeState (d : Dev) (q : HostReq) : Nat :=
  if q.h.kind = 1 then (d.axis q.h.index).home.state else match d.stepper? q.h.index with | some s => s.home.state | none => 0

/-- A MODE command to HOME. -/
def isHome (q : HostReq) : Bool := q.op = 0x2001 && fieldLE q.pay 0 1 = 5

/-- The reply that a homing run of target `key` (its kind × 2^24 + its number) owes takes a note. -/
def Dev.noteHome (d : Dev) (key note : Nat) : Dev :=
  { d with host := { d.host with openOps := d.host.openOps.map (fun (o : OpenOp) => if isHome o.req && o.req.h.kind * 16777216 + o.req.h.index = key then { o with note := note } else o) } }

/-- The homing runs that are over are answered ("Homing" of chapter 4, R380): success at DONE, 0x0601 at FAILED, and `st` when the run was left. -/
def Dev.homeEnds (d : Dev) (st : Nat) : Dev :=
  (d.host.openOps.filter (fun o => isHome o.req)).foldl (fun d o =>
    match d.homeState o.req with
    | 8 => d.opEnd (some o) { note := o.note } d.ctl.cycle
    | 9 => d.opEnd (some o) { status := 0x0601 } d.ctl.cycle
    | 0 => d.opEnd (some o) { status := st } d.ctl.cycle
    | _ => d) d

end Sys2Proof.Machine
end

