-- ==== Sys2Proof/Machine/PaceRows.lean ====
section
/-! DEFINITION. The Pace Unit (chapter 8): plans and their coming into force (R15, R242 to R245, R249, R253 to R256), Seeing (R235 to R237), temperatures,
ageing and voltage (R238, R239, R246 to R248). -/

namespace Sys2Proof.Machine

open Sys2Proof

/-! ## What a plan is made from -/

/-- A parameter that a plan carries: TARGET as u32, identifier, value (R44, R242). -/
def Dev.carrySet (d : Dev) (c : Nat × Nat × Int) : Dev :=
  let i := c.1 % 16777216
  if c.1 / 16777216 = 1 then d.onAxis i (fun ax => { ax with prm := Tab.set ax.prm c.2.1 c.2.2 })
  else if c.1 / 16777216 = 2 then d.onStepper i (fun s => { s with prm := Tab.set s.prm c.2.1 c.2.2 })
  else { d with ctl := { d.ctl with prm := Tab.set d.ctl.prm c.2.1 c.2.2 } }

/-- Every carried parameter in force. -/
def Dev.carryAll (d : Dev) (cs : List (Nat × Nat × Int)) : Dev := cs.foldl Dev.carrySet d

/-- The role of an engine in force. -/
def Dev.role (d : Dev) (e : Nat) : Nat := d.pace.plan.roles.getD e 1

/-- Cost of an engine's background task at an index (R240). -/
def Dev.bgCost (d : Dev) (seff : Nat → Nat) (e : Nat) : Rat :=
  let g := d.engine e
  if g.bgDeclared then tPass (Config.backgroundDecl g.version, 0) (seff e) else 0

/-- PACE_BUDGET × W in ns (R54). -/
def Dev.budget (d : Dev) : Rat := paceBudget d.tcyc d.tringMax

/-- S_EFF of an engine for a plan; a fenced or testing engine carries nothing. -/
def Dev.planIndex (d : Dev) (margin : Bool) (roles : List Nat) (e : Nat) : Nat :=
  let r := roles.getD e 4
  if r = 4 || r = 3 then 0 else sEff margin (d.engine e)

/-- The entry of an axis in an assignment. -/
def Dev.entry (d : Dev) (a : Nat) (ax : Axis) (engine slot : Nat) : Placed :=
  { axis := a, engine := engine, slot := slot, div := ax.div, phase := ax.phase, cost := fun s => ax.cost d.runAhead (d.engine engine).version s }

/-- The axes that the plan is to carry: those placed, and those that no engine carries yet and that are not shed. -/
def Dev.toPlace (d : Dev) : List Placed × List Placed :=
  let live := d.motion.axes.filter (fun e => !e.2.shed || d.pace.unshed.contains e.1)
  (live.filterMap (fun e => (Tab.find d.pace.plan.place e.1).map (fun p => d.entry e.1 e.2 p.1 p.2)),
   live.filterMap (fun e => if Tab.has d.pace.plan.place e.1 then none else some (d.entry e.1 e.2 0 0)))

/-- The engines that may carry axes under the roles. -/
def carriersOf (roles : List Nat) : List Nat := (List.range 18).filter (fun e => roles.getD e 4 = 0 || roles.getD e 4 = 2)

/-- The engines that could carry: carriers, stand-ins and spares, sixteen at most (Table 8.5). -/
def couldCarry (roles : List Nat) : List Nat :=
  (carriersOf roles ++ (List.range 18).filter (fun e => roles.getD e 4 = 1)).take 16

/-- One more spare becomes a carrier, when fewer than sixteen carry (Tables 8.4, 8.5). -/
def addCarrier (roles : List Nat) : Option (List Nat) :=
  match (List.range 18).find? (fun e => roles.getD e 4 = 1) with
  | some e => if (carriersOf roles).length < 16 then some (roles.set e 0) else none
  | none => none

/-- The outcome of an assignment: the roles, the placements and the axes moved. -/
structure Assigned where
  roles : List Nat
  ps : List Placed
  moved : List Nat

/-- Steps 1 to 3 of R244 under the roles; a spare joins while the axes do not fit. -/
def Dev.assign (d : Dev) (margin : Bool) (ps new : List Placed) : Nat → List Nat → Assigned
  | fuel, roles =>
    let seff := d.planIndex margin roles
    let bg := d.bgCost seff
    let carry := carriersOf roles
    let sources := carry ++ (List.range 18).filter (fun e => !carry.contains e && ps.any (fun p => p.engine = e))
    let r1 := relieve seff bg sources d.pace.suspects d.budget 2 (d.prm pMIGRATE_MAX) ps [] [] []
    let ok := meets seff bg sources d.budget r1.1
    let r2 := if ok && r1.2.isEmpty then balance seff bg carry d.pace.suspects (f32ToRat (d.prm pBALANCE_BAND) * d.budget) r1.1 else (r1.1, [])
    let r3 := placeNew seff bg (carry.filter (fun e => !d.pace.suspects.contains e)) d.budget new r2.1
    match fuel, addCarrier roles with
    | fuel + 1, some roles' => if ok && r3.2.isEmpty then ⟨roles, r3.1, r1.2 ++ r2.2⟩ else Dev.assign d margin ps new fuel roles'
    | _, _ => ⟨roles, r3.1, r1.2 ++ r2.2⟩

/-! ## Building a plan -/

/-- A test hand-over or return in a plan (R253): roles and placements after it, the pair it names, and the axes it moves. A suspect SPARE is no stand-in (R250). -/
def testMoves (roles : List Nat) (suspects : List Nat) (ps : List Placed) (ask back : Option Nat) (standin : Option Nat) (hadSlots : Bool) :
    List Nat × List Placed × Option (Nat × Option Nat) × Option (Nat × Option Nat) :=
  match back, ask with
  | some e, _ =>
    if hadSlots then
      match standin with
      | some f => ((roles.set e 0).set f 1, ps.map (fun p => if p.engine = f then { p with engine := e } else p), none, some (e, some f))
      | none => (roles.set e 0, ps, none, some (e, none))
    else (roles.set e 1, ps, none, some (e, none))
  | none, some e =>
    if roles.any (· = 3) then (roles, ps, none, none)
    else if roles.getD e 4 = 1 then (roles.set e 3, ps, some (e, none), none)
    else if roles.getD e 4 = 0 then
      match (List.range 18).find? (fun f => roles.getD f 4 = 1 && !suspects.contains f) with
      | some f => ((roles.set e 3).set f 2, ps.map (fun p => if p.engine = e then { p with engine := f } else p), some (e, some f), none)
      | none => (roles, ps, none, none)
    else (roles, ps, none, none)
  | none, none => (roles, ps, none, none)

/-- The carriers that the plan leaves without slots become spares while more than sixteen engines are healthy (Table 8.4). -/
def idleRoles (roles : List Nat) (old new : List Placed) : List Nat :=
  let healthy := (roles.filter (· ≠ 4)).length
  roles.zipIdx.map (fun r => if r.1 = 0 && 16 < healthy && old.any (fun p => p.engine = r.2) && !new.any (fun p => p.engine = r.2) then 1 else r.1)

/-- The engines of the background tasks after a plan (R225, R252): a task goes with a hand-over or a return; one whose engine no longer carries goes to the lowest-numbered
carrying engine without a task, where there is one (DESIGN CHOICE, log 55). -/
def planBg (bg roles : List Nat) (test back : Option (Nat × Option Nat)) : List Nat :=
  let pair (e : Nat) : Nat :=
    match test, back with
    | some (t, some f), _ => if e = t then f else e
    | none, some (t, some f) => if e = f then t else e
    | _, _ => e
  let bg := bg.map pair
  (List.range bg.length).foldl (fun (l : List Nat) i =>
    let e := l.getD i 0
    if (carriersOf roles).contains e then l
    else match (carriersOf roles).find? (fun f => !l.contains f) with
      | some f => l.set i f
      | none => l) bg

/-- Every step engine meets R178 in every base cycle with the steppers `ss`. -/
def Dev.stepFits (d : Dev) (ss : Tab Stepper) : Bool :=
  let lim := d.budget
  (List.range 4).all (fun e =>
    let mine := (ss.filter (fun x => x.1 / 256 = e)).map (fun x => (max 1 (x.2.prm.nat pST_STEP_DIV), x.2.prm.nat pST_STEP_PHASE))
    let hot := mine.map (fun x => ((mine.filter (fun y => x.2 % (Nat.gcd x.1 y.1) = y.2 % (Nat.gcd x.1 y.1))).length : Nat))
    let busiest := (mine.map (fun x => x.1)).foldl Nat.lcm 1
    if (hot.foldl max 0 : Nat) * 90 ≤ lim then true
    else (List.range busiest).all (fun c => (((mine.filter (fun x => c % x.1 = x.2)).length * 90 : Nat) : Rat) ≤ lim))

/-- The phases of the servo and stepper axes, by TARGET (R242). -/
def Dev.phasesOf (d : Dev) : List (Nat × Nat) :=
  d.motion.axes.map (fun e => (16777216 + e.1, e.2.phase)) ++ d.motion.steppers.map (fun e => (2 * 16777216 + e.1, e.2.prm.nat pST_STEP_PHASE))

/-- The plan for Meridian `m` (R242 to R245, R253 to R256), and whether no plan meets R54 at the corner. -/
def Dev.makePlan (d0 : Dev) (m : Nat) : PacePlan × Bool :=
  let d := d0.carryAll d0.pace.carry
  let cur := d.pace.plan
  let tp := d.toPlace
  let fits (margin : Bool) (ps : List Placed) : Bool :=
    let seff := d.planIndex margin cur.roles
    placeable seff (d.bgCost seff) (couldCarry cur.roles) d.budget ps
  let low := !fits false (tp.1 ++ tp.2)
  let margin := d.pace.marginLow || low
  let prio (a : Nat) : Int := (d.axis a).prm.val pPACE_PRIORITY
  let shed := if low then shedUntil (fits true) prio 512 (tp.1 ++ tp.2) [] else []
  let keep (ps : List Placed) : List Placed := ps.filter (fun p => !shed.contains p.axis)
  let standin := (cur.roles.zipIdx.find? (fun r => r.1 = 2)).map (fun r => r.2)
  let had := match d.pace.returnAsk with | some e => (d.engine e).hadSlots | none => false
  let t := testMoves cur.roles d.pace.suspects (keep tp.1) d.pace.testAsk d.pace.returnAsk standin had
  let a := d.assign margin t.2.1 (keep tp.2) 16 t.1
  let place := a.ps.foldl (fun (t : Tab (Nat × Nat)) p => Tab.set t p.axis (p.engine, p.slot)) []
  let roles := idleRoles a.roles t.2.1 a.ps
  ({ seq := incWrap 32 cur.seq, cycle := m, roles := roles, place := place, bg := planBg cur.bg roles t.2.2.1 t.2.2.2, phases := d.phasesOf, moved := a.moved,
     test := t.2.2.1, back := t.2.2.2, shed := (cur.shed.filter (fun x => !d.pace.unshed.contains x)) ++ shed, vdd := d.pace.vddTarget, carries := d.pace.carry }, low)

/-- PACE_PLAN_START: a trigger is served, one plan at a time, for a Meridian at least PLAN_LEAD ahead (R242, R243). -/
def execPacePlanStart (meridian : Nat) (s : State) : Host.Outcome State Fault Refusal :=
  s.does (fun d =>
    if d.ctl.running && d.pace.trigger && d.pace.building.isNone && d.pace.done.isNone && d.ctl.cycle + planLead d.tcyc ≤ meridian then
      { d with pace := { d.pace with building := some meridian, trigger := false, lateServed := d.pace.latePending } }
    else d)

/-- The predicted work of every engine under a placement, as a plan's parameters make it. -/
def Dev.planLoad (d : Dev) (roles : List Nat) (bg : List Nat) (place : Tab (Nat × Nat)) (e : Nat) : Rat :=
  let seff := d.planIndex d.pace.marginLow roles
  let ps := place.filterMap (fun x => (d.axis? x.1).map (fun ax => d.entry x.1 ax x.2.1 x.2.2))
  loadOf ps seff (fun e => if bg.contains e then tPass (Config.backgroundDecl (d.engine e).version, 0) (seff e) else 0) e

/-- A plan is admitted (R54, R178): with its parameters in force, no engine in use is loaded beyond the budget, but for one that the plan in force overloads as much or
more, whose axes the following plans move (R245); and no step engine is. -/
def Dev.planAdmitted (d0 : Dev) (p : PacePlan) (low : Bool) : Bool :=
  let d := Dev.carryAll { d0 with pace := { d0.pace with marginLow := d0.pace.marginLow || low } } p.carries
  let cur := d.pace.plan
  (List.range 18).all (fun e =>
    let l := d.planLoad p.roles p.bg p.place e
    decide (l ≤ d.budget) || decide (l ≤ d.planLoad cur.roles cur.bg cur.place e)) && d.stepFits d.motion.steppers

/-- The PAC completes the plan in work (R242, R255, R256); a loop engine under test is needed when MARGIN_LOW begins (Table 17.2). With no spare for a carrying engine's test the tests are suspended (R254). A plan that R54 does not admit is dropped, and its trigger is served again. -/
def Dev.planComplete (d : Dev) : Dev :=
  match d.pace.building with
  | none => d
  | some m =>
    if !d.ctl.running || m ≤ d.ctl.cycle then d
    else if !d.planAdmitted (d.makePlan m).1 (d.makePlan m).2 then { d with pace := { d.pace with building := none, trigger := true, lateServed := false } }
    else
      let r := d.makePlan m
      let enter := r.2 && !d.pace.marginLow
      let refused := d.pace.testAsk.isSome && d.pace.returnAsk.isNone && r.1.test.isNone && (List.range 18).all (fun e => d.role e ≠ 1)
      let p := { d.pace with building := none, done := some r.1, carry := [], unshed := [], testAsk := if d.pace.returnAsk.isSome then d.pace.testAsk else none, returnAsk := none,
                             marginLow := d.pace.marginLow || r.2, marginEntries := if enter then incSat 16 d.pace.marginEntries else d.pace.marginEntries,
                             suspended := d.pace.suspended || refused }
      let stop := enter && (match d.tru.logic with | some l => l.block ≤ 0x11 | none => false)
      Dev.emits { d with pace := p, tru := if stop then { d.tru with stops := d.tru.stops ++ [(3, false)] } else d.tru }
        ((if enter then [evM srcPac eMARGIN_LOW_ENTER] else []) ++ (if refused && !d.pace.suspended then [evM srcPac eSELFTEST_SUSPENDED] else []))

/-- PACE_PLAN_COMPLETE. -/
def execPacePlanComplete (s : State) : Host.Outcome State Fault Refusal := s.act Dev.planComplete

/-- PLAN_PERIOD_EXPIRY: PLAN_PERIOD has elapsed since the last plan took effect (R243). -/
def execPlanPeriodExpiry (s : State) : Host.Outcome State Fault Refusal :=
  s.does (fun d => if d.ctl.running then { d with pace := { d.pace with trigger := true } } else d)

/-- The plan in force meets R54 at the corner. -/
def Dev.meetsCorner (d : Dev) : Bool :=
  let seff := d.planIndex false d.pace.plan.roles
  let tp := d.toPlace
  meets seff (d.bgCost seff) (carriersOf d.pace.plan.roles) d.budget tp.1 && tp.2.isEmpty

/-- MARGIN_LOW_EXIT: a plan that meets R54 at the corner has stayed in force for MARGIN_EXIT_TIME (R258). -/
def execMarginLowExit (s : State) : Host.Outcome State Fault Refusal :=
  s.act (fun d => if d.pace.marginLow && d.meetsCorner then Dev.emit { d with pace := { d.pace with marginLow := false } } (evM srcPac eMARGIN_LOW_EXIT) else d)

/-! ## A plan comes into force -/

/-- The words of a slot go with it to its new engine (R227, R249): both banks and the parameter block. -/
def Engine.receive (g src : Engine) (slot t : Nat) (sl : Slot) : Engine :=
  { g with
    xm := putWords g.xm (128 * t) (wordsAt src.xm (128 * slot) 128)
    ym := putWords g.ym (128 * t) (wordsAt src.ym (128 * slot) 128)
    slots := Tab.set g.slots t { axis := sl.axis, bank := sl.bank }
    migrations := incSat 32 g.migrations }

/-- An axis moves from one slot to another (Table 8.3): the old one keeps it as a shadow in this cycle, unless the engines hold different kernels (R251). -/
def Dev.moveSlot (d : Dev) (a e s f t : Nat) : Dev :=
  let ge := d.engine e
  let sl := Tab.getD ge.slots s { axis := a }
  let d := d.onEngine f (fun g => g.receive ge s t sl)
  d.onEngine e (fun g => { g with migrations := incSat 32 g.migrations,
                                  slots := if ge.version = (d.engine f).version && ge.role ≠ 4 then Tab.upd g.slots s (fun x => { x with shadow := true }) else Tab.del g.slots s })

/-- A background context moves whole (R225, R252). -/
def Dev.moveBackground (d : Dev) (e f : Nat) : Dev :=
  let ge := d.engine e
  (d.onEngine f (fun g => { g with bgDeclared := ge.bgDeclared, saveValid := ge.saveValid, xm := putWords g.xm 0x1800 (wordsAt ge.xm 0x1800 0x800) })).onEngine e
    (fun g => { g with bgDeclared := false, saveValid := false })

/-- The background tasks of an image that takes over: one on every carrying engine where it declares one, none otherwise; tasks that run already stay where they are. -/
def Dev.declareBg (d : Dev) (v : Nat) : Dev :=
  let has := decide (0 < Config.backgroundDecl v)
  let bg := if has then (if d.pace.plan.bg.isEmpty then carriersOf d.pace.plan.roles else d.pace.plan.bg) else []
  { d with pace := { d.pace with plan := { d.pace.plan with bg := bg } }, engines := d.engines.mapIdx (fun e g => { g with bgDeclared := bg.contains e }) }

/-- The background tasks at the engines that a plan names. -/
def Dev.moveBackgrounds (d : Dev) (old new : List Nat) : Dev :=
  (old.zip new).foldl (fun (d : Dev) x => if x.1 = x.2 then d else d.moveBackground x.1 x.2) d

/-- The phases that a plan names are in force. -/
def Dev.phaseAll (d : Dev) (ps : List (Nat × Nat)) : Dev :=
  d.carryAll (ps.map (fun x => (x.1, if x.1 / 16777216 = 1 then pAXIS_PHASE else pST_STEP_PHASE, (x.2 : Int))))

/-- An axis is shed (R256): PACE_SHED latches, and from the next frame on the drive gets torque 0 with its enable clear; the command of this cycle has been packed, and
where it is speculative the correction retracts it (R90). -/
def Dev.shedAxis (d : Dev) (a : Nat) : Dev :=
  match d.axis? a with
  | none => d
  | some ax =>
    if ax.shed then d
    else
      let d := d.onAxis a (fun ax => { ax with shed := true, cand := none, w := ax.w.raise fPACE_SHED 3, held := fPACE_SHED :: ax.held })
      let d := d.retract a 3
      let d := { d with pace := { d.pace with shedCnt := incSat 16 d.pace.shedCnt }, engines := d.engines.map (fun (g : Engine) => { g with slots := g.slots.filter (fun s => s.2.axis ≠ a) }) }
      d.emits [evC (srcAxis a) eAXIS_SHED, condEvent (srcAxis a) fPACE_SHED 3 (ax.w.raise fPACE_SHED 3).sup.state]

/-- One axis under a plan: placed for the first time, moved, or unchanged; a move between different kernels switches the axis's kernel (R544, R545). -/
def Dev.planAxis (d : Dev) (old : Tab (Nat × Nat)) (a : Nat) (e : Nat × Nat) : Dev :=
  match Tab.find old a with
  | none =>
    let d := d.onEngine e.1 (fun g => { g with slots := Tab.set g.slots e.2 { axis := a } })
    d.onAxis a (fun ax => { ax with engine := e.1, shed := false })
  | some o =>
    if o = e then d
    else
      let old := (d.engine o.1).version
      let new := (d.engine e.1).version
      let d := (d.moveSlot a o.1 o.2 e.1 e.2).onAxis a (fun ax => { ax with engine := e.1, migrating := true })
      if old = new then d
      else ((d.onAxis a (fun ax => { ax with kernelChanged := true })).retract a 1).emit (evM srcMgc eKERNEL_SWITCHED (leBytes 2 a ++ leBytes 4 (new % 2 ^ 32)))

/-- The pace plan of Meridian `n` takes effect whole (R15, R51). -/
def Dev.planInForce (d : Dev) (p : PacePlan) : Dev :=
  let old := d.pace.plan.place
  let d := (d.phaseAll p.phases).carryAll p.carries
  let d := (p.carries.filter (fun c => c.1 / 16777216 = 1)).foldl (fun (d : Dev) c => d.retract (c.1 % 16777216) 1) d
  let d := p.place.foldl (fun d x => d.planAxis old x.1 x.2) d
  let d := d.moveBackgrounds d.pace.plan.bg p.bg
  let d := match p.test with
    | some (e, f) => d.onEngine e (fun g => { g with hadSlots := f.isSome })
    | none => d
  let turned := d.pace.plan.roles ≠ p.roles
  let d := { d with
    engines := d.engines.zipIdx.map (fun (g : Engine × Nat) => { g.1 with role := p.roles.getD g.2 1 })
    pace := { d.pace with plan := p, done := none, trigger := d.pace.trigger || turned, latePending := d.pace.latePending && !d.pace.lateServed, lateServed := false,
                          firstPlan := if d.pace.firstPlan.isNone then some p.cycle else d.pace.firstPlan } }
  let d := p.shed.foldl Dev.shedAxis d
  let d := if d.runAhead then { d with ctl := { d.ctl with tapply := d.tApplyOf true } } else d
  { d with motion := { d.motion with axes := Tab.mapAll d.motion.axes (fun _ ax => { ax with shadowed := p.roles.getD ax.engine 1 = 2 }) } }

/-- The plan moves an axis to a suspect engine (R250); the return of a tested engine is no such move (DESIGN CHOICE, log 56). -/
def Dev.movesToSuspect (d : Dev) (p : PacePlan) : Bool :=
  p.back.isNone && p.place.any (fun x => d.pace.suspects.contains x.2.1 && (match Tab.find d.pace.plan.place x.1 with | some o => o.1 ≠ x.2.1 | none => true))

/-- A plan is discarded (R15, R243, R250): what it was to carry and its trigger are served by the next plan. -/
def Dev.discardPlan (d : Dev) (p : PacePlan) : Dev :=
  let keep := p.carries.filter (fun c => !d.pace.carry.any (fun n => n.1 = c.1 && n.2.1 = c.2.1))
  let back := (p.place.map (fun x => x.1)).filter (fun a => (d.axis a).shed && !d.pace.unshed.contains a)
  let low := Dev.emit { d with pace := { d.pace with building := none, done := none, trigger := true, lateServed := false, discarded := incSat 32 d.pace.discarded,
                                                     carry := keep ++ d.pace.carry, unshed := back ++ d.pace.unshed } } (evM srcPac ePLAN_DISCARDED)
  { low with pace := { low.pace with testAsk := if low.pace.testAsk.isSome then low.pace.testAsk else p.test.map (fun t => t.1),
                                     returnAsk := if low.pace.returnAsk.isSome then low.pace.returnAsk else p.back.map (fun t => t.1) } }

/-- The plan named for Meridian `n`: in force, or discarded when it is not complete, or when an engine has become suspect since (R15, R243, R250). -/
def Dev.planAt (d : Dev) (n : Nat) : Dev :=
  match d.pace.done, d.pace.building with
  | some p, _ => if p.cycle ≤ n then (if d.movesToSuspect p then d.discardPlan p else d.planInForce p) else d
  | none, some m => if m ≤ n then d.discardPlan {} else d
  | none, none => d

/-! ## Seeing -/

/-- SEEING_WINDOW in base cycles. -/
def Dev.windowCycles (d : Dev) : Nat := max 1 (ceilDiv (d.prm pSEEING_WINDOW * 1000000) d.tcyc)

/-- An engine's index at a Meridian, from the pace record of the Plate before (R235 to R237). -/
def Engine.seen (g : Engine) (window guard : Nat) : Engine :=
  let s := seeingOf g.probe
  let below := 0 < g.passes && g.obsMax * 100 < s * 95
  let run := if g.passes = 0 then g.mismPasses else if below then g.mismPasses + g.passes else 0
  let last := if g.passes = 0 then g.obsLast else some g.obsMax
  let i := if g.mismatch then min s (last.getD s) else s
  let w := (i :: g.window).take window
  { g with seeing := i, window := w, sPlan := sPlanOf w guard, mismPasses := run, obsLast := last }

/-- The hour's sums of SEEING(e) and of S_REF(e, V, T) at the voltage read back and the local sensor, one term a base cycle (R239). -/
def Dev.seeHour (d : Dev) : Dev :=
  { d with engines := d.engines.zipIdx.map (fun (g : Engine × Nat) =>
      { g.1 with seeSum := g.1.seeSum + g.1.seeing, refSum := g.1.refSum + sRef g.2 d.pace.vddRead (d.pace.temps.getD (localSensor g.2) 0) }) }

/-- Loads of the engines in use against the budget. -/
def Dev.overloaded (d : Dev) : List Nat :=
  let seff := d.planIndex d.pace.marginLow d.pace.plan.roles
  let ps := d.toPlace.1
  (carriersOf d.pace.plan.roles).filter (fun e => d.budget < loadOf ps seff (d.bgCost seff) e)

/-- Every engine's index is updated; a crossing of the budget asks for a plan (R235, R243); the initial voltage hold ends (R246). -/
def Dev.seeAll (d : Dev) : Dev :=
  let before := d.overloaded
  let d := { d with engines := d.engines.map (fun (g : Engine) => g.seen d.windowCycles (d.prm pSEEING_GUARD)) }.seeHour
  let crossed := d.overloaded ≠ before
  let seff := d.planIndex d.pace.marginLow d.pace.plan.roles
  let ps := d.toPlace.1
  let bg := d.bgCost seff
  let d := { d with engines := d.engines.zipIdx.map (fun (g : Engine × Nat) => { g.1 with loadPred := ceilNat (loadOf ps seff bg g.2) }) }
  let held := d.pace.avsHold && !(match d.pace.firstPlan with | some c => decide (c + d.windowCycles ≤ d.ctl.cycle) | none => false)
  { d with pace := { d.pace with trigger := d.pace.trigger || crossed, avsHold := held } }

/-- SEEING_MISMATCH: passes of at least 1,000 in consecutive cycles stay below 0.95 of the probe's index (R236). -/
def execSeeingMismatch (engine : Nat) (s : State) : Host.Outcome State Fault Refusal :=
  s.act (fun d =>
    let g := d.engine engine
    if 1000 ≤ g.mismPasses && !g.mismatch then (d.onEngine engine (fun g => { g with mismatch := true })).emit (evM srcPac eSEEING_MISMATCH (leBytes 1 engine)) else d)

/-! ## Temperature, ageing, voltage -/

/-- A reading of the eight sensors, in 1/16 °C (R238, R565). -/
def Dev.tempRead (d : Dev) (ts : List Int) : Dev :=
  let warn := Params.val d.ctl.prm pTEMP_WARN * 16
  let lim := Params.val d.ctl.prm pTHERM_LIMIT * 16
  let t (i : Nat) : Int := ts.getD i 0
  let rises := (List.range 8).filter (fun i => !d.pace.warned.getD i false && warn ≤ t i)
  let warned := (List.range 8).map (fun i => warn ≤ t i || (d.pace.warned.getD i false && warn - 80 < t i))
  let hot := (List.range 8).any (fun i => lim ≤ t i)
  let cool := (List.range 8).all (fun i => t i ≤ lim - 80)
  let d1 := { d with pace := { d.pace with temps := (List.range 8).map t, warned := warned, thermN := hot || (d.pace.thermN && !cool) } }
  d1.emits (rises.map (fun i => evM srcPac eTEMP_WARN (leBytes 1 i ++ leBytes 2 (lowBits 16 (t i)))) ++ 
    (if hot && !d.pace.thermN then (((List.range 8).find? (fun i => lim ≤ t i)).toList).map (fun i => evM srcPac eTHERM_LIMIT (leBytes 1 i ++ leBytes 2 (lowBits 16 (t i)))) else []))

/-- TEMP_SENSOR_READ. -/
def execTempSensorRead (temps : List Int) (s : State) : Host.Outcome State Fault Refusal := s.act (fun d => d.tempRead temps)

/-- AGE_DRIFT of an engine in Q1.15 from the hour's sums (R239): the ratio of the means is that of the sums. Without a sample it stays. -/
def Engine.drift (g : Engine) : Int := if g.refSum = 0 then g.ageDrift else toFix 16 15 (1 - (g.seeSum : Rat) / g.refSum)

/-- V_FLOOR as the engines' AGE_DRIFT asks for it (R247). -/
def Dev.floors (d : Dev) : Dev :=
  { d with pace := { d.pace with vFloor := d.engines.zipIdx.foldl (fun (m : Nat) (g : Engine × Nat) => if ageEol g.1.ageDrift then max m (floorFor g.2 g.1.ageDrift) else m) 700 } }

/-- The hourly ageing update (R239, R247); a new hour begins. -/
def Dev.ageing (d0 : Dev) : Dev :=
  let d := Dev.floors { d0 with engines := d0.engines.map (fun (g : Engine) => { g with ageDrift := g.drift, seeSum := 0, refSum := 0 }) }
  let of (f : Int → Bool) : List Nat := (d.engines.zipIdx.filter (fun (g : Engine × Nat) => f g.1.ageDrift)).map (fun g => g.2)
  d.emits ((of (fun a => f32ToRat (d.prm pAGE_WARN) ≤ fix 15 a)).map (fun e => evM srcPac eAGEING_WARN (leBytes 1 e)) ++
    (of ageEol).map (fun e => evM srcPac eAGEING_LIMIT (leBytes 1 e)))

/-- AGEING_UPDATE: an hour of operating seconds has passed, from `since` to `opsec` (R239). -/
def execAgeingUpdate (since opsec : Nat) (s : State) : Host.Outcome State Fault Refusal := s.act (fun d => if since + 3600 ≤ opsec then d.ageing else d)

/-- The next VDD_CORE target (R246, R247). -/
def Dev.nextTarget (d : Dev) : Nat :=
  let use := d.engines.zipIdx.filter (fun g => d.role g.2 = 0 || d.role g.2 = 2)
  let base := sCorner + d.prm pSEEING_GUARD
  let t := d.pace.vddTarget
  if d.prm pVOLT_POLICY = 0 then max d.pace.vFloor (min 860 (d.prm pVOLT_FIXED))
  else if t < d.pace.vFloor || d.pace.marginLow || use.any (fun g => g.1.sPlan < base) then min 860 (t + 5)
  else if use.all (fun g => base + d.prm pAVS_HYST ≤ g.1.sPlan) && d.pace.vFloor < t then t - 5
  else t

/-- An AVSBus transaction under R11: a failure repeated at once is transient, one that fails again stops the PAC's writing (R248). -/
def Dev.avsFailed (d : Dev) (again : Bool) : Dev :=
  if again then { d with pace := { d.pace with avsTransient := incSat 32 d.pace.avsTransient } }
  else
    Dev.emit { d with pace := { d.pace with avsFault := true, avsLasting := incSat 16 d.pace.avsLasting },
                      ctl := { d.ctl with prm := Tab.set (Tab.set d.ctl.prm pVOLT_POLICY 0) pVOLT_FIXED (d.pace.vddTarget : Int) } } (evM srcPac eAVS_FAULT)

/-- The PAC writes VDD_CORE (R246). -/
def Dev.avsAdjust (d : Dev) (ok again : Bool) : Dev :=
  if d.pace.avsHold || d.pace.avsFault then d
  else
    let v := d.nextTarget
    let d := if ok then d else d.avsFailed again
    if ok || again then { d with pace := { d.pace with vddTarget := v } } else d

/-- AVS_ADJUST; `ok` and `again` are the outcomes of the transaction and of its repeat. -/
def execAvsAdjust (ok again : Bool) (s : State) : Host.Outcome State Fault Refusal := s.act (fun d => d.avsAdjust ok again)

/-- The PAC reads VDD_CORE back (R248). -/
def Dev.avsReadback (d : Dev) (mv : Nat) (ok again : Bool) : Dev :=
  if d.pace.avsFault then d
  else
    let d := if ok then d else d.avsFailed again
    if ok || again then
      let d1 := { d with pace := { d.pace with vddRead := mv } }
      if mv + 10 < d.pace.vddTarget || d.pace.vddTarget + 10 < mv then d1.emit (evM srcPac eAVS_MISMATCH (leBytes 2 d.pace.vddTarget ++ leBytes 2 mv)) else d1
    else d

/-- AVS_READBACK. -/
def execAvsReadback (mv : Nat) (ok again : Bool) (s : State) : Host.Outcome State Fault Refusal := s.act (fun d => d.avsReadback mv ok again)

end Sys2Proof.Machine
end

