-- ==== Sys2Proof/Machine/Checks.lean ====
section
/-! DEFINITION. Check words: the fabric CRC-16 of chapter 1, and the IEEE 802.3 CRC-32 of frames and images (R266, R326). -/

namespace Sys2Proof.Machine

/-- One bit step of a most-significant-bit-first CRC of `w` bits with polynomial `p`. -/
def crcBit (w p c : Nat) : Nat := if bit c (w - 1) then ((2 * c) % 2 ^ w) ^^^ p else 2 * c

/-- Eight bit steps. -/
def crcByte (w p c : Nat) (b : BitVec 8) : Nat :=
  let c0 := c ^^^ (b.toNat * 2 ^ (w - 8))
  crcBit w p (crcBit w p (crcBit w p (crcBit w p (crcBit w p (crcBit w p (crcBit w p (crcBit w p c0)))))))

/-- The fabric block's CRC-16: polynomial 0x1021, initial value 0xFFFF, most significant bit first, no final inversion. -/
def crc16 (bs : List (BitVec 8)) : Nat := foldNat (crcByte 16 0x1021) 0xFFFF bs

/-- One bit step of the reflected CRC-32. -/
def crc32Bit (c : Nat) : Nat := if c % 2 = 1 then (c / 2) ^^^ 0xEDB88320 else c / 2

/-- One byte of the reflected CRC-32. -/
def crc32Byte (c : Nat) (b : BitVec 8) : Nat :=
  let c0 := c ^^^ b.toNat
  crc32Bit (crc32Bit (crc32Bit (crc32Bit (crc32Bit (crc32Bit (crc32Bit (crc32Bit c0)))))))

/-- The CRC-32 of IEEE 802.3. -/
def crc32 (bs : List (BitVec 8)) : Nat := foldNat crc32Byte 0xFFFFFFFF bs ^^^ 0xFFFFFFFF

/-- A frame's last four bytes are the CRC-32 of the bytes before them (Table 9.1). -/
def fcsOk (f : List (BitVec 8)) : Bool := 64 ≤ f.length && leNat (f.drop (f.length - 4)) = crc32 (f.take (f.length - 4))

/-- A frame's bytes with their FCS. -/
def withFcs (f : List (BitVec 8)) : List (BitVec 8) := f ++ leBytes 4 (crc32 f)

end Sys2Proof.Machine
end

