-- ==== Sys2Proof/Machine/Crypto.lean ====
section
/-! DEFINITION. The published algorithms that the spec names: the Sarfo CRC (R477), CRC-16 of KEY_WRITE (R569), SHA-256 and HMAC-SHA-256 (R462, R490, R535;
FIPS 180-4, FIPS 198-1) and ECDSA on P-256 (R535; FIPS 186-5). -/

namespace Sys2Proof.Machine

/-- The Sarfo CRC over bytes 0 to 15 of a message (R477). -/
def crcSarfo (bs : List Byte) : Nat := bs.foldl (crcByte 32 0x741B8CD7) 0xFFFFFFFF

/-- The CRC-16 of R536 and R569: polynomial 0x1021, initial value 0xFFFF. -/
def crcKey (bs : List Byte) : Nat := bs.foldl (crcByte 16 0x1021) 0xFFFF

/-! ## SHA-256 -/

/-- The greatest `x` whose `e`-th power is at most `n`, found from bit `k - 1` down, starting at `x`. -/
def rootBelow (e n : Nat) : Nat → Nat → Nat
  | 0, x => x
  | k + 1, x => rootBelow e n k (if (x + 2 ^ k) ^ e ≤ n then x + 2 ^ k else x)

/-- The first 32 bits of the fraction of the `e`-th root of a prime below 2^12 (FIPS 180-4 takes its words from square and cube roots). -/
def rootWord (e q : Nat) : BitVec 32 := BitVec.ofNat 32 (rootBelow e (q * 2 ^ (32 * e)) 38 0)

/-- The primes below a bound of at most 19², the divisors tried being the primes up to 17. -/
def smallPrimes (bound : Nat) : List Nat :=
  (List.range bound).filter (fun q => 2 ≤ q ∧ [2, 3, 5, 7, 11, 13, 17].all (fun f => q = f || q % f ≠ 0))

/-- The 64 words that the rounds of SHA-256 add: from the cube roots of the first 64 primes (the last is 311). -/
def shaAdd : List (BitVec 32) := (smallPrimes 312).map (rootWord 3)

/-- The eight words SHA-256 begins with: from the square roots of the first eight primes. -/
def shaBegin : List (BitVec 32) := (smallPrimes 20).map (rootWord 2)

/-- The message padded to a multiple of 64 bytes. -/
def shaPad (m : List Byte) : List Byte :=
  m ++ (0x80 : Byte) :: (zeroBytes ((119 - m.length % 64) % 64) ++ beBytes 8 (8 * m.length))

/-- The three rotations (or, for `sh`, two rotations and a shift) of a word, added without carry. -/
def shaMix (r1 r2 r3 : Nat) (sh : Bool) (x : BitVec 32) : BitVec 32 :=
  x.rotateRight r1 ^^^ x.rotateRight r2 ^^^ (if sh then x >>> r3 else x.rotateRight r3)

/-- The word that follows the sixteen words of a window of the schedule, oldest first. -/
def shaNext (win : List (BitVec 32)) : BitVec 32 :=
  win.getD 0 0 + win.getD 9 0 + shaMix 7 18 3 true (win.getD 1 0) + shaMix 17 19 10 true (win.getD 14 0)

/-- The eight words a block works on. -/
structure ShaWork where
  a : BitVec 32
  b : BitVec 32
  c : BitVec 32
  d : BitVec 32
  e : BitVec 32
  f : BitVec 32
  g : BitVec 32
  h : BitVec 32
  deriving DecidableEq, Repr

/-- One round: the window's oldest word and the round's own word `k` go in, and the window moves on by one word. -/
def shaStep (st : ShaWork × List (BitVec 32)) (k : BitVec 32) : ShaWork × List (BitVec 32) :=
  let w := st.1
  let pick := w.g ^^^ (w.e &&& (w.f ^^^ w.g))
  let most := (w.a &&& (w.b ||| w.c)) ||| (w.b &&& w.c)
  let up := w.h + k + st.2.headD 0 + pick + shaMix 6 11 25 false w.e
  ({ a := up + most + shaMix 2 13 22 false w.a, b := w.a, c := w.b, d := w.c, e := w.d + up, f := w.e, g := w.f, h := w.g }, st.2.drop 1 ++ [shaNext st.2])

/-- The words of a run of bytes, big-endian, `n` of them. -/
def shaWords (n : Nat) (bs : List Byte) : List (BitVec 32) := (List.range n).map (fun i => BitVec.ofNat 32 (beNat ((bs.drop (4 * i)).take 4)))

/-- One block of 64 bytes into the running words. -/
def shaBlock (h : List (BitVec 32)) (blk : List Byte) : List (BitVec 32) :=
  let g (i : Nat) := h.getD i 0
  let w := (shaAdd.foldl shaStep ({ a := g 0, b := g 1, c := g 2, d := g 3, e := g 4, f := g 5, g := g 6, h := g 7 }, shaWords 16 blk)).1
  [g 0 + w.a, g 1 + w.b, g 2 + w.c, g 3 + w.d, g 4 + w.e, g 5 + w.f, g 6 + w.g, g 7 + w.h]

/-- SHA-256 of a byte string, 32 bytes. -/
def sha256 (m : List Byte) : List Byte :=
  let p := shaPad m
  let h := (List.range (p.length / 64)).foldl (fun h i => shaBlock h ((p.drop (64 * i)).take 64)) shaBegin
  (h.map (fun x => beBytes 4 x.toNat)).flatten

/-- HMAC-SHA-256 (R462, R490). -/
def hmac (key msg : List Byte) : List Byte :=
  let k0 := if 64 < key.length then sha256 key else key
  let k := k0 ++ zeroBytes (64 - k0.length)
  sha256 (k.map (· ^^^ 0x5c) ++ sha256 (k.map (· ^^^ 0x36) ++ msg))

/-! ## ECDSA on P-256 -/

/-- The field prime of P-256. -/
abbrev p256p : Nat := 0xffffffff00000001000000000000000000000000ffffffffffffffffffffffff
/-- The order of the base point. -/
abbrev p256n : Nat := 0xffffffff00000000ffffffffffffffffbce6faada7179e84f3b9cac2fc632551
/-- The curve coefficient b. -/
abbrev p256b : Nat := 0x5ac635d8aa3a93e7b3ebbd55769886bc651d06b0cc53b0f63bce3c3e27d2604b
/-- The base point's x. -/
abbrev p256gx : Nat := 0x6b17d1f2e12c4247f8bce6e563a440f277037d812deb33a0f4a13945d898c296
/-- The base point's y. -/
abbrev p256gy : Nat := 0x4fe342e2fe1a7f9b8ee7eb4a7c0f9e162bce33576b315ececbb6406837bf51f5

/-- Modular power by squaring, on the low `k` bits of the exponent. -/
def powMod (m : Nat) : Nat → Nat → Nat → Nat
  | 0, _, _ => 1 % m
  | k + 1, b, e => let r := powMod m k (b * b % m) (e / 2); if e % 2 = 1 then b * r % m else r

/-- The inverse modulo a prime of 256 bits. -/
def invMod (m x : Nat) : Nat := powMod m 256 (x % m) (m - 2)

/-- A point of P-256 other than infinity, as the fractions x / z² and y / z³. -/
structure EcPoint where
  x : Nat
  y : Nat
  z : Nat
  deriving DecidableEq, Repr

/-- A difference modulo the field prime. -/
def ecSub (a b : Nat) : Nat := (a + (p256p - b % p256p)) % p256p

/-- Twice a point. -/
def ecTwice (p : EcPoint) : EcPoint :=
  let yy := p.y * p.y % p256p
  let zz := p.z * p.z % p256p
  let s := 4 * p.x * yy % p256p
  let t := 3 * ecSub p.x zz * (p.x + zz) % p256p
  let x := ecSub (t * t) (2 * s)
  { x := x, y := ecSub (t * ecSub s x) (8 * yy * yy), z := 2 * p.y * p.z % p256p }

/-- Addition on P-256; `none` is the point at infinity. No point of the curve has y = 0. -/
def ecAdd (a b : Option EcPoint) : Option EcPoint :=
  match a, b with
  | none, q => q
  | p, none => p
  | some p, some q =>
    let pz := p.z * p.z % p256p
    let qz := q.z * q.z % p256p
    let u := p.x * qz % p256p
    let s := p.y * qz * q.z % p256p
    let h := ecSub (q.x * pz) u
    let r := ecSub (q.y * pz * p.z) s
    if h = 0 then (if r = 0 then some (ecTwice p) else none)
    else
      let hh := h * h % p256p
      let x := ecSub (r * r) (h * hh + 2 * u * hh)
      some { x := x, y := ecSub (r * ecSub (u * hh) x) (s * h * hh), z := h * p.z * q.z % p256p }

/-- Scalar multiplication over the low `k` bits of `e`. -/
def ecMul : Nat → Nat → EcPoint → Option EcPoint
  | 0, _, _ => none
  | k + 1, e, p => let r := ecMul k (e / 2) (ecTwice p); if e % 2 = 1 then ecAdd (some p) r else r

/-- ECDSA verification with SHA-256 on P-256 (FIPS 186-5). -/
def ecdsaOk (msg pub sig : List Byte) : Bool :=
  let x := beNat (pub.take 32)
  let y := beNat (pub.drop 32)
  let r := beNat (sig.take 32)
  let s := beNat (sig.drop 32)
  let onCurve := decide (x < p256p ∧ y < p256p) && y * y % p256p = (x * x % p256p * x + (p256p - 3) * x + p256b) % p256p
  if !(onCurve && decide (1 ≤ r ∧ r < p256n ∧ 1 ≤ s ∧ s < p256n)) then false else
    let e := beNat (sha256 msg)
    let w := invMod p256n s
    match ecAdd (ecMul 256 (e * w % p256n) { x := p256gx, y := p256gy, z := 1 }) (ecMul 256 (r * w % p256n) { x := x, y := y, z := 1 }) with
    | some q => q.x * invMod p256p (q.z * q.z) % p256p % p256n = r
    | none => false

end Sys2Proof.Machine
end

