-- ==== Sys2Proof/Machine/Island.lean ====
section
/-! DEFINITION. The Safety Island (chapter 16): configuration block, inputs, functions, Sarfo messages, connections, outputs, diagnostics and status. -/

namespace Sys2Proof.Machine

/-! ## The configuration block (R489) -/

/-- The bytes that the header's counts give the block. -/
def siBlockLen (b : List Byte) : Nat := 160 + 16 * (fieldLE b 10 1 + fieldLE b 4 2 + fieldLE b 6 2)

/-- The block read (Tables 16.9 to 16.13). -/
def siParse (b : List Byte) : SiConf :=
  let nf := fieldLE b 10 1
  let nc := fieldLE b 4 2
  let fo (i : Nat) := 160 + 16 * i
  let co (i : Nat) := fo nf + 16 * i
  let mo (i : Nat) := co nc + 16 * i
  { bytes := b, crc := crc32 b, ver := fieldLE b 2 2, tpPeriod := fieldLE b 8 2, outTest := fieldLE b 11 1,
    outGroups := (List.range 4).map (fun i => fieldLE b (12 + 2 * i) 2),
    pairs := (List.range 16).map (fun k =>
      let o := 32 + 8 * k
      { contact := fieldLE b o 1, tpA := fieldLE b (o + 1) 1, tpB := fieldLE b (o + 2) 1, filter := fieldLE b (o + 4) 2, disc := fieldLE b (o + 6) 2 }),
    funcs := (List.range nf).map (fun i =>
      let o := fo i
      { type := fieldLE b o 1, mode := fieldLE b (o + 1) 1, src := fieldLE b (o + 2) 2, src2 := fieldLE b (o + 4) 2, resetPair := fieldLE b (o + 6) 1,
        action := fieldLE b (o + 7) 1, groups := fieldLE b (o + 8) 2, slsDelay := fieldLE b (o + 12) 4 }),
    conns := (List.range nc).map (fun i =>
      let o := co i
      { id := fieldLE b o 4, seg := fieldLE b (o + 4) 1, pos := fieldLE b (o + 5) 1, node := fieldLE b (o + 6) 1, fbOuts := fieldLE b (o + 7) 1,
        wd := fieldLE b (o + 8) 4, stoFb := fieldLE b (o + 12) 4 }),
    maps := (List.range (fieldLE b 6 2)).map (fun i =>
      let o := mo i
      { conn := fieldLE b o 2, chan := fieldLE b (o + 2) 1, kind := fieldLE b (o + 3) 1, axis := fieldLE b (o + 4) 2, groups := fieldLE b (o + 6) 2,
        limVel := fieldLES b (o + 8) 8 }) }

/-- Entry `k` of the pairs. -/
def SiConf.pair (c : SiConf) (k : Nat) : SiPair := c.pairs.getD k {}

/-- The number of connections of a segment: SO_CNT and SI_CNT (R475). -/
def SiConf.count (c : SiConf) (seg : Nat) : Nat := (c.conns.filter (fun x => x.seg = seg)).length

/-- A function keeps Tables 16.3 and 16.11. -/
def SiFunc.ok (c : SiConf) (f : SiFunc) : Bool :=
  let remote := bit f.src 15
  let p := c.pair (f.src % 16)
  let used := p.contact ≠ 0
  let srcOk := if remote then f.src2 = 0 && c.conns.any (fun x => 64 * x.seg + x.pos = bits f.src 14 4) else decide (f.src < 16) && used
  let mode := match f.type with
    | 1 => decide (f.mode = 1 ∨ f.mode = 2)
    | 2 | 4 => decide (f.mode ≤ 2)
    | 3 => f.mode = 0
    | _ => f.mode = 0
  let shape := match f.type with
    | 1 | 2 => srcOk && f.src2 = 0
    | 3 => !remote && srcOk && decide (f.src2 < 16) && f.src2 ≠ f.src && p.contact = 2 && (c.pair f.src2).contact = 2
    | 4 => !remote && srcOk && f.src2 = 0 && p.contact = 1 && p.tpA = 255 && p.tpB = 255
    | 5 => !remote && srcOk && f.src2 = 0
    | _ => false
  let reset := if f.mode = 2 then c.funcs.any (fun g => g.type = 5 && g.src = f.resetPair) else true
  mode && shape && reset && decide (f.action ≤ 1) && (f.action = 0 || decide (1000 ≤ f.slsDelay ∧ f.slsDelay ≤ 60000000))

/-- The status that a block gets (R475, R488, R489): `tcyc` is T_CYC, `standby` MISS_TAKEOVER where a standby head is on the ring. -/
def siCheck (b : List Byte) (tcyc : Nat) (standby : Option Nat) : Nat :=
  let c := siParse b
  let nf := fieldLE b 10 1
  let reserved := fieldLE b 20 8 = 0 && fieldLE b 28 4 = 0 && decide (c.outTest < 16) && (List.range 16).all (fun k => fieldLE b (35 + 8 * k) 1 = 0) &&
    (List.range nf).all (fun i => fieldLE b (170 + 16 * i) 2 = 0)
  let header := fieldLE b 0 2 = 1 && decide (c.conns.length ≤ 512) && decide (c.maps.length ≤ 4096) && decide (nf ≤ 16) && decide (1 ≤ c.tpPeriod ∧ c.tpPeriod ≤ 1000)
  let pairs := c.pairs.all (fun p =>
    if p.contact = 0 then p.tpA = 0 && p.tpB = 0 && p.filter = 0 && p.disc = 0
    else decide (p.contact ≤ 2) && (decide (p.tpA < 8) || p.tpA = 255) && (decide (p.tpB < 8) || p.tpB = 255) && decide (250 ≤ p.filter ∧ p.filter ≤ 10000) &&
      decide (1 ≤ p.disc ∧ p.disc ≤ 1000) && (standby.isNone || (p.tpA = 255 && p.tpB = 255)))
  let wdLow := max 1000 (max (ceilDiv (3 * tcyc) 1000) (match standby with
    | some m => ceilDiv ((m + 2) * tcyc) 1000
    | none => 0))
  let conns := c.conns.all (fun x => x.id ≠ 0 && decide (x.seg < 8) && decide (x.pos < c.count x.seg) && decide (1 ≤ x.node ∧ x.node ≤ 96) && decide (x.fbOuts < 16) &&
      decide (wdLow ≤ x.wd ∧ x.wd ≤ 1000000) && decide (100 ≤ x.stoFb ∧ x.stoFb ≤ 1000000)) &&
    decide ((c.conns.map (·.id)).Nodup) && decide ((c.conns.map (fun x => (x.seg, x.pos))).Nodup) && (List.range 8).all (fun g => decide (c.count g ≤ 64))
  let maps := c.maps.all (fun m => c.conns.any (fun x => 64 * x.seg + x.pos = m.conn) && decide (m.chan < 8) && decide (m.kind ≤ 1) &&
    decide (m.axis < (if m.kind = 0 then 512 else 1024)) && decide (0 < m.limVel))
  if b.length < 160 || b.length < siBlockLen b then 0x0108
  else if !reserved then 0x0104
  else if header && pairs && conns && maps && c.funcs.all (SiFunc.ok c) then 0 else 0x0108

/-! ## Inputs and functions -/

/-- Channel A (`false`) or B (`true`) of pair `k` stands at its permit level (R469). -/
def Si.permit (s : Si) (c : SiConf) (k : Nat) (b : Bool) : Bool :=
  let l := bit s.level (2 * k + (if b then 1 else 0))
  if b && (c.pair k).contact = 2 then !l else l

/-- Both channels of pair `k` stand at the permit level. -/
def Si.both (s : Si) (c : SiConf) (k : Nat) : Bool := s.permit c k false && s.permit c k true

/-- Both channels of pair `k` stand at the demand level. -/
def Si.off (s : Si) (c : SiConf) (k : Nat) : Bool := !s.permit c k false && !s.permit c k true

/-- The state of connection `n`. -/
def Si.conn (s : Si) (n : Nat) : ConnSt := Tab.getD s.conns n {}

/-- The remote bit of a source (R473): 0 while its connection is not ACTIVE. -/
def Si.remote (s : Si) (src : Nat) : Bool :=
  let k := s.conn (bits src 14 4)
  k.state = 2 && bit k.siData (16 + src % 16)

/-- A channel or the remote bit of the function stands at demand. -/
def Si.atDemand (s : Si) (c : SiConf) (f : SiFunc) : Bool :=
  if bit f.src 15 then !s.remote f.src
  else !s.both c f.src || (f.type = 3 && !s.both c f.src2)

/-- The permit condition (Table 16.3). -/
def Si.permitOk (s : Si) (c : SiConf) (f : SiFunc) (st : FuncSt) : Bool :=
  !s.atDemand c f && (f.type ≠ 3 || (st.released && !st.late))

/-- The function's pair is in PAIR_FAULT. -/
def Si.inFault (s : Si) (f : SiFunc) : Bool :=
  !bit f.src 15 && (s.pairFault.contains f.src || (f.type = 3 && s.pairFault.contains f.src2))

/-- The two-hand memory: both buttons released; a late second button is forgotten when both are released (Table 16.3). -/
def Si.hands (s : Si) (c : SiConf) (f : SiFunc) (st : FuncSt) : FuncSt :=
  if f.type = 3 && s.off c f.src && s.off c f.src2 then { st with released := true, late := false } else st

/-- One evaluation of a function (Table 16.4): the new state, its events, and whether a demand began. -/
def Si.funcStep (s : Si) (c : SiConf) (i : Nat) (f : SiFunc) (st0 : FuncSt) : FuncSt × List Ev × Bool :=
  let st := s.hands c f st0
  if f.type = 5 then ({ st with state := 0 }, [], false) else
  match st.state with
  | 0 =>
    if s.inFault f then ({ st with state := 3 }, [], false)
    else if s.atDemand c f then ({ st with state := 1, released := false }, [evC srcSi eSAFE_DEMAND (leBytes 1 i ++ leBytes 2 f.groups)], true)
    else (st, [], false)
  | 1 =>
    if s.inFault f then ({ st with state := 3 }, [], false)
    else if s.permitOk c f st then
      if f.mode = 0 then ({ st with state := 0 }, [evC srcSi eSAFE_RELEASE (leBytes 1 i)], false) else ({ st with state := 2 }, [], false)
    else (st, [], false)
  | 2 =>
    if s.inFault f then ({ st with state := 3 }, [], false)
    else if s.atDemand c f then ({ st with state := 1 }, [], false) else (st, [], false)
  | _ => if s.inFault f then (st, [], false) else ({ st with state := 1 }, [], false)

/-- The stop groups demanded by functions of an action (`none`: of any). -/
def Si.groups (s : Si) (c : SiConf) (action : Option Nat) : Nat :=
  ((c.funcs.zip s.funcs).filter (fun e => e.2.state ≠ 0 && e.1.type ≠ 5 && (match action with
    | some a => e.1.action = a
    | none => true))).foldl (fun g e => g ||| e.1.groups) 0

/-! ## Channel permission, outputs and messages -/

/-- TQ_EN of a connection (R467, R483). -/
def Si.tqEn (s : Si) (c : SiConf) (n : Nat) : Nat :=
  let k := s.conn n
  if s.state ≠ 2 || k.state ≠ 2 || s.segBlocked.contains (n / 64) then 0 else
    let g := s.groups c (some 0)
    (List.range 8).foldl (fun m i =>
      let ms := c.maps.filter (fun x => x.conn = n && x.chan = i)
      if !ms.isEmpty && ms.all (fun x => x.groups &&& g = 0) && !bit k.sls i then m + 2 ^ i else m) 0

/-- SLS_REQ of a connection (R483). -/
def Si.slsReq (s : Si) (c : SiConf) (n : Nat) : Nat :=
  let g := s.groups c (some 1)
  (List.range 8).foldl (fun m i => if c.maps.any (fun x => x.conn = n && x.chan = i && x.groups &&& g ≠ 0) then m + 2 ^ i else m) 0

/-- The connection numbers of the configuration in force. -/
def SiConf.connNos (c : SiConf) : List Nat := c.conns.map (fun x => 64 * x.seg + x.pos)

/-- The SAFE_OUT outputs that are energised (R467, R472, R484), none at a standby (R493). -/
def Si.outMask (s : Si) : Nat :=
  match s.conf with
  | none => 0
  | some c =>
    if s.state ≠ 2 || s.wdExpired || s.held || s.standby then 0 else
      let g := s.groups c none
      (List.range 4).foldl (fun m i => if (c.outGroups.getD i 0) &&& g = 0 && !bit s.outLatch i then m + 2 ^ i else m) 0

/-- The channels of connection `n` whose TQ_EN has been 0 since the last Meridian; all of them while nothing is posted. -/
def Si.lows (s : Si) (n : Nat) : Nat := Tab.getD s.low n 255

/-- A Meridian has taken what was posted (R486): from here on only what stands at TQ_EN 0 counts. -/
def Si.taken (s : Si) : Si := { s with low := s.posted.map (fun e => (e.1, 255 - e.2.1)) }

/-- The SI's decision is carried out: outputs, and what it posts to the control plane (R486). -/
def Si.settle (s : Si) : Si :=
  let o := s.outMask
  let p : Tab (Nat × Nat) := match s.conf with
    | some c => c.connNos.foldl (fun t n => Tab.set t n (s.tqEn c n, s.slsReq c n)) []
    | none => []
  { s with outs := o, fb := o, posted := p, low := p.map (fun e => (e.1, Tab.getD s.low e.1 0 ||| (255 - e.2.1))) }

/-- A Sarfo message (Table 16.5). -/
def sarfo (id seq flags : Nat) (data : Nat) : List Byte :=
  let b := leBytes 4 id ++ leBytes 2 seq ++ leBytes 2 flags ++ leBytes 8 data
  b ++ leBytes 4 (crcSarfo b)

/-- The next SO message of a connection (R476, R478). -/
def Si.soMessage (s : Si) (c : SiConf) (x : SiConn) : ConnSt :=
  let n := 64 * x.seg + x.pos
  let k := s.conn n
  let seq := (k.txSeq + 1) % 65536
  let data := s.tqEn c n + 256 * s.slsReq c n
  { k with txSeq := seq, soData := data, tx := sarfo x.id seq (flag (decide (k.state = 1)) 1 + flag (decide (s.state ≠ 2)) 2) data }

/-- The SI enters the state FAULT with a cause (Table 16.2). -/
def Si.fault (s : Si) (cause : Nat) : Si × List Ev :=
  if s.state = 3 || s.held then (s, []) else
    (Si.settle { s with state := 3, cause := cause }, [evC srcSi eSI_FAULT (leBytes 1 cause)])

/-- All functions are evaluated once. -/
def Si.evalAll (s : Si) (c : SiConf) : Si × List Ev :=
  if s.state ≠ 2 then (s, []) else
    let rs := (c.funcs.zip s.funcs).mapIdx (fun i e => s.funcStep c i e.1 e.2)
    let n := (rs.filter (fun r => r.2.2)).length
    ({ s with funcs := rs.map (fun r => r.1), demands := addSat 32 s.demands n }, (rs.map (fun r => r.2.1)).flatten)

/-- Channels latched off are released when no SLS function demands them any more (R485). -/
def Si.unlatch (s : Si) (c : SiConf) : Si :=
  { s with conns := Tab.mapAll s.conns (fun n k => { k with sls := k.sls &&& s.slsReq c n }) }

/-- One SI cycle of 25 µs (R466, R473, R478, R483). -/
def Si.cycle (s : Si) : Si × List Ev :=
  match s.conf with
  | none => (s, [])
  | some c =>
    if s.held || s.wdExpired then (s, []) else
      let r := s.evalAll c
      let s := (r.1.unlatch c).settle
      let conns := c.conns.foldl (fun t x => Tab.set t (64 * x.seg + x.pos) (s.soMessage c x)) s.conns
      let calm := decide (s.state = 2 ∧ s.outs = 0) && s.posted.all (fun e => e.2.1 = 0)
      ({ s with conns := conns, written := true, calm := if calm then s.calm + 1 else 0 }, r.2)

/-- The safe state of "Authority" (R490). -/
def Si.safeState (s : Si) : Bool := s.state = 0 || s.state = 1 || (s.state = 2 && decide (4000 ≤ s.calm))

/-- A filtered channel change is accepted (R469, R471, R473). -/
def Si.inputChange (s : Si) (n : Nat) (high : Bool) : Si × List Ev :=
  let s := { s with level := if high then setBit s.level n else clrBit s.level n }
  match s.conf with
  | none => (s, [])
  | some c =>
    let k := n / 2
    let s := if s.off c k then { s with pairFault := s.pairFault.filter (· ≠ k) } else s
    let r := s.evalAll c
    (r.1.settle, r.2)

/-- A pair takes a discrepancy or test-pulse fault (R471). -/
def Si.faultPair (s : Si) (k cause : Nat) : Si × List Ev :=
  if s.pairFault.contains k then (s, []) else
    let s := { s with pairFault := s.pairFault ++ [k], pairFaultCnt := incSat 16 s.pairFaultCnt }
    let e := [evC srcSi eSAFE_PAIR_FAULT (leBytes 1 k ++ leBytes 1 cause)]
    match s.conf with
    | none => (s, e)
    | some c =>
      let r := s.evalAll c
      (r.1.settle, e ++ r.2)

/-- DISC_TIME passes with the channels of pair `k` apart (R471). -/
def Si.discrepancy (s : Si) (k : Nat) : Si × List Ev :=
  match s.conf with
  | none => (s, [])
  | some c => if (c.pair k).contact ≠ 0 && s.permit c k false ≠ s.permit c k true then s.faultPair k 1 else (s, [])

/-- A test pulse of output `tp` ends; `highs` are the inputs that read high in their check window (R470). -/
def Si.testPulse (s : Si) (tp highs : Nat) : Si × List Ev :=
  match s.conf with
  | none => (s, [])
  | some c =>
    (List.range 16).foldl (fun (r : Si × List Ev) k =>
      let p := c.pair k
      if p.contact = 0 then r
      else if p.tpA = tp && bit highs (2 * k) then (let q := r.1.faultPair k 2; (q.1, r.2 ++ q.2))
      else if p.tpB = tp && bit highs (2 * k + 1) then (let q := r.1.faultPair k 3; (q.1, r.2 ++ q.2))
      else r) (s, [])

/-- The second button came more than 0.5 s after the first (Table 16.3). -/
def Si.twoHandLate (s : Si) (i : Nat) : Si × List Ev :=
  match s.conf with
  | none => (s, [])
  | some c =>
    match c.funcs[i]?, s.funcs[i]? with
    | some f, some st =>
      if s.state = 2 && f.type = 3 && st.state = 1 && !st.late then
        ({ s with funcs := s.funcs.set i { st with late := true, released := false } }, [evC srcSi eTWO_HAND_SYNC (leBytes 1 i)])
      else (s, [])
    | _, _ => (s, [])

/-- The functions that `sel` selects and that stand in AWAIT_RESET without a demand are reset (R474). -/
def Si.resetFuncs (s : Si) (sel : SiFunc → Bool) : Si × List Ev :=
  match s.conf with
  | none => (s, [])
  | some c =>
    if s.state ≠ 2 then (s, []) else
      let rs := (c.funcs.zip s.funcs).mapIdx (fun i e =>
        if sel e.1 && e.2.state = 2 && !s.atDemand c e.1 && !s.inFault e.1 then ({ e.2 with state := 0 }, [evC srcSi eSAFE_RELEASE (leBytes 1 i)]) else (e.2, []))
      (Si.settle { s with funcs := rs.map (fun r => r.1) }, (rs.map (fun r => r.2)).flatten)

/-- The falling edge of a reset input after `ms` milliseconds high (R474). -/
def Si.resetPulse (s : Si) (k ms : Nat) : Si × List Ev :=
  match s.conf with
  | none => (s, [])
  | some c =>
    if c.funcs.any (fun f => f.type = 5 && f.src = k) && decide (100 ≤ ms ∧ ms ≤ 5000) then s.resetFuncs (fun f => f.mode = 2 && f.resetPair = k) else (s, [])

/-- A connection enters STARTING (Table 16.7). -/
def ConnSt.start (k : ConnSt) : ConnSt := { k with state := 1, based := false, crcErr := 0, seqErr := 0, timeout := 0 }

/-- SAFE_RESET with target DEVICE (Table 16.2, R474, R481, R484). -/
def Si.safeReset (s : Si) : Si × List Ev :=
  if s.state = 0 || s.state = 3 then (s, []) else
    let s := { s with resets := incSat 32 s.resets, outLatch := 0, segBlocked := [], loopRun := List.replicate 8 0,
                      conns := Tab.mapAll s.conns (fun _ k => if k.state = 3 then k.start else k) }
    if s.state = 1 then
      match s.conf with
      | some c => (Si.settle { s with state := 2, calm := 0, funcs := c.funcs.map (fun f => { state := if f.type = 5 then 0 else 1 }) }, [])
      | none => (s, [])
    else s.resetFuncs (fun f => f.mode = 1)

/-- SAFE_RESET with a connection (R482). -/
def Si.connReset (s : Si) (n : Nat) : Si :=
  { s with resets := incSat 32 s.resets, conns := Tab.upd s.conns n (fun k => if k.state = 3 then k.start else k) }

/-- A configuration is loaded: SAFE, connections IDLE, functions in DEMAND (Table 16.2). -/
def Si.load (s : Si) (c : SiConf) : Si :=
  Si.settle { s with state := 1, conf := some c, last := none, pairFault := [], funcs := c.funcs.map (fun f => { state := if f.type = 5 then 0 else 1 }),
                     conns := c.connNos.foldl (fun t n => Tab.set t n {}) [], outLatch := 0, segBlocked := [], calm := 0, loopRun := List.replicate 8 0 }

/-- A configuration takes effect, with its event (R491). -/
def Si.apply (s : Si) (c : SiConf) : Si × List Ev :=
  ({ s.load c with pending := none }, [evC srcSi eSAFE_CONFIG_APPLIED (leBytes 2 c.ver ++ leBytes 4 c.crc)])

/-- A ring start of all segments (R467, R491): the pending configuration takes effect, otherwise SAFE and connections IDLE. -/
def Si.ringStart (s : Si) : Si × List Ev :=
  match s.pending with
  | some c => if s.state = 3 then (s, []) else s.apply c
  | none =>
    if s.state = 0 || s.state = 3 then (s, [])
    else (Si.settle { s with state := 1, calm := 0, conns := Tab.mapAll s.conns (fun _ k => { k with state := 0 }) }, [])

/-- A segment reaches RUN: its connections start (Table 16.7). -/
def Si.segRun (s : Si) (seg : Nat) : Si :=
  { s with conns := Tab.mapAll s.conns (fun n k => if n / 64 = seg && k.state = 0 then k.start else k) }

/-- A segment enters a state other than RUN or BROKEN: its connections are IDLE (Table 16.7). -/
def Si.segDown (s : Si) (seg : Nat) : Si :=
  Si.settle { s with conns := Tab.mapAll s.conns (fun n k => if n / 64 = seg then { k with state := 0 } else k) }

/-- The configuration entry of connection `n`. -/
def Si.entry (s : Si) (n : Nat) : Option SiConn := s.conf.bind (fun c => c.conns.find? (fun x => 64 * x.seg + x.pos = n))

/-- The SI checks a returned SI message (R478, R479, Table 16.7). -/
def Si.receive (s : Si) (n : Nat) (m : List Byte) : Si × List Ev :=
  match s.entry n with
  | none => (s, [])
  | some x =>
    let k := s.conn n
    let put (k : ConnSt) : Si := { s with conns := Tab.set s.conns n k }
    if k.state = 0 then (s, []) else
      let flags := fieldLE m 6 2
      let shape := m.length = 20 && crcSarfo (m.take 16) = fieldLE m 16 4 && fieldLE m 0 4 = x.id && bit flags 0 && flags / 8 = 0 && fieldLE m 12 4 = 0
      if !shape then (put { k with crcErr := incSat 16 k.crcErr }, []) else
        let seq := fieldLE m 4 2
        let d := (seq + 65536 - k.rxSeq) % 65536
        if k.state = 1 then
          if bit flags 1 then
            (put { k with state := 2, based := true, rx := m, rxSeq := seq, siData := fieldLE m 8 8 }, [evC (srcConn n) eCONN_ACTIVE (leBytes 4 x.id)])
          else (put { k with seqErr := incSat 16 k.seqErr }, [])
        else if decide (1 ≤ d ∧ d ≤ 32767) then (put { k with rx := m, rxSeq := seq, siData := fieldLE m 8 8 }, [])
        else if d = 0 && m = k.rx then (s, [])
        else (put { k with seqErr := incSat 16 k.seqErr }, [])

/-- WD_TIME passes without a valid message, or 1 s in STARTING (Table 16.7). -/
def Si.connTimeout (s : Si) (n : Nat) (starting : Bool) : Si × List Ev :=
  match s.entry n with
  | none => (s, [])
  | some x =>
    let k := s.conn n
    if k.state = (if starting then 1 else 2) then
      (Si.settle { s with conns := Tab.set s.conns n { k with state := 3, timeout := if starting then k.timeout else incSat 16 k.timeout } },
       [evC (srcConn n) eCONN_TIMEOUT (leBytes 4 x.id ++ leBytes 1 k.state)])
    else (s, [])

/-- STO_ACTIVE of a channel did not arrive within STO_FB_TIME, or fell, while TQ_EN is 0 (R484). -/
def Si.stoFault (s : Si) (n ch : Nat) : Si × List Ev :=
  match s.conf, s.entry n with
  | some c, some x =>
    if bit (s.tqEn c n) ch || bit (s.conn n).siData ch || !c.maps.any (fun m => m.conn = n && m.chan = ch) then (s, [])
    else (Si.settle { s with outLatch := s.outLatch ||| x.fbOuts, stoFbCnt := incSat 16 s.stoFbCnt }, [evC (srcConn n) eSTO_FB_FAULT (leBytes 4 x.id ++ leBytes 1 ch)])
  | _, _ => (s, [])

/-- SLS_OK of a channel is missing after SLS_DELAY, or falls (R485). -/
def Si.slsViolation (s : Si) (n ch : Nat) : Si × List Ev :=
  match s.conf, s.entry n with
  | some c, some x =>
    let k := s.conn n
    if bit (s.slsReq c n) ch && !bit k.siData (8 + ch) && !bit k.sls ch then
      (Si.settle { s with conns := Tab.set s.conns n { k with sls := setBit k.sls ch }, slsCnt := incSat 16 s.slsCnt },
       [evC (srcConn n) eSLS_VIOLATION (leBytes 4 x.id ++ leBytes 1 ch)])
    else (s, [])
  | _, _ => (s, [])

/-- The hardware safety watchdog expires (R466, R468). -/
def Si.watchdog (s : Si) : Si × List Ev :=
  let r := s.fault 5
  (Si.settle { r.1 with wdExpired := true }, r.2)

/-- The SO message that the SNU launches at a position (R468): twenty zero bytes when the watchdog has expired or nothing was written. -/
def Si.launchMsg (s : Si) (n : Nat) : List Byte :=
  let k := s.conn n
  if s.wdExpired || !s.written || k.tx.isEmpty || s.held then zeroBytes 20 else k.tx

/-- The launched messages of a segment are remembered for the loop comparison (R466). -/
def Si.launched (s : Si) (seg : Nat) : Si :=
  { s with conns := Tab.mapAll s.conns (fun n k => if n / 64 = seg then { k with launched := s.launchMsg n } else k) }

/-- The standby SI takes over (R493): each connection goes on ACTIVE with SEQ equal to the last one launched plus the `m + 1` Meridians since, with its own data. -/
def Si.takeOver (s : Si) (m : Nat) : Si :=
  match s.conf with
  | none => { s with standby := false }
  | some c =>
    let s1 := { s with standby := false, conns := Tab.mapAll s.conns (fun _ k => { k with state := 2, based := false, txSeq := (k.txSeq + m) % 65536 }) }
    Si.settle { s1 with written := true, conns := c.conns.foldl (fun (t : Tab ConnSt) x => Tab.set t (64 * x.seg + x.pos) (s1.soMessage c x)) s1.conns }

/-- A returned SO message set of a segment is compared with the one sent (R466); `bad` is the number of messages that differ. -/
def Si.loop (s : Si) (seg bad : Nat) : Si × List Ev :=
  if bad = 0 then ({ s with loopRun := s.loopRun.set seg 0 }, []) else
    let run := s.loopRun.getD seg 0 + 1
    let s := { s with loopRun := s.loopRun.set seg run, loopMismatch := addSat 32 s.loopMismatch bad }
    if run = 16 then (Si.settle { s with segBlocked := s.segBlocked ++ [seg] }, [evC srcSi eSO_LOOP_MISMATCH (leBytes 1 seg)]) else (s, [])

/-- The SI after a reset of PD_SAFE: NOCONFIG, everything else at rest (Table 16.2). -/
def Si.reset (s : Si) : Si :=
  { pending := none, conf := none, last := s.conf.orElse (fun _ => s.last), copy := s.copy, ecc := s.ecc, demands := s.demands, loopMismatch := s.loopMismatch, resets := s.resets,
    pairFaultCnt := s.pairFaultCnt, stoFbCnt := s.stoFbCnt, slsCnt := s.slsCnt }

/-- VDD_SAFE leaves its window (R466): held in reset, outputs de-energised. -/
def Si.hold (s : Si) : Si := { s.reset with held := true }

/-- The start-up test ends (R466, R467): failed into FAULT, passed into NOCONFIG or, with a stored configuration, SAFE. -/
def Si.startUp (s : Si) (pass : Bool) (stored : Option SiConf) : Si × List Ev :=
  let s := { s with held := false, restarting := false }
  if !pass then ({ s with state := 3 }, [evC srcSi eSI_FAULT (leBytes 1 s.cause)])
  else if s.state ≠ 0 then (s, [])
  else match stored with
    | some c => (s.load c, [])
    | none => (s, [])

/-! ## The stored copy in flash (Table 18.5; the layout of a copy is the model's, log 10): generation, length, CRC, block. -/

/-- Base of copy `k`. -/
def siCopyBase (k : Nat) : Nat := 0x00030000 + 0x20000 * k

/-- A stored copy, when it passes its CRC. -/
def siStoredAt (flash : Memory) (k : Nat) : Option (Nat × SiConf) :=
  let h := Memory.readList 0xFF flash (siCopyBase k) 12
  let len := fieldLE h 4 4
  if decide (74144 < len) then none else
    let b := Memory.readList 0xFF flash (siCopyBase k + 12) len
    if crc32 b = fieldLE h 8 4 then some (fieldLE h 0 4, siParse b) else none

/-- The newer valid copy. -/
def siStored (flash : Memory) : Option SiConf :=
  match siStoredAt flash 0, siStoredAt flash 1 with
  | some a, some b => if a.1 < b.1 then some b.2 else some a.2
  | some a, none => some a.2
  | none, some b => some b.2
  | none, none => none

/-- The SI persists a block, alternately into the two copies (R491, Table 18.5). -/
def siStore (flash : Memory) (copy : Nat) (c : SiConf) : Memory :=
  let base := siCopyBase (copy % 2)
  Memory.writeList 0xFF (Memory.clear flash base 0x20000) base (leBytes 4 copy ++ leBytes 4 c.bytes.length ++ leBytes 4 (crc32 c.bytes) ++ c.bytes)

/-! ## Status -/

/-- Table 16.14. -/
def Si.status (s : Si) (plate : Nat) : List Byte :=
  let c := s.conf.getD {}
  leBytes 8 plate ++ leBytes 1 s.state ++ leBytes 1 s.cause ++ leBytes 2 c.ver ++ leBytes 4 c.crc ++ leBytes 4 s.level ++ leBytes 2 (s.groups c none)
  ++ leBytes 1 (s.outs + 16 * s.fb) ++ leBytes 1 (flag s.safeState 0 + flag s.pending.isSome 1)
  ++ ((s.funcs.map (fun f => BitVec.ofNat 8 f.state)) ++ zeroBytes 16).take 16
  ++ leBytes 2 (s.conns.filter (fun e => e.2.state = 2)).length ++ leBytes 2 (s.conns.filter (fun e => e.2.state = 3)).length ++ zeroBytes 20

/-- Table 16.15. -/
def Si.connStatus (s : Si) (plate n : Nat) : List Byte :=
  let k := s.conn n
  let id := ((s.entry n).map (·.id)).getD 0
  leBytes 8 plate ++ leBytes 1 k.state ++ leBytes 1 (n / 64) ++ leBytes 1 (n % 64) ++ leBytes 1 0 ++ leBytes 4 id ++ leBytes 2 (fieldLE k.launched 4 2) ++ leBytes 2 k.rxSeq
  ++ leBytes 2 (fieldLE k.launched 8 2) ++ leBytes 2 (k.siData % 65536) ++ leBytes 2 k.crcErr ++ leBytes 2 k.seqErr ++ leBytes 2 k.timeout ++ leBytes 2 0

/-- The counters of Table 16.17, from device summary offset 0x800. -/
def Si.counters (s : Si) : List Byte :=
  leBytes 4 s.ecc ++ leBytes 4 s.demands ++ leBytes 4 s.loopMismatch ++ leBytes 4 s.resets ++ leBytes 2 s.pairFaultCnt ++ leBytes 2 s.stoFbCnt ++ leBytes 2 s.slsCnt

/-- SAFE_OFF of an axis at a Meridian (R486), `set` telling whether it stands: a mapped channel has TQ_EN 0, or had it since the last Meridian, at which SAFE_OFF was
clear; `none` when no channel maps it. -/
def Si.safeOff (s : Si) (kind axis : Nat) (set : Bool) : Option Bool :=
  match s.conf.orElse (fun _ => s.last) with
  | none => none
  | some c =>
    let ms := c.maps.filter (fun m => m.kind = kind && m.axis = axis)
    if ms.isEmpty then none else some (ms.any (fun m => !bit (Tab.getD s.posted m.conn (0, 0)).1 m.chan || (!set && bit (s.lows m.conn) m.chan)))

/-- LIM_VEL of an axis under LIMIT (R486): the smallest of its channels with SLS_REQ set. -/
def Si.limit (s : Si) (kind axis : Nat) : Option Int :=
  match s.conf with
  | none => none
  | some c =>
    ((c.maps.filter (fun m => m.kind = kind && m.axis = axis && bit (Tab.getD s.posted m.conn (0, 0)).2 m.chan)).map (·.limVel)).foldl
      (fun (b : Option Int) v => match b with
        | some x => some (min x v)
        | none => some v) none

/-- SAFE_STOP of the device or of a segment (R486): a configured channel has had TQ_EN 0 in this cycle. -/
def Si.safeStop (s : Si) (seg : Option Nat) : Bool :=
  match s.conf.orElse (fun _ => s.last) with
  | none => false
  | some c => c.maps.any (fun m => (match seg with
      | some g => m.conn / 64 = g
      | none => true) && bit (s.lows m.conn) m.chan)

end Sys2Proof.Machine
end

