-- ==== Sys2Proof/Machine/Ring.lean ====
section
/-! DEFINITION. Ngudra frames (R266 to R287), slots and Hold policy (R292 to R294, R314), the return of frames (R310, R313 to R320),
Collimation (R305 to R309) and the Frame Map's acceptance (R288, R289, R575). -/

namespace Sys2Proof.Machine

/-! ### Frames -/

/-- Header field at offset `o` of `k` bytes, counted from the Ngudra header (Table 9.2). -/
def hdr (f : List Byte) (o k : Nat) : Nat := fieldLE f (14 + o) k

/-- KIND of a frame. -/
def frameKind (f : List Byte) : Nat := hdr f 2 1

/-- HOP of a frame. -/
def frameHop (f : List Byte) : Nat := hdr f 30 1

/-- The source address as a number, first byte first. -/
def frameSource (f : List Byte) : Nat := leNat ((f.drop 6).take 6)

/-- What a launch writes: cycle, launch instant in ns of the ring count, its era, source address and EtherType. -/
structure LaunchInfo where
  cycleLo : Nat
  launchNs : Nat
  era : Nat
  mac : Nat
  etype : Nat
  stat : Nat

/-- The Ngudra header (Table 9.2), with HOP 0. -/
def headerBytes (l : LaunchInfo) (seg kind len safeLen outO inO echoO spareO gen : Nat) : List Byte :=
  leBytes 1 1 ++ leBytes 1 seg ++ leBytes 1 kind ++ leBytes 1 l.era ++ leBytes 4 l.cycleLo ++ leBytes 4 l.launchNs ++ leBytes 2 len ++
  leBytes 2 32 ++ leBytes 2 l.stat ++ leBytes 2 safeLen ++ leBytes 2 outO ++ leBytes 2 inO ++ leBytes 2 echoO ++ leBytes 2 spareO ++
  leBytes 2 gen ++ leBytes 1 0 ++ leBytes 1 0

/-- Envelope around header and body (Table 9.1), with FCS. -/
def envelope (l : LaunchInfo) (seg : Nat) (body : List Byte) : List Byte :=
  withFcs ([3, 0x4E, 0x47, 0, 0, BitVec.ofNat 8 seg] ++ leBytes 6 l.mac ++ beBytes 2 l.etype ++ body)

/-- Safety area: SO messages, then SI positions as zeros (R273, R274). -/
def safetyArea (so : List (List Byte)) (siCnt : Nat) : List Byte :=
  leBytes 1 so.length ++ leBytes 1 siCnt ++ zeroBytes 2 ++ so.flatten ++ zeroBytes (20 * siCnt)

/-- The content of an output slot with DRIVE_EN or ENABLE clear (R310, R321): bit 0 of byte 4 in both kinds (Tables 6.1, 9.7). -/
def maskEnable (kind : Nat) (b : List Byte) : List Byte :=
  if kind = 0 || kind = 1 then putBytes b 4 (leBytes 1 (clrBit (fieldLE b 4 1) 0)) else b

/-- LENGTH of a frame whose content ends at `len`: a frame has at least 64 bytes, and LENGTH includes the padding (R266). -/
def padded (len : Nat) : Nat := max 46 len

/-- The cycle frame of a segment (R272): output slots placed by the Frame Map, everything else zero. -/
def cycleFrame (r : Ring) (seg : Nat) (l : LaunchInfo) (so : List (List Byte)) (siCnt : Nat) (mask : Bool) : List Byte :=
  let d := r.map.desc seg
  let sa := safetyArea so siCnt
  let h := headerBytes l seg 1 (padded d.length) sa.length d.outOfs d.inOfs d.echoOfs d.spareOfs (r.seg seg).mapGen
  let body := putBytes (putBytes (zeroBytes (padded d.length)) 0 h) 32 sa
  let body := r.map.entries.foldl (fun (b : List Byte) e =>
    if e.2.seg = seg && !e.2.input && e.2.kind ≠ 3 && (e.2.kind ≠ 4 || e.2.claimed) then
      let c := Tab.getD r.slots e.1 (zeroBytes e.2.len)
      putBytes b e.2.ofs (if mask then maskEnable e.2.kind c else c)
    else b) body
  envelope l seg body

/-- The correction frame of a segment (R284): one entry per CORR entry of the map. -/
def corrFrame (r : Ring) (seg : Nat) (l : LaunchInfo) : List Byte :=
  let d := r.map.desc seg
  let h := headerBytes l seg 2 (padded d.corrLength) 4 36 d.corrLength d.corrLength d.corrLength (r.seg seg).mapGen
  let body := putBytes (zeroBytes (padded d.corrLength)) 0 h
  let body := r.map.entries.foldl (fun (b : List Byte) e =>
    if e.2.seg = seg && e.2.kind = 3 then putBytes b e.2.ofs (leBytes 4 (lowBits 32 (Tab.getD r.corrs (e.2.target % 65536) 0))) else b) body
  envelope l seg body

/-- An acyclic frame (R286): service header at 36 and payload at 44, padded to 64 bytes (R266). -/
def acyclicFrame (l : LaunchInfo) (seg gen service dest seq : Nat) (payload : List Byte) : List Byte :=
  let len := padded (44 + payload.length)
  let h := headerBytes l seg 3 len 4 36 36 36 36 gen
  let body := h ++ zeroBytes 4 ++ leBytes 1 service ++ leBytes 1 dest ++ leBytes 2 seq ++ leBytes 2 payload.length ++ zeroBytes 2 ++ payload
  envelope l seg (body ++ zeroBytes (len - body.length))

/-- Service, destination and payload of an acyclic frame. -/
def service (f : List Byte) : Nat := hdr f 36 1
def serviceDest (f : List Byte) : Nat := hdr f 37 1

/-- A field of an acyclic frame at its offset from the Ngudra header (payload tables count so). -/
def pay (f : List Byte) (o k : Nat) : Nat := fieldLE f (14 + o) k

/-- The bytes of an acyclic frame at an offset from the Ngudra header. -/
def payBytes (f : List Byte) (o k : Nat) : List Byte := (f.drop (14 + o)).take k

/-- A byte time on the wire in tenths of ns (R308). -/
def byteTenths (mode : Nat) : Nat := if mode = 1 then 32 else 80

/-- Predicted return of a frame of `len` bytes, in ns after its launch: the segment's first-bit delay and the frame's own length (R50,
R308). -/
def returnNs (s : Segment) (cycLen len : Nat) : Nat :=
  s.tRing - ceilDiv ((cycLen + 18) * byteTenths s.linkMode) 10 + ceilDiv ((len + 8) * byteTenths s.linkMode) 10

/-! ### The test of a returned frame (R313) -/

/-- VERSION, SEGMENT, KIND, CYCLE_LO, MAP_GEN and LENGTH equal the values launched, the FCS is right, and HOP is `hop`. -/
def frameAccepted (launched f : List Byte) (hop : Nat) : Bool :=
  fcsOk f && hdr f 0 1 = hdr launched 0 1 && hdr f 1 1 = hdr launched 1 1 && hdr f 2 1 = hdr launched 2 1 && hdr f 4 4 = hdr launched 4 4 &&
  hdr f 28 2 = hdr launched 28 2 && hdr f 12 2 = hdr launched 12 2 && f.length = 18 + hdr f 12 2 && frameHop f = hop

/-- A valid cycle frame as another head sees it (R298, R331). -/
def validCycleFrame (f : List Byte) (seg : Nat) : Bool :=
  fcsOk f && frameKind f = 1 && hdr f 0 1 = 1 && hdr f 1 1 = seg && f.length = 18 + hdr f 12 2

/-! ### Slots (R292 to R294, R314) -/

/-- Number of valid input entries (NI of R293). -/
def FrameMap.inputs (m : FrameMap) : Nat := (m.entries.filter (fun e => e.2.input)).length

/-- Hold policy for an entry (R293). -/
def FrameMap.holds (m : FrameMap) (e : MapEntry) : Bool := m.inputs ≤ 2048 && !e.forceCount

/-- A slot's content and trailer are good (R314). -/
def slotGood (f : List Byte) (e : MapEntry) : Bool :=
  let t := hdr f (e.ofs + e.len) 2
  bit t 4 && !bit t 5 && t % 16 = hdr f 4 4 % 16

/-- A good slot (R294). -/
def SlotStat.good (s : SlotStat) (c : List Byte) (cycle : Nat) (hold : Bool) : SlotStat :=
  { missed := false, held := false, invalid := false, nodeInv := false, age := 0, missCnt := s.missCnt, seen := true, lastGood := cycle % 2 ^ 32,
    hold := if hold then some c else none, content := c }

/-- A missed slot under its policy (R294); `count` is clear where MISS_CNT does not increment (R321). -/
def SlotStat.miss (s : SlotStat) (e : MapEntry) (hold nodeInv count : Bool) : SlotStat :=
  let age := if s.seen then s.age + 1 else 255
  let mc := if count then incSat 32 s.missCnt else s.missCnt
  match s.hold with
  | some c =>
    if hold && age ≤ e.holdMax then { s with missed := true, held := true, invalid := false, nodeInv := nodeInv, age := age, missCnt := mc, content := c }
    else { s with missed := true, held := false, invalid := true, nodeInv := nodeInv, age := age, missCnt := mc, content := zeroBytes e.len }
  | none => { s with missed := true, held := false, invalid := true, nodeInv := nodeInv, age := age, missCnt := mc, content := zeroBytes e.len }

/-- The input entries of a segment judged on an accepted frame (R294, R314). -/
def Ring.judgeSlots (r : Ring) (seg : Nat) (f : List Byte) (cycle : Nat) : Ring :=
  { r with stats := r.map.entries.foldl (fun (t : Tab SlotStat) e =>
      if e.2.seg = seg && e.2.input then
        let s := Tab.getD t e.1 {}
        let h := r.map.holds e.2
        Tab.set t e.1 (if slotGood f e.2 then s.good (payBytes f e.2.ofs e.2.len) cycle h
          else s.miss e.2 h (bit (hdr f (e.2.ofs + e.2.len) 2) 5) true)
      else t) r.stats }

/-- Every input slot of a segment missed (R294, R313, R321). -/
def Ring.missSlots (r : Ring) (seg : Nat) (count : Bool) : Ring :=
  { r with stats := r.map.entries.foldl (fun (t : Tab SlotStat) e =>
      if e.2.seg = seg && e.2.input then Tab.set t e.1 ((Tab.getD t e.1 {}).miss e.2 (r.map.holds e.2) false count) else t) r.stats }

/-- The slot status record of an entry (Table 9.12). -/
def SlotStat.bytes (s : SlotStat) : List Byte :=
  leBytes 1 (flag s.missed 0 + flag s.held 1 + flag s.invalid 2 + flag s.nodeInv 3) ++ leBytes 1 (min 255 s.age) ++ zeroBytes 2 ++ leBytes 4 s.missCnt ++
  leBytes 4 s.lastGood ++ zeroBytes 4

/-! ### Nodes (R315, R316, R332) -/

/-- ARRIVE_DEV of an echo entry (Table 10.9). -/
def arriveDev (arrive launch headPs : Nat) : Int :=
  max (-32768) (min 32767 (wrapS 32 ((arrive : Int) - ((launch : Int) + ((headPs + 500) / 1000 : Nat)))))

/-- One node on an accepted frame (R315, R316, R349's ARRIVE_DEV). Answers the node, and events READY_LOW (1), NODE_RETURNED (2), NODE_LOST
(3). -/
def Node.onFrame (n : Node) (f : List Byte) (echoOfs pos guard lostLimit wrapPos : Nat) (standby : Bool) (beyond : Bool) : Node × List Nat :=
  let e := payBytes f (echoOfs + 8 * (pos - 1)) 8
  let absent := e.all (fun b => b = 0)
  if absent then
    let run := n.missRun + 1
    let n1 := { n with echoMissed := true, echoMissCnt := incSat 32 n.echoMissCnt, missRun := run, okRun := 0, wrapping := wrapPos = pos && wrapPos ≠ 0 }
    if n.state = 2 && lostLimit ≤ run then ({ n1 with state := 3, beyondBreak := n1.beyondBreak || beyond }, [3]) else (n1, [])
  else
    let m := fieldLES e 4 2
    let st := fieldLE e 6 1
    let dev := arriveDev (fieldLE e 0 4) (hdr f 8 4) (if standby then n.col.toDelay else n.col.headDelay)
    let ok := if bit st 1 then 0 else n.okRun + 1
    let n1 := { n with stat := st, margin := m, dev := dev, echoMissed := false, missRun := 0, okRun := ok, timeUnlocked := bit st 1,
                       wrapping := wrapPos = pos && wrapPos ≠ 0, beyondBreak := n.beyondBreak && beyond }
    let low := !n.readyLow && m < (guard : Int)
    let mr := if (guard : Int) + 250 ≤ m then n.marginRun + 1 else 0
    let n2 := if low then { n1 with readyLow := true, readyLowCnt := incSat 16 n.readyLowCnt, marginRun := 0 }
      else if n.readyLow && 1024 ≤ mr then { n1 with readyLow := false, marginRun := 0 } else { n1 with marginRun := mr }
    let ev := if low then [1] else []
    if (n.state = 1 || n.state = 3) && 64 ≤ ok then ({ n2 with state := 2, beyondBreak := false }, ev ++ (if n.state = 3 then [2] else [])) else (n2, ev)

/-- NODE_FLAGS (Table 10.10). -/
def Node.flags (n : Node) : Nat :=
  flag n.readyLow 0 + flag n.echoMissed 1 + flag n.timeUnlocked 2 + flag n.beyondBreak 3 + flag n.wrapping 4 + flag n.suspect 5 + flag n.joined 6 +
  flag n.head 7

/-- The node status record (Table 10.9). -/
def Node.bytes (n : Node) : List Byte :=
  leBytes 1 n.state ++ leBytes 1 n.stat ++ leBytes 2 (lowBits 16 n.margin) ++ leBytes 2 (lowBits 16 n.dev) ++ leBytes 2 n.flags ++
  leBytes 4 n.echoMissCnt ++ leBytes 2 n.readyLowCnt ++ leBytes 2 n.linkErrCnt

/-! ### Enumeration (R301, R302) -/

/-- The identity entry of position `p` of an ENUM frame (Table 10.2). -/
def enumIdent (f : List Byte) (p : Nat) : List Byte := payBytes f (48 + 32 * (p - 1)) 32

/-- An identity entry matches a position of the node list (R302): VENDOR_ID, PRODUCT, NODE_KIND, and CAPS with bit 1. -/
def identMatch (n : MapNode) (id : List Byte) : Bool :=
  fieldLE id 0 4 = n.vendor && fieldLE id 4 4 = n.product && fieldLE id 16 1 = n.kind && (fieldLE id 17 1) &&& n.caps = n.caps && bit (fieldLE id 17 1) 1

/-- The first position of a segment whose identity differs from the node list, 0 when the enumeration is accepted (R302). -/
def enumMismatch (m : FrameMap) (seg : Nat) (f : List Byte) : Nat :=
  match m.nodes.find? (fun n => n.seg = seg && !n.reserved && !identMatch n (enumIdent f n.pos)) with
  | some n => n.pos
  | none => 0

/-! ### Collimation (R305 to R309) -/

/-- Sum of `g i` for `i` below `j`, positions counted from 1. -/
def sumBelow (g : Nat → Rat) (lo j : Nat) : Rat := ((List.range j).filter (fun i => lo ≤ i && 1 ≤ i)).foldl (fun s i => s + g i) 0

/-- The Collimation of R306 and R309 from the means of 64 pairs, in ps: the entries of positions 1 to n, T0 and T0_TO. -/
def collimate (s : Segment) (n pairs : Nat) (standby : Bool) : Segment × Rat × Rat :=
  let k : Rat := if pairs = 0 then 1 else (pairs : Rat)
  let rt := (s.rtSum : Rat) / k
  let t0 := (s.t0Sum : Rat) / k
  let dF (j : Nat) : Rat := ((s.node j).col.dFwd * 1000 : Nat)
  let dR (j : Nat) : Rat := ((s.node j).col.dRev * 1000 : Nat)
  let dW (j : Nat) : Rat := ((s.node j).col.dWrap * 1000 : Nat)
  let fr (j : Nat) : Rat := let p := s.fSums.getD (j - 1) (0, 0); ((p.2 - p.1 : Int) : Rat) * 1000 / k
  let E (j : Nat) : Rat := if j = n then dW n else fr j + dR j
  let S (j : Nat) : Rat := sumBelow (fun i => dF i + dR i) 1 j
  let L (j : Nat) : Rat := (rt - E j - S j) / 2
  let head (j : Nat) : Rat := L j + sumBelow dF 1 j
  let to1 : Rat := (L n - L 1) + sumBelow dR 2 n
  let tod (j : Nat) : Rat := if j = 1 then to1 else to1 + dW 1 + (L j - L 1) + sumBelow dF 2 j
  let nodes := (List.range n).foldl (fun (t : Tab Node) i =>
    let j := i + 1
    let nd := Tab.getD t j {}
    Tab.set t j { nd with col := { nd.col with headDelay := (rndHE (head j)).toNat, toDelay := if standby then (rndHE (tod j)).toNat else 0 } }) s.nodes
  ({ s with nodes := nodes }, t0, tod n)

/-- t_ring from T0 in ps and a LENGTH (R308), in ns rounded up. -/
def ringTime (t0 : Rat) (len mode : Nat) : Nat := ceilNat (t0 / 1000 + ((len + 18 : Nat) : Rat) * (byteTenths mode : Rat) / 10 + 100)

/-- A Collimation entry's bytes (R307). -/
def Collim.bytes (c : Collim) : List Byte :=
  leBytes 4 c.headDelay ++ leBytes 4 c.toDelay ++ leBytes 2 c.dFwd ++ leBytes 2 c.dRev ++ leBytes 2 c.dWrap ++ zeroBytes 2

/-- The payload of CONFIG and JOIN_GRANT (Table 10.3): slot entries of the node with their CHANNEL. -/
def configPayload (r : Ring) (seg pos tcyc lead tapply : Nat) (runAhead : Bool) (so si : List (Nat × Nat)) : List Byte :=
  let s := r.seg seg
  let n := s.node pos
  let mine := (r.map.entries.filter (fun e => e.2.seg = seg && e.2.node = pos)).map Prod.snd
  let chan (e : MapEntry) : Nat := ((mine.filter (fun x => x.kind = e.kind && x.input = e.input)).findIdx? (fun x => x = e)).getD 0
  let slotBytes := mine.flatMap (fun e => leBytes 1 e.kind ++ leBytes 1 (flag e.input 0) ++ leBytes 2 e.ofs ++ leBytes 2 e.len ++ leBytes 2 (chan e))
  let safe (k : Nat) (xs : List (Nat × Nat)) : List Byte :=
    xs.flatMap (fun x => leBytes 1 k ++ leBytes 1 (if k = 6 then 1 else 0) ++ leBytes 2 x.1 ++ leBytes 2 20 ++ leBytes 2 x.2)
  leBytes 4 tcyc ++ leBytes 4 lead ++ leBytes 4 tapply ++ leBytes 4 n.col.headDelay ++ leBytes 4 (if r.standbyPresent then n.col.toDelay else 0) ++
  leBytes 2 s.mapGen ++ leBytes 1 s.nodeWd ++ leBytes 1 (flag runAhead 0 + flag r.standbyPresent 1) ++
  leBytes 2 (mine.length + so.length + si.length) ++ zeroBytes 2 ++ slotBytes ++ safe 5 so ++ safe 6 si

/-! ### The Frame Map's acceptance (R288, R291, R575) -/

/-- The length in the frame that a slot takes, trailer included (Table 9.6). -/
def MapEntry.span (e : MapEntry) : Nat := e.len + (if e.input then 2 else 0)

/-- The entry carries process data: a PROC slot, or a claimed spare slot with a TARGET (R323). -/
def MapEntry.proc (e : MapEntry) : Bool := e.kind = 2 || (e.kind = 4 && e.claimed && e.target ≠ 0)

/-- SLOT_LEN matches KIND (Table 9.10). -/
def MapEntry.lenOk (e : MapEntry) : Bool :=
  if e.kind = 0 then e.len = (if e.input then 18 else 8) else if e.kind = 1 then e.len = (if e.input then 14 else 8)
  else if e.kind = 3 then e.len = 4 && !e.input else e.kind ≤ 4 && 1 ≤ e.len && e.len ≤ 1024

/-- The slot lies in its region (R288, R575). -/
def MapEntry.inRegion (e : MapEntry) (d : SegDesc) : Bool :=
  if e.kind = 3 then 36 ≤ e.ofs && e.ofs + 4 ≤ d.corrLength
  else if e.kind = 4 then d.spareOfs ≤ e.ofs && e.ofs + e.span ≤ d.length
  else if e.input then d.inOfs ≤ e.ofs && e.ofs + e.span ≤ d.echoOfs
  else d.outOfs ≤ e.ofs && e.ofs + e.span ≤ d.inOfs

/-- TARGET's area and range (R288, R291). The TARGET of a claimed spare entry is 0 until the host sets one (R323). -/
def MapEntry.targetOk (e : MapEntry) : Bool :=
  if e.kind = 0 || e.kind = 3 then e.target < 512 else if e.kind = 1 then e.target < 1024
  else if e.kind = 2 || (e.claimed && e.target ≠ 0) then e.target % 8 = 0 && (if e.input then e.target + 8 * e.len ≤ 0x400000
    else 0x400000 ≤ e.target && e.target + 8 * e.len ≤ 0x600000)
  else e.target = 0

/-- Two slots of one segment and region overlap. -/
def MapEntry.clash (a b : MapEntry) : Bool :=
  a.seg = b.seg && (a.kind = 3) = (b.kind = 3) && a.ofs < b.ofs + b.span && b.ofs < a.ofs + a.span

/-- A descriptor is valid (R575). -/
def SegDesc.ok (d : SegDesc) (hasEntries hasCorr : Bool) : Bool :=
  if !hasEntries then d = {}
  else d.outOfs ≤ d.inOfs && d.inOfs ≤ d.echoOfs && d.echoOfs ≤ d.spareOfs && d.spareOfs ≤ d.length && d.spareOfs = d.echoOfs + 8 * d.nodes &&
    d.nodes ≤ 96 && 18 + d.length ≤ 8192 && (hasCorr || d.corrLength = 0)

/-- The map is accepted (R288, R263, R575). -/
def FrameMap.ok (m : FrameMap) : Bool :=
  let es := m.entries.map Prod.snd
  m.entries.length ≤ 4096 && m.descs.length = 8 && (m.descs.foldl (fun n d => n + d.nodes) 0) ≤ 768 &&
  es.all (fun e => e.seg < 8 && e.node ≤ 96 && (1 ≤ e.node || e.kind = 4) && e.lenOk && e.inRegion (m.desc e.seg) && e.targetOk && 1 ≤ e.holdMax) &&
  (m.entries.all (fun a => m.entries.all (fun b => a.1 = b.1 || !a.2.clash b.2))) &&
  (m.entries.all (fun a => m.entries.all (fun b => a.1 = b.1 || a.2.kind = 2 || a.2.kind = 4 || a.2.kind ≠ b.2.kind || a.2.input ≠ b.2.input ||
    a.2.target ≠ b.2.target))) &&
  (List.range 8).all (fun i => (m.desc i).ok (es.any (fun e => e.seg = i)) (es.any (fun e => e.seg = i && e.kind = 3)))

/-- A change of the map that takes effect at its Meridian (R289): no SLOT_OFS, SLOT_LEN, NODE or descriptor changes; the claim of a spare slot is such a change. -/
def FrameMap.lightChange (a b : FrameMap) : Bool :=
  a.descs = b.descs && a.nodes = b.nodes && a.entries.map Prod.fst = b.entries.map Prod.fst &&
  (List.zip a.entries b.entries).all (fun p => p.1.2.ofs = p.2.2.ofs && p.1.2.len = p.2.2.len && (p.1.2.node = p.2.2.node || (p.1.2.kind = 4 && p.1.2.node = 0)) && p.1.2.kind = p.2.2.kind &&
    p.1.2.seg = p.2.2.seg && p.1.2.input = p.2.2.input)

/-- A Frame Map entry decoded from its 16 bytes (Table 9.10); `none` when VALID is clear. -/
def mapEntryOf (b : List Byte) : Option MapEntry :=
  let c := fieldLE b 0 2
  if bit c 0 then
    some { input := bit c 1, seg := bits c 4 2, kind := bits c 7 5, node := fieldLE b 2 1, forceCount := bit (fieldLE b 3 1) 0,
           ofs := fieldLE b 4 2, len := fieldLE b 6 2, target := fieldLE b 8 4, holdMax := fieldLE b 12 1, claimed := bits c 7 5 = 4 && fieldLE b 2 1 ≠ 0 }
  else none

/-- A segment descriptor decoded from its 16 bytes (Table 9.15). -/
def segDescOf (b : List Byte) : SegDesc :=
  { outOfs := fieldLE b 0 2, inOfs := fieldLE b 2 2, echoOfs := fieldLE b 4 2, spareOfs := fieldLE b 6 2, length := fieldLE b 8 2,
    corrLength := fieldLE b 10 2, nodes := fieldLE b 12 1 }

end Sys2Proof.Machine
end

