-- ==== Sys2Proof/Machine/RingOps.lean ====
section
/-! DEFINITION. Operations of ring start and ring faults (chapter 10): launch of acyclic frames, the states of a segment, the replies of RING_START, and what
each returned management frame does. -/

namespace Sys2Proof.Machine

open Sys2Proof

/-! ## Frames that the head launches -/

/-- HEAD_STAT of a segment (Table 9.3). -/
def Dev.headStat (d : Dev) (seg : Nat) : Nat :=
  flag d.runAhead 0 + flag d.ring.standbyPresent 1 + flag (0 < d.ring.takeoverLeft) 2 + flag (d.ring.seg seg).reinitLeft.isSome 3 +
  flag (d.si.safeStop (some seg)) 4

/-- What a launch at ring count `ns` writes (R268, R339). -/
def Dev.launchAt (d : Dev) (seg ns cycle : Nat) : LaunchInfo :=
  { cycleLo := cycle % 2 ^ 32, launchNs := ns % 2 ^ 32, era := ns / 2 ^ 32 % 256, mac := d.prm pHEAD_MAC, etype := d.prm pNG_ETYPE, stat := d.headStat seg }

/-- CYCLE_LO of an acyclic frame launched now: 0 before the first Meridian (Table 9.2). -/
def Dev.acyCycle (d : Dev) : Nat := if d.ctl.running && !d.ctl.first then d.ctl.cycle else 0

/-- The segment has no quiet window: ring start or re-initialisation uses it as a whole ("Ring-management services" of chapter 10, R321). -/
def Segment.bringUp (s : Segment) : Bool := 2 ≤ s.state && s.state ≤ 5

/-- An acyclic frame is made for a segment: launched at once where there is no quiet window, else it waits for one (R50). -/
def Dev.acyclic (d : Dev) (seg svc dest : Nat) (payload : List Byte) : Dev :=
  let s := d.ring.seg seg
  let q := incWrap 16 s.seq
  let f := acyclicFrame (d.launchAt seg d.tu.rcNs d.acyCycle) seg s.mapGen svc dest q payload
  d.onSeg seg (fun s => if s.bringUp then { s with seq := q, sent := s.sent ++ [f] } else { s with seq := q, queue := s.queue ++ [f] })

/-- A waiting acyclic frame as it launches at ring count `ns`. -/
def Dev.restamp (d : Dev) (seg ns : Nat) (f : List Byte) : List Byte :=
  acyclicFrame (d.launchAt seg ns d.acyCycle) seg (hdr f 28 2) (service f) (serviceDest f) (hdr f 38 2) (payBytes f 44 (hdr f 40 2))

/-- The frame launched that a returned acyclic frame of service `svc` belongs to. -/
def Segment.outstanding (s : Segment) (svc : Nat) (f : List Byte) : Option (List Byte) :=
  if frameKind f = 3 && service f = svc then s.sent.find? (fun g => service g = svc && hdr g 38 2 = hdr f 38 2 && hdr g 1 1 = hdr f 1 1) else none

/-- The frame is no longer outstanding. -/
def Segment.took (s : Segment) (g : List Byte) : Segment := { s with sent := s.sent.erase g }

/-! ## The states of a segment (Table 10.4) -/

/-- The segments that a RING_START command names. -/
def Dev.named (d : Dev) (q : HostReq) : List Nat := if q.h.kind = 0 then d.segNos else [q.h.index]

/-- RING_START is answered when each named segment has reached RUN, or DOWN (R418). -/
def Dev.ringReplies (d : Dev) : Dev :=
  (d.host.openOps.filter (fun o => o.req.op = 0x4012)).foldl (fun d o =>
    let st := (d.named o.req).map (fun i => (d.ring.seg i).state)
    if st.all (fun x => x = 7 || x = 0) then d.opEnd (some o) { status := if st.all (fun x => x = 7) then 0 else 0x0604 } else d) d

/-- A segment enters a state: the SI's connections start at RUN and are IDLE outside RUN and BROKEN (Table 16.7); RING_START is answered. -/
def Dev.enter (d : Dev) (seg st : Nat) : Dev :=
  let old := (d.ring.seg seg).state
  let d := d.onSeg seg (fun s => { s with state := st })
  let d := if st = 7 then (if old = 8 then d else { d with si := d.si.segRun seg }) else if st = 8 then d else { d with si := d.si.segDown seg }
  d.ringReplies

/-- A node as ABSENT: its identity, delays and counters stay. -/
def Node.absent (n : Node) : Node :=
  { margin := n.margin, dev := n.dev, echoMissCnt := n.echoMissCnt, readyLowCnt := n.readyLowCnt, linkErrCnt := n.linkErrCnt, fcsFresh := n.fcsFresh,
    ident := n.ident, col := n.col, head := n.head }

/-- The nodes of a segment are ABSENT (Table 10.5); their counters stay. -/
def Segment.absent (s : Segment) : Segment :=
  { s with nodes := s.nodes.map (fun e => (e.1, e.2.absent)) }

/-- A segment enters ENUM: its nodes are ABSENT and the ENUM frame is launched (R301). -/
def Dev.enumStart (d : Dev) (seg : Nat) : Dev :=
  let d := d.enter seg 3
  let d := d.onSeg seg (fun s => { s.absent with queue := [], sent := [], cfgPos := 0, cfgTries := 0, pairs := 0, losses := 0, rtSum := 0, t0Sum := 0, fSums := [],
                                                 lastMeas := none, retry := false, mail := none, mailNext := none, testDue := false })
  d.acyclic seg 0x11 0xFF ([96, 0, 0, 0] ++ zeroBytes (32 * 96))

/-- A MEASURE frame is launched (R305). -/
def Dev.measure (d : Dev) (seg : Nat) : Dev :=
  let s := d.ring.seg seg
  let id := incWrap 16 s.measId
  let d := d.onSeg seg (fun s => { s with measId := id, lastMeas := none })
  d.acyclic seg 0x12 0xFF (leBytes 1 1 ++ leBytes 1 s.devs ++ leBytes 2 id)

/-- The REPORT frame of the last MEASURE is launched (R305). -/
def Dev.report (d : Dev) (seg : Nat) : Dev :=
  let s := d.ring.seg seg
  d.acyclic seg 0x12 0xFF (leBytes 1 2 ++ leBytes 1 s.devs ++ leBytes 2 s.measId ++ zeroBytes (8 * s.devs))

/-- The positions of a segment that CONFIG addresses: those of the descriptor (R303, R575). -/
def Dev.positions (d : Dev) (seg : Nat) : List Nat := (List.range (d.ring.map.desc seg).nodes).map (fun i => i + 1)

/-- The safety messages of a node with their offsets in the cycle frame (Table 10.3): `input` those to the SI. -/
def Dev.safeSlots (d : Dev) (seg node : Nat) (input : Bool) : List (Nat × Nat) :=
  match d.si.conf with
  | none => []
  | some c =>
    let n := c.count seg
    let mine := (c.conns.filter (fun x => x.seg = seg && x.node = node)).map (fun x => x.pos)
    mine.zipIdx.map (fun p => (36 + 20 * ((if input then n else 0) + p.1), p.2))

/-- The CONFIG payload of a node (Table 10.3). -/
def Dev.configOf (d : Dev) (seg pos : Nat) : List Byte :=
  configPayload d.ring seg pos d.tcyc (d.prm pSAMPLE_LEAD) (d.tApplyOf d.runAhead) d.runAhead (d.safeSlots seg pos false) (d.safeSlots seg pos true)

/-- The CONFIG frame of the position under CONFIG is launched (R303). -/
def Dev.config (d : Dev) (seg pos tries : Nat) : Dev :=
  let d := d.onSeg seg (fun s => { s with cfgPos := pos, cfgTries := tries })
  if (d.positions seg).contains pos then d.acyclic seg 0x13 pos (d.configOf seg pos) else d

/-- A segment is DOWN, with nothing launched or waiting (Table 10.4). -/
def Dev.segDown (d : Dev) (seg : Nat) : Dev :=
  (d.enter seg 0).onSeg seg (fun s => { s with sent := [], queue := [], reinitLeft := none, reinit := false, launched := [], corrLaunched := [] })

/-- The four parameters of a cycle configuration return to what was in force before the ring start (R48). -/
def cycleBack (before now : Params) : Params :=
  [pT_CYC, pSAMPLE_LEAD, pAPPLY_GUARD, pEXEC_STYLE].foldl (fun p id => match Tab.find before id with | some v => Tab.set p id v | none => Tab.del p id) now

/-- The twin segment (R326). -/
def Dev.twinSeg (d : Dev) : Nat := d.segNos.headD 0

/-- TWIN_CAP (R326): the largest payload of a frame that launches as the quiet window opens and returns before it closes (R50). -/
def Dev.twinCap (d : Dev) : Nat :=
  let s := d.ring.seg d.twinSeg
  let room := d.quietClose - 1 - d.quietOpen d.twinSeg - returnNs s (d.ring.map.desc d.twinSeg).length 0
  min 4096 (10 * room / byteTenths s.linkMode - 62)

/-- The cycle configuration suits the rings as measured (R48), and with a standby the quiet window of the twin segment leaves a TWIN_CAP of 1,024 bytes (R326). -/
def Dev.ringsFit (d : Dev) : Bool := d.cycleFits d.ctl.prm && (!d.ring.standbyPresent || decide (1024 ≤ d.twinCap))

/-- The cycle configuration does not fit the rings as measured (R48): the ring start is answered with 0x0108, or with 0x0111 where it is the standby that it does not
suit (R324, R326), the segments measured return to DOWN with RING_TOO_LONG, and the configuration that was in force before stays in force (DESIGN CHOICE, log 52). -/
def Dev.cycleRejected (d : Dev) : Dev :=
  let segs := d.segNos.filter (fun i => (d.ring.seg i).state = 5)
  let st := if d.cycleFits d.ctl.prm then 0x0111 else 0x0108
  let d := (d.host.openOps.filter (fun o => o.req.op = 0x4012 && o.req.h.kind = 0)).foldl (fun d o => d.opEnd (some o) { status := st }) d
  let d := segs.foldl (fun d i => (d.emit (evC (srcSeg i) eRING_TOO_LONG)).segDown i) d
  { d with ctl := { d.ctl with prm := cycleBack d.ctl.prmBefore d.ctl.prm } }

/-- CONFIG begins on the segments that wait for it once every configured segment has been measured: T_APPLY rests on all of them (R46), and the cycle
configuration must be acceptable with them (R48). -/
def Dev.configBegin (d : Dev) : Dev :=
  if (d.segNos.any (fun i => (d.ring.seg i).state = 3 || (d.ring.seg i).state = 4)) && !d.ctl.running then d
  else if !d.ctl.running && d.segNos.any (fun i => (d.ring.seg i).state = 5 && (d.ring.seg i).cfgPos = 0) && !d.ringsFit then d.cycleRejected
  else d.segNos.foldl (fun d i => if (d.ring.seg i).state = 5 && (d.ring.seg i).cfgPos = 0 then d.config i 1 1 else d) d

/-- A segment returns to DOWN with an event that names the cause (Table 10.4). -/
def Dev.segFail (d : Dev) (seg : Nat) (e : Ev) : Dev :=
  ((d.emit e).segDown seg).configBegin

/-- An event of a segment. -/
def evSeg (seg code : Nat) (args : List Byte := []) : Ev := evC (srcSeg seg) code args

/-- The head becomes leader: the claimed segments enter ENUM (R299). -/
def Dev.lead (d : Dev) (segs : List Nat) : Dev :=
  segs.foldl Dev.enumStart { d with ring := { d.ring with role := 3 } }

/-- A follower that cannot be a standby is passive (R300). -/
def Dev.passive (d : Dev) : Dev :=
  ({ d with ring := { d.ring with role := 4 } }).emit (evC srcDevice eFOLLOWER_PASSIVE)

/-- The head becomes a follower (R299, R300): every segment under contention follows; a standby may come of it when STANDBY_EN is set. -/
def Dev.follow (d : Dev) : Dev :=
  let d := d.segNos.foldl (fun d i => if [1, 2].contains (d.ring.seg i).state then (d.enter i 10).onSeg i (fun s => { s with sent := [], queue := [], cfgPos := 0 }) else d) d
  if d.prm pSTANDBY_EN = 1 then { d with ring := { d.ring with role := 4 } } else d.passive

/-! ## Ring start -/

/-- OUT_OFS of a segment fits its safety area (R575). -/
def Dev.outOfsOk (d : Dev) (seg : Nat) : Bool :=
  (d.ring.map.desc seg).outOfs = 36 + 40 * (match d.si.conf with | some c => c.count seg | none => 0)

/-- The segments that a change of the Frame Map touches (R289). -/
def FrameMap.touched (a b : FrameMap) : List Nat :=
  (List.range 8).filter (fun i => !(a.desc i = b.desc i && a.entries.filter (fun e => e.2.seg = i) = b.entries.filter (fun e => e.2.seg = i)))

/-- LAYOUT_GEN increments (R289, R21). -/
def Dev.layout (d : Dev) : Dev :=
  if d.ctl.running && d.ctl.layoutChg then d else { d with ctl := { d.ctl with layoutGen := incWrap 32 d.ctl.layoutGen, layoutChg := true } }

/-- The slot status record of an entry that is no input entry any more is zeros (R291). -/
def FrameMap.clearRecords (old new : FrameMap) (image : Memory) : Memory :=
  old.entries.foldl (fun (m : Memory) e =>
    if e.2.input && !(match Tab.find new.entries e.1 with | some x => x.input | none => false) then Memory.writeList 0 m (0xF0000 + 16 * e.1) (zeroBytes 16) else m) image

/-- The pending map comes into force on the segments `segs` (R289, R418): what it says of them, and all of it once no other segment waits. -/
def Dev.mapBegin (d : Dev) (segs : List Nat) : Dev :=
  match d.ring.mapPending with
  | none => d
  | some m =>
    let cur := d.ring.map
    let touched := (cur.touched m).filter (fun i => segs.contains i)
    let keep (i : Nat) : Bool := !segs.contains i
    let next : FrameMap :=
      { entries := (m.entries.filter (fun e => !keep e.2.seg)).foldl (fun (t : Tab MapEntry) e => Tab.set t e.1 e.2) (cur.entries.filter (fun e => keep e.2.seg)),
        descs := (List.range 8).map (fun i => if keep i then cur.desc i else m.desc i),
        nodes := cur.nodes.filter (fun n => keep n.seg) ++ m.nodes.filter (fun n => !keep n.seg) }
    let left := (next.touched m) ≠ []
    let stats := d.ring.stats.filter (fun e => match Tab.find cur.entries e.1, Tab.find next.entries e.1 with | some a, some b => a = b | _, _ => false)
    let d := { d with ring := { d.ring with map := next, mapPending := if left then some m else none, stats := stats }, image := cur.clearRecords next d.image }
    let d := touched.foldl (fun d i => d.onSeg i (fun s => { s with mapGen := incWrap 16 s.mapGen })) d
    if touched = [] then d else d.layout

/-- The parameters of a segment that wait for its ring start come into force (Table 10.11). -/
def Dev.segParams (d : Dev) (seg : Nat) : Dev :=
  let ids := [segKey pNODE_WD seg, segKey pLINK_MODE seg]
  let mine := d.ctl.stored.filter (fun e => ids.contains e.1)
  let d := { d with ctl := { d.ctl with prm := mergeParams d.ctl.prm mine, stored := d.ctl.stored.filter (fun e => !ids.contains e.1) } }
  d.onSeg seg (fun s => { s with linkMode := d.segPrm pLINK_MODE seg, nodeWd := d.segPrm pNODE_WD seg })

/-- The Hold Store content of a segment's entries is that of a new ring start (R294). -/
def Ring.holdClear (r : Ring) (segs : List Nat) : Ring :=
  { r with stats := r.stats.map (fun e => match Tab.find r.map.entries e.1 with
      | some m => if segs.contains m.seg then (e.1, { e.2 with hold := none, seen := false, lastGood := 0, age := 255 }) else e
      | none => e) }

/-- The ring heads of a device that listens. -/
def Ring.listen (r : Ring) : Ring :=
  { r with role := 1, claimRound := 0, lowerKey := false, standbyPresent := false, takeoverLeft := 0, twin := 0, silent := 0, aliveSeen := false, frameSeen := false,
           tookOver := false, deposed := false, aliveSent := [] }

/-- A segment that carries nothing: DOWN, with nothing launched or waiting. -/
def Segment.idle (s : Segment) : Segment :=
  { s with state := 0, queue := [], sent := [], launched := [], corrLaunched := [], returned := false, accepted := false, judged := false, silentRun := 0,
           returnRun := 0, wrapPos := 0, reinitLeft := none, reinit := false, claimRun := 0, claimBack := false, cfgPos := 0, retry := false, mail := none, mailNext := none,
           testDue := false, joinIdent := none }

/-- The connections of a configuration that came into force while their segment runs start at once, a segment in BROKEN counting as running (R481, log 17). -/
def Dev.siConnect (d : Dev) : Dev :=
  { d with si := (List.range 8).foldl (fun (x : Si) g => if [7, 8].contains (d.ring.seg g).state then x.segRun g else x) d.si }

/-- The SI persists the configuration in force (R491). -/
def Dev.siPersist (d : Dev) : Dev :=
  match d.si.conf with
  | some c => { d with flash := siStore d.flash d.si.copy c, si := { d.si with copy := d.si.copy + 1 } }
  | none => d

/-- The next fresh count of every servo axis is its first after a ring start (R69, R73). -/
def Motion.recount (m : Motion) : Motion :=
  { m with axes := m.axes.map (fun e => (e.1, e.2.onWork (fun w => { w with k := { w.k with hasCount := false } }))) }

/-- A ring start of all segments (R298, R304, R310, R467): the running cycle ends, what waited for it takes effect, and the head listens. -/
def Dev.ringBegin (d : Dev) : Dev :=
  let d := { d with
    motion := d.motion.recount
    ctl := { d.ctl with prm := mergeParams d.ctl.prm d.ctl.stored, prmBefore := d.ctl.prm, stored := [], running := false, first := false, gate := false, gathered := false,
                        corrPacked := false, corrLaunched := false, sealed := false } }
  let d := (List.range 8).foldl Dev.segParams d
  let d := d.mapBegin (List.range 8)
  let pend := d.si.pending.isSome && d.si.state ≠ 3
  let d := Dev.withSi d (Si.ringStart { d.si with standby := false })
  let d := if pend then d.siPersist else d
  let d := { d with ring := (d.ring.holdClear (List.range 8)).listen }
  (List.range 8).foldl (fun d i =>
    let d := d.onSeg i Segment.idle
    if !d.ring.map.configured i then d
    else if d.outOfsOk i then d.onSeg i (fun s => { s with state := 1 })
    else d.emit (evSeg i eRING_MISMATCH (leBytes 2 0))) d

/-- The re-initialisation of one segment begins at its Meridian (R321). -/
def Dev.reinitBegin (d : Dev) (seg : Nat) : Dev :=
  if [7, 8].contains (d.ring.seg seg).state then (d.enter seg 9).onSeg seg (fun s => { s with reinitLeft := some 16, reinit := true, queue := [], mail := none, mailNext := none })
  else
    let d := (d.segParams seg).mapBegin [seg]
    let d := d.onSeg seg (fun s => { s with reinit := true })
    if d.outOfsOk seg then d.enumStart seg else d.segFail seg (evSeg seg eRING_MISMATCH (leBytes 2 0))

/-- FIRST_CYCLE of a ring start of all segments (R304). -/
def Dev.firstCycle (d : Dev) : Nat := d.ring.highCycle + 1

/-- A segment whose CONFIG is complete: every position has RESULT 1 (R303). -/
def Dev.configured (d : Dev) (seg : Nat) : Bool :=
  let s := d.ring.seg seg
  s.state = 5 && s.cfgPos ≠ 0 && !(d.positions seg).contains s.cfgPos

/-- The leader sends START (R304): the segments that are ready enter SYNC; at a ring start of all segments the cycle is numbered anew. -/
def Dev.startRing (d : Dev) : Dev :=
  let ready := d.segNos.filter d.configured
  let busy := d.segNos.any (fun i => [2, 3, 4].contains (d.ring.seg i).state || ((d.ring.seg i).state = 5 && !d.configured i))
  if d.ring.role ≠ 3 || ready = [] || (!d.ctl.running && busy) then d
  else
    let fc := if d.ctl.running then d.ctl.cycle + 1 else d.firstCycle
    let d := ready.foldl (fun d i =>
      let d := d.acyclic i 0x14 0xFF (leBytes 8 fc)
      (d.enter i 6).onSeg i (fun s => { s with firstCycle := fc, silentRun := 0, returnRun := 0, wrapPos := 0, reinit := false, reinitLeft := none, cfgPos := 0 })) d
    if d.ctl.running then d
    else { d with ctl := { d.ctl with running := true, first := true, cycle := fc - 1, gate := false, gathered := false, corrPacked := false, corrLaunched := false,
                                      sealed := false, tapply := d.tApplyOf d.runAhead } }

/-! ## The mailbox (R287, R418) -/

/-- The mailbox requests of a segment that wait, oldest first. -/
def Dev.mailOps (d : Dev) (seg : Nat) : List OpenOp := d.host.openOps.filter (fun o => o.req.op = 0x4030 && o.req.h.index / 96 = seg)

/-- The open request that a mailbox exchange belongs to. -/
def Dev.mailOp (d : Dev) (m : MailReq) : Option OpenOp :=
  d.host.openOps.find? (fun o => o.req.op = 0x4030 && o.req.h.tag = m.tag && o.req.h.pair = m.pair)

/-- The exchange of an open mailbox request. -/
def mailOf (o : OpenOp) (seq : Nat) : MailReq :=
  { node := o.req.h.index % 96 + 1, seq := seq, cap := fieldLE o.req.pay 0 2, sent := false, tag := o.req.h.tag, pair := o.req.h.pair }

/-- The bytes of a mailbox request. -/
def mailBytes (o : OpenOp) : List Byte := (o.req.pay.drop 8).take (fieldLE o.req.pay 2 2)

/-- A MAILBOX payload (R287): the request, the capacity and the answer that it solicits. -/
def mailPayload (req : List Byte) (cap respSeq : Nat) : List Byte :=
  leBytes 2 req.length ++ leBytes 2 cap ++ leBytes 2 respSeq ++ [0, 0] ++ req ++ zeroBytes cap

/-- The first waiting request of a segment is sent, when no exchange runs there. -/
def Dev.mailStart (d : Dev) (seg : Nat) : Dev :=
  match (d.ring.seg seg).mail with
  | some _ => d
  | none =>
    match d.mailOps seg with
    | [] => d
    | o :: _ =>
      let m := mailOf o (incWrap 16 (d.ring.seg seg).seq)
      (d.acyclic seg 0x01 m.node (mailPayload (mailBytes o) m.cap 0)).onSeg seg (fun s => { s with mail := some m })

/-- The pending response is solicited, with the next request to the same node in the same frame where one waits and fits (R287). -/
def Dev.mailSolicit (d : Dev) (seg : Nat) : Dev :=
  match (d.ring.seg seg).mail with
  | none => d
  | some m =>
    let next := if (d.ring.seg seg).mailNext.isSome then none
      else (d.mailOps seg).find? (fun o => (mailOf o 0).node = m.node && !(o.req.h.tag = m.tag && o.req.h.pair = m.pair) && 8 + (mailBytes o).length + m.cap ≤ 4096)
    match next with
    | some o =>
      let n := { mailOf o (incWrap 16 (d.ring.seg seg).seq) with sent := true }
      (d.acyclic seg 0x01 m.node (mailPayload (mailBytes o) m.cap m.seq)).onSeg seg (fun s => { s with mailNext := some n })
    | none => d.acyclic seg 0x01 m.node (mailPayload [] m.cap m.seq)

/-- The exchange ends with `r`, and the next one goes on. -/
def Dev.mailEnd (d : Dev) (seg : Nat) (r : CmdRes) : Dev :=
  match (d.ring.seg seg).mail with
  | none => d
  | some m =>
    let d := d.opEnd (d.mailOp m) r
    match (d.ring.seg seg).mailNext with
    | some n => (d.onSeg seg (fun s => { s with mail := some n, mailNext := none })).mailSolicit seg
    | none => (d.onSeg seg (fun s => { s with mail := none })).mailStart seg

end Sys2Proof.Machine
end

