-- ==== Sys2Proof/Machine/CmdBase.lean ====
section
/-! DEFINITION. What the host commands share: the order in which admission reports what fails (R403), the cycle that a change of motion starts from (R103),
set-points already delivered ahead (R106), and queries (R404). -/

namespace Sys2Proof.Machine

open Sys2Proof

/-! ## What a command answers -/

/-- Rank of a status in the order of R403: parameters, authority, state, resources. -/
def stRank (st : Nat) : Nat :=
  match st / 256 with
  | 1 => 1 | 4 => 2 | 2 => 3 | 3 => 4 | _ => 5

/-- The status that is reported among those whose check fails: the first in the order of R403, 0 when all pass. -/
def firstFail (cs : List (Nat × Bool)) : Nat :=
  let bad := (cs.filter (fun c => c.2)).map (fun c => c.1)
  match [1, 2, 3, 4, 5].findSome? (fun r => bad.find? (fun st => stRank st = r)) with
  | some st => st
  | none => 0

/-- An answer that carries a status alone. -/
def CmdRes.st (st : Nat) : CmdRes := { status := st }

/-- A successful answer with a payload. -/
def CmdRes.data (pay : List Byte) : CmdRes := { pay := pay }

/-- The device after a command that completes without a payload. -/
def Dev.done (d : Dev) : Dev × CmdRes := (d, {})

/-- A reply payload of a query: PLATE_CYCLE and the rest (R404). -/
def Snap.answer (v : Snap) (rest : List Byte) : CmdRes := .data (leBytes 8 v.ctl.published ++ rest)

/-- PLATE_CYCLE of the latest Plate in a query's answer. -/
def Dev.ask (d : Dev) (rest : Snap → List Byte) : Dev × CmdRes := (d, .data (leBytes 8 d.ctl.published ++ rest d.seen))

/-- Bytes filled with zeros to a length. -/
def padTo (n : Nat) (b : List Byte) : List Byte := (b ++ zeroBytes n).take n

/-! ## Motion at a Meridian -/

/-- A plan that stays at `x`. -/
def Plan.still (x : Rat) : Plan := { p0 := x, pf := x }

/-- The set-point of an axis at the cycle that a change starts from. -/
def Dev.spNow (d : Dev) (ax : Axis) : SetPoint := ax.spOf d.tcyc d.origin

/-- The axis stands still: v_set = 0, a_set = 0 and no plan of its mode moves it (R162). -/
def Axis.atRest (ax : Axis) (tcyc n : Nat) (s : SetPoint) : Bool :=
  decide (s.v = 0 ∧ s.a = 0) && !planRuns ax.plan tcyc n &&
    (match ax.fol with | some f => f.engage.isNone && !planRuns (some f.phase) tcyc n | none => true)

/-- A mark in the event word of an axis's input block (Table 7.14): 16 mode changed, 17 Table 3.1 parameter, 18 limit, 19 emergency stop, 20 SAFE_OFF,
21 fault clear, 22 enable, 23 disable. -/
def Axis.mark (ax : Axis) (n : Nat) : Axis := { ax with evt := setBit ax.evt n }

/-- A follower made from the follower parameters in force (R127, R131, R133). -/
def Axis.newFollower (ax : Axis) (cam : Bool) : Follower :=
  let pos := ax.prm.nat pENG_MODE = 1
  let at' := pos && !cam
  { orr := ax.prm.nat pORRERY, cam := cam, vel := !cam && ax.prm.nat pCOUPLING = 1, gRef := if at' then ax.prm.val pENG_POS else 0,
    thetaRef := if at' then ax.prm.val pENG_THETA else 0, num := ax.prm.val pNUM, den := ax.prm.nat pDEN, camId := ax.prm.nat pCAM_ID,
    phase := Plan.still (fix 32 (ax.prm.val pPHASE_F)), phaseTgt := ax.prm.val pPHASE_F, phaseM := Plan.still (fix 32 (ax.prm.val pPHASE_M)), phaseMTgt := ax.prm.val pPHASE_M,
    atPos := pos, engTheta := ax.prm.val pENG_THETA }

end Sys2Proof.Machine
end

