-- ==== Sys2Proof/Machine/CmdParams.lean ====
section
/-! DEFINITION. Parameters by identifier: entries, where a target's values live, and what SET_PARAMS and GET_PARAMS check (R84, R85, R403, R405 to R408). -/

namespace Sys2Proof.Machine

open Sys2Proof

/-! ## Entries (R406) -/

/-- A parameter entry as it stands in a payload. -/
structure PEnt where
  id : Nat
  sub : Nat
  resv : Nat
  value : List Byte
  deriving DecidableEq, Repr

/-- The entry at offset `o` of a payload. -/
def entAt (pay : List Byte) (o : Nat) : PEnt :=
  { id := fieldLE pay o 2, sub := fieldLE pay (o + 2) 2, resv := fieldLE pay (o + 4) 4, value := padTo 16 (pay.drop (o + 8)) }

/-- The entries of a SET_PARAMS or GET_PARAMS payload (R407). -/
def entriesOf (pay : List Byte) : List PEnt := (List.range (fieldLE pay 0 2)).map (fun i => entAt pay (8 + 24 * i))

/-- The bytes that a format fills. -/
def PFmt.bytes : PFmt → Nat
  | .u n => n
  | .s n => n
  | .f32 => 4

/-- The value that a format reads from VALUE: little-endian, not sign-extended (R406). A MAC or IPv4 address holds its first-transmitted byte lowest. -/
def PFmt.read (f : PFmt) (b : List Byte) : Int :=
  match f with
  | .u n => (leNat (b.take n) : Int)
  | .s n => wrapS (8 * n) (leNat (b.take n))
  | .f32 => (leNat (b.take 4) : Int)

/-- VALUE as GET_PARAMS returns it (R406, R408). -/
def PFmt.write (f : PFmt) (v : Int) : List Byte := padTo 16 (leBytes f.bytes (lowBits (8 * f.bytes) v))

/-- The parameter kind that a target kind of Table 13.1 takes. -/
def targetOfKind : Nat → Option PTarget
  | 0 => some .device | 1 => some .axis | 2 => some .stepper | 3 => some .orrery | 4 => some .regch | 5 => some .segment
  | 8 => some .tout | 9 => some .tcap | 13 => some .port | _ => none

/-- The opcode class of a parameter command: the class that sets and reads it (Table 13.2). -/
def paramClass (op : Nat) : Nat := op / 4096

/-- A DEVICE parameter belongs to the opcode class (Tables 13.2 and 13.3; EPH_DEPTH and NG_ETYPE in class 0x4, log 32). -/
def deviceClass (id : Nat) : Nat :=
  if id / 256 = 0x86 then 0 else if id / 256 = 0xB6 then 5 else 4

/-- The row of an identifier that the opcode may set or read on the target kind. -/
def paramFor (op kind id : Nat) : Option ParamDesc :=
  (paramDesc id).filter (fun d => decide (some d.target = targetOfKind kind) && (kind ≠ 0 || deviceClass id = paramClass op))

/-- The parameter whose SUB names a fault code. -/
def isReact (id : Nat) : Bool := id = pREACT_code || id = pST_REACT_code

/-- The key under which a target keeps an entry's value. -/
def entKey (kind idx : Nat) (id sub : Nat) : Nat := if isReact id then reactKey id sub else if kind = 5 then segKey id idx else id

/-- The value in force under an identifier. -/
def Params.valueOf (p : Params) (kind idx id sub : Nat) : Int :=
  if isReact id then (classOf p id sub : Int) else (Tab.find p (entKey kind idx id sub)).getD (paramDefault id)

/-! ## Where values live -/

/-- The parameters in force of a target; `none` where the target is not configured. -/
def Snap.params (v : Snap) (op kind idx : Nat) : Option Params :=
  match kind with
  | 0 => some (if paramClass op = 5 then v.tu.prm else v.ctl.prm)
  | 1 => (Tab.find v.motion.axes idx).map (fun a => a.prm)
  | 2 => (Tab.find v.motion.steppers idx).map (fun a => a.prm)
  | 3 => some ((Tab.getD v.motion.orrs idx {}).prm)
  | 4 => some (match Tab.find v.motion.regs idx with | some c => c.prm | none => Tab.getD v.motion.regPre idx [])
  | 5 => some v.ctl.prm
  | 8 => some ((v.tu.touts.getD idx {}).prm)
  | 9 => some ((v.tu.tcaps.getD idx {}).prm)
  | 13 => some ((v.tu.ports.getD idx {}).prm)
  | _ => none

/-- The TARGET by which a pace plan names what it carries for. -/
def carryTarget (kind idx : Nat) : Nat := 16777216 * kind + idx

/-- The values that wait for a ring start, a homing start or a pace plan. -/
def Dev.waiting (d : Dev) (kind idx : Nat) : Params :=
  let planned (l : List (Nat × Nat × Int)) : Params := l.foldl (fun p c => if c.1 = carryTarget kind idx then Tab.set p c.2.1 c.2.2 else p) []
  let done := match d.pace.done with | some p => planned p.carries | none => []
  let here := match kind with
    | 0 => d.ctl.stored
    | 5 => d.ctl.stored
    | 1 => (d.axis idx).stored
    | 2 => match d.stepper? idx with | some s => s.stored | none => []
    | _ => []
  mergeParams (mergeParams here done) (planned d.pace.carry)

/-! ## Checks of one entry -/

/-- A binary32 bound as R85 takes it. -/
def bound32 (x : Rat) : Rat := f32ToRat (ratToF32 x)

/-- The value lies in the range of its row. -/
def ParamDesc.inRange (p : ParamDesc) (raw : Int) : Bool :=
  match p.fmt with
  | .f32 => let v := f32ToRat raw.toNat; decide (bound32 p.lo ≤ v ∧ v ≤ bound32 p.hi)
  | _ => decide (p.lo ≤ (raw : Rat) ∧ (raw : Rat) ≤ p.hi)

/-- A REACT_code class that the fault's table permits (R96, R153, R193, R198). -/
def reactOk (id code : Nat) (raw : Int) : Bool :=
  let own := [fSTALL, fSTEP_OVERRUN, fSTEP_NODE_FAULT, fSTEP_HOME_FAILED, fSTEP_FB_LOST, fSTEP_SAFE_OFF]
  let known := if id = pREACT_code then !own.contains code else own.contains code || [fLIMIT_POS, fLIMIT_NEG, fSWITCH_CHATTER].contains code
  known && code ≠ fHOST_ESTOP && decide (0 ≤ raw) && bit (reactDefault code).2 raw.toNat

/-- What a range column says beyond its bounds, for a value taken alone. -/
def valueOk (id : Nat) (raw : Int) : Bool :=
  let v := f32ToRat raw.toNat
  let n := raw.toNat
  if id = pAXIS_DIVISOR then n = 1 || n = 2 || n = 4 || n = 8
  else if id = pFB_SCALE || id = pNUM then raw ≠ 0
  else if id = pORR_SCALE || id = pREG_GAIN then v ≠ 0
  else if id = pMODULUS then n = 0 || 65536 ≤ n
  else if id = pNOTCH1_F || id = pNOTCH2_F || id = pLP_F then v = 0 || 10 ≤ v
  else if id = pLADDER_RUNG then n ≤ 15 || n = 255
  else if id = pVOLT_FIXED then n % 5 = 0
  else if id = pST_HOME_METHOD then n = 0 || n = 3 || n = 4
  else if id = pNG_ETYPE then 0x0600 ≤ n && !([0x8100, 0x88A8, 0x88F7].contains n)
  else if id = pHEAD_MAC then n % 4 = 2
  else if id = pPTP_IPV4 then n % 256 < 224 && (n % 256 ≠ 0 || n = 0)
  else if id = pREG_SRC then (n / 2 ^ 24 = 1 && n % 2 ^ 24 < 16) || (n / 2 ^ 24 = 2 && n % 2 ^ 24 < 0x400000)
  else if id = pREG_PUB then n % 256 = 0 && 0x600000 ≤ n && n + 256 ≤ 0x780000
  else if id = pTOUT_START then n % 2 ^ 64 < 2 ^ 48 && n / 2 ^ 64 % 2 ^ 32 ≤ 999999999 && n / 2 ^ 96 < 4
  else true

/-- What the value of an entry refers to exists. -/
def Dev.refOk (d : Dev) (id : Nat) (raw : Int) : Bool :=
  let n := raw.toNat
  if id = pORRERY || id = pTOUT_ORR then (d.orr? n).isSome
  else if id = pCAM_ID then Tab.has d.motion.cams n
  else if id = pREG_AXIS || id = pORR_SRC_AXIS then (d.axis? n).isSome
  else if id = pKERNEL_SEL then n = 0 || 0 < (declOf (d.engine 0).version n 0).1
  else true

/-- The bytes that must be zero in an entry are (R406). -/
def PEnt.clean (e : PEnt) (op kind : Nat) (get : Bool) : Bool :=
  e.resv = 0 && (match paramFor op kind e.id with
    | some p => (e.value.drop (if get then 0 else p.fmt.bytes)).all (fun b => b = 0)
    | none => true)

/-- The parameter check of one entry: 0, 0x0107, 0x0108 or 0x0109 (R85, R96, R407). -/
def Dev.entCheck (d : Dev) (op kind : Nat) (e : PEnt) : Nat :=
  match paramFor op kind e.id with
  | none => 0x0107
  | some p =>
    let raw := p.fmt.read e.value
    if p.eff = .load then 0x0107
    else if isReact e.id then (if reactOk e.id e.sub raw then 0 else 0x0108)
    else if e.sub ≠ 0 then 0x0108
    else if p.fmt = .f32 && f32Bad raw.toNat then 0x0109
    else if p.inRange raw && valueOk e.id raw && d.refOk e.id raw then 0
    else 0x0108

/-! ## Cross-conditions (R84, R407) -/

/-- A cross-condition: the identifiers it names, and whether it holds. -/
abbrev Cross := List Nat × Bool

/-- The value read as binary32. -/
def f32Of (g : Nat → Int) (id : Nat) : Rat := f32ToRat (g id).toNat

/-- Cross-conditions of a servo axis over the values that would hold (Tables 2.1, 3.1, 4.1, 4.9; R78). -/
def crossAxis (tcyc : Nat) (g : Nat → Int) : List Cross :=
  let T := axisPeriod tcyc (g pAXIS_DIVISOR).toNat
  let filt (id : Nat) : Cross := ([id, pAXIS_DIVISOR], f32Of g id = 0 || decide (f32Of g id ≤ bound32 ((4 / 10 : Rat) / T)))
  [([pAXIS_PHASE, pAXIS_DIVISOR], decide (g pAXIS_PHASE < g pAXIS_DIVISOR)),
   ([pOBS_BW, pAXIS_DIVISOR], decide (f32Of g pOBS_BW ≤ bound32 ((1 / 10 : Rat) / T))),
   filt pNOTCH1_F, filt pNOTCH2_F, filt pLP_F,
   ([pNOTCH1_ZN, pNOTCH1_ZD], decide (f32Of g pNOTCH1_ZN ≤ f32Of g pNOTCH1_ZD)),
   ([pNOTCH2_ZN, pNOTCH2_ZD], decide (f32Of g pNOTCH2_ZN ≤ f32Of g pNOTCH2_ZD)),
   ([pFE_HYST, pFE_LIMIT], decide (g pFE_HYST ≤ g pFE_LIMIT)),
   ([pFE_HARD, pFE_LIMIT], decide (g pFE_LIMIT ≤ g pFE_HARD)),
   ([pSW_LIM_POS, pSW_LIM_NEG], decide (g pSW_LIM_NEG < g pSW_LIM_POS)),
   ([pHOME_VEL_FAST, pVMAX], decide (g pHOME_VEL_FAST ≤ g pVMAX)),
   ([pHOME_VEL_SLOW, pHOME_VEL_FAST], decide (g pHOME_VEL_SLOW ≤ g pHOME_VEL_FAST)),
   ([pHOME_TORQUE, pTRQ_LIM], decide (g pHOME_TORQUE ≤ g pTRQ_LIM)),
   ([pHOME_TARGET, pSW_LIM_POS, pSW_LIM_NEG], decide (g pSW_LIM_NEG ≤ g pHOME_TARGET ∧ g pHOME_TARGET ≤ g pSW_LIM_POS))]

/-- Cross-conditions of a stepper axis (Table 6.3, R177). -/
def crossStepper (tcyc : Nat) (g : Nat → Int) : List Cross :=
  [([pST_STEP_DIV], decide (125000 ≤ g pST_STEP_DIV * tcyc)),
   ([pST_STEP_PHASE, pST_STEP_DIV], decide (g pST_STEP_PHASE < g pST_STEP_DIV)),
   ([pST_I_HOLD, pST_I_RUN], decide (g pST_I_HOLD ≤ g pST_I_RUN)),
   ([pST_I_HOME, pST_I_RUN], decide (g pST_I_HOME ≤ g pST_I_RUN)),
   ([pST_RES_V1, pST_RES_V2], decide (f32Of g pST_RES_V1 < f32Of g pST_RES_V2)),
   ([pST_RES_V2, pST_RES_V3], decide (f32Of g pST_RES_V2 < f32Of g pST_RES_V3)),
   ([pST_RES_V3, pST_RES_V4], decide (f32Of g pST_RES_V3 < f32Of g pST_RES_V4)),
   ([pST_HOME_VEL_FAST, pST_VMAX], decide (g pST_HOME_VEL_FAST ≤ g pST_VMAX)),
   ([pST_HOME_VEL_SLOW, pST_HOME_VEL_FAST], decide (g pST_HOME_VEL_SLOW ≤ g pST_HOME_VEL_FAST)),
   ([pST_HOME_BACKOFF, pST_HOME_SEARCH_MAX], decide (g pST_HOME_BACKOFF ≤ g pST_HOME_SEARCH_MAX))]

/-- Cross-conditions of a register channel (Table 4.7). -/
def crossReg (g : Nat → Int) : List Cross :=
  [([pREG_NOMINAL, pREG_PERIOD], decide (g pREG_NOMINAL < g pREG_PERIOD)),
   ([pREG_WINDOW, pREG_PERIOD], decide (2 * g pREG_WINDOW < g pREG_PERIOD))]

/-- Cross-conditions of an Orrery (Tables 4.2, 13.3). -/
def Dev.crossOrr (d : Dev) (i : Nat) (g : Nat → Int) : List Cross :=
  [([pLADDER_PIVOT, pLADDER_RUNGS], decide (g pLADDER_PIVOT < max 1 (g pLADDER_RUNGS))),
   ([pLADDER_RUNGS], (d.followers i).all (fun e => e.2.prm.nat pLADDER_RUNG = 255 || decide (e.2.prm.val pLADDER_RUNG < g pLADDER_RUNGS))),
   ([pORR_SRC_AXIS, pORR_SRC], g pORR_SRC ≠ 1 || (d.axis? (g pORR_SRC_AXIS).toNat).isSome)]

/-- Cross-conditions of a timed output (Table 11.6). -/
def Dev.crossTout (d : Dev) (g : Nat → Int) : List Cross :=
  [([pTOUT_WIDTH, pTOUT_PERIOD, pTOUT_MODE], if g pTOUT_MODE = 3 then decide (4 * g pTOUT_WIDTH ≤ g pTOUT_PERIOD - 80) else decide (g pTOUT_WIDTH ≤ 1000000000)),
   ([pTOUT_ANGLE, pTOUT_APERIOD], decide (g pTOUT_ANGLE < g pTOUT_APERIOD)),
   ([pTOUT_ORR, pTOUT_MODE], g pTOUT_MODE ≠ 4 || (d.orr? (g pTOUT_ORR).toNat).isSome)]

/-- Cross-conditions of DEVICE parameters; `now` are the values in force after the command and `later` those after the next ring start (R48, R177). -/
def Dev.crossDevice (d : Dev) (op : Nat) (now later : Params) : List Cross :=
  if paramClass op = 5 then
    [([pRATE_TRIM, pRATE_MAX], decide (((later.val pRATE_TRIM).natAbs : Int) ≤ later.val pRATE_MAX * 256000))]
  else if paramClass op = 4 then
    [([pT_CYC, pSAMPLE_LEAD, pAPPLY_GUARD, pEXEC_STYLE], d.cycleFits now && d.cycleFits later),
     ([pT_CYC], d.motion.steppers.all (fun e => decide (125000 ≤ min (e.2.prm.nat pST_STEP_DIV) ((mergeParams e.2.prm e.2.stored).nat pST_STEP_DIV) * later.nat pT_CYC))),
     ([pT_CYC], match d.si.conf with | some c => c.conns.all (fun x => decide (3 * later.nat pT_CYC ≤ 1000 * x.wd)) | none => true)]
  else []

/-- The cross-conditions of a target, given the values in force and those that would hold. -/
def Dev.cross (d : Dev) (op kind idx : Nat) (now later : Params) : List Cross :=
  let g (id : Nat) : Int := later.valueOf kind idx id 0
  match kind with
  | 0 => d.crossDevice op now later
  | 1 => crossAxis d.tcyc g ++ (match (d.axis? idx).bind (fun ax => ax.fol) with
      | some f => [([pLADDER_RUNG], g pLADDER_RUNG = 255 || decide (g pLADDER_RUNG < (d.orr f.orr).prm.val pLADDER_RUNGS))]
      | none => [])
  | 2 => crossStepper d.tcycLeast g
  | 3 => d.crossOrr idx g
  | 4 => crossReg g
  | 8 => d.crossTout g
  | _ => []

/-! ## States that entries need (R34, R84, R407) -/

/-- The state check of one entry, `moved` when an axis has been out of HOLD and STOP since admission: 0, 0x0202, 0x020A, 0x020D or 0x0111. -/
def Dev.entState (d : Dev) (moved : Bool) (op kind idx : Nat) (e : PEnt) (later : Params) : Nat :=
  match paramFor op kind e.id with
  | none => 0
  | some p =>
    let ax := d.axis idx
    let off := match kind with
      | 1 => ax.now.sup.state = 0
      | 2 => match d.stepper? idx with | some s => s.state = 0 | none => true
      | _ => true
    let o := d.orr idx
    let raw := p.fmt.read e.value
    if p.eff = .off && !off then 0x0202
    else if p.eff = .uncoupled && (ax.now.sup.mode = 3 || ax.now.sup.mode = 4) then 0x020D
    else if p.eff = .obj && (e.id = pORR_SRC || e.id = pORR_SRC_AXIS || e.id = pORR_SCALE) &&
        !(o.state = 0 || o.state = 1 || (o.axisSrc && (d.followers idx).isEmpty)) then 0x020D
    else if e.id = pEXEC_STYLE && raw ≠ d.prm pEXEC_STYLE && (moved || !d.allStill) then 0x020A
    else if e.id = pREG_AXIS && (let m := (d.axis raw.toNat).now.sup.mode; m ≠ 3 && m ≠ 4) then 0x020D
    else if (e.id = pNODE_WD || e.id = pMISS_TAKEOVER) && d.ring.standbyPresent &&
        !(d.segNos.all (fun s => decide (later.val pMISS_TAKEOVER + 1 ≤ later.valueOf 5 s pNODE_WD 0))) then 0x0111
    else 0

/-! ## Engine work (R54, R178, R257) -/

/-- The servo axes of the device, with what else it carries, can be placed (R54). -/
def Dev.servoFits (d : Dev) : Bool :=
  let roles := d.pace.plan.roles
  let seff := d.planIndex d.pace.marginLow roles
  let tp := d.toPlace
  placeable seff (d.bgCost seff) (couldCarry roles) d.budget (tp.1 ++ tp.2)

/-- Work in ns that an axis brings to a base cycle on average. -/
def Dev.workOf (d : Dev) (ax : Axis) : Rat := ax.cost d.runAhead (d.engine 0).version sCorner / (ax.div : Rat)

/-- The steppers with all that waits for a ring start, a homing start or a pace plan. -/
def Dev.steppersLater (d : Dev) : Tab Stepper := Tab.mapAll d.motion.steppers (fun a s => { s with prm := mergeParams s.prm (d.waiting 2 a) })

/-- The resource check of a changed servo axis: 0, 0x0302 or 0x0306. -/
def Dev.axisRoom (d : Dev) (idx : Nat) (new : Axis) (old : Option Axis) : Nat :=
  let d1 := { d with motion := { d.motion with axes := Tab.set d.motion.axes idx new } }
  let more := match old with | some o => decide (d.workOf o < d.workOf new) | none => true
  firstFail [(0x0302, d.pace.marginLow && more), (0x0306, (old.isNone || d.workOf new ≠ d.workOf (old.getD {}) || new.phase ≠ (old.getD {}).phase) && !d1.servoFits)]

/-- The resource check of a changed stepper axis. -/
def Dev.stepperRoom (d : Dev) (idx : Nat) (new : Stepper) : Nat :=
  if d.stepFits (Tab.set d.steppersLater idx new) then 0 else 0x0306

/-- The resource check of a parameter command: the axis with all it waits for, and EXEC_STYLE and T_CYC for every axis (R54, R178, R257). -/
def Dev.setRoom (d : Dev) (kind idx : Nat) (ids : List Nat) (later : Params) : Nat :=
  if kind = 1 && ids.any (fun i => i = pAXIS_DIVISOR || i = pAXIS_PHASE || i = pSPLIT_EN || i = pKERNEL_SEL) then
    d.axisRoom idx { (d.axis idx) with prm := later } (d.axis? idx)
  else if kind = 2 && ids.any (fun i => i = pST_STEP_DIV || i = pST_STEP_PHASE) then
    match d.stepper? idx with
    | some s => d.stepperRoom idx { s with prm := later }
    | none => 0
  else if kind = 0 && (ids.contains pEXEC_STYLE || ids.contains pT_CYC) then
    let d1 : Dev := { d with ctl := { d.ctl with prm := later } }
    if d1.servoFits && d1.stepFits d.steppersLater then 0 else 0x0306
  else 0

/-! ## SET_PARAMS and GET_PARAMS -/

/-- The reply of SET_PARAMS: status, FAIL_INDEX and FAIL_ID (R407). -/
def setReply (st note : Nat) (fail : Option (Nat × Nat)) : CmdRes :=
  { status := st, note := note, pay := leBytes 2 ((fail.map (fun f => f.1)).getD 0xFFFF) ++ leBytes 2 ((fail.map (fun f => f.2)).getD 0) ++ zeroBytes 4 }

/-- The entries laid over parameters. -/
def overlay (op kind idx : Nat) (p : Params) (es : List PEnt) : Params :=
  es.foldl (fun p e => match paramFor op kind e.id with
    | some x => Tab.set p (entKey kind idx e.id e.sub) (x.fmt.read e.value)
    | none => p) p

/-- The entries that come into force at the command's Meridian itself. -/
def instantly (op kind : Nat) (e : PEnt) : Bool :=
  match paramFor op kind e.id with
  | some x => x.eff = .m || x.eff = .off || x.eff = .obj || x.eff = .engage || x.eff = .uncoupled || x.eff = .stored
  | none => false

/-- The first entry for which `f` answers a status. -/
def firstEnt (es : List PEnt) (f : PEnt → Nat) : Option (Nat × Nat × Nat) :=
  (es.zipIdx.find? (fun e => f e.1 ≠ 0)).map (fun e => (f e.1, e.2, e.1.id))

/-- The first entry that a failed cross-condition names. -/
def crossFail (es : List PEnt) (cs : List Cross) : Option (Option (Nat × Nat)) :=
  (cs.find? (fun c => !c.2 && es.any (fun e => c.1.contains e.id))).map (fun c => (es.zipIdx.find? (fun e => c.1.contains e.1.id)).map (fun e => (e.2, e.1.id)))

/-- What SET_PARAMS checks (R403, R407): reserved bytes, entries, cross-conditions, states, resources. `base` are the values in force and `wait` those that wait;
`fresh` says that the target is being added. -/
def Dev.setCheckOn (d : Dev) (q : HostReq) (base wait : Params) (fresh : Bool) : CmdRes :=
  let op := q.op
  let k := q.h.kind
  let i := q.h.index
  let es := entriesOf q.pay
  let now := overlay op k i base (es.filter (instantly op k))
  let later := overlay op k i (mergeParams base wait) es
  if fieldLE q.pay 2 6 ≠ 0 then setReply 0x0104 0 none
  else if es.length = 0 || 169 < es.length then setReply 0x0108 0 none
  else match firstEnt es (fun e => if e.clean op k false then 0 else 0x0104) with
  | some f => setReply f.1 0 (some f.2)
  | none =>
    match firstEnt es (fun e => d.entCheck op k e) with
    | some f => setReply f.1 0 (some f.2)
    | none =>
      match (if fresh then ((d.cross op k i now later).find? (fun c => !c.2)).map (fun c => (es.zipIdx.find? (fun e => c.1.contains e.1.id)).map (fun e => (e.2, e.1.id)))
             else crossFail es (d.cross op k i now later)) with
      | some f => setReply 0x0108 0 f
      | none =>
        match firstEnt es (fun e => if fresh then 0 else d.entState q.moved op k i e later) with
        | some f => setReply f.1 0 (some f.2)
        | none =>
          let r := if fresh then 0 else d.setRoom k i (es.map (fun e => e.id)) later
          if r ≠ 0 then setReply r 0 none else setReply 0 0 none

/-- The check of SET_PARAMS (opcodes 0x0001, 0x1001, 0x3001, 0x4001, 0x5001). -/
def Dev.setCheck (d : Dev) (q : HostReq) : CmdRes :=
  match d.view.params q.op q.h.kind q.h.index with
  | none => .st 0x0102
  | some p => d.setCheckOn q p (d.waiting q.h.kind q.h.index) false

/-- GET_PARAMS (R408): the values in force for the cycle of the latest Plate. -/
def Dev.getParams (d : Dev) (q : HostReq) : CmdRes :=
  let op := q.op
  let k := q.h.kind
  let es := entriesOf q.pay
  match d.seen.params op k q.h.index with
  | none => .st 0x0102
  | some p =>
    let st := firstFail [(0x0104, fieldLE q.pay 2 6 ≠ 0 || es.any (fun e => !e.clean op k true))]
    if st ≠ 0 then .st st
    else if es.length = 0 || 169 < es.length then .st 0x0108
    else if es.any (fun e => (paramFor op k e.id).isNone) then .st 0x0107
    else if es.any (fun e => if isReact e.id then (reactDefault e.sub).2 = 0 || e.sub = fHOST_ESTOP else e.sub ≠ 0) then .st 0x0108
    else .data (leBytes 8 d.ctl.published ++ (es.map (fun e => match paramFor op k e.id with
      | some x => leBytes 2 e.id ++ leBytes 2 e.sub ++ zeroBytes 4 ++ x.fmt.write (p.valueOf k q.h.index e.id e.sub)
      | none => [])).flatten)

end Sys2Proof.Machine
end

