-- ==== Sys2Proof/Machine/CmdSet.lean ====
section
/-! DEFINITION. What a change of parameters does at its Meridian (R86, R108, R111, R116, R117, R124, R129, R131, R144, R145, R350, R407, R416, R573). -/

namespace Sys2Proof.Machine

open Sys2Proof

/-! ## Servo axes -/

/-- The homing plan that a changed limit makes anew, from set-point `s` (R108, R151). -/
def Axis.rehome (ax : Axis) (n0 : Nat) (s : SetPoint) : Axis :=
  let neg := ax.prm.nat pHOME_DIR = 1
  match ax.home.state with
  | 1 => ax.searchPlan n0 s pHOME_VEL_FAST ax.home.dirNeg
  | 2 => ax.searchPlan n0 s pHOME_VEL_SLOW (!neg)
  | 3 => ax.searchPlan n0 s pHOME_VEL_SLOW neg
  | 4 => ax.searchPlan n0 s pHOME_VEL_SLOW ax.home.dirNeg
  | 5 => ax.searchPlan n0 s pHOME_VEL_SLOW neg
  | 6 => ax.homeStop n0 s
  | 7 =>
    let acc := fix 32 (ax.prm.val pHOME_ACC)
    { ax with plan := some (planPos n0 s.kin (fix 32 (ax.prm.val pHOME_TARGET)) { v := fix 40 (ax.homeVel pHOME_VEL_FAST), a := acc, d := acc, j := fix 24 (ax.prm.val pJMAX) }) }
  | _ => ax

/-- A change of the limits of the profile generator replans what they bound (R108, R113 to R116, R573); `old` is the axis before the change. -/
def Axis.relimit (ax old : Axis) (tcyc n0 : Nat) (s : SetPoint) : Axis × Nat × List AxEvent :=
  if ax.w.sup.state ≠ 1 && ax.w.sup.state ≠ 2 || ax.plan.isNone then (ax, 0, [])
  else
    let lowJ := decide (ax.prm.val pJMAX < old.prm.val pJMAX)
    let held := lowJ && (match ax.plan with | some pl => pl.needsJerk (pl.time tcyc n0) (fix 24 (ax.prm.val pJMAX)) | none => false)
    let k := ax.kin tcyc n0 s
    match ax.w.sup.mode with
    | 0 => ax.replanPos n0 k ax.target old.dmaxEff old.jmaxEff (lowJ || decide (ax.prm.val pDMAX < old.prm.val pDMAX)) held
    | 1 => ax.replanVel n0 k (ax.boundVel ax.velTgt) old.jmaxEff lowJ held
    | 5 => (ax.rehome n0 s, 0, [])
    | 7 => (ax.replanStop n0 k false, 0, [])
    | _ => (ax, 0, [])

/-- One of the identifiers is among `l`. -/
def anyOf (ids l : List Nat) : Bool := ids.any (fun i => l.contains i)

/-- A step on the result that waits for the Seal, with a NOTE. -/
def Axis.throughN (ax : Axis) (f : Axis → Axis × Nat × List AxEvent) : Axis × Nat × List AxEvent :=
  match ax.cand with
  | some c => let r := f { ax with w := c }; ({ r.1 with w := ax.w, cand := some r.1.w }, r.2)
  | none => f ax

/-- What a set of changed parameters does to the motion of an axis, other than its coupling. `old` is the axis before the change. -/
def Axis.replanFor (ax old : Axis) (ids : List Nat) (tcyc n0 : Nat) (s : SetPoint) : Axis × Nat × List AxEvent :=
  let r := if anyOf ids [pVMAX, pAMAX, pDMAX, pJMAX] then ax.throughN (fun x => x.relimit old tcyc n0 s) else (ax, 0, [])
  let ax := r.1
  let ax := if anyOf ids [pQS_DEC, pQS_JERK] && ax.now.sup.state = 3 then ax.replanStop n0 (ax.kin tcyc n0 s) true else ax
  (ax, r.2)

/-- What a change of PHASE_F, PHASE_M or of the phase limits does to the phase moves of a follower (R117, R129, R139); `old` is the axis before the change. -/
def Axis.rephase (ax old : Axis) (o : Orrery) (cam : Option Cam) (ids : List Nat) (tcyc n0 : Nat) : Axis × Nat × List AxEvent :=
  match ax.fol with
  | none => (ax, 0, [])
  | some f =>
    let j := fix 24 (ax.prm.val pPH_JMAX)
    let oldD := old.prm.val pPH_DMAX
    let oldJ := old.prm.val pPH_JMAX
    let lowJ := decide (ax.prm.val pPH_JMAX < oldJ)
    let low := lowJ || decide (ax.prm.val pPH_DMAX < oldD)
    let lims := anyOf ids [pPH_VMAX, pPH_AMAX, pPH_DMAX, pPH_JMAX]
    let held (pl : Plan) : Bool := lowJ && pl.needsJerk (pl.time tcyc n0) j
    let r : Axis × Nat × List AxEvent :=
      if ids.contains pPHASE_F || (lims && planRuns (some f.phase) tcyc n0) then
        ax.phaseMoveN tcyc n0 (if ids.contains pPHASE_F then ax.prm.val pPHASE_F else f.phaseTgt) oldD oldJ low (held f.phase)
      else (ax, 0, [])
    let q : Axis × Nat × List AxEvent :=
      if f.cam && (ids.contains pPHASE_M || (lims && planRuns (some f.phaseM) tcyc n0)) then
        r.1.phaseMMoveN o cam tcyc n0 (if ids.contains pPHASE_M then ax.prm.val pPHASE_M else f.phaseMTgt) oldD oldJ low (held f.phaseM)
      else (r.1, 0, [])
    (q.1, if r.2.1 ≠ 0 then r.2.1 else q.2.1, r.2.2 ++ q.2.2)

/-- A change of the follower parameters while coupled is a flying engage, to the nearest place (R129, R131, R139's last paragraph). -/
def Dev.recouple (d : Dev) (a n0 : Nat) (s : SetPoint) : Dev :=
  match d.axis? a with
  | some ax =>
    match ax.fol with
    | some f =>
      let o := d.orr (ax.prm.nat pORRERY)
      let tgt := f.phaseAt d.tcyc n0
      let f1 : Follower :=
        if f.cam then { f with atPos := false, orr := ax.prm.nat pORRERY, num := ax.prm.val pNUM, den := ax.prm.nat pDEN, camId := ax.prm.nat pCAM_ID }
        else { f with atPos := false, orr := ax.prm.nat pORRERY, num := ax.prm.val pNUM, den := ax.prm.nat pDEN, gRef := s.p - rndHE (tgt.1 * 4294967296), thetaRef := o.theta }
      let ax1 := ax.engage f1 o (d.camOf f1) d.tcyc n0 s
      ((d.onAxis a (fun _ => ax1)).limitOrr f.orr n0).limitOrr f1.orr n0
    | none => d
  | none => d

/-- An engage in progress is replanned under its new limits (R108, R132). -/
def Dev.reEngageAxis (d : Dev) (a n0 : Nat) : Dev :=
  d.onAxis a (fun ax => match ax.fol with | some f => ax.reEngage f (d.orr f.orr) d.tcyc n0 | none => ax)

/-- The parameters whose change at the command's Meridian is of the first row of Table 3.2; AXIS_DIVISOR and AXIS_PHASE change at a plan's (`Dev.planInForce`). -/
def kernelParam (id : Nat) : Bool := (id / 256 = 0x31 && id ≠ pAXIS_DIVISOR && id ≠ pAXIS_PHASE) || [pTRQ_SET, pTRQ_SLEW, pTRQ_VLIM].contains id

/-- The values of a servo axis change (R407). -/
def Dev.setAxis (d : Dev) (a : Nat) (ids : List Nat) (prm stored : Params) : Dev × Nat :=
  match d.axis? a with
  | none => (d, 0)
  | some old =>
    let n0 := d.origin
    let s := d.spNow old
    let r := ({ old with prm := prm, stored := stored } : Axis).replanFor old ids d.tcyc n0 s
    let d1 := (d.onAxis a (fun _ => r.1)).emits (r.1.events a r.2.2)
    let coupled := old.fol.isSome
    let d2 := if coupled && anyOf ids [pORRERY, pNUM, pDEN, pCAM_ID, pCAM_BASE, pTHETA_C] then d1.recouple a n0 s else d1
    let d3 := if anyOf ids [pENG_VREL, pENG_AREL, pENG_JREL] then d2.reEngageAxis a n0 else d2
    let ax3 := d3.axis a
    let q := match ax3.fol with | some f => ax3.rephase old (d3.orr f.orr) (d3.camOf f) ids d3.tcyc n0 | none => (ax3, 0, [])
    let d4 := (d3.onAxis a (fun _ => q.1)).emits (q.1.events a q.2.2)
    let moves := anyOf ids [pVMAX, pAMAX, pDMAX, pJMAX, pQS_DEC, pQS_JERK] ||
      (coupled && anyOf ids [pPHASE_F, pPHASE_M, pORRERY, pNUM, pDEN, pCAM_ID, pCAM_BASE, pTHETA_C, pENG_VREL, pENG_AREL, pENG_JREL, pLADDER_RUNG, pPH_VMAX, pPH_AMAX, pPH_DMAX, pPH_JMAX])
    let d4 := if ids.any (fun i => i / 256 = 0x31) then d4.onAxis a (fun ax => ax.mark 17) else d4
    let d4 := if anyOf ids [pVMAX, pAMAX, pDMAX, pJMAX, pQS_DEC, pQS_JERK] then d4.onAxis a (fun ax => ax.mark 18) else d4
    let d5 := if ids.any kernelParam then d4.retract a 1 else d4
    let d6 := if moves then d5.reshaped a else d5
    let d7 := if coupled && ids.contains pLADDER_RUNG then (match old.fol with | some f => d6.limitOrr f.orr n0 | none => d6) else d6
    (d7, if r.2.1 ≠ 0 then r.2.1 else q.2.1)

/-! ## Stepper axes (R183) -/

/-- A stepper's stop profile (R111, R183). -/
def Stepper.replanStop (s : Stepper) (n0 : Nat) (k : Kin) (quick : Bool) : Stepper :=
  { s with plan := some (planStop n0 k (fix 32 (s.prm.val (if quick then pST_STEP_QS_DEC else pST_DMAX))) (fix 24 (s.prm.val pST_JMAX))), defer := {} }

/-- The set-point state of a stepper at cycle `n`: of its plan, else the last one. -/
def Stepper.spAt (s : Stepper) (tcyc n : Nat) : SetPoint :=
  if s.state = 0 || s.state = 4 || s.state = 5 then { s.sp with v := 0, a := 0, j := 0 }
  else match s.plan with
    | some pl => pl.setPoint tcyc n
    | none => s.sp

/-- A stepper's homing plan made anew under changed limits. -/
def Stepper.rehome (s : Stepper) (tcyc n0 : Nat) : Stepper :=
  let neg := s.prm.nat pST_HOME_DIR = 1
  match s.home.state with
  | 1 => s.search tcyc n0 pST_HOME_VEL_FAST s.home.dirNeg
  | 2 => s.search tcyc n0 pST_HOME_VEL_SLOW (!neg)
  | 3 => s.search tcyc n0 pST_HOME_VEL_SLOW neg
  | 5 => s.search tcyc n0 pST_HOME_VEL_SLOW neg
  | _ => s

/-- A change of the limits of a stepper replans what they bound. -/
def Stepper.relimit (s old : Stepper) (tcyc n0 : Nat) (sp : SetPoint) : Stepper × Nat × List AxEvent :=
  let k := planKin s.plan 0 tcyc n0 sp
  if s.plan.isNone then (s, 0, [])
  else if s.state = 2 then (s.replanStop n0 k true, 0, [])
  else if s.state ≠ 1 then (s, 0, [])
  else
    let lowJ := decide (s.prm.val pST_JMAX < old.prm.val pST_JMAX)
    let held := lowJ && (match s.plan with | some pl => pl.needsJerk (pl.time tcyc n0) (fix 24 (s.prm.val pST_JMAX)) | none => false)
    let v := s.prm.val pST_VMAX
    match s.mode with
    | 0 => s.replanPos n0 k s.planEnd old.eff.1 old.eff.2 (lowJ || decide (s.prm.val pST_DMAX < old.prm.val pST_DMAX)) held
    | 1 => s.replanVel n0 k (max (-v) (min v s.velTgt)) old.eff.2 lowJ held
    | 5 => (s.rehome tcyc n0, 0, [])
    | 7 => (s.replanStop n0 k false, 0, [])
    | _ => (s, 0, [])

/-- The values of a stepper axis change (R407). -/
def Dev.setStepper (d : Dev) (a : Nat) (ids : List Nat) (prm stored : Params) : Dev × Nat :=
  match d.stepper? a with
  | none => (d, 0)
  | some old =>
    let new := { old with prm := prm, stored := stored }
    if anyOf ids [pST_VMAX, pST_AMAX, pST_DMAX, pST_JMAX, pST_STEP_QS_DEC] then
      let r := new.relimit old d.tcyc d.origin (old.spAt d.tcyc d.origin)
      ((d.onStepper a (fun _ => r.1)).emits (r.1.events a r.2.2), r.2.1)
    else (d.onStepper a (fun _ => new), 0)

/-! ## Orreries, register channels -/

/-- ORR_SRC, ORR_SRC_AXIS and ORR_SCALE take effect (R124). -/
def Orrery.source (o : Orrery) : Orrery :=
  if o.state = 0 then o
  else if o.prm.nat pORR_SRC = 1 then { o with axisSrc := true, srcAxis := o.prm.nat pORR_SRC_AXIS, state := 2, plan := none, faultStop := false }
  else if o.axisSrc then { o with axisSrc := false, state := 1, omega := 0, alpha := 0, jerk := 0, tgt := 0, plan := none }
  else o

/-- The plan of a VIRTUAL Orrery under changed limits; a target beyond a lowered ORR_VMAX is replaced (R108, R573). -/
def Orrery.relimit (o : Orrery) (n0 : Nat) : Orrery :=
  if o.axisSrc then o
  else if o.state = 2 then
    let t := max (-o.vmax) (min o.vmax o.tgt)
    { (o.planTo n0 t (o.prm.val pORR_DMAX)) with tgt := t }
  else if o.state = 3 then o.planTo n0 0 (o.prm.val (if o.faultStop then pORR_QS_DEC else pORR_DMAX))
  else o

/-- The values of an Orrery change (R407). -/
def Dev.setOrr (d : Dev) (i : Nat) (ids : List Nat) (prm : Params) : Dev :=
  let n0 := d.origin
  let src := anyOf ids [pORR_SRC, pORR_SRC_AXIS, pORR_SCALE]
  let lim := anyOf ids [pORR_VMAX, pORR_AMAX, pORR_DMAX, pORR_JMAX, pORR_QS_DEC]
  let f (o : Orrery) : Orrery :=
    let o := { o with prm := prm }
    let o := if src then o.source else o
    if lim then o.relimit n0 else o
  let d := if lim || anyOf ids [pLADDER_PIVOT, pLADDER_RUNGS] || src then d.replanOrr i n0 f else d.onOrr i f
  d.limitOrr i n0

/-- The values of a register channel change; it becomes configured when REG_AXIS, REG_SRC and REG_PUB are set (R416). -/
def Dev.setReg (d : Dev) (i : Nat) (prm : Params) : Dev :=
  match Tab.find d.motion.regs i with
  | some c => { d with motion := { d.motion with regs := Tab.set d.motion.regs i { c with prm := prm } } }
  | none =>
    if Tab.has prm pREG_AXIS && Tab.has prm pREG_SRC && Tab.has prm pREG_PUB then
      { d with motion := { d.motion with regs := Tab.set d.motion.regs i { prm := prm }, regPre := Tab.del d.motion.regPre i } }
    else { d with motion := { d.motion with regPre := Tab.set d.motion.regPre i prm } }

/-! ## The Time Unit -/

/-- The plant ports restart (Table 11.6); a source that a port gave is lost with it (R343). -/
def Tu.restartPorts (t : Tu) : Tu × List Ev :=
  t.afterPorts { t with ports := t.ports.zipIdx.map (fun p => t.restartPort p.2 p.1) }

/-- DEVICE parameters of class 0x5 change (R342, Table 11.6). -/
def Tu.setPrm (t : Tu) (ids : List Nat) (prm : Params) : Tu × List Ev :=
  let t := { t with prm := prm }
  let t := if anyOf ids [pTB_SOURCE, pRATE_TRIM] then t.sourceEffect (ids.contains pTB_SOURCE) else t
  if anyOf ids [pPTP_ROLE, pPTP_PROFILE, pPTP_TRANSPORT, pPTP_DOMAIN] then t.restartPorts else (t, [])

/-- The Meridian of the cycle in progress, in quarter ns of the ring count; RC itself before the first. -/
def Dev.merQ (d : Dev) : Int := if d.ctl.running then 4 * (d.mer d.ctl.cycle : Int) else d.tu.now

/-- A_M of the cycle in progress, in quarter ns. -/
def Dev.applyQ (d : Dev) : Int := d.merQ + 4 * (d.tApply : Int)

/-- The values of a timed output change: its pattern starts anew from this Meridian (R350). -/
def Dev.setTout (d : Dev) (i : Nat) (prm : Params) : Dev :=
  { d with tu := { d.tu with touts := d.tu.touts.modify i (fun o => d.tu.arm d.merQ d.applyQ { o with prm := prm }) } }

/-! ## DEVICE parameters -/

/-- EXEC_STYLE takes effect (R34, R46, R118): T_APPLY follows, and ISOLATED empties the Ephemeris. -/
def Dev.styleChange (d : Dev) : Dev :=
  let d := { d with ctl := { d.ctl with tapply := d.tApplyOf d.runAhead }, pace := { d.pace with trigger := true } }
  d.ephemeris

/-- DEVICE parameters of classes 0x0 and 0x4 change. -/
def Dev.setDevice (d : Dev) (ids : List Nat) (prm stored : Params) : Dev :=
  let style := d.prm pEXEC_STYLE
  let d := { d with ctl := { d.ctl with prm := prm, stored := stored } }
  let d := if ids.contains pEPH_DEPTH then d.ephemeris else d
  if d.prm pEXEC_STYLE ≠ style then d.styleChange else d

/-! ## SET_PARAMS takes effect -/

/-- The entries of an effect. -/
def withEff (op kind : Nat) (es : List PEnt) (f : PEffect → Bool) : List PEnt :=
  es.filter (fun e => match paramFor op kind e.id with | some x => f x.eff | none => false)

/-- The values that a pace plan carries replace those that wait for the same parameter; a plan is asked for where the parameter needs one (R44, R243). -/
def Dev.carry (d : Dev) (op kind idx : Nat) (es : List PEnt) : Dev :=
  let cs := withEff op kind es (fun e => e = .plan || e = .nextPlan)
  let new := cs.filterMap (fun e => (paramFor op kind e.id).map (fun x => (carryTarget kind idx, e.id, x.fmt.read e.value)))
  let keep := d.pace.carry.filter (fun c => !new.any (fun n => n.1 = c.1 && n.2.1 = c.2.1))
  { d with pace := { d.pace with carry := keep ++ new, trigger := d.pace.trigger || !(withEff op kind cs (fun e => e = .plan)).isEmpty || es.any (fun e => kind = 1 && e.id = pKERNEL_SEL) } }

/-- SET_PARAMS takes effect at its Meridian (R407): the device and the NOTE. -/
def Dev.setEffect (d : Dev) (q : HostReq) : Dev × CmdRes :=
  let op := q.op
  let k := q.h.kind
  let i := q.h.index
  let es := entriesOf q.pay
  let ids := es.map (fun e => e.id)
  let inst := es.filter (instantly op k)
  let ring := withEff op k es (fun e => e = .ringStart)
  let home := withEff op k es (fun e => e = .homing)
  let base := ((d.view.params op k i).getD [])
  let prm := overlay op k i base inst
  let d := d.carry op k i es
  let pend := if ring.isEmpty then 0 else 0x0002
  let r : Dev × Nat :=
    match k with
    | 0 => if paramClass op = 5 then (d.withTu (d.tu.setPrm ids prm), 0) else (d.setDevice ids prm (overlay op k i d.ctl.stored ring), 0)
    | 1 => d.setAxis i ids prm (overlay op k i (d.axis i).stored home)
    | 2 => d.setStepper i ids prm (overlay op k i ((d.stepper? i).map (fun s => s.stored) |>.getD []) home)
    | 3 => (d.setOrr i ids prm, 0)
    | 4 => (d.setReg i prm, 0)
    | 5 => ({ d with ctl := { d.ctl with stored := overlay op k i d.ctl.stored ring } }, 0)
    | 8 => (d.setTout i prm, 0)
    | 9 => ({ d with tu := { d.tu with tcaps := d.tu.tcaps.modify i (fun c => { c with prm := prm }) } }, 0)
    | 13 => ({ d with tu := { d.tu with ports := d.tu.ports.modify i (fun p => { p with prm := prm }) } }, 0)
    | _ => (d, 0)
  (r.1, setReply 0 (if pend ≠ 0 then pend else r.2) none)

end Sys2Proof.Machine
end

