-- ==== Sys2Proof/Machine/CmdAxis.lean ====
section
/-! DEFINITION. The axis-configuration commands of class 0x1 beside SET_PARAMS and GET_PARAMS (R412): what they check and what they do at their Meridian. -/

namespace Sys2Proof.Machine

open Sys2Proof

/-! ## Targets -/

/-- The axis that the command names is configured. -/
def Dev.targetSet (d : Dev) (q : HostReq) : Bool := if q.h.kind = 1 then (d.axis? q.h.index).isSome else (d.stepper? q.h.index).isSome

/-- The supervision state of the axis that the command names. -/
def Dev.targetState (d : Dev) (q : HostReq) : Nat :=
  if q.h.kind = 1 then (d.axis q.h.index).now.sup.state else match d.stepper? q.h.index with | some s => s.state | none => 0

/-! ## AXIS_ADD and AXIS_REMOVE -/

/-- What an axis starts from: the defaults of its tables; a stepper's divisor depends on the cycle, and its phase on its number and the divisor that the
command gives it, if any (Table 6.3, R177). -/
def Dev.newParams (d : Dev) (q : HostReq) : Params :=
  if q.h.kind = 2 then
    let div := max 1 (ceilDiv 125000 d.tcycLeast)
    let given := (overlay q.op q.h.kind q.h.index (Tab.set [] pST_STEP_DIV (div : Int)) (entriesOf q.pay)).nat pST_STEP_DIV
    let ph := q.h.index % max 1 given
    Tab.set (Tab.set [] pST_STEP_DIV (div : Int)) pST_STEP_PHASE (ph : Int)
  else []

/-- The parameters of an axis that AXIS_ADD configures. -/
def Dev.addParams (d : Dev) (q : HostReq) : Params := overlay q.op q.h.kind q.h.index (d.newParams q) (entriesOf q.pay)

/-- AXIS_ADD is checked as SET_PARAMS on an axis with its defaults (R54, R178, R257). -/
def Dev.addCheck (d : Dev) (q : HostReq) : CmdRes :=
  let c := d.setCheckOn q (d.newParams q) [] true
  if c.status ≠ 0 then c
  else if d.targetSet q then setReply 0x020D 0 none
  else setReply (if q.h.kind = 1 then d.axisRoom q.h.index { prm := d.addParams q } none else d.stepperRoom q.h.index { prm := d.addParams q }) 0 none

/-- AXIS_ADD: a servo axis is in mode HOLD and state OFF (R156), and a pace plan is to place it. -/
def Dev.addEffect (d : Dev) (q : HostReq) : Dev × CmdRes :=
  let p := d.addParams q
  let d1 : Dev :=
    if q.h.kind = 1 then
      { d with motion := { d.motion with axes := Tab.set d.motion.axes q.h.index { prm := p } }, pace := { d.pace with trigger := true } }
    else { d with motion := { d.motion with steppers := Tab.set d.motion.steppers q.h.index { prm := p } } }
  (d1.layout, setReply 0 0 none)

/-- Something names the axis: a register channel, its own bound switch, or an Orrery's source (Table 13.5). -/
def Dev.axisNamed (d : Dev) (q : HostReq) : Bool :=
  if q.h.kind = 1 then
    let ax := d.axis q.h.index
    d.motion.regs.any (fun c => c.2.prm.nat pREG_AXIS = q.h.index) || ax.swPos.src.isSome || ax.swNeg.src.isSome || ax.swHome.src.isSome ||
      d.motion.orrs.any (fun o => o.2.state ≠ 0 && o.2.axisSrc && o.2.srcAxis = q.h.index)
  else match d.stepper? q.h.index with
    | some s => s.swPos.src.isSome || s.swNeg.src.isSome || s.swHome.src.isSome
    | none => false

/-- AXIS_REMOVE is checked. -/
def Dev.removeCheck (d : Dev) (q : HostReq) : CmdRes :=
  .st (firstFail [(0x0102, !d.targetSet q), (0x0202, d.targetState q ≠ 0), (0x020D, d.axisNamed q)])

/-- What waits for an axis that is removed, or is planned for it, goes with it. -/
def Dev.forget (d : Dev) (kind a : Nat) : Dev :=
  let k := carryTarget kind a
  let fin := d.pace.done.map (fun (p : PacePlan) =>
    { p with place := if kind = 1 then Tab.del p.place a else p.place, phases := p.phases.filter (fun x => x.1 ≠ k), carries := p.carries.filter (fun c => c.1 ≠ k) })
  { d with pace := { d.pace with done := fin, carry := d.pace.carry.filter (fun c => c.1 ≠ k) } }

/-- AXIS_REMOVE. -/
def Dev.removeEffect (d : Dev) (q : HostReq) : Dev × CmdRes :=
  let a := q.h.index
  let d := d.forget q.h.kind a
  if q.h.kind = 2 then (Dev.layout { d with motion := { d.motion with steppers := Tab.del d.motion.steppers a } }).done
  else
    let engines := d.engines.map (fun (g : Engine) => { g with slots := g.slots.filter (fun x => x.2.axis ≠ a) })
    let plan := { d.pace.plan with place := Tab.del d.pace.plan.place a, phases := d.pace.plan.phases.filter (fun x => x.1 ≠ carryTarget 1 a) }
    (Dev.layout { d with
      engines := engines, motion := { d.motion with axes := Tab.del d.motion.axes a, eph := Tab.del d.motion.eph a },
      pace := { d.pace with plan := plan, trigger := true, unshed := d.pace.unshed.filter (fun x => x ≠ a) } }).done

/-! ## Enable, disable, fault clear -/

/-- Both slots of the axis are mapped (Table 9.10). -/
def Dev.mapped (d : Dev) (q : HostReq) : Bool :=
  let kind := q.h.kind - 1
  let has (input : Bool) : Bool := d.ring.map.entries.any (fun e => e.2.input = input && e.2.kind = kind && e.2.target = q.h.index)
  has true && has false

/-- SAFE_OFF and the latched fault of the axis. -/
def Dev.barred (d : Dev) (q : HostReq) : Bool :=
  if q.h.kind = 1 then (let ax := d.axis q.h.index; ax.safeOff || ax.now.sup.fault ≠ 0)
  else match d.stepper? q.h.index with | some s => s.safeOff || s.fault ≠ 0 | none => true

/-- AXIS_ENABLE is checked. -/
def Dev.enableCheck (d : Dev) (q : HostReq) : CmdRes :=
  .st (firstFail [(0x0102, !d.targetSet q), (0x020D, d.targetState q ≠ 0 || !d.mapped q || d.barred q)])

/-- The seed becomes the set-point of the cycle that a change starts from. -/
def Axis.seeded (ax : Axis) (n0 : Nat) (s : SetPoint) : Axis := if ax.spCycle ≤ n0 then { ax with sp := s } else { ax with spPrev := s }

/-- A servo axis is enabled with origin `n0` (Tables 3.5 and 5.4, R69, R163, R166): seeded from p_act and v_act with acceleration 0, STOP planned from there and HOLD at
p_act, with a hand-over from torque 0. Conditions that still hold count anew (R98). -/
def Axis.enable (ax : Axis) (n0 : Nat) (split : Bool) : Axis :=
  let ax1 := ax.onWork (fun w => { w with k := { w.k with iP := 0, iV := 0, hasCount := false }, sup := { w.sup with state := 1, warn := 0, warnHold := [], reaction := 0 } })
  let k := ax1.now.k
  let stop := ax1.now.sup.mode = 7
  let s : SetPoint := { p := k.pAct, v := if stop then k.vAct else 0 }
  let ax2 : Axis := { (ax1.mark 22).seeded n0 s with hand := some { kind := 3, tauOld := 0, armed := !split }, held := [], fol := none }
  if stop then ax2.replanStop n0 s.kin false else { ax2 with plan := none, sp := s, spPrev := s }

/-- AXIS_ENABLE. -/
def Dev.enableEffect (d : Dev) (q : HostReq) : Dev × CmdRes :=
  let a := q.h.index
  if q.h.kind = 1 then
    let split := match d.axis? a with | some ax => d.split (ax.onWork (fun w => { w with sup := { w.sup with state := 1 } })) | none => false
    ((d.onAxis a (fun ax => ax.enable d.origin split)).changed a 1).done
  else (d.onStepper a (fun s => { s with state := 1, sp := { p := s.sp.p }, plan := none, amp := s.prm.nat pST_I_RUN, holding := false, restRun := none, enabled := true, held := [] })).done

/-- AXIS_DISABLE is checked. -/
def Dev.disableCheck (d : Dev) (q : HostReq) : CmdRes := .st (firstFail [(0x0102, !d.targetSet q)])

/-- A servo axis is disabled (Tables 3.5 and 5.4): without torque, in OFF, or in TORQUE_OFF with its fault kept. -/
def Axis.disable (ax : Axis) : Axis :=
  let st := ax.now.sup.state
  if st = 0 || st = 5 then ax
  else
    let q := st = 3 || st = 4
    let f (w : Work) : Work :=
      let w := w.cutTorque
      { w with sup := { w.sup with state := if q then 5 else 0, reaction := if q then 3 else 0, warn := 0, warnHold := [], mode := 7, feCnt := none, qsCnt := none, stillCnt := none, qsNew := false, offNew := false } }
    { (ax.onWork f).mark 23 with plan := none, fol := none, hand := none, trqOvr := none, indexArm := false, home := ax.home.leave, sp := { p := ax.now.k.pAct } }

/-- A stepper axis is disabled (Table 6.5). -/
def Stepper.disable (s : Stepper) : Stepper :=
  if s.state = 1 then
    let lost := s.lost || s.prm.nat pST_KEEP_REF_OFF ≠ 1
    { s with state := 0, mode := 7, amp := 0, enabled := false, plan := none, home := s.home.leave, sp := { p := s.sp.p }, lost := lost, referenced := s.referenced && !lost, warn := 0, warnHold := [], reaction := 0 }
  else s

/-- A command on an axis that leaves its Orrery takes the follower's bound off it (R172). -/
def Dev.uncoupled (d : Dev) (f : Option Follower) : Dev := match f with | some f => d.limitOrr f.orr d.origin | none => d

/-- AXIS_DISABLE; in state OFF it has no effect. -/
def Dev.disableEffect (d : Dev) (q : HostReq) : Dev × CmdRes :=
  let a := q.h.index
  if q.h.kind = 1 then
    if d.targetState q = 0 then d.done
    else
      let fol := (d.axis a).fol
      (((d.onAxis a Axis.disable).changed a 1).uncoupled fol).done
  else (d.onStepper a Stepper.disable).done

/-- No plan could carry a shed axis while MARGIN_LOW holds (R257). -/
def Dev.shedStays (d : Dev) (a : Nat) : Bool :=
  d.pace.marginLow && !Dev.servoFits { d with pace := { d.pace with unshed := a :: d.pace.unshed } }

/-- FAULT_CLEAR is checked (R99, R257). -/
def Dev.clearCheck (d : Dev) (q : HostReq) : CmdRes :=
  let st := d.targetState q
  let off := if q.h.kind = 1 then (d.axis q.h.index).safeOff else match d.stepper? q.h.index with | some s => s.safeOff | none => false
  let shed := q.h.kind = 1 && (d.axis q.h.index).shed
  .st (firstFail [(0x0102, !d.targetSet q), (0x020B, !(st = 4 || (st = 3 && q.h.kind = 2) || (st = 5 && !off))), (0x0302, shed && d.shedStays q.h.index)])

/-- A fault of a servo axis is cleared (Table 3.5): HALTED returns to OK where it stands, TORQUE_OFF to OFF. -/
def Axis.clear (ax : Axis) (split : Bool) : Axis :=
  let halted := ax.now.sup.state = 4
  let f (w : Work) : Work :=
    { w with sup := { w.sup with state := if halted then 1 else 0, fault := 0, warn := 0, reaction := 0, warnHold := [], feCnt := none, qsCnt := none, stillCnt := none, satCnt := none, retractRun := 0, fbMissRun := 0 } }
  let ax1 := { (ax.onWork f).mark 21 with held := [], staleRun := 0 }
  if halted then { ax1 with hand := some { kind := 0, tauOld := ax.applied, armed := !split } } else { ax1 with hand := none }

/-- A fault of a stepper axis is cleared (Table 6.5). -/
def Stepper.clear (s : Stepper) : Stepper :=
  let s1 := { s with fault := 0, warn := 0, warnHold := [], reaction := 0, held := [], staleRun := 0, lateAgain := false }
  if s.state = 5 then { s1 with state := 0 } else { s1 with state := 1, plan := none, sp := { p := s.sp.p } }

/-- FAULT_CLEAR. -/
def Dev.clearEffect (d : Dev) (q : HostReq) : Dev × CmdRes :=
  let a := q.h.index
  if q.h.kind = 2 then (d.onStepper a Stepper.clear).done
  else
    let shed := (d.axis a).shed
    let split := match d.axis? a with | some ax => d.split ax | none => false
    let d1 := (d.onAxis a (fun ax => ax.clear split)).changed a 1
    (if shed then { d1 with pace := { d1.pace with unshed := if d1.pace.unshed.contains a then d1.pace.unshed else a :: d1.pace.unshed, trigger := true } } else d1).done

/-! ## TABLE_LOAD (R82, R83) -/

/-- The bytes of the handle that a command consumes. -/
def Dev.bulkBytes (d : Dev) (q : HostReq) (n : Nat) : List Byte := match Tab.find d.host.bulks (handleOf q) with | some b => b.bytes n | none => []

/-- The handle is there, holds `n` bytes and matches its CRC: 0, 0x010D or 0x010E (R409). -/
def Dev.bulkCheck (d : Dev) (q : HostReq) (n crc : Nat) : Nat :=
  match Tab.find d.host.bulks (handleOf q) with
  | none => 0x010D
  | some b => if b.len < n then 0x010D else if crc32 (b.bytes n) = crc then 0 else 0x010E

/-- The bytes that a table takes of the pool. -/
def tableBytes (t : Option TrqTable) : Nat := match t with | some t => 2 * t.n | none => 0

/-- The bytes of the friction and cogging pool in use. -/
def Dev.poolUsed (d : Dev) : Nat := (d.motion.axes.map (fun e => tableBytes e.2.cog + tableBytes e.2.fric)).sum

/-- The table of an axis that TABLE_LOAD names: 0 COG, 1 FRIC. -/
def Axis.table (ax : Axis) (which : Nat) : Option TrqTable := if which = 0 then ax.cog else ax.fric

/-- TABLE_LOAD is checked. -/
def Dev.tableCheck (d : Dev) (q : HostReq) : CmdRes :=
  let n := fieldLE q.pay 4 2
  let w := fieldLE q.pay 2 1
  let ax := d.axis q.h.index
  let inPlace := ax.now.sup.state = 0 || (ax.cog.isNone && ax.fric.isNone)
  let need := d.poolUsed + 2 * n - (if inPlace then tableBytes (ax.table w) else 0)
  let h := if n = 0 then 0 else d.bulkCheck q (2 * n) (fieldLE q.pay 16 4)
  .st (firstFail [(0x0104, fieldLE q.pay 3 1 ≠ 0 || fieldLE q.pay 6 2 ≠ 0), (0x0102, !d.targetSet q),
    (0x0108, 1 < w || !([0, 1024, 2048, 4096, 8192, 16384].contains n) || (n ≠ 0 && fieldLE q.pay 8 8 = 0)), (h, h ≠ 0), (0x0301, n ≠ 0 && 16777216 < need)])

/-- The entries of a table: signed Q1.15. -/
def tableEntries (b : List Byte) (n : Nat) : List Int := (List.range n).map (fun i => fieldLES b (2 * i) 2)

/-- TABLE_LOAD: N 0 removes the table. -/
def Dev.tableEffect (d : Dev) (q : HostReq) : Dev × CmdRes :=
  let n := fieldLE q.pay 4 2
  let w := fieldLE q.pay 2 1
  let per := fieldLE q.pay 8 8
  let t : Option TrqTable := if n = 0 then none else some { n := n, period := per, entries := tableEntries (d.bulkBytes q (2 * n)) n }
  let f (ax : Axis) : Axis :=
    let p := Tab.set ax.prm (if w = 0 then pCOG_N else pFRIC_N) (n : Int)
    let p := if n = 0 then p else Tab.set p (if w = 0 then pCOG_PERIOD else pFRIC_PERIOD) (per : Int)
    if w = 0 then { ax with cog := t, prm := p }.mark 17 else { ax with fric := t, prm := p }.mark 17
  ((d.onAxis q.h.index f).retract q.h.index 1).done

/-! ## BIND_SWITCH and SET_POSITION -/

/-- The source of a switch (Table 13.5): a capture input or a node's input point, as REG_SRC; 0 unbinds. -/
def switchSrcOk (s : Nat) : Bool := s = 0 || valueOk pREG_SRC (s : Int)

/-- The homing sequencer of the axis is at work. -/
def Dev.homing (d : Dev) (q : HostReq) : Bool :=
  if q.h.kind = 1 then (d.axis q.h.index).now.sup.mode = 5 else match d.stepper? q.h.index with | some s => s.mode = 5 | none => false

/-- BIND_SWITCH is checked (R146, R147). -/
def Dev.bindCheck (d : Dev) (q : HostReq) : CmdRes :=
  let f (o k : Nat) : Nat := fieldLE q.pay o k
  .st (firstFail [(0x0104, f 3 1 ≠ 0), (0x0102, !d.targetSet q), (0x0108, 2 < f 0 1 || 1 < f 1 1 || f 2 1 < 2 || !switchSrcOk (f 4 4) || 100000 < f 8 4), (0x020D, d.homing q)])

/-- The level of a switch's source as it stands (R146): the point of the process image, or the capture input's pin. -/
def Dev.levelOf (d : Dev) (node : Bool) (src : Nat) : Bool := if node then imageBit d.image src else (d.tu.tcaps.getD src {}).level

/-- A switch bound to a source, or unbound. It takes the source's level as its raw value from this instant on; a limit switch that reads active is active (R146; log 53). -/
def Dev.switchOf (d : Dev) (pay : List Byte) (limit : Bool) (old : Switch) : Switch :=
  let f (o k : Nat) : Nat := fieldLE pay o k
  let s := f 4 4
  if s = 0 then { chatter := old.chatter }
  else
    let node := decide (s / 2 ^ 24 = 2)
    let src := if node then s % 2 ^ 23 else s % 2 ^ 24
    let inv := decide (f 1 1 = 1)
    let raw := d.levelOf node src ≠ inv
    { src := some (if node then 0 else src), node := node, bitAddr := if node then src else 0, invert := inv, debounce := f 8 4, chatterLimit := f 2 1, chatter := old.chatter,
      raw := raw, active := limit && raw, hit := limit && raw, runStamp := d.merQ }

/-- BIND_SWITCH. -/
def Dev.bindEffect (d : Dev) (q : HostReq) : Dev × CmdRes :=
  let w := fieldLE q.pay 0 1
  let f (sw : Switch) : Switch := d.switchOf q.pay (decide (w ≠ 2)) sw
  if q.h.kind = 1 then (d.onAxis q.h.index (fun ax => ax.onSwitch w f)).done
  else (d.onStepper q.h.index (fun s => s.onSwitch w f)).done

/-- SET_POSITION is checked (R195). -/
def Dev.setPosCheck (d : Dev) (q : HostReq) : CmdRes :=
  let rest := match d.stepper? q.h.index with
    | some s => s.state = 0 || s.state = 3 || s.state = 4 || (s.state = 1 && s.sp.v = 0 && s.sp.a = 0 && !planRuns s.plan d.tcyc d.origin)
    | none => true
  .st (firstFail [(0x0102, !d.targetSet q), (0x0211, !rest)])

/-- SET_POSITION (R195): POS_CMD reads the host's value, LOST clears and REFERENCED is set. -/
def Dev.setPosEffect (d : Dev) (q : HostReq) : Dev × CmdRes :=
  (d.onStepper q.h.index (fun s => { s with posOffset := fieldLES q.pay 0 8 - s.sp.p, lost := false, referenced := true })).done

/-! ## Queries of axes -/

/-- AXIS_STATUS (Table 13.5). -/
def Snap.axisStatus (v : Snap) (a : Nat) : Option (List Byte) :=
  (Tab.find v.motion.axes a).map (fun ax =>
    leBytes 1 ax.home.state ++ leBytes 1 (flag ax.home.referenced 0 + flag ax.swPos.active 1 + flag ax.swNeg.active 2 + flag ax.swHome.active 3) ++ zeroBytes 2 ++
    leBytes 2 ax.swPos.chatter ++ leBytes 2 ax.swNeg.chatter ++ leBytes 2 ax.swHome.chatter ++ leBytes 1 ax.staleRun ++ [0] ++ leBytes 1 ax.engine ++ zeroBytes 3 ++
    leBytes 8 (lowBits 64 ax.dmaxEff) ++ leBytes 8 (match ax.plan with | some p => p.n0 | none => 0) ++ leBytes 4 ((v.engines.getD ax.engine {}).version % 2 ^ 32) ++ zeroBytes 4)

/-- STEP_STATUS (Table 13.5). -/
def Snap.stepStatus (v : Snap) (a : Nat) : Option (List Byte) :=
  (Tab.find v.motion.steppers a).map (fun s =>
    leBytes 4 s.planLag ++ leBytes 4 s.overrunCnt ++ leBytes 4 s.fbMissCnt ++ leBytes 4 s.resSwitchCnt ++ leBytes 1 s.stallRun ++ leBytes 1 s.home.state ++
    leBytes 2 s.swPos.chatter ++ leBytes 2 s.swNeg.chatter ++ leBytes 2 s.swHome.chatter ++ leBytes 8 (lowBits 64 s.posOffset) ++ zeroBytes 8)

/-- A query of an object that must be configured (R401, R404). -/
def Dev.askOf (d : Dev) (b : Option (List Byte)) : Dev × CmdRes :=
  match b with
  | some b => (d, .data (leBytes 8 d.ctl.published ++ b))
  | none => (d, .st 0x0102)

end Sys2Proof.Machine
end

