-- ==== Sys2Proof/Machine/CmdMotion.lean ====
section
/-! DEFINITION. The motion and Orrery commands (R413 to R416): MODE, ESTOP, PROCESS_WRITE, and classes 0x3 beside SET_PARAMS and GET_PARAMS. -/

namespace Sys2Proof.Machine

open Sys2Proof

/-! ## MODE on a servo axis (R162 to R166) -/

/-- TARGET of MODE as a signed number of 8 bytes. -/
def modeTarget (q : HostReq) : Int := fieldLES q.pay 8 8

/-- Bytes of MODE that must be zero: those of the header and, by mode, those of TARGET (R414). -/
def modeReserved (q : HostReq) : Bool :=
  let m := fieldLE q.pay 0 1
  fieldLE q.pay 1 7 ≠ 0 || (if m = 0 || m = 1 then false else if m = 2 then fieldLE q.pay 12 4 ≠ 0 else fieldLE q.pay 8 8 ≠ 0)

/-- The command moves towards an active limit switch (R149). -/
def towards (pos neg : Switch) (x : Int) : Bool := (pos.active && decide (0 < x)) || (neg.active && decide (x < 0))

/-- GEAR or CAM names what is configured (R162), and a rung within the ladder (R128, Table 13.3). -/
def Dev.followCheck (d : Dev) (ax : Axis) (m : Nat) : Nat :=
  match d.orr? (ax.prm.nat pORRERY) with
  | none => 0x010A
  | some o =>
    if m = 4 && !Tab.has d.motion.cams (ax.prm.nat pCAM_ID) then 0x010A
    else if ax.prm.nat pLADDER_RUNG ≠ 255 && o.prm.nat pLADDER_RUNGS ≤ ax.prm.nat pLADDER_RUNG then 0x0108
    else 0

/-- MODE on a servo axis is checked (R112, R149, R152, R162, R414). -/
def Dev.modeServoCheck (d : Dev) (q : HostReq) (ax : Axis) : Nat :=
  let m := fieldLE q.pay 0 1
  let t := modeTarget q
  let st := ax.now.sup.state
  let s := d.spNow ax
  let lim := ax.prm.nat pSW_LIM_EN = 1 && ax.prm.val pMODULUS = 0
  let fol := if m = 3 || m = 4 then d.followCheck ax m else 0
  let x : Int := if m = 0 then ax.travelTo s.p t else if m = 1 then t else if m = 2 then wrapS 32 t else 0
  firstFail [(0x0104, modeReserved q), (0x0108, 7 < m), (0x0108, m = 0 && lim && (t < ax.prm.val pSW_LIM_NEG || ax.prm.val pSW_LIM_POS < t)), (fol, fol ≠ 0),
    (0x0212, st = 3 || st = 4 || st = 5 || (st = 0 && m ≠ 6 && m ≠ 7)), (0x0211, (m = 5 || m = 6) && st ≠ 0 && !ax.atRest d.tcyc d.origin s),
    (0x0206, towards ax.swPos ax.swNeg x), (0x0207, m = 0 && ax.prm.nat pSW_LIM_EN = 1 && !ax.home.referenced)]

/-- The state that seeds a new mode (R163). -/
def Dev.modeSeed (d : Dev) (ax : Axis) : SetPoint :=
  let k := if d.origin < d.ctl.cycle then ax.w.k else ax.now.k
  let s := d.spNow ax
  match ax.now.sup.mode with
  | 1 => { s with p := k.pAct }
  | 2 => { p := k.pAct, v := k.vAct }
  | _ => s

/-- The hand-over that a change from `old` to `m` runs (R166). -/
def handOf (old m : Nat) (tau : Int) (split : Bool) : Hand :=
  { kind := if structOf m = 2 then 2 else if structOf old = 0 && structOf m = 0 then 0 else 1, tauOld := tau, armed := !split }

/-- The axis leaves its mode for `m` (R164). -/
def Axis.leaves (ax : Axis) (m n0 : Nat) (s : SetPoint) (split : Bool) : Axis :=
  let h := handOf ax.now.sup.mode m ax.applied split
  let ax1 := (ax.onWork (fun w => { w with sup := { w.sup with mode := m } })).mark 16
  Axis.seeded { ax1 with hand := some h, home := ax.home.leave, trqOvr := none, indexArm := false } n0 s

/-- The NOTE of MODE with a POS target: 0x0022 when the new plan passes the target and comes back (R113, Table 13.6; DEDUCED, log 64). -/
def posNote (overshoot : Bool) (note : Nat) : Nat := if overshoot then 0x0022 else note

/-- POS, VEL, TRQ, HOLD and STOP take effect (R163, R164, R573, R414); answers the NOTE and events. -/
def Axis.takeMode (ax : Axis) (tcyc m n0 : Nat) (s : SetPoint) (t : Int) (oldD oldJ : Int) : Axis × Nat × List AxEvent :=
  let k := ax.kin tcyc n0 s
  match m with
  | 0 =>
    let r := { ax with fol := none }.throughN (fun x => x.replanPos n0 k t oldD oldJ false false)
    (r.1, posNote r.1.defer.overshoot r.2.1, r.2.2)
  | 1 =>
    let b := ax.boundVel t
    let r := { ax with fol := none }.replanVel n0 k b oldJ false false
    (r.1, if b = t then r.2.1 else 0x0025, r.2.2)
  | 2 => ({ ax with fol := none, plan := none, defer := {}, prm := Tab.set ax.prm pTRQ_SET (wrapS 32 t) }, 0, [])
  | 6 => ({ ax with fol := none, plan := none, defer := {} }, 0, [])
  | _ => (ax.replanStop n0 k false, 0, [])

/-- HOME takes effect (Table 4.10): ABSOLUTE is complete at once. -/
def Axis.takeHome (ax : Axis) (n0 : Nat) (s : SetPoint) : Axis × List AxEvent :=
  let ax1 := { ax with fol := none, defer := {} }.startHome n0 s
  (ax1, if ax1.home.state = 8 then [{ code := 10 }] else [])

/-- GEAR or CAM takes effect by flying engage (R132, R133); answers whether the engage is late. -/
def Dev.takeFollow (d : Dev) (n0 : Nat) (ax : Axis) (s : SetPoint) (cam : Bool) : Axis × Bool :=
  let f := ax.newFollower cam
  let o := d.orr f.orr
  let ax1 := { ax with plan := none, defer := {} }.engage f o (d.camOf f) d.tcyc n0 s
  (ax1, match ax1.fol with | some f => f.late | none => false)

/-- The bounds of the Orreries that an axis leaves and joins are taken afresh (R172). -/
def Dev.bounds (d : Dev) (old : Option Follower) (a : Nat) : Dev :=
  let now := (d.axis a).fol
  match old with
  | some f => if (now.map (fun g => g.orr)) = some f.orr then d.limitOrr f.orr d.origin else (d.limitOrr f.orr d.origin).uncoupled now
  | none => d.uncoupled now

/-- MODE on a servo axis takes effect. -/
def Dev.modeServo (d : Dev) (q : HostReq) (ax : Axis) : Dev × CmdRes :=
  let a := q.h.index
  let m := fieldLE q.pay 0 1
  let n0 := d.origin
  if ax.now.sup.state = 0 then (d.onAxis a (fun ax => (ax.onWork (fun w => { w with sup := { w.sup with mode := m } })).mark 16)).done
  else
    let s := d.modeSeed ax
    let ax1 := ax.leaves m n0 s (d.split ax)
    if m = 3 || m = 4 then
      let r := d.takeFollow n0 ax1 s (m = 4)
      (((d.onAxis a (fun _ => r.1)).bounds ax.fol a).changed a 1, { note := if r.2 then 0x0023 else 0 })
    else if m = 5 then
      let r := ax1.takeHome n0 s
      ((((d.onAxis a (fun _ => r.1)).emits (r.1.events a r.2)).bounds ax.fol a).changed a 1, { later := r.1.home.state ≠ 8 })
    else
      let r := ax1.takeMode d.tcyc m n0 s (modeTarget q) ax.dmaxEff ax.jmaxEff
      ((((d.onAxis a (fun _ => r.1)).emits (r.1.events a r.2.2)).bounds ax.fol a).changed a 1, { note := r.2.1 })

/-! ## MODE on a stepper axis (R183) -/

/-- The modes of a stepper axis. -/
def stepMode (m : Nat) : Bool := m = 0 || m = 1 || m = 5 || m = 6 || m = 7

/-- MODE on a stepper axis is checked (R162, R183). -/
def Dev.modeStepCheck (d : Dev) (q : HostReq) (s : Stepper) : Nat :=
  let m := fieldLE q.pay 0 1
  let t := modeTarget q
  let sp := s.spAt d.tcyc d.origin
  let rest := sp.v = 0 && sp.a = 0 && !planRuns s.plan d.tcyc d.origin
  let x : Int := if m = 0 then t - s.posOffset - sp.p else if m = 1 then t else 0
  firstFail [(0x0104, modeReserved q), (0x0108, 7 < m), (0x010F, m ≤ 7 && !stepMode m), (0x0212, 2 ≤ s.state || (s.state = 0 && m ≠ 6 && m ≠ 7)),
    (0x0211, (m = 5 || m = 6) && s.state ≠ 0 && !rest), (0x0206, towards s.swPos s.swNeg x), (0x0207, m = 0 && s.lost)]

/-- MODE takes effect on a stepper axis; answers the NOTE and events. -/
def Stepper.takeMode (s : Stepper) (tcyc n0 m : Nat) (t : Int) : Stepper × Nat × List AxEvent :=
  let k := planKin s.plan 0 tcyc n0 (s.spAt tcyc n0)
  let s1 := { s with mode := m, home := s.home.leave }
  match m with
  | 0 =>
    let r := s1.replanPos n0 k (t - s.posOffset) s.eff.1 s.eff.2 false false
    (r.1, posNote r.1.defer.overshoot r.2.1, r.2.2)
  | 1 =>
    let v := s.prm.val pST_VMAX
    let b := max (-v) (min v t)
    let r := s1.replanVel n0 k b s.eff.2 false false
    (r.1, if b = t then r.2.1 else 0x0025, r.2.2)
  | 6 => ({ s1 with plan := none, sp := { p := (s.spAt tcyc n0).p }, defer := {} }, 0, [])
  | _ => (s1.replanStop n0 k false, 0, [])

/-- MODE on a stepper axis takes effect. -/
def Dev.modeStep (d : Dev) (q : HostReq) (s : Stepper) : Dev × CmdRes :=
  let a := q.h.index
  let m := fieldLE q.pay 0 1
  let n0 := d.origin
  if s.state = 0 then (d.onStepper a (fun s => { s with mode := m })).done
  else if m = 5 then
    let s1 := { s with defer := {} }.startHome d.tcyc n0
    let es : List AxEvent := if s1.home.state = 8 then [{ code := 10 }] else []
    ((d.onStepper a (fun _ => s1)).emits (s1.events a es), { later := s1.home.state ≠ 8 })
  else
    let r := s.takeMode d.tcyc n0 m (modeTarget q)
    ((d.onStepper a (fun _ => r.1)).emits (r.1.events a r.2.2), { note := r.2.1 })

/-- MODE is checked. -/
def Dev.modeCheck (d : Dev) (q : HostReq) : CmdRes :=
  if q.h.kind = 1 then .st (match d.axis? q.h.index with | some ax => d.modeServoCheck q ax | none => 0x0102)
  else .st (match d.stepper? q.h.index with | some s => d.modeStepCheck q s | none => 0x0102)

/-- MODE takes effect. -/
def Dev.modeEffect (d : Dev) (q : HostReq) : Dev × CmdRes :=
  if q.h.kind = 1 then (match d.axis? q.h.index with | some ax => d.modeServo q ax | none => d.done)
  else match d.stepper? q.h.index with | some s => d.modeStep q s | none => d.done

/-! ## ESTOP (R66, R415) -/

/-- ESTOP is checked. -/
def Dev.estopCheck (d : Dev) (q : HostReq) : CmdRes :=
  let c := fieldLE q.pay 0 1
  let gone := (q.h.kind = 1 || q.h.kind = 2) && !d.targetSet q
  .st (firstFail [(0x0105, q.h.effective ≠ 0), (0x010B, q.h.batch ≠ 0), (0x0104, fieldLE q.pay 1 7 ≠ 0), (0x0102, gone), (0x0108, c ≠ 2 && c ≠ 3)])

/-- A reaction that a command brings acts at its Meridian (R104): the quick stop starts its plan from the set-points of `n0`. -/
def Axis.stopNow (ax : Axis) (tcyc n0 : Nat) (s : SetPoint) (split : Bool) : Axis :=
  let u := ax.now.sup
  let ax0 := ax.onWork (fun w => { w with sup := { w.sup with qsNew := false, offNew := false } })
  if u.qsNew then
    let ax1 := Axis.seeded (ax0.replanStop n0 (ax.kin tcyc n0 s) true) n0 s
    { ax1 with home := ax.home.leave, trqOvr := none, indexArm := false, hand := some (handOf u.qsFrom 7 ax.applied split) }
  else if u.offNew then { ax0 with plan := none, fol := none, trqOvr := none, indexArm := false, hand := none, home := ax.home.leave }
  else ax0

/-- A reaction of class `cls` for `code` that a command or the SI brings to a servo axis at this Meridian, with its event; `n` marks it in the axis's event word. -/
def Dev.stopServo (d : Dev) (a code cls n : Nat) (f : Work → Work) : Dev :=
  match d.axis? a with
  | none => d
  | some ax =>
    let s := d.modeSeed ax
    let ax1 := (((ax.onWork f).stopNow d.tcyc d.origin s (d.split ax)).mark n)
    ((d.onAxis a (fun _ => ax1)).emit (condEvent (srcAxis a) code cls ax1.now.sup.state)).changed a (if n = 20 then 3 else 1)

/-- ESTOP on a servo axis; the Orrery of a follower stops with it (Table 4.3). -/
def Dev.estopServo (d : Dev) (a cls : Nat) : Dev :=
  match d.axis? a with
  | none => d
  | some ax =>
    if ax.now.sup.state = 0 then d.emit (condEvent (srcAxis a) fHOST_ESTOP cls 0)
    else
      let d1 := d.stopServo a fHOST_ESTOP cls 19 (fun w => w.raise fHOST_ESTOP cls)
      match ax.fol with
      | some f => (d1.orrFault f.orr d.origin true).limitOrr f.orr d.origin
      | none => d1

/-- ESTOP on a stepper axis. -/
def Dev.estopStep (d : Dev) (a cls : Nat) : Dev :=
  match d.stepper? a with
  | none => d
  | some s =>
    let s1 := s.raise d.tcyc d.origin fHOST_ESTOP cls
    (d.onStepper a (fun _ => s1)).emit (condEvent (srcStepper a) fHOST_ESTOP cls s1.state)

/-- An emergency stop of a segment, or of the device, covers axis `a` of slot kind `kind`. -/
def Dev.stopCovers (d : Dev) (seg : Option Nat) (kind a : Nat) : Bool :=
  match seg with
  | some s => d.ring.map.entries.any (fun e => e.2.seg = s && e.2.kind = kind && e.2.target = a)
  | none => true

/-- ESTOP on every axis that has a slot on a segment, or on every one. -/
def Dev.estopAll (d : Dev) (seg : Option Nat) (cls : Nat) : Dev :=
  let d1 := (d.motion.axes.filter (fun e => d.stopCovers seg 0 e.1)).foldl (fun (d : Dev) e => d.estopServo e.1 cls) d
  (d.motion.steppers.filter (fun e => d.stopCovers seg 1 e.1)).foldl (fun (d : Dev) e => d.estopStep e.1 cls) d1

/-- ESTOP takes effect. -/
def Dev.estopEffect (d : Dev) (q : HostReq) : Dev × CmdRes :=
  let cls := fieldLE q.pay 0 1
  (match q.h.kind with
   | 0 => d.estopAll none cls
   | 1 => d.estopServo q.h.index cls
   | 2 => d.estopStep q.h.index cls
   | _ => d.estopAll (some q.h.index) cls).done

/-! ## PROCESS_WRITE (R291, R415) -/

/-- The write touches a block that a register channel owns. -/
def Dev.ownedBits (d : Dev) (b n : Nat) : Bool :=
  d.motion.regs.any (fun c => let p := c.2.prm.nat pREG_PUB; decide (b < p + 256 ∧ p < b + n))

/-- PROCESS_WRITE is checked. -/
def Dev.processCheck (d : Dev) (q : HostReq) : CmdRes :=
  let b := fieldLE q.pay 0 4
  let n := fieldLE q.pay 4 2
  .st (firstFail [(0x0104, 2 ^ 23 ≤ b || fieldLE q.pay 6 2 ≠ 0), (0x0108, n = 0 || 32448 < n), (0x0110, b < 0x400000 || 0x780000 < b + n || d.ownedBits b n)])

/-- Bits of the image written, one by one: bit 0 of `data` at bit address `b`. -/
def setBits (m : Memory) (b : Nat) (data : List Byte) : Nat → Memory
  | 0 => m
  | n + 1 =>
    let m1 := setBits m b data n
    let v := bit ((data.getD (n / 8) 0).toNat) (n % 8)
    let x := (Memory.read 0 m1 ((b + n) / 8)).toNat
    Memory.write 0 m1 ((b + n) / 8) (BitVec.ofNat 8 (if v then setBit x ((b + n) % 8) else clrBit x ((b + n) % 8)))

/-- PROCESS_WRITE takes effect. -/
def Dev.processEffect (d : Dev) (q : HostReq) : Dev × CmdRes :=
  Dev.done { d with image := setBits d.image (fieldLE q.pay 0 4) (q.pay.drop 8) (fieldLE q.pay 4 2) }

/-! ## Orreries (R416, Table 4.3) -/

/-- ORR_CONFIGURE is checked. -/
def Dev.orrConfCheck (d : Dev) (q : HostReq) : CmdRes :=
  let o := d.orr q.h.index
  .st (firstFail [(0x010A, o.prm.nat pORR_SRC = 1 && (d.axis? (o.prm.nat pORR_SRC_AXIS)).isNone), (0x020D, o.state ≠ 0)])

/-- ORR_CONFIGURE takes effect: STOPPED at ORR_THETA0; with source AXIS_ACT it is RUNNING (R124). The ladder starts from its parameters (R145). -/
def Dev.orrConfEffect (d : Dev) (q : HostReq) : Dev × CmdRes :=
  let n0 := d.origin
  let f (o : Orrery) : Orrery :=
    let act := o.prm.nat pORR_SRC = 1
    { prm := o.prm, state := if act then 2 else 1, theta := o.prm.val pORR_THETA0, thetaPrev := o.prm.val pORR_THETA0, axisSrc := act, srcAxis := o.prm.nat pORR_SRC_AXIS,
      cycle := n0, ladder := (List.range 15).map (fun i => f32ToRat (o.prm.nat (pLADDER_R_1 + i))) }
  (d.onOrr q.h.index f).done

/-- Something names the Orrery: a follower, a timed output in ORRERY mode, or a register channel's axis (Table 13.7). -/
def Dev.orrNamed (d : Dev) (i : Nat) : Bool :=
  !(d.followers i).isEmpty || d.tu.touts.any (fun o => Params.nat o.prm pTOUT_MODE = 4 && Params.nat o.prm pTOUT_ORR = i) ||
    d.motion.regs.any (fun c => match d.axis? (c.2.prm.nat pREG_AXIS) with | some ax => ax.prm.nat pORRERY = i | none => false)

/-- ORR_REMOVE is checked. -/
def Dev.orrRemCheck (d : Dev) (q : HostReq) : CmdRes :=
  let o := d.orr q.h.index
  .st (firstFail [(0x020D, !(o.state = 1 || (o.state = 2 && o.axisSrc)) || d.orrNamed q.h.index)])

/-- ORR_REMOVE takes effect: OFF, its record zero. -/
def Dev.orrRemEffect (d : Dev) (q : HostReq) : Dev × CmdRes :=
  let d1 := d.onOrr q.h.index (fun o => { prm := o.prm })
  Dev.done { d1 with motion := { d1.motion with eph := Tab.del d1.motion.eph (ephOrr q.h.index) } }

/-- ORR_SPEED is checked. -/
def Dev.orrSpeedCheck (d : Dev) (q : HostReq) : CmdRes :=
  let o := d.orr q.h.index
  .st (firstFail [(0x020D, o.state = 0 || o.axisSrc), (0x0209, o.state = 3 && o.faultStop)])

/-- ORR_SPEED takes effect (R121, R573). -/
def Dev.orrSpeedEffect (d : Dev) (q : HostReq) : Dev × CmdRes :=
  let i := q.h.index
  let w := fieldLES q.pay 0 8
  let v := (d.orr i).vmax
  (d.replanOrr i d.origin (fun o => o.speed d.origin w), { note := if (w.natAbs : Int) ≤ v then 0 else 0x0025 })

/-- ORR_STOP is checked. -/
def Dev.orrStopCheck (d : Dev) (q : HostReq) : CmdRes :=
  let o := d.orr q.h.index
  .st (firstFail [(0x020D, o.state = 0 || o.axisSrc)])

/-- ORR_STOP takes effect: in STOPPED and STOPPING it only sets OMEGA_TGT to 0. -/
def Dev.orrStopEffect (d : Dev) (q : HostReq) : Dev × CmdRes :=
  let i := q.h.index
  if (d.orr i).state = 2 then
    (d.replanOrr i d.origin (fun o => o.stop d.origin false)).done
  else (d.onOrr i (fun o => { o with tgt := 0 })).done

/-! ## Cam tables (R136 to R139) -/

/-- Pages of a table of `n` points (R136). -/
def camPages (n : Nat) : Nat := ceilDiv (64 + 16 * n) 4096

/-- Pages in use. -/
def Dev.camUsed (d : Dev) : Nat :=
  (d.motion.cams.map (fun e => e.2.cur.pages + e.2.freeing + (match e.2.next with | some c => c.pages | none => 0))).sum

/-- The points of a table. -/
def camPoints (b : List Byte) (n : Nat) : List (Int × Int) := (List.range n).map (fun i => (fieldLES b (16 * i) 8, fieldLES b (16 * i + 8) 8))

/-- The largest magnitude of a quadratic on 0 to 1. -/
def quadMax (a b c : Rat) : Rat :=
  let m := max (absR c) (absR (a + b + c))
  if a = 0 then m
  else
    let s := -b / (2 * a)
    if 0 < s && s < 1 then max m (absR (a * s * s + b * s + c)) else m

/-- SLOPE_MAX: the largest |dP/dΘ| of a version (R172). -/
def Cam.slope (c : Cam) : Rat :=
  let h := fix 32 (c.span : Int) / (c.n : Rat)
  let first := c.pts.getD 0 (0, 0)
  let nexts := c.pts.drop 1 ++ [(first.1 + c.lift, first.2)]
  (c.pts.zip nexts).foldl (fun m e =>
    let y0 := fix 32 e.1.1
    let y1 := fix 32 e.2.1
    let m0 := h * fix 32 e.1.2
    let m1 := h * fix 32 e.2.2
    max m (quadMax (6 * y0 + 3 * m0 - 6 * y1 + 3 * m1) (6 * y1 - 6 * y0 - 4 * m0 - 2 * m1) m0 / h)) 0

/-- The version that a load brings. -/
def camOfLoad (q : HostReq) (b : List Byte) : Cam :=
  let n := fieldLE q.pay 4 4
  let c : Cam := { n := n, span := fieldLE q.pay 8 8, lift := fieldLES q.pay 16 8, pts := camPoints b n, pages := camPages n }
  { c with slopeMax := c.slope }

/-- CAM_LOAD is checked. A second load of a table whose new version waits for its switch is refused (DESIGN CHOICE, log 34). -/
def Dev.camLoadCheck (d : Dev) (q : HostReq) : CmdRes :=
  let n := fieldLE q.pay 4 4
  let used := !(d.camUsers q.h.index).isEmpty
  let slot := Tab.find d.motion.cams q.h.index
  let waits := match slot with | some s => s.next.isSome | none => false
  let old := match slot with | some s => if used then 0 else s.cur.pages | none => 0
  let bad := n < 16 || 65536 < n || 1 < fieldLE q.pay 2 1 || fieldLE q.pay 8 8 = 0
  let h := if bad then 0 else d.bulkCheck q (16 * n) (fieldLE q.pay 32 4)
  .st (firstFail [(0x0104, fieldLE q.pay 3 1 ≠ 0), (0x0108, bad), (h, h ≠ 0), (0x020E, waits), (0x0301, 1024 < d.camUsed - old + camPages n)])

/-- CAM_LOAD takes effect: a table in use gets a version that waits for its switch (R138); any other is overwritten (R137). -/
def Dev.camLoadEffect (d : Dev) (q : HostReq) : Dev × CmdRes :=
  let i := q.h.index
  let c := camOfLoad q (d.bulkBytes q (16 * fieldLE q.pay 4 4))
  let put (s : CamSlot) : Dev := { d with motion := { d.motion with cams := Tab.set d.motion.cams i s } }
  match Tab.find d.motion.cams i with
  | some s =>
    if (d.camUsers i).isEmpty then (put { s with cur := c, next := none, marks := [] }).done
    else (put { s with next := some c, atSpan := fieldLE q.pay 2 1 = 1, band := fieldLE q.pay 24 8, since := d.origin + 1, tag := q.h.tag, marks := [] }, { later := true })
  | none => (put { cur := c }).done

/-- CAM_DELETE is checked. -/
def Dev.camDelCheck (d : Dev) (q : HostReq) : CmdRes :=
  .st (firstFail [(0x0102, !Tab.has d.motion.cams q.h.index), (0x0210, !(d.camUsers q.h.index).isEmpty)])

/-- CAM_DELETE takes effect. -/
def Dev.camDelEffect (d : Dev) (q : HostReq) : Dev × CmdRes :=
  Dev.done { d with motion := { d.motion with cams := Tab.del d.motion.cams q.h.index } }

/-! ## Register channels -/

/-- REG_REMOVE is checked. -/
def Dev.regRemCheck (d : Dev) (q : HostReq) : CmdRes := .st (firstFail [(0x0102, !Tab.has d.motion.regs q.h.index)])

/-- REG_REMOVE takes effect: the block at REG_PUB reads zero, and REG_LOST no longer holds. -/
def Dev.regRemEffect (d : Dev) (q : HostReq) : Dev × CmdRes :=
  match Tab.find d.motion.regs q.h.index with
  | none => d.done
  | some c =>
    let d1 : Dev := { d with image := Memory.clear d.image (c.prm.nat pREG_PUB / 8) 32,
                             motion := { d.motion with regs := Tab.del d.motion.regs q.h.index, regPre := Tab.del d.motion.regPre q.h.index } }
    (if c.lost then
      d1.onAxis (c.prm.nat pREG_AXIS) (fun ax => { ax.onWork (fun w => { w with sup := w.sup.dropWarn fREG_LOST }) with held := ax.held.filter (fun x => x ≠ fREG_LOST) })
    else d1).done

end Sys2Proof.Machine
end

