-- ==== Sys2Proof/Machine/Chrono.lean ====
section
/-! DEFINITION. The Chronograph (chapter 14): configuration, sampling, triggers, captures, streaming and reading. -/

namespace Sys2Proof.Machine

/-- Stored width of a channel type (Table 14.2). -/
def chrWidth : Nat → Nat
  | 3 | 4 => 2
  | 5 | 6 | 9 => 4
  | 7 | 8 => 8
  | _ => 1

/-- The value of a raw channel word in its TYPE; a NaN has none. -/
def chrVal (type raw : Nat) : Option Rat :=
  match type with
  | 2 => some (wrapS 8 raw : Rat)
  | 4 => some (wrapS 16 raw : Rat)
  | 6 => some (wrapS 32 raw : Rat)
  | 8 => some (wrapS 64 raw : Rat)
  | 9 => if raw / 2 ^ 23 % 256 = 255 && raw % 2 ^ 23 ≠ 0 then none else some (f32ToRat raw)
  | _ => some (raw : Rat)

/-- FRAME_BYTES (R429). -/
def ChrConf.frameBytes (c : ChrConf) : Nat :=
  let r := if c.reduce = 2 then 2 else 1
  8 * ceilDiv (8 + r * (c.chans.map (fun x => chrWidth x.type)).foldl (· + ·) 0) 8

/-- The capture slot in bytes (R435). -/
def ChrConf.slot (c : ChrConf) : Nat := 64 * ceilDiv (64 + c.frameBytes * (c.pre + c.post)) 64

/-- SLOTS (R435). -/
def ChrConf.slots (c : ChrConf) : Nat := c.ringBytes / c.slot

/-- A configuration block read (Tables 14.1, 14.2, 14.4). -/
def chrParse (b : List Byte) : ChrConf :=
  let n := fieldLE b 0 1
  { reduce := fieldLE b 1 1, combine := fieldLE b 2 1, mask := fieldLE b 3 1, div := fieldLE b 4 2, phase := fieldLE b 6 2, interval := fieldLE b 8 4,
    ringBytes := fieldLE b 12 4, pre := fieldLE b 16 4, post := fieldLE b 20 4, holdoff := fieldLE b 24 4, autoTimeout := fieldLE b 28 4,
    window := fieldLE b 32 4, pair := fieldLE b 36 1, block := fieldLE b 40 4, flush := fieldLE b 44 4,
    chans := (List.range n).map (fun i =>
      let o := 64 + 16 * i
      { ofs := fieldLE b o 4, type := fieldLE b (o + 4) 1, bitno := fieldLE b (o + 5) 1, cls := fieldLE b (o + 6) 1, node := fieldLE b (o + 8) 2,
        skew := fieldLES b (o + 12) 4 }),
    conds := (List.range 4).map (fun i =>
      let o := 64 + 16 * n + 32 * i
      { kind := fieldLE b o 1, edge := fieldLE b (o + 1) 1, index := fieldLE b (o + 2) 1, code := fieldLE b (o + 4) 2, source := fieldLE b (o + 6) 2,
        level := fieldLE b (o + 8) 8, hyst := fieldLE b (o + 16) 8, target := fieldLE b (o + 24) 4 }) }

/-- A field of the block that must be zero (R9). -/
def zeroAt (b : List Byte) (o k : Nat) : Bool := fieldLE b o k = 0

/-- The bytes of a configuration block: 192 + 16 × CHANNELS. -/
def chrBlockLen (b : List Byte) : Nat := 192 + 16 * fieldLE b 0 1

/-- One channel keeps the ranges of Table 14.2 and R424. -/
def ChrChan.ok (c : ChrChan) (plateLen : Nat) : Bool :=
  decide (c.ofs + chrWidth c.type ≤ plateLen) && c.ofs % chrWidth c.type = 0 && decide (c.type ≤ 9) &&
  (if c.type = 0 then decide (c.bitno ≤ 7) else c.bitno = 0) && decide (c.cls ≤ 2) && (decide (c.node < 768) || c.node = 0xFFFF)

/-- A threshold or hysteresis of 8 bytes as its TYPE reads it from the first byte (Table 14.4). -/
def chrLow (type raw : Nat) : Nat := raw % 256 ^ chrWidth type

/-- One condition keeps the ranges of Table 14.4. -/
def ChrCond.ok (c : ChrCond) (chans : List ChrChan) : Bool :=
  match c.kind with
  | 1 =>
    let ty := ((chans.getD c.index { ofs := 0, type := 0, bitno := 0, cls := 0, node := 0, skew := 0 }).type)
    decide (c.edge ≤ 2) && decide (c.index < chans.length) && c.code = 0 && c.source = 0 && c.target = 0 &&
    (match chrVal ty (chrLow ty c.hyst) with
     | some h => decide (0 ≤ h)
     | none => false)
  | 2 => decide (c.edge ≤ 2) && decide (c.index < 16) && c.code = 0 && c.source = 0 && c.target = 0 && c.level = 0 && c.hyst = 0
  | 3 => c.edge = 0 && c.index = 0 && c.target = 0 && c.level = 0 && c.hyst = 0
  | 4 => c.edge = 0 && c.index = 0 && c.source = 0 && c.level = 0 && c.hyst = 0
  | _ => false

/-- The status that a configuration block gets (R423, R424, R430): 0 accepted. -/
def chrCheck (b : List Byte) (plateLen : Nat) : Nat :=
  let n := fieldLE b 0 1
  let c := chrParse b
  if b.length < chrBlockLen b then 0x0108
  else if !(zeroAt b 37 3 && zeroAt b 48 16 && (List.range n).all (fun i => zeroAt b (64 + 16 * i + 7) 1 && zeroAt b (64 + 16 * i + 10) 2) && decide (c.mask < 16)
      && (List.range 4).all (fun i => zeroAt b (64 + 16 * n + 32 * i + 3) 1 && zeroAt b (64 + 16 * n + 32 * i + 28) 4)) then 0x0104
  else if 10485760 < c.ringBytes then 0x0301
  else if decide (1 ≤ n ∧ n ≤ 64) && decide (c.reduce ≤ 2) && decide (c.combine ≤ 2) && decide (1 ≤ c.div) && decide (c.phase < c.div) &&
      (if c.reduce = 0 then c.interval = 1 else decide (2 ≤ c.interval ∧ c.interval ≤ 65536)) && decide (65536 ≤ c.ringBytes) && c.ringBytes % 4096 = 0 &&
      decide (c.pre ≤ 16777216) && decide (1 ≤ c.post ∧ c.post ≤ 16777216) && decide (1 ≤ c.autoTimeout) && decide (1 ≤ c.window) && decide (c.pair ≤ 31) &&
      decide (1024 ≤ c.block ∧ c.block ≤ 65536) && decide (100 ≤ c.flush ∧ c.flush ≤ 100000) && c.chans.all (fun x => x.ok plateLen) &&
      (c.conds.zipIdx.all (fun e => if bit c.mask e.2 then e.1.ok c.chans else
        zeroAt b (64 + 16 * n + 32 * e.2) 8 && zeroAt b (64 + 16 * n + 32 * e.2 + 8) 8 && zeroAt b (64 + 16 * n + 32 * e.2 + 16) 8 && zeroAt b (64 + 16 * n + 32 * e.2 + 24) 8)) &&
      decide (1 ≤ c.slots) then 0
  else 0x0108

/-- The raw value of a channel in a Plate whose bytes `rd` gives (R424). -/
def ChrChan.raw (c : ChrChan) (rd : Nat → Byte) : Nat :=
  if c.type = 0 then (rd c.ofs).toNat / 2 ^ c.bitno % 2
  else leNat ((List.range (chrWidth c.type)).map (fun i => rd (c.ofs + i)))

/-- binary64 rounding of a rational, ties to even (R431). -/
def f64 (x : Rat) : Rat :=
  if x = 0 then 0 else
    let e := expOf 1100 (absR x) 0
    (rndHE (x * pow2 (52 - e)) : Rat) * pow2 (e - 52)

/-- The instant of a crossing (R431), in 2^−16 ns. -/
def chrCross (t0 t1 : Int) (l v0 v1 : Rat) : Int :=
  let a := f64 ((t0 : Rat) / 65536)
  let b := f64 ((t1 : Rat) / 65536)
  rndHE (f64 (a + f64 (f64 (f64 (b - a) * f64 (l - v0)) / f64 (v1 - v0))) * 65536)

/-- A LEVEL condition on the next sample (R431): its new memory and the instant of a firing. -/
def ChrCond.level1 (c : ChrCond) (ty raw : Nat) (t : Int) (m : ChrCondSt) : ChrCondSt × Option Int :=
  let l := if ty = 0 then some (1 / 2 : Rat) else chrVal ty (chrLow ty c.level)
  let h := if ty = 0 then some (0 : Rat) else chrVal ty (chrLow ty c.hyst)
  match l, h, chrVal ty raw with
  | some l, some h, some v =>
    match m.prev with
    | none => ({ m with prev := some (raw, t), armRise := decide (v ≤ l - h), armFall := decide (l + h ≤ v) }, none)
    | some (raw0, t0) =>
      match chrVal ty raw0 with
      | none => ({ m with prev := some (raw, t), armRise := m.armRise || decide (v ≤ l - h), armFall := m.armFall || decide (l + h ≤ v) }, none)
      | some v0 =>
        let rise := c.edge ≠ 1 && m.armRise && decide (v0 < l ∧ l ≤ v)
        let fall := c.edge ≠ 0 && m.armFall && decide (l < v0 ∧ v ≤ l)
        let m := { m with prev := some (raw, t), armRise := (m.armRise && !rise) || decide (v ≤ l - h), armFall := (m.armFall && !fall) || decide (l + h ≤ v) }
        (m, if rise || fall then some (if ty = 0 then t else chrCross t0 t l v0 v) else none)
  | _, _, _ => ({ m with prev := some (raw, t) }, none)

/-- The instants at which a condition of kind TCAP, EVENT or COMMAND fires among the happenings due (R432). -/
def ChrCond.matches (c : ChrCond) (hs : List ChrHap) : List Int :=
  (hs.filter (fun h => h.kind = c.kind &&
    (match c.kind with
     | 2 => h.a = c.index && (c.edge = 2 || c.edge = h.b)
     | 3 => h.a = c.code && (c.source = 0xFFFF || c.source = h.b)
     | 4 => h.a = c.code && (c.target = 0xFFFFFFFF || c.target = h.b)
     | _ => false))).map (·.instant)

/-- Insertion of a firing (instant, condition) into a list in rising order. -/
def firIns (x : Int × Nat) : List (Int × Nat) → List (Int × Nat)
  | [] => [x]
  | y :: ys => if x.1 < y.1 || (x.1 = y.1 && x.2 ≤ y.2) then x :: y :: ys else y :: firIns x ys

/-- One firing under SEQUENCE (R433): the new position, the last firing and whether the sequence is complete. -/
def seqStep (en : List Nat) (window cnt : Nat) (st : Nat × (Nat × Int) × Option (Int × Nat)) (f : Int × Nat) : Nat × (Nat × Int) × Option (Int × Nat) :=
  let pos := if st.1 ≠ 0 && window < cnt - st.2.1.1 then 0 else st.1
  if st.2.2.isSome then st
  else if en[pos]? = some f.2 && (pos = 0 || decide (st.2.1.2 ≤ f.1)) then
    if pos + 1 = en.length then (0, (cnt, f.1), some f) else (pos + 1, (cnt, f.1), none)
  else if en[0]? = some f.2 then
    if en.length = 1 then (0, (cnt, f.1), some f) else (1, (cnt, f.1), none)
  else (pos, st.2.1, none)

/-- The combination of a sample's firings (R433): the new memory and the trigger's instant and condition. -/
def Chr.combine (c : Chr) (k : ChrConf) (fs : List (Int × Nat)) : Chr × Option (Int × Nat) :=
  let en := (List.range 4).filter (fun i => bit k.mask i)
  match k.combine with
  | 0 => (c, fs.head?)
  | 1 =>
    let conds := c.conds.mapIdx (fun i m => (fs.filter (fun f => f.2 = i)).foldl (fun (m : ChrCondSt) f => { m with fired := some (c.cnt, f.1) }) m)
    let live := en.map (fun i => (i, (conds.getD i {}).fired))
    let ok := live.all (fun e => match e.2 with
      | some (p, _) => decide (c.cnt < p + k.window)
      | none => false)
    if ok && !fs.isEmpty && !en.isEmpty then
      let best := live.foldl (fun (b : Option (Int × Nat)) e => match e.2, b with
        | some (_, t), some (t0, i0) => if t0 < t then some (t, e.1) else some (t0, i0)
        | some (_, t), none => some (t, e.1)
        | none, b => b) none
      ({ c with conds := conds.map (fun m => { m with fired := none }) }, best)
    else ({ c with conds := conds }, none)
  | _ =>
    let r := fs.foldl (seqStep en k.window c.cnt) (c.seqPos, c.seqLast, none)
    ({ c with seqPos := r.1, seqLast := r.2.1 }, r.2.2)

/-- The bytes of a closed frame (R429, Table 14.3). -/
def ChrBuild.close (b : ChrBuild) (k : ChrConf) (gap : Bool) : ChrFrame :=
  let hdr := leBytes 4 b.cycle ++ leBytes 2 (flag b.trig 0 + flag b.mark 1 + flag gap 2 + flag (b.partly || decide (b.count < k.interval)) 3 + flag b.layoutChg 4) ++ leBytes 2 b.count
  let body := ((k.chans.zip b.vals).map (fun e =>
    let w := chrWidth e.1.type
    if k.reduce = 2 then leBytes w e.2.2.1 ++ leBytes w e.2.2.2 else leBytes w e.2.1)).flatten
  let all := hdr ++ body
  { bytes := all ++ zeroBytes (k.frameBytes - all.length), cycle := b.cycle, first := b.first, layout := b.layout }

/-- One sample joins the frame being built (R428). -/
def ChrBuild.add (b : Option ChrBuild) (k : ChrConf) (raws : List Nat) (cycle layout : Nat) : ChrBuild :=
  match b with
  | none => { vals := raws.map (fun r => (r, r, r)), count := 1, cycle := cycle, first := cycle, layout := layout }
  | some b =>
    let pick (ty : Nat) (less : Rat → Rat → Bool) (a r : Nat) : Nat := match chrVal ty a, chrVal ty r with
      | some x, some y => if less y x then r else a
      | none, some _ => r
      | _, none => a
    let vals := (k.chans.zip (b.vals.zip raws)).map (fun e =>
      (e.2.2, pick e.1.type (fun y x => decide (y < x)) e.2.1.2.1 e.2.2, pick e.1.type (fun y x => decide (x < y)) e.2.1.2.2 e.2.2))
    { b with vals := vals, count := b.count + 1, cycle := cycle, layout := layout, layoutChg := b.layoutChg || decide (layout ≠ b.layout) }

/-- The memory of the conditions at an arm. -/
def Chr.clearConds (c : Chr) : Chr :=
  { c with conds := [{}, {}, {}, {}], seqPos := 0, seqLast := (0, 0), cnt := 0, autoCnt := 0, holdCnt := 0 }

/-- The lowest free slot below `n`. -/
def lowestFree (used : List Nat) (n : Nat) : Option Nat := (List.range n).find? (fun i => !used.contains i)

/-- Entry to WAIT: a slot is chosen (R435) and a capture begins. -/
def Chr.wait (c : Chr) (k : ChrConf) : Chr :=
  let mk (slot : Nat) : ChrCapture :=
    { num := (c.capture + 1) % 65536, slot := slot, mode := c.mode, chans := k.chans.length, reduce := k.reduce, frameBytes := k.frameBytes }
  let c' := { c with state := 1, autoCnt := 0, spare := none, capture := (c.capture + 1) % 65536 }
  match lowestFree (c.stored.map (·.slot)) k.slots with
  | some s => { c' with cur := some (mk s) }
  | none =>
    match c.stored with
    | o :: r => { c' with cur := some (mk o.slot), stored := r, overwritten := incSat 32 c.overwritten }
    | [] => { c' with cur := some (mk 0) }

/-- The capture in POST ends (R436): stored, complete or truncated. -/
def Chr.store (c : Chr) (truncated : Bool) : Chr :=
  match c.cur with
  | some x => { c with cur := none, stored := c.stored ++ [{ x with complete := !truncated, truncated := truncated }], last := if truncated then c.last else x.num,
                       captures := if truncated then c.captures else incSat 32 c.captures }
  | none => c

/-- The POST frames are stored (R436). -/
def Chr.postDone (c : Chr) (k : ChrConf) : Chr × List Ev :=
  let d := c.store false
  let e := [evC srcChr eCHR_CAPTURE_DONE]
  if c.mode = 0 then ({ d with state := 0, build := none, force := none }, e)
  else if k.holdoff = 0 then (d.wait k, e)
  else ({ d with state := 3, holdCnt := 0 }, e)

/-- A frame closes (R428): kept as a PRE frame, stored as a POST frame, or sent on its way in STREAM mode. -/
def Chr.takeFrame (c : Chr) (k : ChrConf) (b : ChrBuild) : Chr × List Ev :=
  let f := b.close k (c.state = 4 && c.gap)
  let c := { c with build := none }
  match c.state, c.cur with
  | 1, some x =>
    let all := x.pre ++ [f]
    ({ c with cur := some { x with pre := all.drop (x.pre.length + 1 - k.pre) }, spare := (all.take (x.pre.length + 1 - k.pre)).getLast? }, [])
  | 2, some x =>
    let x := { x with post := x.post ++ [f] }
    if k.post ≤ x.post.length then Chr.postDone { c with cur := some x } k else ({ c with cur := some x }, [])
  | 4, _ =>
    let used := (c.fifo.filter (fun o => !o.mark)).length * k.frameBytes
    if used + k.frameBytes ≤ k.ringBytes then
      ({ c with fifo := c.fifo ++ [{ mark := false, lost := c.lost, bytes := f.bytes, cycle := f.cycle, layout := f.layout }], gap := false, lost := 0 }, [])
    else ({ c with gap := true, lost := c.lost + 1, streamLost := incSat 32 c.streamLost }, [])
  | _, _ => (c, [])

/-- Bytes 8 to 39 of Table 14.6 for a trigger. -/
def ChrTrig.bytes (t : ChrTrig) : List Byte :=
  leBytes 8 t.cycle ++ leBytes 8 (t.instant / 65536).toNat ++ leBytes 2 (t.instant % 65536).toNat ++ leBytes 1 t.cond ++ leBytes 1 0 ++ leBytes 4 t.tbNs ++ leBytes 8 t.tbS

/-- A trigger takes effect in WAIT (R436) or as a mark in STREAMING (R442, R443). Where the frame of the trigger Plate has closed already, as it may for AUTO, it becomes the
first POST frame. -/
def Chr.trigger (c : Chr) (t : ChrTrig) : Chr × List Ev :=
  let b := c.build.map (fun b => { b with trig := true, mark := b.mark || decide (c.state = 4) })
  let cnt := if t.forced then { c with forced := incSat 32 c.forced } else { c with triggers := incSat 32 c.triggers }
  match c.state, c.cur with
  | 1, some x =>
    let all := c.spare.toList ++ x.pre
    let x := match c.build, all.getLast? with
      | none, some f => { x with trig := some t, pre := all.dropLast, post := [{ f with bytes := putBytes f.bytes 4 [(f.bytes.getD 4 0) ||| 1] }] }
      | _, _ => { x with trig := some t }
    ({ cnt with state := 2, build := b, cur := some x }, if t.forced then [] else [evC srcChr eCHR_TRIGGERED])
  | 4, _ =>
    if c.mark then (cnt, [])
    else ({ cnt with build := b, mark := true, fifo := c.fifo ++ [{ mark := true, bytes := t.bytes, cycle := t.cycle, layout := t.layout }] }, [])
  | _, _ => (c, [])

/-- The instants of a sample: of SAMPLE, APPLY and SEAL, and ARRIVE_DEV by node, in 2^−16 ns. -/
structure ChrTimes where
  cycle : Nat
  layout : Nat
  sample : Int
  apply : Int
  sealT : Int
  meridian : Int
  devs : List (Nat × Int)
  tb : Int → Nat × Nat

/-- The channel instant (R426). -/
def ChrChan.instant (x : ChrChan) (t : ChrTimes) : Int :=
  let base : Int := match x.cls with
    | 0 => t.sample - 65536 * ((t.devs.find? (fun (e : Nat × Int) => e.1 = x.node)).map (fun (e : Nat × Int) => e.2)).getD 0
    | 1 => t.apply
    | _ => t.sealT
  base + rndHE ((x.skew : Rat) * 65536 / 1000)

/-- A published Plate is sampled (R427 to R433, R436). -/
def Chr.sample (c : Chr) (rd : Nat → Byte) (t : ChrTimes) : Chr × List Ev :=
  match c.conf with
  | none => (c, [])
  | some k =>
    if c.state = 0 || t.cycle % k.div ≠ k.phase then (c, []) else
      let raws := k.chans.zipIdx.map (fun (x : ChrChan × Nat) => if c.poison.contains x.2 then 0 else x.1.raw rd)
      let b0 := ChrBuild.add c.build k raws t.cycle t.layout
      let build := { b0 with partly := b0.partly || !c.poison.isEmpty }
      let due := c.haps.filter (fun h => decide (h.cycle ≤ t.cycle))
      let res : List (ChrCondSt × List (Int × Nat)) := (k.conds.zip c.conds).zipIdx.map (fun e =>
        let i := e.2
        let cd := e.1.1
        if !bit k.mask i then (e.1.2, [])
        else if cd.kind = 1 then
          let ch := k.chans.getD cd.index { ofs := 0, type := 0, bitno := 0, cls := 0, node := 0, skew := 0 }
          let r := cd.level1 ch.type (raws.getD cd.index 0) (ch.instant t) e.1.2
          (r.1, r.2.toList.map (fun x => (x, i)))
        else (e.1.2, (cd.matches due).map (fun x => (x, i))))
      let fs := (res.map (·.2)).flatten.foldl (fun l f => firIns f l) []
      let c := { c with poison := [], build := some build, haps := c.haps.filter (fun h => !decide (h.cycle ≤ t.cycle)), conds := res.map (fun (e : ChrCondSt × List (Int × Nat)) => e.1), cnt := c.cnt + 1,
                        lastPlate := t.cycle, lastLayout := t.layout, autoCnt := if c.state = 1 then c.autoCnt + 1 else c.autoCnt,
                        holdCnt := if c.state = 3 then c.holdCnt + 1 else c.holdCnt }
      let r := c.combine k fs
      let c := r.1
      let mk (x : Int) (cond : Nat) (forced : Bool) : ChrTrig :=
        let s := t.tb x
        { cycle := t.cycle, instant := x, cond := cond, layout := t.layout, tbS := s.1, tbNs := s.2, forced := forced }
      let live := c.state = 1 || c.state = 4
      let tr := match r.2, c.force with
        | some (x, i), _ => if live then some (mk x i false) else none
        | none, some m => if live then some (mk m 4 true) else none
        | none, none => none
      let a := match tr with
        | some tr => Chr.trigger { c with force := none } tr
        | none => (c, [])
      let z := if t.cycle / k.div % k.interval = k.interval - 1 then
          match a.1.build with
          | some b => a.1.takeFrame k b
          | none => (a.1, [])
        else (a.1, [])
      (z.1, a.2 ++ z.2)

/-- AUTO_TIMEOUT sampled Plates passed in WAIT without a trigger (R436); `m` is M_N of that Plate, `tb` its TB stamp. -/
def Chr.autoTimeout (c : Chr) (m : Int) (tb : Nat × Nat) : Chr × List Ev :=
  match c.conf with
  | none => (c, [])
  | some k =>
    if c.state = 1 && c.mode = 2 && decide (k.autoTimeout ≤ c.autoCnt) then
      let r := c.trigger { cycle := c.lastPlate, instant := m, cond := 5, layout := c.lastLayout, tbS := tb.1, tbNs := tb.2, forced := true, auto := true }
      match r.1.cur with
      | some x => if r.1.state = 2 && decide (k.post ≤ x.post.length) then
          let d := r.1.postDone k
          (d.1, r.2 ++ d.2) else r
      | none => r
    else (c, [])

/-- HOLDOFF sampled Plates have passed (R436). -/
def Chr.holdoffEnd (c : Chr) : Chr :=
  match c.conf with
  | some k => if c.state = 3 && decide (k.holdoff ≤ c.holdCnt) then c.wait k else c
  | none => c

/-- CHR_CONFIG takes effect (R437). -/
def Chr.configure (c : Chr) (k : ChrConf) : Chr :=
  if c.state = 0 then { c with conf := some k, pending := none } else { c with pending := some k }

/-- CHR_ARM takes effect in IDLE (R434, R436). -/
def Chr.arm (c : Chr) (mode : Nat) : Chr :=
  let applied := c.pending.isSome
  let conf := c.pending.orElse (fun _ => c.conf)
  match conf with
  | none => c
  | some k =>
    let c := Chr.clearConds { c with conf := some k, pending := none, mode := mode, force := none, haps := [], build := none, fifo := [], mark := false, gap := false, lost := 0,
                                     stored := if applied || mode = 3 then [] else c.stored }
    if mode = 3 then { c with state := 4 } else c.wait k

/-- CHR_FORCE takes effect at Meridian instant `m` (R436). -/
def Chr.doForce (c : Chr) (m : Int) : Chr := if c.state = 0 then c else { c with force := some m }

/-- CHR_DISARM takes effect (R428, R436): the frame in building closes with the samples it holds. -/
def Chr.disarm (c : Chr) : Chr × List Ev :=
  match c.conf with
  | none => (c, [])
  | some k =>
    if c.state = 0 then (c, []) else
      let t := match c.build with
        | some b => if c.state = 2 then ({ c with cur := c.cur.map (fun (x : ChrCapture) => { x with post := x.post ++ [b.close k false] }) }, []) else c.takeFrame k b
        | none => (c, [])
      let a := if c.state = 2 then t.1.store true else t.1
      ({ a with state := 0, cur := none, build := none, force := none, haps := [] }, t.2 ++ [evC srcChr eCHR_DISARMED])

/-- STREAMING ends with ownership or its pair (R436): frames not yet written are discarded, those that a disarm left among them. -/
def Chr.streamLoss (c : Chr) : Chr :=
  if c.state = 4 || !c.fifo.isEmpty then { c with state := 0, fifo := [], mark := false, build := none, force := none, haps := [] } else c

/-- The frames at the front of the FIFO that one record may carry (R441). -/
def chrFrames (limit fb : Nat) : List ChrOut → List ChrOut
  | [] => []
  | o :: r => if o.mark || limit < fb then [] else o :: chrFrames (limit - fb) fb r

/-- The next stream record without PHASE and QSEQ, and the FIFO without it (R441 to R443); LOST counts the frames that were dropped before those it carries. -/
def Chr.record (c : Chr) : Option (List Byte × Chr) :=
  match c.conf, c.fifo with
  | some k, o :: r =>
    let hdr (rtype lost cyc len layout : Nat) := leBytes 2 0x0100 ++ leBytes 2 rtype ++ leBytes 4 lost ++ leBytes 8 cyc ++ leBytes 2 0 ++ leBytes 1 2 ++ leBytes 1 0 ++ leBytes 4 0
      ++ leBytes 4 len ++ leBytes 4 layout
    if o.mark then some (hdr 1 o.lost o.cycle 32 o.layout ++ o.bytes, { c with fifo := r, mark := false })
    else
      let fs := chrFrames (max k.block k.frameBytes) k.frameBytes c.fifo
      let data := (fs.map (·.bytes)).flatten
      let l := fs.getLast?.getD o
      some (hdr 0 (fs.map (·.lost)).sum l.cycle data.length l.layout ++ data, { c with fifo := c.fifo.drop fs.length })
  | _, _ => none

/-- A capture's image: header of Table 14.6 and frames, oldest first. -/
def ChrCapture.image (x : ChrCapture) : List Byte :=
  let t := x.trig.getD { cycle := 0, instant := 0, cond := 0, layout := 0 }
  let fs := x.pre ++ x.post
  let lay := fs.any (fun f => f.layout ≠ t.layout || bit (fieldLE f.bytes 4 2) 4)
  leBytes 2 x.num ++ leBytes 2 (flag t.forced 0 + flag t.auto 1 + flag x.truncated 2 + flag x.complete 3 + flag lay 4) ++ leBytes 1 x.chans ++ leBytes 1 x.reduce
  ++ leBytes 1 x.mode ++ leBytes 1 0 ++ t.bytes ++ leBytes 4 x.pre.length ++ leBytes 4 x.post.length ++ leBytes 4 x.frameBytes ++ leBytes 4 t.layout
  ++ leBytes 8 ((fs.head?.map (·.first)).getD 0) ++ (fs.map (·.bytes)).flatten

/-- The stored capture of a number (R439). -/
def Chr.find (c : Chr) (n : Nat) : Option ChrCapture := c.stored.find? (fun x => x.num = n)

/-- The status block (Table 14.7). -/
def Chr.status (c : Chr) (plate : Nat) : List Byte :=
  let cf (f : ChrConf → Nat) : Nat := (c.conf.map f).getD 0
  let cu (f : ChrCapture → Nat) : Nat := (c.cur.map f).getD 0
  leBytes 8 plate ++ leBytes 1 c.state ++ leBytes 1 c.mode ++ leBytes 2 (flag c.conf.isSome 0 + flag c.pending.isSome 1 + flag c.force.isSome 2)
  ++ leBytes 2 (if c.state = 4 then 0 else cf (·.slots)) ++ leBytes 2 c.stored.length ++ leBytes 2 c.last ++ leBytes 2 ((c.stored.head?.map (·.num)).getD 0)
  ++ leBytes 4 (if c.state = 1 then cu (·.pre.length) else 0) ++ leBytes 4 (if c.state = 2 then cu (·.post.length) else 0)
  ++ leBytes 4 (if c.state = 1 && c.mode = 2 then cf (·.autoTimeout) - c.autoCnt else 0) ++ leBytes 4 ((c.fifo.filter (fun o => !o.mark)).length * cf (·.frameBytes))
  ++ leBytes 4 (cf (·.ringBytes)) ++ leBytes 4 (cf (·.frameBytes)) ++ zeroBytes 20

/-- The counters of Table 14.9 as the 512 bytes of the device summary from 0x400. -/
def Chr.counters (c : Chr) : List Byte :=
  leBytes 4 c.triggers ++ leBytes 4 c.captures ++ leBytes 4 c.forced ++ leBytes 4 c.overwritten ++ leBytes 4 c.streamLost ++ leBytes 4 c.readRace ++ leBytes 2 c.capture

/-- The OVERLAYS bit TRACE of an axis (R425). -/
def Chr.traces (c : Chr) (axis : Nat) : Bool :=
  c.state ≠ 0 && (match c.conf with
    | some k => k.chans.any (fun x => decide (0x1000 + 128 * axis ≤ x.ofs ∧ x.ofs ≤ 0x107F + 128 * axis))
    | none => false)

end Sys2Proof.Machine
end

