-- ==== Sys2Proof/Machine/HostRows.lean ====
section
/-! DEFINITION. The commands of the Host Interface Unit (chapter 12): ownership, registers, the Plate window and pins, doorbells, replies, events, interrupts and host
memory errors. -/

namespace Sys2Proof.Machine

open Sys2Proof

/-- An access that arrives over PCIe acts while the link is up. -/
def Dev.hiu (d : Dev) (f : Dev → Dev) : Dev := if d.host.linkUp then f d else d

/-! ## Ownership (R366 to R370) -/

/-- A write to OWN_CLAIM (R366). -/
def Dev.ownClaim (d : Dev) (nonce : Nat) : Dev :=
  if d.host.owned || nonce = 0 then d
  else Dev.emit { d.took with host := { d.host.claim nonce d.freeVal with leaseFrom := d.tu.rc } } (evM (srcPair 0) eOWNER_CLAIMED)

/-- OWN_CLAIM. -/
def execOwnClaim (nonce : Nat) (s : State) : Host.Outcome State Fault Refusal := s.act (fun d => d.hiu (fun d => d.ownClaim nonce))

/-- A write to OWN_HEARTBEAT: the token renews the lease (R367). -/
def Dev.heartbeat (d : Dev) (token : Nat) : Dev :=
  if d.host.owned && token = d.host.token then { d with host := { d.host with leaseFrom := d.tu.rc } } else d

/-- OWN_HEARTBEAT. -/
def execOwnHeartbeat (token : Nat) (s : State) : Host.Outcome State Fault Refusal := s.does (fun d => d.hiu (fun d => d.heartbeat token))

/-- The first Meridian whose gate is open. -/
def Dev.openMeridian (d : Dev) : Nat := if d.ctl.gate then d.ctl.cycle + 2 else d.ctl.cycle + 1

/-- The Chronograph leaves STREAMING when its pair goes or ownership ends (R436). -/
def Dev.chrStreamEnds (d : Dev) (pair : Option Nat) : Dev :=
  match d.chr.conf with
  | some k => if pair.isNone || pair = some k.pair then { d with chr := d.chr.streamLoss } else d
  | none => d

/-- Ownership ends with cause 1 RELEASE, 2 LEASE or 3 HOST_RESET (R368, R369). -/
def Dev.ownEnds (d : Dev) (cause : Nat) : Dev :=
  if !d.host.owned then d
  else
    let m := d.openMeridian
    let d := Dev.chrStreamEnds { d with host := d.host.disown cause } none
    if cause = 1 then d.emit (evM (srcPair 0) eOWNER_RELEASED (leBytes 1 cause))
    else
      let stop := if d.host.lossAction = 0 then d.host.lossStop else some (d.host.lossAction, m)
      Dev.emit { d with host := { d.host with ownerLost := true, ownerLossCnt := incSat 16 d.host.ownerLossCnt, lossStop := stop } } (evM (srcPair 0) eOWNER_LOST (leBytes 1 cause))

/-- A write to OWN_RELEASE (R368). -/
def Dev.ownRelease (d : Dev) (token : Nat) : Dev := if d.host.owned && token = d.host.token then d.ownEnds 1 else d

/-- OWN_RELEASE. -/
def execOwnRelease (token : Nat) (s : State) : Host.Outcome State Fault Refusal := s.act (fun d => d.hiu (fun d => d.ownRelease token))

/-- OWN_LEASE has passed since the last valid heartbeat (R367): RC has reached that instant (log 3). -/
def Dev.leaseEnds (d : Dev) : Dev :=
  if d.host.owned then Dev.ownEnds { d with tu := d.tu.reach (d.host.leaseFrom / 65536 + d.host.lease * 1000000) } 2 else d

/-- OWNER_LEASE_EXPIRY. -/
def execOwnerLeaseExpiry (s : State) : Host.Outcome State Fault Refusal := s.act Dev.leaseEnds

/-- A PCIe reset (R368, R521): ownership ends, and what PCIe resets in the function, the MSI-X table among it, returns to its reset value. -/
def Dev.hostReset (d : Dev) : Dev :=
  let d := d.ownEnds 3
  { d with host := { d.host with msix := [], pba := 0, halfRead := none, halfWrite := none } }

/-- HOST_RESET. -/
def execHostReset (s : State) : Host.Outcome State Fault Refusal := s.act Dev.hostReset

/-- PE_REFCLK_LOSS (R562): the PCIe link goes down until the next reset, and ownership ends. -/
def execPeRefclkLoss (s : State) : Host.Outcome State Fault Refusal :=
  s.act (fun d =>
    let d := d.hostReset
    { d with host := { d.host with linkUp := false }, power := { d.power with peLost := true } })

/-! ## The Plate window (R393 to R395) -/

/-- A read of PLATE_LATEST latches PLATE_CYCLE (R393). -/
def Dev.latestRead (d : Dev) : Dev :=
  { d with host := { d.host with latchLatest := d.ctl.latest, plateCycle := d.ctl.published, lastRead := d.ctl.latest } }

/-- PLATE_LATEST_READ. -/
def execPlateLatestRead (s : State) : Host.Outcome State Fault Refusal := s.does (fun d => d.hiu Dev.latestRead)

/-- CYCLE of a Plate buffer (R17). -/
def Dev.plateSeal (d : Dev) (b : Nat) : Nat := fieldLE (Memory.readList 0 (d.plates.getD b []) 0 8) 0 8

/-- A write to PIN_REQ (R394). -/
def Dev.pinWrite (d : Dev) (v : Nat) : Dev :=
  if bit v 2 then { d with host := d.host.pinRequest (v % 4) (d.plateSeal (v % 4)) } else { d with host := d.host.pinDrop 0 }

/-- PIN_REQUEST: a write of PIN_REQ with bit 2 set. -/
def execPinRequest (value : Nat) (s : State) : Host.Outcome State Fault Refusal := s.does (fun d => d.hiu (fun d => if bit value 2 then d.pinWrite value else d))

/-- PIN_RELEASE: a write of PIN_REQ with bit 2 clear. -/
def execPinRelease (value : Nat) (s : State) : Host.Outcome State Fault Refusal := s.does (fun d => d.hiu (fun d => if bit value 2 then d else d.pinWrite value))

/-- A pin ends 100 ms after its grant (R395). -/
def Dev.pinExpires (d : Dev) : Dev :=
  match d.host.pin with
  | some _ => Dev.emit { d with host := { d.host.pinDrop 3 with pinExpired := incSat 16 d.host.pinExpired } } (evM (srcPair 0) ePIN_EXPIRED)
  | none => d

/-- PIN_EXPIRY. -/
def execPinExpiry (s : State) : Host.Outcome State Fault Refusal := s.act Dev.pinExpires

/-! ## Queue pairs (R371 to R374, R379) -/

/-- A write to QCTRL (R372): a stream pair that is disabled takes the Chronograph's stream with it (R436). -/
def Dev.qctrl (d : Dev) (i v : Nat) : Dev :=
  let d := { d with host := d.host.onPair i (fun p => p.ctrl v) }
  if bit v 0 then d else d.chrStreamEnds (some i)

/-- QUEUE_ENABLE: a write of QCTRL with ENABLE set. -/
def execQueueEnable (pair value : Nat) (s : State) : Host.Outcome State Fault Refusal :=
  s.does (fun d => d.hiu (fun d => if bit value 0 && pair < 32 then d.qctrl pair value else d))

/-- CQ_TAIL_DOORBELL (R374); a round of fetching begins again for the pair. -/
def execCqTailDoorbell (pair value : Nat) (s : State) : Host.Outcome State Fault Refusal :=
  s.does (fun d => d.hiu (fun d => { d with host := Hif.onPair { d.host with passed := [] } pair (fun p => p.cqDoorbell value) }))

/-- RQ_HEAD_DOORBELL (R379). -/
def execRqHeadDoorbell (pair value : Nat) (s : State) : Host.Outcome State Fault Refusal :=
  s.does (fun d => d.hiu (fun d => { d with host := Hif.onPair { d.host with passed := [] } pair (fun p => p.rqDoorbell value) }))

/-! ## Registers (R7, R363 to R365) -/

/-- DEV_STATUS (Table 12.4). -/
def Dev.devStatus (d : Dev) : Nat :=
  d.host.devStatus + flag (d.ring.role = 5) 3 + flag (d.ring.role = 3) 4 + flag (d.ring.segs.any (fun s => s.state = 7)) 8

/-- The host interface version: that of the running MGT (R361, "The Almanac" of chapter 18). -/
def Dev.hifVersion (d : Dev) : Nat := (d.boot.images.getD 0 {}).almanac.getD 0 0

/-- The 64-bit registers of BAR0 (Tables 12.3 and 12.6), by the offset of their low half. -/
def wideReg (o : Nat) : Bool :=
  [0x000008, 0x000018, 0x000208, 0x000210, 0x000220, 0x041000].contains o || (decide (0x010000 ≤ o ∧ o < 0x011000) && (o % 0x80 = 0 || o % 0x80 = 8)) ||
    decide (0x040000 ≤ o ∧ o < 0x040400 ∧ o % 8 = 0)

/-- The value of a 64-bit register. -/
def Dev.reg64 (d : Dev) (o : Nat) : Nat :=
  if 0x010000 ≤ o && o < 0x011000 then (let p := d.host.pair ((o - 0x010000) / 0x80); if o % 0x80 = 0 then p.cqBase else p.rqBase)
  else if 0x040000 ≤ o && o < 0x040400 then d.host.msixWord ((o - 0x040000) / 4) + 2 ^ 32 * d.host.msixWord ((o - 0x040000) / 4 + 1)
  else match o with
    | 0x000008 => Config.devSerial % 2 ^ 64
    | 0x000018 => d.ctl.cycle
    | 0x000208 => d.host.plateCycle
    | 0x000210 => d.host.pinCycle
    | 0x000220 => (d.host.pin.map (fun p => p.2)).getD 0
    | 0x041000 => d.host.pba
    | _ => 0

/-- The value of a 32-bit register; 0 where the map lists none or the register is write-only (R7, R364). -/
def Dev.reg32 (d : Dev) (o : Nat) : Nat :=
  if 0x010000 ≤ o && o < 0x011000 then d.host.pairReg ((o - 0x010000) / 0x80) (o % 0x80)
  else match o with
    | 0x000000 => 0x2564 + 65536 * (Config.siliconRev % 256) + 2 ^ 24 * (d.hifVersion / 65536 % 256)
    | 0x000004 => d.hifVersion
    | 0x000010 => d.devStatus
    | 0x000020 => if d.ctl.cycle = 0 then 0 else d.tcyc
    | 0x000100 => d.host.ownCtrl
    | 0x000104 => d.host.token
    | 0x000114 => d.host.lease
    | 0x000118 => d.host.epoch
    | 0x00011C => d.host.nonce
    | 0x000200 => d.ctl.latest
    | 0x000218 => d.host.pinStatus
    | 0x000300 => d.host.eventPair
    | 0x000304 => d.host.plateIrq
    | _ => 0

/-- An access of `n` bytes at `o` is aligned and of a size that the register there takes (R363). -/
def accessOk (o n : Nat) : Bool := (n = 4 && o % 4 = 0) || (n = 8 && o % 8 = 0 && wideReg o)

/-- A read of BAR0 (R7, R363): the value returned is `lastRead`. -/
def Dev.regRead (d : Dev) (o n : Nat) : Dev :=
  if !accessOk o n then { d with host := { d.host with accessErr := true, lastRead := 0xFFFFFFFF } }
  else if n = 8 then { d with host := { d.host with lastRead := d.reg64 o } }
  else if o = 0x000200 then d.latestRead
  else if wideReg o then { d with host := { d.host with lastRead := d.reg64 o % 2 ^ 32, halfRead := some (o + 4, d.reg64 o / 2 ^ 32) } }
  else if o % 8 = 4 && wideReg (o - 4) then
    let v := match d.host.halfRead with
      | some (a, x) => if a = o then x else d.reg64 (o - 4) / 2 ^ 32
      | none => d.reg64 (o - 4) / 2 ^ 32
    { d with host := { d.host with lastRead := v, halfRead := none } }
  else { d with host := { d.host with lastRead := d.reg32 o } }

/-- REGISTER_READ. -/
def execRegisterRead (ofs size : Nat) (s : State) : Host.Outcome State Fault Refusal := s.does (fun d => d.hiu (fun d => d.regRead ofs size))

/-- A write of a whole 64-bit register. -/
def Dev.write64 (d : Dev) (o v : Nat) : Dev :=
  if 0x010000 ≤ o && o < 0x011000 then { d with host := d.host.onPair ((o - 0x010000) / 0x80) (fun p => p.base (o % 0x80) v) }
  else if 0x040000 ≤ o && o < 0x040400 then
    { d with host := (d.host.msixWrite ((o - 0x040000) / 4) (v % 2 ^ 32)).msixWrite ((o - 0x040000) / 4 + 1) (v / 2 ^ 32 % 2 ^ 32) }
  else if o = 0x000210 then { d with host := { d.host with pinCycle := v } }
  else d

/-- A write of a 32-bit register by its access code (R7); one that the map does not list is discarded (R364). -/
def Dev.write32 (d : Dev) (o v : Nat) : Dev :=
  if 0x100000 ≤ o && o < 0x120000 then
    let i := (o - 0x100000) / 0x1000
    if o % 0x1000 = 0 then { d with host := Hif.onPair { d.host with passed := [] } i (fun p => p.cqDoorbell v) }
    else if o % 0x1000 = 4 then { d with host := Hif.onPair { d.host with passed := [] } i (fun p => p.rqDoorbell v) }
    else d
  else if 0x010000 ≤ o && o < 0x011000 then
    let i := (o - 0x010000) / 0x80
    if o % 0x80 = 0x14 then d.qctrl i v else { d with host := d.host.onPair i (fun p => p.regWrite (o % 0x80) v) }
  else match o with
    | 0x000010 => { d with host := { d.host with accessErr := d.host.accessErr && !bit v 5, ownerLost := d.host.ownerLost && !bit v 6 } }
    | 0x000108 => d.ownClaim v
    | 0x00010C => d.heartbeat v
    | 0x000110 => d.ownRelease v
    | 0x000204 => d.pinWrite v
    | 0x000300 => { d with host := { d.host with eventPair := v % 32 } }
    | 0x000304 => { d with host := { d.host with plateIrq := v % 128 + 65536 * bits v 31 16 } }
    | _ => d

/-- A write to BAR0 (R7, R363): the low half of a 64-bit register waits for the high half. -/
def Dev.regWrite (d : Dev) (o n v : Nat) : Dev :=
  if !accessOk o n then { d with host := { d.host with accessErr := true } }
  else if n = 8 then d.write64 o v
  else if 0x040000 ≤ o && o < 0x040400 then { d with host := d.host.msixWrite ((o - 0x040000) / 4) (v % 2 ^ 32) }
  else if wideReg o then { d with host := { d.host with halfWrite := some (o, v % 2 ^ 32) } }
  else if o % 8 = 4 && wideReg (o - 4) then
    let low := match d.host.halfWrite with
      | some (a, x) => if a = o - 4 then x else d.reg64 (o - 4) % 2 ^ 32
      | none => d.reg64 (o - 4) % 2 ^ 32
    Dev.write64 { d with host := { d.host with halfWrite := none } } (o - 4) (low + 2 ^ 32 * (v % 2 ^ 32))
  else d.write32 o (v % 2 ^ 32)

/-- REGISTER_WRITE. -/
def execRegisterWrite (ofs size value : Nat) (s : State) : Host.Outcome State Fault Refusal := s.act (fun d => d.hiu (fun d => d.regWrite ofs size value))

/-- BAR2_WRITE (R362): discarded, with ACCESS_ERR. -/
def execBar2Write (_ofs : Nat) (_bytes : List Byte) (s : State) : Host.Outcome State Fault Refusal :=
  s.does (fun d => d.hiu (fun d => { d with host := { d.host with accessErr := true } }))

/-! ## Replies, events and interrupts (R379 to R384) -/

/-- REPLY_POST: the next reply of a pair goes into its ring when its slots are free (R32, R379). -/
def execReplyPost (pair : Nat) (s : State) : Host.Outcome State Fault Refusal :=
  s.does (fun d => d.hiu (fun d => let r := d.host.postReply d.hostMem d.ctl.published pair; { d with host := r.1, hostMem := r.2 }))

/-- The oldest event that waits for the host is written, or dropped for it (R381). -/
def Dev.hostEvent (d : Dev) : Dev :=
  match d.router.toHost with
  | [] => d
  | e :: es =>
    let r := d.host.postEvent d.hostMem e
    { d with router := { d.router with toHost := es }, host := r.1, hostMem := r.2 }

/-- HOST_EVENT_POST. -/
def execHostEventPost (s : State) : Host.Outcome State Fault Refusal := s.act Dev.hostEvent

/-- The time of IRQ_MOD has passed since the first record not signalled (R382). -/
def Hif.modTimeout (h : Hif) (i : Nat) : Hif :=
  let p := h.pair i
  if p.irqMod / 65536 ≠ 0 && 0 < p.unsignalled then h.signal i else h

/-- IRQ_MODERATION_TIMEOUT. -/
def execIrqModerationTimeout (pair : Nat) (s : State) : Host.Outcome State Fault Refusal := s.does (fun d => { d with host := d.host.modTimeout pair })

/-- An access to host memory failed and was repeated once (R11, R384): a lasting fault disables the pair and discards its replies. -/
def Dev.dmaError (d : Dev) (i : Nat) (again : Bool) : Dev :=
  let p := d.host.pair i
  if again || !p.active then d
  else
    let done := p.out.map (fun o => ({ tag := o.tag, op := o.op, done := o.done, status := o.status, fin := true } : TagRec))
    let d := { d with host := d.host.onPair i (fun p =>
      { p with active := false, dmaErr := true, out := [], reserved := 0, completed := (done.reverse ++ p.completed).take 256,
               awaiting := p.awaiting.filter (fun a => !a.fin) }) }
    let d := { d with host := p.out.foldl (fun (h : Hif) (o : OutRec) => h.resized o.op o.key) d.host }
    (d.chrStreamEnds (some i)).emit (evM (srcPair i) eQUEUE_DMA_FAULT)

/-- HOST_DMA_ERROR; `again` says that the repeat passes. -/
def execHostDmaError (pair : Nat) (again : Bool) (s : State) : Host.Outcome State Fault Refusal := s.act (fun d => d.dmaError pair again)

end Sys2Proof.Machine
end

