-- ==== Sys2Proof/Machine/CmdMgmt.lean ====
section
/-! DEFINITION. The management commands of class 0x0 beside SET_PARAMS and GET_PARAMS (R410): information, ownership, queues, streams, counters, the pace status, bulk
transfers and the abort of another command (R391, R392). -/

namespace Sys2Proof.Machine

open Sys2Proof

/-! ## GET_INFO, SET_OWNERSHIP, QUEUE_RESIZE -/

/-- The version of image `i` that runs, as its Almanac lists it. -/
def Snap.version (v : Snap) (i : Nat) : Nat := (v.boot.images.getD i {}).almanac.getD i 0

/-- GET_INFO (Table 13.4). -/
def Dev.infoEffect (d : Dev) (_ : HostReq) : Dev × CmdRes :=
  d.ask (fun v => leBytes 4 (d.reg32 0x000000) ++ leBytes 4 (d.reg32 0x000004) ++ ((List.range 4).map (fun i => leBytes 4 (v.version i))).flatten ++
    leBytes 1 v.boot.bank ++ leBytes 1 (Params.nat v.ctl.prm pEXEC_STYLE) ++ zeroBytes 6 ++ leBytes 8 (Config.devSerial % 2 ^ 64) ++ leBytes 4 v.host.epoch ++ zeroBytes 4)

/-- SET_OWNERSHIP is checked (R370). -/
def Dev.ownerCheck (_ : Dev) (q : HostReq) : CmdRes :=
  let l := fieldLE q.pay 0 4
  let a := fieldLE q.pay 4 1
  .st (firstFail [(0x0108, l < 100 || 60000 < l || !(a = 0 || a = 2 || a = 3))])

/-- SET_OWNERSHIP. -/
def Dev.ownerEffect (d : Dev) (q : HostReq) : Dev × CmdRes :=
  Dev.done { d with host := { d.host with lease := fieldLE q.pay 0 4, lossAction := fieldLE q.pay 4 1 } }

/-- QUEUE_RESIZE is checked (R385, R9): the reserved bits of Table 12.6 are 0. -/
def Dev.resizeCheck (d : Dev) (q : HostReq) : CmdRes :=
  let v := fieldLE q.pay 16 4
  .st (firstFail [(0x0104, v ≠ v % 32 + 256 * bits v 12 8 || fieldLE q.pay 0 8 % 4096 ≠ 0 || fieldLE q.pay 8 8 % 4096 ≠ 0), (0x0102, q.h.index = q.h.pair), (0x0108, !qsizeOk v), (0x0201, !d.host.quiescent q.h.index)])

/-- QUEUE_RESIZE takes effect. -/
def Dev.resizeEffect (d : Dev) (q : HostReq) : Dev × CmdRes :=
  (d.onHost (fun h => h.resize q.h.index (fieldLE q.pay 0 8) (fieldLE q.pay 8 8) (fieldLE q.pay 16 4))).done

/-! ## Plate streams (R397) -/

/-- PLATE_LEN (Table 1.5). -/
abbrev plateLen : Nat := 1179648

/-- The regions of STREAM_START. -/
def streamRegions (pay : List Byte) : List (Nat × Nat) := (List.range (fieldLE pay 1 1)).map (fun i => (fieldLE pay (8 + 8 * i) 4, fieldLE pay (12 + 8 * i) 4))

/-- The bytes of a set of regions. -/
def regionBytes (rs : List (Nat × Nat)) : Nat := (rs.map (fun r => r.2)).sum

/-- STREAM_START is checked. -/
def Dev.streamCheck (d : Dev) (q : HostReq) : CmdRes :=
  let i := fieldLE q.pay 0 1
  let rs := streamRegions q.pay
  let n := fieldLE q.pay 1 1
  let k := fieldLE q.pay 2 2
  let p := d.host.pair i
  let others := ((Tab.del d.host.streams q.h.index).map (fun e => regionBytes e.2.regions)).sum
  .st (firstFail [(0x0104, fieldLE q.pay 6 2 ≠ 0),
    (0x0108, 32 ≤ i || !p.active || !bit p.qctrl 2 || n = 0 || 16 < n || k = 0 || k ≤ fieldLE q.pay 4 2 || 262144 < regionBytes rs ||
      rs.any (fun r => r.1 % 8 ≠ 0 || r.2 % 8 ≠ 0 || plateLen < r.1 + r.2)),
    (0x0301, 1048576 < 2 * (others + regionBytes rs))])

/-- STREAM_START takes effect: the stream starts with empty staging halves. -/
def Dev.streamEffect (d : Dev) (q : HostReq) : Dev × CmdRes :=
  let s : Stream := { pair := fieldLE q.pay 0 1, period := fieldLE q.pay 2 2, phase := fieldLE q.pay 4 2, regions := streamRegions q.pay }
  Dev.done { d with host := { d.host with streams := Tab.set d.host.streams q.h.index s } }

/-- STREAM_STOP takes effect. -/
def Dev.streamEnd (d : Dev) (q : HostReq) : Dev × CmdRes := Dev.done { d with host := { d.host with streams := Tab.del d.host.streams q.h.index } }

/-! ## CLEAR_COUNTERS (R40, R411) -/

/-- The counters that a switch places in a status query. -/
def Switch.cleared (s : Switch) : Switch := { s with chatter := 0 }

/-- A servo axis's counters (Tables 1.12, 3.7, 4.14). -/
def Axis.cleared (ax : Axis) : Axis :=
  let f (w : Work) : Work := { w with sup := { w.sup with feExc := 0, retractRun := 0, fbMissRun := 0 } }
  { (ax.onWork f) with cmdAge := 0, fbAge := 0, overrunCnt := 0, retractCnt := 0, fbMissCnt := 0, swPos := ax.swPos.cleared, swNeg := ax.swNeg.cleared, swHome := ax.swHome.cleared }

/-- A stepper axis's counters (Table 6.9). -/
def Stepper.cleared (s : Stepper) : Stepper :=
  { s with stallCnt := 0, stallRun := 0, cmdAge := 0, overrunCnt := 0, fbMissCnt := 0, planLag := 0, swPos := s.swPos.cleared, swNeg := s.swNeg.cleared, swHome := s.swHome.cleared }

/-- The counters of the router, ring, Pace Unit and host in the device summary. -/
def Dev.clearDevice1 (d : Dev) : Dev :=
  { d with
    router := { d.router with dropped := 0 }
    ring := { d.ring with twinMissCnt := 0, takeoverCnt := 0 }
    pace := { d.pace with discarded := 0, avsTransient := 0, mismatchCnt := 0, avsLasting := 0, marginEntries := 0 }
    host := { d.host with batchesFailed := 0, pinExpired := 0, ownerLossCnt := 0, eventsDropped := 0, streamSkip := 0 } }

/-- The counters of the Chronograph, Logbook, Safety Island, TRU and boot in the device summary (Tables 14.9, 15.7, 16.17, 17.9, 18.12). -/
def Dev.clearDevice2 (d : Dev) : Dev :=
  { d with
    chr := { d.chr with triggers := 0, captures := 0, forced := 0, overwritten := 0, streamLost := 0, readRace := 0 }
    log := { d.log with fifoDropped := 0, lostRecords := 0, persistTransient := 0, unpersisted := 0, persistLasting := 0, clearRefused := 0, readRace := 0, peak := 0 }
    si := { d.si with ecc := 0, demands := 0, loopMismatch := 0, resets := 0, pairFaultCnt := 0, stoFbCnt := 0, slsCnt := 0 }
    tru := { d.tru with fabricTransient := 0, fabricLasting := 0, runs := 0, transient := 0, incomplete := 0, eccCorrected := 0, waits := 0, fails := 0, eccLasting := 0, eccUncorrectable := 0,
                        waitMax := 0 }
    boot := { d.boot with boots := 0, liveUpdates := 0, flashTransient := 0, fallbacks := 0, longResets := 0, rollbacks := 0, flashLasting := 0 } }

/-- The counters of an object of the ring or the Time Unit, or of an engine. -/
def Dev.clearObject (d : Dev) (kind i : Nat) : Dev :=
  match kind with
  | 4 => { d with motion := { d.motion with regs := Tab.upd d.motion.regs i (fun c => { c with marks := 0, reject := 0, missed := 0, missRun := 0 }) } }
  | 5 => d.onSeg i (fun s => { s with discardedCnt := 0, linkTransient := 0, linkLasting := 0, breakCnt := 0, joinCnt := 0 })
  | 6 => d.onSeg (i / 96) (fun s => { s with nodes := Tab.upd s.nodes (i % 96 + 1) (fun n => { n with echoMissCnt := 0, readyLowCnt := 0, linkErrCnt := 0 }) })
  | 8 => { d with tu := { d.tu with touts := d.tu.touts.modify i (fun t => { t with lateCnt := 0, dropCnt := 0, mergeCnt := 0 }) } }
  | 9 => { d with tu := { d.tu with tcaps := d.tu.tcaps.modify i (fun t => { t with overflow := 0, intDrop := 0, dense := 0 }) } }
  | 12 => d.onEngine i (fun g => { g with migrations := 0, lateCnt := 0 })
  | 13 => { d with tu := { d.tu with ports := d.tu.ports.modify i (fun p => { p with discard := 0 }) } }
  | _ => d

/-- CLEAR_COUNTERS is checked: an axis or channel must be configured. -/
def Dev.countersCheck (d : Dev) (q : HostReq) : CmdRes :=
  let gone := ((q.h.kind = 1 || q.h.kind = 2) && !d.targetSet q) || (q.h.kind = 4 && !Tab.has d.motion.regs q.h.index)
  .st (if gone then 0x0102 else 0)

/-- The counters of a target are 0. -/
def Dev.clearTarget (d : Dev) (kind i : Nat) : Dev :=
  match kind with
  | 0 => d.clearDevice1.clearDevice2
  | 1 => d.onAxis i Axis.cleared
  | 2 => d.onStepper i Stepper.cleared
  | k => d.clearObject k i

/-- CLEAR_COUNTERS takes effect; a Meridian has cleared its targets before any increment of its cycle (R40). -/
def Dev.countersEffect (d : Dev) (q : HostReq) : Dev × CmdRes :=
  (if d.ctl.preCleared.contains (q.h.kind, q.h.index) then d else d.clearTarget q.h.kind q.h.index).done

/-! ## PACE_STATUS (R260) -/

/-- An engine record of Table 8.7. -/
def Snap.engineStatus (v : Snap) (e : Nat) : List Byte :=
  let g := v.engines.getD e {}
  leBytes 1 (v.pace.plan.roles.getD e 0) ++ leBytes 1 g.slots.length ++ leBytes 2 g.seeing ++ leBytes 2 g.sPlan ++ leBytes 2 (lowBits 16 (v.pace.temps.getD (localSensor e) 0)) ++
    leBytes 4 g.loadPred ++ leBytes 4 g.elapsed ++ leBytes 2 (lowBits 16 g.ageDrift) ++ zeroBytes 2 ++ leBytes 4 g.migrations ++ leBytes 4 g.lateCnt ++ zeroBytes 4

/-- PACE_STATUS: the device block and eighteen engine records. -/
def Snap.paceStatus (v : Snap) : List Byte :=
  let p := v.pace
  leBytes 4 p.plan.seq ++ leBytes 2 p.vddTarget ++ leBytes 2 p.vddRead ++ leBytes 8 p.plan.cycle ++ leBytes 2 p.vFloor ++
    leBytes 2 (flag p.marginLow 0 + flag p.avsFault 1 + flag p.suspended 2) ++ leBytes 2 p.shedCnt ++ zeroBytes 10 ++ ((List.range 18).map v.engineStatus).flatten

/-! ## Bulk transfers (R409) -/

/-- A staged command names the handle. -/
def Hif.handleNamed (h : Hif) (n : Nat) : Bool := h.staged.any (fun s => consumes s.req.op && handleOf s.req = n)

/-- The lowest free handle of 1 to 16. -/
def Hif.freeHandle (h : Hif) : Option Nat := (List.range 16).map (· + 1) |>.find? (fun n => !Tab.has h.bulks n)

/-- BULK_OPEN is checked. -/
def Dev.openCheck (d : Dev) (q : HostReq) : CmdRes :=
  let n := fieldLE q.pay 0 4
  .st (firstFail [(0x0108, n < 8 || 2097152 < n || n % 8 ≠ 0), (0x0303, d.host.stagingFree < n), (0x0307, d.host.freeHandle.isNone)])

/-- BULK_OPEN: the handle that it answers is free. -/
def Dev.openEffect (d : Dev) (q : HostReq) : Dev × CmdRes :=
  match d.host.freeHandle with
  | some n => ({ d with host := { d.host with bulks := Tab.set d.host.bulks n { len := fieldLE q.pay 0 4 } } }, .data (leBytes 2 n))
  | none => (d, .st 0x0307)

/-- The target handle of BULK_WRITE and BULK_CLOSE is open, and no admitted command names it. -/
def Dev.handleCheck (d : Dev) (q : HostReq) : Nat := if Tab.has d.host.bulks q.h.index && !d.host.handleNamed q.h.index then 0 else 0x010D

/-- BULK_WRITE is checked. -/
def Dev.writeCheck (d : Dev) (q : HostReq) : CmdRes :=
  let o := fieldLE q.pay 0 4
  let h := d.handleCheck q
  let len := match Tab.find d.host.bulks q.h.index with | some b => b.len | none => 0
  .st (firstFail [(0x0104, fieldLE q.pay 4 4 ≠ 0), (h, h ≠ 0), (0x0108, o % 8 ≠ 0 || len < o + (q.pay.length - 8))])

/-- BULK_WRITE. -/
def Dev.writeEffect (d : Dev) (q : HostReq) : Dev × CmdRes :=
  Dev.done { d with host := { d.host with bulks := Tab.upd d.host.bulks q.h.index (fun b => { b with data := Memory.writeList 0 b.data (fieldLE q.pay 0 4) (q.pay.drop 8) }) } }

/-- BULK_CLOSE is checked. -/
def Dev.closeCheck (d : Dev) (q : HostReq) : CmdRes := .st (d.handleCheck q)

/-- BULK_CLOSE. -/
def Dev.closeEffect (d : Dev) (q : HostReq) : Dev × CmdRes := Dev.done { d with host := { d.host with bulks := Tab.del d.host.bulks q.h.index } }

/-! ## ABORT (R391, R392) -/

/-- What an abort finds under a pair and TAG: nothing, a command that cannot be aborted, one that is complete, or one that is not. -/
inductive AbortSees where
  | unknown | never | done | live (t : TagRec)
  deriving DecidableEq, Repr

/-- The target of an abort: awaited, or among the last 256 completions of its pair. -/
def Dev.abortSees (d : Dev) (q : HostReq) : AbortSees :=
  let p := d.host.pair q.h.index
  let tag := fieldLE q.pay 0 2
  let kind (t : TagRec) : AbortSees := if t.op = 0x2100 || t.op = 0x0005 then .never else if t.fin then .done else .live t
  match p.awaiting.find? (fun t => t.tag = tag) with
  | some t => kind t
  | none => match p.completed.find? (fun t => t.tag = tag) with
    | some t => kind t
    | none => .unknown

/-- ABORT is checked. -/
def Dev.abortCheck (d : Dev) (q : HostReq) : CmdRes :=
  .st (match d.abortSees q with | .unknown => 0x0203 | .never => 0x0204 | _ => 0)

/-- The command that an abort names is the one of this request. -/
def abortNames (q r : HostReq) : Bool := r.h.pair = q.h.index && r.h.tag = fieldLE q.pay 0 2

/-- A homing run is withdrawn: the axis stops in mode STOP. -/
def Dev.homeStopped (d : Dev) (r : HostReq) : Dev := (d.modeEffect { r with pay := 7 :: zeroBytes 15 }).1

/-- A withdrawn operation stops with the state that its chapter gives (R392): the device, and whether its reply is posted now. -/
def Dev.opStopped (d : Dev) (r : HostReq) : Dev × Bool :=
  match r.op with
  | 0x2001 => (d.homeStopped r, true)
  | 0x3020 => ({ d with motion := { d.motion with cams := Tab.upd d.motion.cams r.h.index (fun s => { s with next := none, marks := [] }) } }, true)
  | 0x4012 => ((d.named r).foldl (fun d i => if [1, 2, 3, 4, 5, 6, 9].contains (d.ring.seg i).state then (d.enter i 0).onSeg i Segment.idle else d) d, true)
  | 0x4030 => (d, true)
  | 0x9001 => ({ d with tru := { d.tru with stops := d.tru.stops ++ [(1, fieldLE r.pay 1 1 = 1 && r.h.kind = 0)] } }, false)
  | 0xA004 => match d.boot.live with
    | some l => if l.kind = 1 then ({ d with boot := { d.boot with live := some { l with back := true } } }, false) else (d, false)
    | none => (d, true)
  | _ => (d, true)

/-- An abort of an open operation (R391, R392): MAILBOX leaves its segment free for the next request. -/
def Dev.abortOp (d : Dev) (o : OpenOp) : Dev :=
  let r := o.req
  let seg := r.h.index / 96
  let running := match (d.ring.seg seg).mail with | some m => d.mailOp m = some o | none => false
  if r.op = 0x4030 && running then d.mailEnd seg { status := 0x0501 }
  else
    let d1 := if r.op = 0x4012 then d.opEnd (some o) { status := 0x0501 } else d
    let x := d1.opStopped r
    if x.2 then x.1.opEnd (some o) { status := 0x0501 } else x.1

/-- A live activation of MGT or SAF from its Meridian on is past its abort (R546). -/
def pastAbort (d : Dev) (o : OpenOp) : Bool := (o.req.op = 0xA004 || o.req.op = 0xA010) && (match d.boot.live with | some l => l.kind ≠ 1 | none => false)

/-- ABORT takes effect at Meridian A (R391). -/
def Dev.abortEffect (d : Dev) (q : HostReq) : Dev × CmdRes :=
  match d.abortSees q with
  | .unknown => (d, .st 0x0203)
  | .never => (d, .st 0x0204)
  | .done => (d, { note := 1 })
  | .live _ =>
    match d.host.fetched.find? (fun f => abortNames q f.req) with
    | some f =>
      let d1 := Dev.reject { d with host := { d.host with fetched := d.host.fetched.filter (fun x => !abortNames q x.req) } } f.req f.res 0x0501
      (if f.req.h.batch = 0 then d1 else d1.failBatch f.req.h.batch f.req.h.effective f.req.h.pair).done
    | none =>
      match d.host.staged.find? (fun s => abortNames q s.req) with
      | some s =>
        let d1 := d.withdraw (fun x => abortNames q x.req) (fun _ => 0x0501)
        if 0 < s.meridian && s.meridian ≤ d.ctl.cycle then (d, { note := 1 })
        else if s.req.h.batch = 0 then d1.done
        else if s.meridian = 0 then (d1.failBatch s.req.h.batch s.req.h.effective s.req.h.pair).done
        else (d1.failClosed s.req.h.batch s.req.h.effective s.meridian).done
      | none =>
        match d.host.openOps.find? (fun o => abortNames q o.req) with
        | some o => if pastAbort d o then (d, { note := 1 }) else (d.abortOp o).done
        | none => (d, { note := 1 })

end Sys2Proof.Machine
end

