-- ==== Sys2Proof/Machine/RingRows.lean ====
section
/-! DEFINITION. The commands of ring start, ring faults and acyclic traffic (chapters 9 and 10). A frame operand is the whole frame from its destination
address to its FCS; a row whose frame or state is not the one that its rule speaks of changes nothing (log 1). -/

namespace Sys2Proof.Machine

open Sys2Proof

/-! ## Contention (R298 to R300) -/

/-- LISTEN_TIME passes without a valid cycle frame: the head claims (R298, Table 10.4). -/
def Dev.listenEnd (d : Dev) : Dev :=
  if d.ring.role = 1 && d.segNos.any (fun i => (d.ring.seg i).state = 1) then
    d.segNos.foldl (fun d i => if (d.ring.seg i).state = 1 then (d.enter i 2).onSeg i (fun s => { s with claimRun := 0, claimBack := false, sent := [] }) else d)
      { d with ring := { d.ring with role := 2, claimRound := 0, lowerKey := false } }
  else d

/-- LISTEN_TIME_EXPIRY. -/
def execListenTimeExpiry (s : State) : Host.Outcome State Fault Refusal := s.act Dev.listenEnd

/-- SEG_MASK: the configured segments (R299). -/
def Dev.segMask (d : Dev) : Nat := d.segNos.foldl (fun m i => m + 2 ^ i) 0

/-- A CLAIM frame is launched on a segment (R299); a claim of the last round that did not come back ends a succession of returns. -/
def Dev.claimOn (d : Dev) (seg : Nat) : Dev :=
  let d := d.onSeg seg (fun s => if s.sent = [] then s else { s with claimRun := 0, sent := [] })
  d.acyclic seg 0x10 0xFF (leBytes 1 (d.prm pCLAIM_PRIORITY) ++ leBytes 1 d.ring.claimRound ++ leBytes 1 d.segMask ++ [0] ++ leBytes 8 Config.devSerial)

/-- Every 1 ms a claiming head launches a CLAIM frame on every segment that claims (R299). -/
def Dev.claimTick (d : Dev) : Dev :=
  let segs := d.segNos.filter (fun i => (d.ring.seg i).state = 2)
  if (d.ring.role = 2 || d.ring.role = 3) && segs ≠ [] then
    segs.foldl Dev.claimOn { d with ring := { d.ring with claimRound := incWrap 8 d.ring.claimRound } }
  else d

/-- CLAIM_INTERVAL. -/
def execClaimInterval (s : State) : Host.Outcome State Fault Refusal := s.act Dev.claimTick

/-- A frame as a head forwards it from its B port to its A port: HOP incremented, FCS recomputed, and a wrong FCS kept wrong (R265, R271, R277). -/
def forwarded (f : List Byte) (write : List Byte → List Byte) : List Byte :=
  let g := write (putBytes f 44 (leBytes 1 (min 255 (frameHop f + 1))))
  let g := withFcs (g.take (g.length - 4))
  if fcsOk f then g else g.take (g.length - 4) ++ leBytes 4 ((2 ^ 32 - 1) - fieldLE g (g.length - 4) 4)

/-- A leader that has taken over forwards what returns at its B port onward through its A port (R330). -/
def Dev.onward (d : Dev) (seg : Nat) (portA : Bool) (f : List Byte) : Dev :=
  if d.ring.tookOver && !portA then d.onSeg seg (fun s => { s with fwd := forwarded f id }) else d

/-- A segment that the leader has retried enters ENUM; while the cycles of the others run it keeps within the delays in force (R299, R321). -/
def Dev.rejoin (d : Dev) (seg : Nat) : Dev := (d.enumStart seg).onSeg seg (fun s => { s with reinit := d.ctl.running })

/-- A CLAIM frame reaches a claiming head (R299). -/
def Dev.claimFrame (d : Dev) (seg : Nat) (f : List Byte) : Dev :=
  let s := d.ring.seg seg
  if !(s.state = 2 && fcsOk f && frameKind f = 3 && service f = 0x10 && hdr f 1 1 = seg) then d
  else
    let own := (d.prm pCLAIM_PRIORITY, Config.devSerial)
    let key := (pay f 44 1, pay f 48 8)
    if key = own then
      match s.outstanding 0x10 f with
      | none => d
      | some g =>
        let d := d.onSeg seg (fun s => { s.took g with claimRun := s.claimRun + 1, claimBack := true })
        if d.ring.role = 3 then (if 3 ≤ (d.ring.seg seg).claimRun then d.rejoin seg else d)
        else if !d.ring.lowerKey && d.segNos.all (fun i => (d.ring.seg i).state ≠ 2 || 3 ≤ (d.ring.seg i).claimRun) then
          d.lead (d.segNos.filter (fun i => (d.ring.seg i).state = 2))
        else d
    else
      let d := d.onSeg seg (fun s => { s with fwd := forwarded f id })
      if d.ring.role = 2 && (key.1 < own.1 || (key.1 = own.1 && key.2 < own.2)) then ({ d with ring := { d.ring with lowerKey := true } }).follow else d

/-- CLAIM. -/
def execClaim (seg : Nat) (frame : List Byte) (s : State) : Host.Outcome State Fault Refusal := s.act (fun d => d.claimFrame seg frame)

/-- A segment whose claims never returned stays DOWN (R299). -/
def Dev.ringOpen (d : Dev) (seg : Nat) : Dev := (d.segFail seg (evSeg seg eRING_OPEN)).onSeg seg (fun s => { s with retry := true })

/-- CLAIM_TIMEOUT passes (R299): the head leads with the segments whose claims returned; later it retries the others. -/
def Dev.claimTimeout (d : Dev) : Dev :=
  let segs := d.segNos.filter (fun i => (d.ring.seg i).state = 2)
  if d.ring.role = 2 then
    let back := segs.filter (fun i => (d.ring.seg i).claimBack)
    if back = [] || d.ring.lowerKey then d
    else (segs.filter (fun i => !back.contains i)).foldl Dev.ringOpen (d.lead back)
  else if d.ring.role = 3 then
    (d.segNos.filter (fun i => (d.ring.seg i).retry)).foldl (fun d i =>
      if (d.ring.seg i).state = 0 then (d.enter i 2).onSeg i (fun s => { s with claimRun := 0, sent := [] }) else if (d.ring.seg i).state = 2 then d.ringOpen i else d) d
  else d

/-- CLAIM_TIMEOUT. -/
def execClaimTimeout (s : State) : Host.Outcome State Fault Refusal := s.act Dev.claimTimeout

/-! ## Enumeration, measurement, configuration (R301 to R309) -/

/-- The enumeration is accepted, or the first position that differs (R302): the node list matches, every slot's capability is there, and a standby is last. -/
def Dev.enumBad (d : Dev) (seg : Nat) (f : List Byte) : Nat :=
  match enumMismatch d.ring.map seg f with
  | 0 =>
    match d.ring.map.nodes.find? (fun n => n.seg = seg && !n.reserved && n.kind = 1 && n.pos ≠ frameHop f && n.pos = (d.ring.map.desc seg).nodes) with
    | some n => n.pos
    | none => if frameHop f < (d.ring.map.desc seg).nodes then frameHop f + 1 else 0
  | p => p

/-- The node of a position as its identity entry describes it. -/
def Node.identified (n : Node) (id : List Byte) : Node :=
  { n with ident := id, head := fieldLE id 16 1 = 1, col := { n.col with dFwd := fieldLE id 18 2, dRev := fieldLE id 20 2, dWrap := fieldLE id 22 2 } }

/-- A standby head is configured on every segment: the last position of each node list is a head (R302, R324). -/
def FrameMap.standby (m : FrameMap) : Bool :=
  let segs := (List.range 8).filter m.configured
  segs ≠ [] && segs.all (fun i => m.nodes.any (fun n => n.seg = i && !n.reserved && n.kind = 1 && n.pos = (m.desc i).nodes))

/-- An ENUM frame comes back to the leader (R302). -/
def Dev.enumFrame (d : Dev) (seg : Nat) (f : List Byte) : Dev :=
  let s := d.ring.seg seg
  match s.outstanding 0x11 f with
  | none => d
  | some g =>
    if s.state ≠ 3 || !fcsOk f then d
    else
      let d := d.onSeg seg (fun s => s.took g)
      match d.enumBad seg f with
      | 0 =>
        let n := frameHop f
        let nodes := (List.range (min n 96)).foldl (fun (t : Tab Node) i => Tab.set t (i + 1) ((Tab.getD t (i + 1) {}).identified (enumIdent f (i + 1)))) s.nodes
        let d := { d with ring := { d.ring with standbyPresent := d.ring.map.standby } }
        ((d.enter seg 4).onSeg seg (fun s => { s with nodes := nodes, devs := n })).measure seg
      | p => d.segFail seg (evSeg seg eRING_MISMATCH (leBytes 2 p))

/-- ENUM. -/
def execEnum (seg : Nat) (frame : List Byte) (s : State) : Host.Outcome State Fault Refusal := s.act (fun d => d.enumFrame seg frame)

/-- The join positions that a map reserves on a segment ("Late joiners" of chapter 10): spare echo entries are what the spare slots leave of the spare
region. -/
def FrameMap.reserved (m : FrameMap) (seg : Nat) : Nat :=
  let used := m.entries.foldl (fun n e => if e.2.seg = seg && e.2.kind = 4 then n + e.2.span else n) 0
  ((m.desc seg).length - (m.desc seg).spareOfs - used) / 8

/-- 64 pairs are measured: Collimation, t_ring and t_cring (R306 to R309); a re-initialised segment keeps within the values in force (R321). -/
def Dev.measured (d : Dev) (seg : Nat) : Dev :=
  let s := d.ring.seg seg
  let desc := d.ring.map.desc seg
  let sb := d.ring.standbyPresent
  let (s1, t0, t0to) := collimate s s.devs 64 sb
  let time (len : Nat) : Nat := if sb then max (ringTime t0 len s.linkMode) (ringTime t0to len s.linkMode) else ringTime t0 len s.linkMode
  let tr := time desc.length + d.ring.map.reserved seg * d.prm pJOIN_DELAY_RESERVE
  let tc := if desc.corrLength = 0 then 0 else time desc.corrLength
  if s.reinit && d.ctl.running && (d.tringMax < tr || d.tcringMax < tc) then d.segFail seg (evSeg seg eRING_TOO_LONG)
  else ((d.enter seg 5).onSeg seg (fun _ => { s1 with state := 5, tRing := tr, tCring := tc, cfgPos := 0, cfgTries := 0, lastMeas := none })).configBegin

/-- The forward and reverse stamps of a REPORT frame (R305): for each position the difference R − F in the node's own count. -/
def reportSums (s : Segment) (f : List Byte) : List (Int × Int) :=
  (List.range s.devs).map (fun i =>
    let old := s.fSums.getD i (0, 0)
    (old.1, old.2 + wrapS 32 ((pay f (48 + 8 * i + 4) 4 : Int) - (pay f (48 + 8 * i) 4 : Nat))))

/-- A MEASURE frame comes back at the A port or a REPORT at the B port, `ps` picoseconds after its launch (R305). -/
def Dev.delayFrame (d : Dev) (seg ps : Nat) (f : List Byte) : Dev :=
  let s := d.ring.seg seg
  match s.outstanding 0x12 f with
  | none => d
  | some g =>
    if s.state ≠ 4 || !fcsOk f then d
    else
      let d := d.onSeg seg (fun s => s.took g)
      if pay f 44 1 = 1 then (d.onSeg seg (fun s => { s with losses := 0, lastMeas := some ((ps : Int), s.measId) })).report seg
      else
        match s.lastMeas with
        | none => d.measure seg
        | some m =>
          let d := d.onSeg seg (fun s => { s with pairs := s.pairs + 1, rtSum := s.rtSum + m.1, t0Sum := s.t0Sum + ps, fSums := reportSums s f })
          if 64 ≤ (d.ring.seg seg).pairs then d.measured seg else d.measure seg

/-- DELAY. -/
def execDelay (seg elapsedPs : Nat) (frame : List Byte) (s : State) : Host.Outcome State Fault Refusal := s.act (fun d => d.delayFrame seg elapsedPs frame)

/-- The outstanding DELAY frame does not come back: a MEASURE lost 16 times in succession opens the ring (Table 10.4). -/
def Dev.measureLost (d : Dev) (seg : Nat) : Dev :=
  let s := d.ring.seg seg
  match s.state, s.sent.find? (fun g => service g = 0x12) with
  | 4, some g =>
    let d := d.onSeg seg (fun s => s.took g)
    if pay g 44 1 ≠ 1 then d.measure seg
    else if 16 ≤ s.losses + 1 then d.segFail seg (evSeg seg eRING_OPEN)
    else (d.onSeg seg (fun s => { s with losses := s.losses + 1 })).measure seg
  | _, _ => d

/-- MEASURE_FRAME_LOST. -/
def execMeasureFrameLost (seg : Nat) (s : State) : Host.Outcome State Fault Refusal := s.act (fun d => d.measureLost seg)

/-- A CONFIG frame comes back (R303): RESULT 1 goes on to the next position, RESULT 2 fails, and a frame without RESULT is repeated at most 16 times. -/
def Dev.configFrame (d : Dev) (seg : Nat) (f : List Byte) : Dev :=
  let s := d.ring.seg seg
  match s.outstanding 0x13 f with
  | none => d
  | some g =>
    if s.state ≠ 5 then d
    else
      let d := d.onSeg seg (fun s => s.took g)
      let res := if fcsOk f then pay f 70 1 else 0
      if res = 1 then (d.onSeg seg (fun s => s.onNode s.cfgPos (fun n => { n with state := 1, okRun := 0, missRun := 0 }))).config seg (s.cfgPos + 1) 1
      else if res = 0 && s.cfgTries < 16 then d.config seg s.cfgPos (s.cfgTries + 1)
      else d.segFail seg (evSeg seg eNODE_CONFIG_FAILED)

/-- CONFIG. -/
def execConfig (seg : Nat) (frame : List Byte) (s : State) : Host.Outcome State Fault Refusal := s.act (fun d => d.configFrame seg frame)

/-- START. -/
def execStart (s : State) : Host.Outcome State Fault Refusal := s.act Dev.startRing

/-- SYNC_TIMEOUT passes: the segment returns to DOWN with the unlocked positions (Table 10.4). -/
def Dev.syncTimeout (d : Dev) (seg : Nat) : Dev :=
  let s := d.ring.seg seg
  if s.state = 6 then
    let bad := ((d.positions seg).filter (fun p => (s.node p).state ≠ 2)).take 12
    d.segFail seg (evSeg seg eSYNC_FAILED (bad.flatMap (fun p => leBytes 2 p)))
  else d

/-- SYNC_TIMEOUT. -/
def execSyncTimeout (seg : Nat) (s : State) : Host.Outcome State Fault Refusal := s.act (fun d => d.syncTimeout seg)

/-- The sixteen cycles of notice have passed (R321): the segment carries no cycle frame any more and runs ENUM to SYNC. -/
def Dev.noticeEnd (d : Dev) (seg : Nat) : Dev :=
  let s := d.ring.seg seg
  if s.state = 9 && s.reinitLeft = some 0 then
    let d := ((d.segParams seg).mapBegin [seg]).onSeg seg (fun s => { s with reinitLeft := none, launched := [], corrLaunched := [] })
    if d.outOfsOk seg then d.enumStart seg else d.segFail seg (evSeg seg eRING_MISMATCH (leBytes 2 0))
  else d

/-- REINIT_NOTICE_END. -/
def execReinitNoticeEnd (seg : Nat) (s : State) : Host.Outcome State Fault Refusal := s.act (fun d => d.noticeEnd seg)

/-! ## Late joiners (R322, R323) -/

/-- JOIN_POLL goes to every position of every segment in RUN (R322). -/
def Dev.joinPollAll (d : Dev) : Dev :=
  if d.ring.role = 3 then d.segNos.foldl (fun d i => if (d.ring.seg i).state = 7 then d.acyclic i 0x15 0xFF (zeroBytes 44) else d) d else d

/-- JOIN_POLL_PERIOD_EXPIRY. -/
def execJoinPollPeriodExpiry (s : State) : Host.Outcome State Fault Refusal := s.act Dev.joinPollAll

/-- A JOIN_POLL frame comes back with the response area of a node that asks to join (R322). -/
def Dev.joinPollFrame (d : Dev) (seg : Nat) (f : List Byte) : Dev :=
  match (d.ring.seg seg).outstanding 0x15 f with
  | none => d
  | some g =>
    let area := payBytes f 48 40
    d.onSeg seg (fun s => if fcsOk f && !area.all (fun b => b = 0) then { s.took g with joinIdent := some (fieldLE area 32 1, area.take 32) } else s.took g)

/-- JOIN_POLL. -/
def execJoinPoll (seg : Nat) (frame : List Byte) (s : State) : Host.Outcome State Fault Refusal := s.act (fun d => (d.onward seg false frame).joinPollFrame seg frame)

/-- The cause that refuses a join, 0 when it is granted (R323): 1 position, 2 identity, 3 ring time, 4 spare slots (the numbers are the model's, log 11). -/
def Dev.joinCause (d : Dev) (seg pos ringNs : Nat) (id : List Byte) : Nat :=
  let m := d.ring.map
  let firstFree := (m.desc seg).nodes + (if d.ring.standbyPresent then 0 else 1)
  if !(firstFree ≤ pos && pos < firstFree + m.reserved seg) then 1
  else if !(m.nodes.any (fun n => n.seg = seg && n.reserved && n.pos = pos && identMatch n id)) then 2
  else if (d.ring.seg seg).tRing < ringNs then 3
  else if !(m.entries.any (fun e => e.2.seg = seg && e.2.kind = 4 && !e.2.claimed)) then 4 else 0

/-- The spare entries granted to a joiner: the first unclaimed one of each direction. -/
def FrameMap.granted (m : FrameMap) (seg : Nat) : List Nat :=
  let free (b : Bool) : List Nat := (m.entries.filter (fun e => e.2.seg = seg && e.2.kind = 4 && !e.2.claimed && e.2.input = b)).map Prod.fst
  (free false).take 1 ++ (free true).take 1

/-- A joined node: CONFIGURED, with its delay from the head (the model has no value for it: free). -/
def Node.grant (n : Node) (hd : Nat) : Node := { n with state := 1, joined := true, okRun := 0, missRun := 0, col := { n.col with headDelay := hd } }

/-- The leader decides the join that a poll brought (R323); `ringNs` is t_ring measured with the loop at the joiner. -/
def Dev.joinGrant (d : Dev) (seg ringNs : Nat) : Dev :=
  match (d.ring.seg seg).joinIdent with
  | none => d
  | some (pos, id) =>
    if !((d.ring.seg seg).state = 7 && d.ring.role = 3) then d
    else
      let d := d.onSeg seg (fun s => { s with joinIdent := none })
      match d.joinCause seg pos ringNs id with
      | 0 =>
        let g := d.ring.map.granted seg
        let es := d.ring.map.entries.map (fun e => if g.contains e.1 then (e.1, { e.2 with node := pos, claimed := true }) else e)
        let hd := d.freeVal % 2 ^ 32
        let d := ({ d.took with ring := { d.ring with map := { d.ring.map with entries := es } } }).layout
        let d := d.onSeg seg (fun s => { s with joinCnt := incSat 16 s.joinCnt, devs := s.devs + 1 })
        let d := d.onSeg seg (fun s => s.onNode pos (fun n => (n.identified id).grant hd))
        d.acyclic seg 0x16 pos (d.configOf seg pos)
      | c => d.emit (evSeg seg eJOIN_REFUSED (leBytes 1 c))

/-- JOIN_GRANT. -/
def execJoinGrant (seg ringNs : Nat) (s : State) : Host.Outcome State Fault Refusal := s.act (fun d => d.joinGrant seg ringNs)

/-! ## Acyclic traffic in the quiet window (R50, R287, R320) -/

/-- The waiting acyclic frame of a segment launches `ofs` ns after the Meridian, when it would return before the quiet window closes (R50). A TWIN frame is the
standby's and does not come back (R326). -/
def Dev.acyclicLaunch (d : Dev) (seg ofs : Nat) : Dev :=
  let s := d.ring.seg seg
  match s.queue with
  | [] => d
  | f :: r =>
    if d.ctl.running && !d.ctl.first && d.ring.role = 3 && d.quietOpen seg ≤ ofs && ofs + returnNs s (d.ring.map.desc seg).length f.length < d.quietClose then
      let ns := d.mer d.ctl.cycle + ofs
      let d := { d with tu := d.tu.reach ns }
      let g := d.restamp seg ns f
      d.onSeg seg (fun s => { s with queue := r, sent := if service f = 0x18 then s.sent else s.sent ++ [g] })
    else d

/-- ACYCLIC_FRAME_LAUNCH. -/
def execAcyclicFrameLaunch (seg atNs : Nat) (s : State) : Host.Outcome State Fault Refusal := s.does (fun d => d.acyclicLaunch seg atNs)

/-- The positions whose FCS_FRESH increased, and what each counted (R320). -/
def linkTested (s : Segment) (f : List Byte) : Segment :=
  s.nodes.foldl (fun s e =>
    if e.2.state = 0 then s
    else
      let v := pay f (48 + 8 * (e.1 - 1)) 4
      let inc := (v + 2 ^ 32 - e.2.fcsFresh) % 2 ^ 32
      s.onNode e.1 (fun n => if inc = 0 then n else { n with fcsFresh := v, suspect := true, linkErrCnt := addSat 16 n.linkErrCnt inc })) s

/-- A LINK_TEST frame comes back (R320). -/
def Dev.linkTest (d : Dev) (seg : Nat) (f : List Byte) : Dev :=
  match (d.ring.seg seg).outstanding 0x17 f with
  | none => d
  | some g =>
    let d := d.onSeg seg (fun s => linkTested (s.took g) f)
    if fcsOk f then d.onSeg seg (fun s => { s with linkTransient := incSat 32 s.linkTransient })
    else (d.onSeg seg (fun s => { s with linkLasting := incSat 16 s.linkLasting })).emit (evSeg seg eLINK_LASTING)

/-- LINK_TEST. -/
def execLinkTest (seg : Nat) (frame : List Byte) (s : State) : Host.Outcome State Fault Refusal := s.act (fun d => (d.onward seg false frame).linkTest seg frame)

/-- The reply payload of a mailbox request (Table 13.8). -/
def mailReply (f : List Byte) (cap : Nat) : List Byte :=
  let n := min cap (16 * pay f 51 1)
  leBytes 1 (pay f 50 1) ++ [0] ++ leBytes 2 n ++ zeroBytes 4 ++ payBytes f (52 + pay f 44 2) n

/-- A MAILBOX frame comes back (R287, R418): the request's first return solicits the response; a response done or rejected ends the exchange. -/
def Dev.mailFrame (d : Dev) (seg : Nat) (f : List Byte) : Dev :=
  let s := d.ring.seg seg
  match s.outstanding 0x01 f, s.mail with
  | some g, some m =>
    let d := d.onSeg seg (fun s => s.took g)
    if !m.sent then (d.onSeg seg (fun s => { s with mail := some { m with sent := true } })).mailSolicit seg
    else if fcsOk f && pay f 48 2 = m.seq && (pay f 50 1 = 1 || pay f 50 1 = 3) then d.mailEnd seg { pay := mailReply f m.cap }
    else d.mailSolicit seg
  | some g, none => d.onSeg seg (fun s => s.took g)
  | none, _ => d

/-- MAILBOX_FRAME_RETURN. -/
def execMailboxFrameReturn (seg : Nat) (frame : List Byte) (s : State) : Host.Outcome State Fault Refusal := s.act (fun d => (d.onward seg false frame).mailFrame seg frame)

/-- 1,000 ms pass without a response marked done or rejected (R418). -/
def Dev.mailTimeout (d : Dev) (seg : Nat) : Dev :=
  if (d.ring.seg seg).mail.isSome then d.mailEnd seg { status := 0x0603 } else d.opEnd (d.mailOps seg)[0]? { status := 0x0603 }

/-- MAILBOX_TIMEOUT. -/
def execMailboxTimeout (seg : Nat) (s : State) : Host.Outcome State Fault Refusal := s.act (fun d => d.mailTimeout seg)

/-! ## Links -/

/-- A port gains or loses synchronisation (R317): a segment's A or B port, or a plant port. No link comes up without SD_REFCLK or in a domain that is off (R558, R562). -/
def Dev.linkState (d : Dev) (plant : Bool) (port : Nat) (sideB up : Bool) : Dev :=
  if up && (d.power.sdLost || (if plant then !d.power.plant else 4 ≤ port && !d.power.segb)) then d
  else if plant then { d with tu := { d.tu with ports := d.tu.ports.modify port (fun p => { p with up := up }) } }
  else d.onSeg port (fun s => if sideB then { s with upB := up } else { s with upA := up })

/-- LINK_STATE_CHANGE. -/
def execLinkStateChange (plant : Bool) (port : Nat) (sideB up : Bool) (s : State) : Host.Outcome State Fault Refusal :=
  s.does (fun d => d.linkState plant port sideB up)

/-! ## The return of frames (R310, R313 to R316, R319, R331) -/

/-- A wrap at position `pos` (0 when no wrapped frame tells it): the nodes behind it lie beyond the break (R319). -/
def Segment.wrapped (s : Segment) (pos : Nat) : Segment :=
  { s with wrapPos := pos, nodes := s.nodes.map (fun e => if pos ≠ 0 && pos < e.1 then (e.1, { e.2 with beyondBreak := true }) else e) }

/-- The segment becomes BROKEN (Table 10.4, R319). -/
def Dev.broken (d : Dev) (seg pos : Nat) : Dev :=
  let d := d.enter seg 8
  let d := d.onSeg seg (fun s => { s.wrapped pos with breakCnt := incSat 16 s.breakCnt, returnRun := 0 })
  d.emit (evSeg seg eRING_BREAK (leBytes 2 pos))

/-- A frame arrived at the B port with the HOP of the whole path: a return (R310); sixteen cycles of them end a break. -/
def Dev.ringReturn (d : Dev) (seg : Nat) : Dev :=
  let d := d.onSeg seg (fun s => if s.returned then s else { s with returned := true, silentRun := 0, returnRun := s.returnRun + 1 })
  if (d.ring.seg seg).state = 8 && 16 ≤ (d.ring.seg seg).returnRun then
    ((d.enter seg 7).onSeg seg (fun s => { s with wrapPos := 0 })).emit (evSeg seg eBREAK_CLEARED)
  else d

/-- The event of a node on an accepted frame. -/
def nodeEvent (seg pos : Nat) (n : Node) (k : Nat) : Ev :=
  if k = 1 then evC (srcNode seg pos) eREADY_LOW (leBytes 2 pos ++ leBytes 2 (lowBits 16 n.margin))
  else evC (srcNode seg pos) (if k = 2 then eNODE_RETURNED else eNODE_LOST)

/-- A node on an accepted frame, with the report of R349 that its arrival strays. -/
def Node.judged (n : Node) (f : List Byte) (echoOfs pos guard lost wrap : Nat) (standby beyond : Bool) : Node × List Nat :=
  let r := n.onFrame f echoOfs pos guard lost wrap standby beyond
  if r.1.echoMissed then r
  else
    let run := if 25 < r.1.dev.natAbs then n.outRun + 1 else 0
    ({ r.1 with outRun := run, timeUnlocked := r.1.timeUnlocked || 64 ≤ run }, r.2)

/-- Every node of a segment on an accepted frame (R315, R316). -/
def Dev.nodesOnFrame (d : Dev) (seg : Nat) (f : List Byte) : Dev :=
  let s := d.ring.seg seg
  s.nodes.foldl (fun d e =>
    if e.2.state = 0 then d
    else
      let r := e.2.judged f (d.ring.map.desc seg).echoOfs e.1 (d.prm pREADY_GUARD) (d.prm pNODE_LOST_LIMIT) s.wrapPos d.ring.tookOver (s.wrapPos ≠ 0 && s.wrapPos < e.1)
      Dev.emits (d.onSeg seg (fun s => s.onNode e.1 (fun _ => r.1))) (r.2.map (nodeEvent seg e.1 r.1))) d

/-- The SI takes the messages of an accepted frame (R466, R479): loop comparison, then each SI message. -/
def Dev.safetyOnFrame (d : Dev) (seg : Nat) (f : List Byte) : Dev :=
  match d.si.conf with
  | none => d
  | some c =>
    let n := c.count seg
    let l := (d.ring.seg seg).launched
    let bad := ((List.range n).filter (fun j => payBytes f (36 + 20 * j) 20 ≠ payBytes l (36 + 20 * j) 20)).length
    let d := if n = 0 then d else d.withSi (d.si.loop seg bad)
    (List.range n).foldl (fun d j => d.withSi (d.si.receive (64 * seg + j) (payBytes f (36 + 20 * (n + j)) 20))) d

/-- Every node of a segment in SYNC is OPERATIONAL: the segment enters RUN (Table 10.4). -/
def Dev.syncDone (d : Dev) (seg : Nat) : Dev :=
  let s := d.ring.seg seg
  if s.state = 6 && (d.positions seg).all (fun p => (s.node p).state = 2) then d.enter seg 7 else d

/-- A LINK_TEST frame follows a cycle frame discarded for its FCS (R320). -/
def Dev.linkTestSend (d : Dev) (seg : Nat) : Dev := d.acyclic seg 0x17 0xFF (zeroBytes (4 + 8 * (d.ring.seg seg).devs))

/-- The frame is discarded: every input slot and SI message of it is missed (R313). -/
def Dev.discard (d : Dev) (seg : Nat) : Dev :=
  let d := { d with ring := d.ring.missSlots seg true }
  d.onSeg seg (fun s => { s with discardedCnt := incSat 32 s.discardedCnt, judged := true })

/-- A leader hears the cycle frame of another head at a B port (R331). -/
def Dev.rival (d : Dev) : Dev :=
  if d.ring.deposed then d else ({ d with ring := { d.ring with deposed := true } }).emit (evC srcDevice eLEADER_DEPOSED)

/-- A returned cycle frame (R313): the foreign frame of R331, the break and its end, then the test and what an accepted frame brings. -/
def Dev.cycleReturn (d : Dev) (seg : Nat) (portA : Bool) (f : List Byte) : Dev :=
  let s := d.ring.seg seg
  if d.ring.role = 3 && !portA && validCycleFrame f seg && frameSource f ≠ d.prm pHEAD_MAC then d.rival
  else if !(d.ring.role = 3 && d.ctl.running && s.launched ≠ [] && [6, 7, 8, 9].contains s.state) then d
  else
    let d := if portA && s.state = 7 then d.broken seg (frameHop f)
      else if portA && s.state = 8 then d.onSeg seg (fun s => if s.wrapPos = frameHop f then s else s.wrapped (frameHop f))
      else if !portA && frameHop f = s.devs then d.ringReturn seg else d
    let s := d.ring.seg seg
    if s.judged then d.onSeg seg (fun s => { s with discardedCnt := incSat 32 s.discardedCnt })
    else if (!portA || s.state = 8) && frameAccepted s.launched f (if portA then s.wrapPos else s.devs) then
      let d := { d with ring := d.ring.judgeSlots seg f d.ctl.cycle }
      let d := d.onSeg seg (fun s => { s with accepted := true, judged := true })
      ((d.nodesOnFrame seg f).safetyOnFrame seg f).syncDone seg
    else
      let d := d.discard seg
      if fcsOk f then d else d.linkTestSend seg

/-- CYCLE_FRAME_RETURN. -/
def execCycleFrameReturn (seg : Nat) (portA : Bool) (frame : List Byte) (s : State) : Host.Outcome State Fault Refusal :=
  s.act (fun d => (d.onward seg portA frame).cycleReturn seg portA frame)

/-- A returned correction frame: the same test; its entries carry no input (R313). -/
def Dev.corrReturn (d : Dev) (seg : Nat) (portA : Bool) (f : List Byte) : Dev :=
  let s := d.ring.seg seg
  if !(d.ring.role = 3 && d.ctl.running && s.corrLaunched ≠ []) then d
  else if (!portA || s.state = 8) && frameAccepted s.corrLaunched f (if portA then s.wrapPos else s.devs) then d.onSeg seg (fun s => { s with corrLaunched := [] })
  else d.onSeg seg (fun s => { s with corrLaunched := [], discardedCnt := incSat 32 s.discardedCnt })

/-- CORRECTION_FRAME_RETURN. -/
def execCorrectionFrameReturn (seg : Nat) (portA : Bool) (frame : List Byte) (s : State) : Host.Outcome State Fault Refusal :=
  s.does (fun d => (d.onward seg portA frame).corrReturn seg portA frame)

/-- M_N + t_ring,max passes on a segment (R313, R310): without an accepted frame every slot is missed; four cycles without a return break it. -/
def Dev.returnDeadline (d : Dev) (seg : Nat) : Dev :=
  let s := d.ring.seg seg
  if !(d.ring.role = 3 && d.ctl.running && !d.ctl.first && !d.ctl.gathered && d.ring.map.configured seg) then d
  else if s.launched = [] then (if s.judged then d else ({ d with ring := d.ring.missSlots seg false }).onSeg seg (fun s => { s with judged := true }))
  else
    let d := if s.judged then d else ({ d with ring := d.ring.missSlots seg true }).onSeg seg (fun s => { s with judged := true })
    if s.returned then d
    else
      let d := d.onSeg seg (fun s => { s with returned := true, silentRun := s.silentRun + 1, returnRun := 0 })
      if s.state = 7 && 4 ≤ s.silentRun + 1 then d.broken seg 0 else d

/-- FRAME_RETURN_DEADLINE. -/
def execFrameReturnDeadline (seg : Nat) (s : State) : Host.Outcome State Fault Refusal := s.act (fun d => d.returnDeadline seg)

/-! ## A follower (R298, R300, R301, R303, R340) -/

/-- The identity entry of the device as a node (R301): a head with its serial number. -/
def ownIdentity : List Byte :=
  let b := (List.range 32).map Config.headIdentity
  putBytes (putBytes (putBytes b 8 (leBytes 8 Config.devSerial)) 16 [1]) 28 (zeroBytes 4)

/-- What a follower writes into a ring-management frame on its way (R301, R303, R305). -/
def Dev.followWrite (d : Dev) (seg : Nat) (f : List Byte) (b : List Byte) : List Byte :=
  let s := d.ring.seg seg
  let p := frameHop f + 1
  if !(fcsOk f && hdr f 0 1 = 1 && hdr f 1 1 = seg && frameKind f = 3 && s.state = 10) then b
  else if service f = 0x11 then putBytes b (14 + 48 + 32 * (p - 1)) ownIdentity
  else if service f = 0x12 && pay f 44 1 = 2 then
    match s.lastMeas with
    | some m => if m.2 = pay f 46 2 then
        putBytes b (14 + 48 + 8 * (s.cfgPos - 1)) (leBytes 4 (m.1.toNat % 2 ^ 32) ++ leBytes 4 (if pay f 45 1 = s.cfgPos then 0 else d.freeVal % 2 ^ 32)) else b
    | none => b
  else if service f = 0x13 && serviceDest f = s.cfgPos then putBytes b (14 + 70) [1, 0]
  else b

/-- The follower's own position on a segment is known (R300): a standby is last on every segment, any other follower is passive. -/
def Dev.positioned (d : Dev) (seg pos : Nat) : Dev :=
  let known (i : Nat) : Bool := (d.ring.seg i).cfgPos ≠ 0
  let was := d.segNos.any (fun i => known i && (d.ring.seg i).cfgPos ≠ (d.ring.map.desc i).nodes)
  let d := d.onSeg seg (fun s => { s with cfgPos := pos })
  let last := d.segNos.all (fun i => (d.ring.seg i).cfgPos ≠ 0 && (d.ring.seg i).cfgPos = (d.ring.map.desc i).nodes)
  if d.prm pSTANDBY_EN = 0 then d
  else if last then { d with ring := { d.ring with role := 5, twin := 1, refOfs := 0, refDone := false, digestNext := 0, digestOk := [] }, si := Si.settle { d.si with standby := true } }
  else if pos ≠ (d.ring.map.desc seg).nodes && !was then d.passive
  else d

/-- The standby SI tracks the last SEQ launched on each connection (R493). -/
def Dev.trackSafety (d : Dev) (seg : Nat) (f : List Byte) : Dev :=
  match d.si.conf with
  | none => d
  | some c => { d with si := { d.si with conns := (List.range (c.count seg)).foldl (fun t j =>
      let m := payBytes f (36 + 20 * j) 20
      Tab.upd t (64 * seg + j) (fun k => { k with txSeq := fieldLE m 4 2, launched := m })) d.si.conns } }

/-- A cycle frame of the leader at a follower: the ring count follows it (R340), its Meridian is the launch instant; a standby takes its inputs (R328). -/
def Dev.followCycle (d : Dev) (seg : Nat) (f : List Byte) : Dev :=
  let s := d.ring.seg seg
  let at40 := (extend 40 (hdr f 3 1 * 2 ^ 32 + hdr f 8 4 : Nat) (d.tu.rcNs : Nat)).toNat + (((s.node s.cfgPos).col.headDelay + 500) / 1000)
  let cyc := (extend 32 (hdr f 4 4 : Nat) (d.ring.leaderCycle : Nat)).toNat
  let d := { d with tu := { d.tu with rc := at40 * 65536, rcRem := 0, merN0 := cyc, merRC0 := at40 - ((s.node s.cfgPos).col.headDelay + 500) / 1000 }, ring := { d.ring with frameSeen := true, leaderCycle := cyc } }
  if d.ring.role = 5 then ({ d with ring := d.ring.judgeSlots seg f cyc }).trackSafety seg f else d

/-- A frame of another head arrives at a listening or following head (R298, R300): it is forwarded and acted on. -/
def Dev.followerFrame (d : Dev) (seg : Nat) (f : List Byte) : Dev :=
  let s := d.ring.seg seg
  if !([1, 2, 10].contains s.state && d.ring.role ≠ 3 && d.ring.role ≠ 0) then d
  else
    let own := s.state = 10 && fcsOk f && frameKind f = 3 && service f = 0x12 && pay f 44 1 = 2
    let d := d.onSeg seg (fun s => { s with fwd := forwarded f (d.followWrite seg f) })
    let d := if own then d.took else d
    if validCycleFrame f seg then
      if s.state = 1 then d.follow else if s.state = 10 then d.followCycle seg f else d
    else if !(s.state = 10 && fcsOk f && hdr f 0 1 = 1 && hdr f 1 1 = seg && frameKind f = 3) then d
    else if service f = 0x11 then d.positioned seg (frameHop f + 1)
    else if service f = 0x12 && pay f 44 1 = 1 then d.onSeg seg (fun s => { s with lastMeas := some ((d.tu.rcNs : Int), pay f 46 2) })
    else if service f = 0x13 && serviceDest f = s.cfgPos then
      d.onSeg seg (fun s => ({ s with mapGen := pay f 64 2, nodeWd := pay f 66 1 }).onNode s.cfgPos (fun n => { n with col := { n.col with headDelay := pay f 56 4, toDelay := pay f 60 4 } }))
    else if service f = 0x14 then
      ({ d with ring := { d.ring with leaderCycle := pay f 44 8 - 1 }, ctl := { d.ctl with cycle := pay f 44 8 - 1, gathered := false, sealed := true } }).onSeg seg (fun s => { s with firstCycle := pay f 44 8 })
    else d

/-- FOLLOWER_FRAME_RECEIVE. -/
def execFollowerFrameReceive (seg : Nat) (frame : List Byte) (s : State) : Host.Outcome State Fault Refusal := s.act (fun d => d.followerFrame seg frame)

/-- LEADER_ALIVE reaches the standby, which consumes it (R325). -/
def Dev.leaderAlive (d : Dev) (seg : Nat) (f : List Byte) : Dev :=
  if d.ring.role = 5 && fcsOk f && frameKind f = 3 && service f = 0x19 && hdr f 1 1 = seg then { d with ring := { d.ring with aliveSeen := true } } else d

/-- LEADER_ALIVE. -/
def execLeaderAlive (seg : Nat) (frame : List Byte) (s : State) : Host.Outcome State Fault Refusal := s.does (fun d => d.leaderAlive seg frame)

end Sys2Proof.Machine
end

