-- ==== Sys2Proof/Machine/CmdNet.lean ====
section
/-! DEFINITION. The network commands of class 0x4 beside SET_PARAMS and GET_PARAMS (R417, R418): the Frame Map, ring starts, status queries and the mailbox. -/

namespace Sys2Proof.Machine

open Sys2Proof

/-! ## The Frame Map (R288, R289) -/

/-- The CAPS that the slots of a position need (R302): correction frames for CORR, stepper slots for STEP. -/
def FrameMap.capsAt (m : FrameMap) (seg pos : Nat) : Nat :=
  let mine (k : Nat) : Bool := m.entries.any (fun e => e.2.seg = seg && e.2.node = pos && e.2.kind = k)
  flag (mine 3) 0 + flag (mine 1) 2

/-- A position of the node list as the map's configuration names it; no command carries the identity (log 29). -/
def FrameMap.mapNode (m : FrameMap) (seg pos : Nat) (reserved : Bool) : MapNode :=
  let x := Config.nodeExpect seg pos
  { seg := seg, pos := pos, vendor := x.1 % 2 ^ 32, product := x.2.1 % 2 ^ 32, kind := x.2.2 % 2, caps := m.capsAt seg pos, reserved := reserved }

/-- The map with its node list: the configured positions of each segment, and the join positions that it reserves. -/
def FrameMap.withNodes (m : FrameMap) : FrameMap :=
  let conf := (List.range 8).flatMap (fun i => (List.range (m.desc i).nodes).map (fun p => m.mapNode i (p + 1) false))
  let m1 := { m with nodes := conf }
  let first (i : Nat) : Nat := (m.desc i).nodes + (if m1.standby then 0 else 1)
  { m1 with nodes := conf ++ (List.range 8).flatMap (fun i => (List.range (m.reserved i)).map (fun p => m.mapNode i (first i + p) true)) }

/-- The reserved bits of a valid entry are zero (Table 9.10). -/
def mapEntryClean (b : List Byte) : Bool :=
  bits (fieldLE b 0 2) 15 8 = 0 && bits (fieldLE b 3 1) 7 1 = 0 && fieldLE b 13 3 = 0

/-- The bytes of entry `i` of a loaded table. -/
def mapBytes (b : List Byte) (i : Nat) : List Byte := (b.drop (16 * i)).take 16

/-- The map that MAP_LOAD brings: `b` are its entries, and the descriptors lie in the payload. -/
def mapOfLoad (pay b : List Byte) : FrameMap :=
  let es : Tab MapEntry := (List.range (fieldLE pay 2 2)).filterMap (fun i => (mapEntryOf (mapBytes b i)).map (fun e => (i, e)))
  FrameMap.withNodes { entries := es, descs := (List.range 8).map (fun i => segDescOf ((pay.drop (8 + 16 * i)).take 16)) }

/-- The reserved bits of every valid entry of a load are zero. -/
def mapLoadClean (n : Nat) (b : List Byte) : Bool :=
  (List.range n).all (fun i => !bit (fieldLE (mapBytes b i) 0 2) 0 || mapEntryClean (mapBytes b i))

/-- MAP_LOAD is checked. -/
def Dev.mapLoadCheck (d : Dev) (q : HostReq) : CmdRes :=
  let n := fieldLE q.pay 2 2
  let bad := n = 0 || 4096 < n
  let h := if bad then 0 else d.bulkCheck q (16 * n) (fieldLE q.pay 4 4)
  let b := d.bulkBytes q (16 * n)
  let wrong := !bad && h = 0 && !(mapLoadClean n b && (mapOfLoad q.pay b).ok)
  .st (firstFail [(0x0104, (List.range 8).any (fun i => fieldLE q.pay (8 + 16 * i + 13) 3 ≠ 0)), (0x0108, bad), (h, h ≠ 0), (0x010C, wrong)])

/-- MAP_LOAD takes effect (R289, R418): at its Meridian, or as the pending map of the next ring start. -/
def Dev.mapLoadEffect (d : Dev) (q : HostReq) : Dev × CmdRes :=
  let m := mapOfLoad q.pay (d.bulkBytes q (16 * fieldLE q.pay 2 2))
  if d.ring.map.lightChange m then
    let d1 : Dev := { d with ring := { d.ring with map := m, mapPending := none } }
    (if m = d.ring.map then d1 else d1.layout).done
  else ({ d with ring := { d.ring with mapPending := some m } }, { note := 0x0002 })

/-- The map with one entry patched. -/
def FrameMap.patched (m : FrameMap) (pay : List Byte) : FrameMap :=
  { m with entries := Tab.upd m.entries (fieldLE pay 0 2) (fun e => { e with forceCount := bit (fieldLE pay 2 1) 0, holdMax := fieldLE pay 3 1, target := fieldLE pay 4 4 }) }

/-- MAP_PATCH is checked: it alters POLICY, HOLD_MAX and TARGET of a valid entry. -/
def Dev.patchCheck (d : Dev) (q : HostReq) : CmdRes :=
  let m := d.ring.map
  .st (firstFail [(0x0104, bits (fieldLE q.pay 2 1) 7 1 ≠ 0), (0x010C, !Tab.has m.entries (fieldLE q.pay 0 2) || !(m.patched q.pay).ok)])

/-- MAP_PATCH takes effect. -/
def Dev.patchEffect (d : Dev) (q : HostReq) : Dev × CmdRes :=
  (Dev.layout { d with ring := { d.ring with map := d.ring.map.patched q.pay } }).done

/-! ## RING_START (R311, R312, R321, R418) -/

/-- An axis mapped on the segment is neither OFF nor TORQUE_OFF; `none` asks for every axis (R311). -/
def Dev.segActive (d : Dev) (seg : Option Nat) : Bool :=
  let on (kind a : Nat) : Bool := match seg with
    | none => true
    | some i => d.ring.map.entries.any (fun e => e.2.seg = i && e.2.target % 65536 = a && (e.2.kind = kind || (kind = 0 && e.2.kind = 3)))
  d.motion.axes.any (fun e => on 0 e.1 && !(e.2.now.sup.state = 0 || e.2.now.sup.state = 5)) ||
    d.motion.steppers.any (fun e => on 1 e.1 && !(e.2.state = 0 || e.2.state = 5))

/-- The watchdogs of the nodes suit the standby (R324), under the values that wait for the ring start. -/
def Dev.standbyFits (d : Dev) : Bool :=
  let p := mergeParams d.ctl.prm d.ctl.stored
  !d.ring.standbyPresent || d.segNos.all (fun s => decide (p.val pMISS_TAKEOVER + 1 ≤ p.valueOf 5 s pNODE_WD 0))

/-- RING_START is checked. A segment is started alone only under a leader (log 36). -/
def Dev.ringCheck (d : Dev) (q : HostReq) : CmdRes :=
  let seg := if q.h.kind = 0 then none else some q.h.index
  let gone := match seg with
    | none => false
    | some i => !(d.ring.map.configured i || (match d.ring.mapPending with | some m => m.configured i | none => false))
  .st (firstFail [(0x0102, gone), (0x0111, !d.standbyFits), (0x0213, d.segActive seg), (0x020D, seg.isSome && d.ring.role ≠ 3)])

/-- What waits for later Meridians goes when a ring start of all segments takes effect (R312). -/
def Dev.ringWithdraw (d : Dev) : Dev :=
  let n := (d.host.batches.filter (fun b => !b.failed)).length
  let d1 := d.withdraw (fun _ => true) (fun _ => 0x0216)
  { d1 with host := { d1.host with batches := d1.host.batches.map (fun b => { b with failed := true }), batchesFailed := addSat 32 d1.host.batchesFailed n } }

/-- The tests that a ring start of all segments stops (Table 17.2). -/
def Dev.ringStops (d : Dev) : Dev :=
  let l := if d.tru.logic.isSome then [(4, false)] else []
  let m := if d.tru.mem.isSome then [(4, true)] else []
  { d with tru := { d.tru with stops := d.tru.stops ++ l ++ m } }

/-- RING_START takes effect. -/
def Dev.ringEffect (d : Dev) (q : HostReq) : Dev × CmdRes :=
  if q.h.kind = 0 then (d.ringWithdraw.ringStops.ringBegin, { later := true }) else (d.reinitBegin q.h.index, { later := true })

/-! ## Queries -/

/-- SEG_STATUS (Table 13.8). -/
def Snap.segStatus (v : Snap) (i : Nat) : List Byte :=
  let s := v.ring.seg i
  leBytes 1 s.state ++ leBytes 1 s.linkMode ++ leBytes 1 (v.ring.map.desc i).nodes ++ leBytes 1 s.wrapPos ++ leBytes 4 s.tRing ++ leBytes 4 s.tCring ++ leBytes 4 s.discardedCnt ++
    leBytes 4 s.linkTransient ++ leBytes 2 s.linkLasting ++ leBytes 2 s.breakCnt ++ leBytes 2 s.joinCnt ++ leBytes 2 s.mapGen ++ zeroBytes 12

/-- COLLIMATION (R307): 96 entries in position order. -/
def Snap.collimation (v : Snap) (i : Nat) : List Byte := ((List.range 96).map (fun p => ((v.ring.seg i).node (p + 1)).col.bytes)).flatten

/-! ## MAILBOX (R287, R418) -/

/-- MAILBOX is checked. -/
def Dev.mailboxCheck (d : Dev) (q : HostReq) : CmdRes :=
  let c := fieldLE q.pay 0 2
  .st (firstFail [(0x0104, fieldLE q.pay 4 4 ≠ 0), (0x0108, c < 16 || 4056 < c || 4088 < c + fieldLE q.pay 2 2), (0x020D, (d.ring.seg (q.h.index / 96)).state ≠ 7)])

/-- MAILBOX: its reply is owed; the request goes out once it is open. -/
def Dev.mailboxEffect (d : Dev) (_ : HostReq) : Dev × CmdRes := (d, { later := true })

end Sys2Proof.Machine
end

