-- ==== Sys2Proof/Machine/Ptp.lean ====
section
/-! DEFINITION. The octets of PTP messages on the plant port (R5, R345, R346): their frames under IEEE 802.3, and the header and bodies of IEEE 1588-2019, all most
significant octet first. The spec names the standards and does not repeat their layouts, which are PRESUMED (log 19). -/

namespace Sys2Proof.Machine

open Sys2Proof

/-- The big-endian field of `k` octets at offset `o`. -/
def fieldBE (bs : List Byte) (o k : Nat) : Nat := beNat ((bs.drop o).take k)

/-- messageType of a kind. -/
def PtpKind.type : PtpKind → Nat
  | .sync => 0 | .delayReq => 1 | .pdelayReq => 2 | .pdelayResp => 3 | .followUp => 8 | .delayResp => 9 | .pdelayRespFollowUp => 10 | .announce => 11
  | .signaling => 12 | .management => 13

/-- The kind of a messageType; the others are reserved. -/
def ptpKindOf : Nat → Option PtpKind
  | 0 => some .sync | 1 => some .delayReq | 2 => some .pdelayReq | 3 => some .pdelayResp | 8 => some .followUp | 9 => some .delayResp | 10 => some .pdelayRespFollowUp
  | 11 => some .announce | 12 => some .signaling | 13 => some .management | _ => none

/-- messageLength of the messages that the device sends; the others are at least a header long. -/
def PtpKind.length : PtpKind → Nat
  | .sync => 44 | .delayReq => 44 | .followUp => 44 | .pdelayReq => 54 | .pdelayResp => 54 | .delayResp => 54 | .pdelayRespFollowUp => 54 | .announce => 64
  | .signaling => 34 | .management => 34

/-- An event message, which is stamped (R346). -/
def PtpKind.event (k : PtpKind) : Bool := decide (k.type < 8)

/-- A message of the peer delay mechanism, which has its own addresses. -/
def PtpKind.peer (k : PtpKind) : Bool := k.type = 2 || k.type = 3 || k.type = 10

/-- A Timestamp: 48 bits of seconds and 32 of nanoseconds, from TB picoseconds. -/
def stampOctets (ps : Int) : List Byte :=
  let ns := (ps / 1000).toNat
  beBytes 6 (ns / 1000000000 % 2 ^ 48) ++ beBytes 4 (ns % 1000000000)

/-- A Timestamp at offset `o`, in TB picoseconds. -/
def stampAt (bs : List Byte) (o : Nat) : Int := ((fieldBE bs o 6 * 1000000000 + fieldBE bs (o + 6) 4) * 1000 : Nat)

/-- A message after its Ethernet or UDP header; `none` where it is no message of IEEE 1588-2019 version 2 of its full length. -/
def ptpParse (bs : List Byte) (udp : Bool) : Option PtpMsg :=
  match ptpKindOf (fieldBE bs 0 1 % 16) with
  | none => none
  | some k =>
    if fieldBE bs 1 1 % 16 ≠ 2 || bs.length < k.length || fieldBE bs 2 2 < k.length then none
    else
      let ann := k = .announce
      some { kind := k, sdoId := fieldBE bs 0 1 / 16 * 256 + fieldBE bs 5 1, domain := fieldBE bs 4 1, seq := fieldBE bs 30 2, source := fieldBE bs 20 10,
             requester := if k = .delayResp || k = .pdelayResp || k = .pdelayRespFollowUp then fieldBE bs 44 10 else 0,
             twoStep := bit (fieldBE bs 6 1) 1, correction := wrapS 64 (fieldBE bs 8 8) * 1000 / 65536, stamp := stampAt bs 34,
             prio1 := if ann then fieldBE bs 47 1 else 128, cls := if ann then fieldBE bs 48 1 else 248, accuracy := if ann then fieldBE bs 49 1 else 0xFE,
             variance := if ann then fieldBE bs 50 2 else 0xFFFF, prio2 := if ann then fieldBE bs 52 1 else 128, gm := if ann then fieldBE bs 53 8 else 0,
             steps := if ann then fieldBE bs 61 2 else 0, udp := udp }

/-- What a plant-port frame holds: `none` for no PTP message or a wrong FCS, `some none` for a PTP message that the device does not read (IPv6, another version, a reserved type). -/
def ptpFrame (f : List Byte) : Option (Option PtpMsg) :=
  if !fcsOk f then none
  else
    let type := fieldBE f 12 2
    let ihl := 4 * (fieldBE f 14 1 % 16)
    let port (p : Nat) : Bool := p = 319 || p = 320
    if type = 0x88F7 then some (ptpParse ((f.take (f.length - 4)).drop 14) false)
    else if type = 0x0800 && fieldBE f 14 1 / 16 = 4 && fieldBE f 23 1 = 17 && port (fieldBE f (14 + ihl + 2) 2) then
      some (ptpParse ((f.take (f.length - 4)).drop (14 + ihl + 8)) true)
    else if type = 0x86DD && fieldBE f 20 1 = 17 && port (fieldBE f 56 2) then some none
    else none

/-- The octets of a message that port `i` sends. -/
def Tu.ptpOctets (t : Tu) (m : PtpMsg) : List Byte :=
  let k := m.kind
  let interval : Int := if k = .sync || k = .followUp then Params.val t.prm pLOG_SYNC else if k = .announce then Params.val t.prm pLOG_ANNOUNCE
    else if k = .delayResp then Params.val t.prm pLOG_MIN_DELAY_REQ else 0x7F
  let control := match k with | .sync => 0 | .delayReq => 1 | .followUp => 2 | .delayResp => 3 | .management => 4 | _ => 5
  beBytes 1 (m.sdoId / 256 * 16 + k.type) ++ beBytes 1 0x12 ++ beBytes 2 k.length ++ beBytes 1 m.domain ++ beBytes 1 (m.sdoId % 256) ++ beBytes 1 (flag m.twoStep 1) ++
    beBytes 1 (flag (k = .announce) 3) ++ beBytes 8 (lowBits 64 (m.correction * 65536 / 1000)) ++ zeroBytes 4 ++ beBytes 10 m.source ++ beBytes 2 m.seq ++ beBytes 1 control ++
    beBytes 1 (lowBits 8 interval) ++ stampOctets m.stamp ++
    (match k with
     | .delayResp | .pdelayResp | .pdelayRespFollowUp => beBytes 10 m.requester
     | .pdelayReq => zeroBytes 10
     | .announce => beBytes 2 0 ++ [0] ++ beBytes 1 m.prio1 ++ beBytes 1 m.cls ++ beBytes 1 m.accuracy ++ beBytes 2 m.variance ++ beBytes 1 m.prio2 ++ beBytes 8 m.gm ++
         beBytes 2 m.steps ++ [0xA0]
     | _ => [])

/-- The header checksum of IPv4: the complement of the ones' complement sum of its 16-bit words. -/
def ipChecksum (h : List Byte) : Nat :=
  let s := ((List.range (h.length / 2)).map (fun i => fieldBE h (2 * i) 2)).sum
  let s := s % 65536 + s / 65536
  65535 - (s % 65536 + s / 65536) % 65536

/-- The UDP datagram over IPv4 of a message (Annex C), UDP checksum 0 (Table 11.2). -/
def Tu.ptpUdp (t : Tu) (k : PtpKind) (body : List Byte) : List Byte :=
  let port := if k.event then 319 else 320
  let dst := if k.peer then 0xE000006B else 0xE0000181
  let head (sum : Nat) : List Byte := [0x45, 0] ++ beBytes 2 (28 + body.length) ++ zeroBytes 4 ++ [1, 17] ++ beBytes 2 sum ++ leBytes 4 (Params.nat t.prm pPTP_IPV4) ++ beBytes 4 dst
  head (ipChecksum (head 0)) ++ beBytes 2 port ++ beBytes 2 port ++ beBytes 2 (8 + body.length) ++ [0, 0] ++ body

/-- The frame of a message that port `i` sends: its destination by Annex C or E, padded to the shortest frame, with its FCS. -/
def Tu.ptpBytes (t : Tu) (i : Nat) (m : PtpMsg) : List Byte :=
  let body := t.ptpOctets m
  let dst := if m.udp then (if m.kind.peer then 0x01005E00006B else 0x01005E000181) else (if m.kind.peer then 0x0180C200000E else 0x011B19000000)
  let f := beBytes 6 dst ++ beBytes 6 (Config.plantMac i % 2 ^ 48) ++ beBytes 2 (if m.udp then 0x0800 else 0x88F7) ++ (if m.udp then t.ptpUdp m.kind body else body)
  withFcs (f ++ zeroBytes (60 - f.length))

/-- A frame arrives at port `i` (R345): a PTP message is received; one that the device does not read is discarded and counted; any other frame is discarded. -/
def Tu.ptpArrives (t : Tu) (i : Nat) (q : Int) (f : List Byte) : Tu × List Ev :=
  match ptpFrame f with
  | none => (t, [])
  | some none => ({ t with ports := t.ports.modify i (fun p => { p with discard := incSat 32 p.discard }) }, [])
  | some (some m) => t.ptpReceive i q m

/-- Port `i` sends a message of kind `k` at instant `q`: what its state sends leaves as a frame (R345, R346). -/
def Tu.ptpTransmit (t : Tu) (i : Nat) (k : PtpKind) (q : Int) : Tu :=
  let u := t.ptpSend i k q
  if u.ports = t.ports then u
  else { u with ports := u.ports.modify i (fun p => { p with sent := match p.lastSent with | some m => u.ptpBytes i m | none => [] }) }

end Sys2Proof.Machine
end

