-- ==== Sys2Proof/Machine/TimeRows.lean ====
section
/-! DEFINITION. The commands of the Time Unit (chapter 11): plant-port messages, loss of the source, pulse per second, timed outputs, capture inputs. Instants are
ring counts in quarter nanoseconds; RC has reached an instant that a command names (log 3). -/

namespace Sys2Proof.Machine

open Sys2Proof

/-- The Time Unit at an instant. -/
def Dev.tuAt (d : Dev) (q : Int) : Tu := d.tu.reachQ q

/-- A plant-port message acts while its domain is on (Table 1.3) and the port exists. -/
def Dev.plantUp (d : Dev) (port : Nat) : Bool := d.power.plant && decide (port < 2)

/-- PTP_MESSAGE_RECEIVE (R5, R345 to R347): a frame of the plant port. -/
def execPtpMessageReceive (port : Nat) (instant : Int) (frame : List Byte) (s : State) : Host.Outcome State Fault Refusal :=
  s.act (fun d => if d.plantUp port then d.withTu ((d.tuAt instant).ptpArrives port instant frame) else d)

/-- PTP_MESSAGE_TRANSMIT (R345, R346). -/
def execPtpMessageTransmit (port : Nat) (instant : Int) (kind : PtpKind) (s : State) : Host.Outcome State Fault Refusal :=
  s.does (fun d => if d.plantUp port then { d with tu := (d.tuAt instant).ptpTransmit port kind instant } else d)

/-- ANNOUNCE_RECEIPT_TIMEOUT (R345). -/
def execAnnounceReceiptTimeout (port : Nat) (s : State) : Host.Outcome State Fault Refusal :=
  s.act (fun d => if d.plantUp port then d.withTu (d.tu.announceTimeout port) else d)

/-- IGMP_QUERY_RECEIVE (R345). -/
def execIgmpQueryReceive (port : Nat) (s : State) : Host.Outcome State Fault Refusal :=
  s.does (fun d => if d.plantUp port then { d with tu := d.tu.igmp port } else d)

/-- The reference of TB is lost (R343): what was present is so no longer. -/
def Tu.sourceLost (t : Tu) : Tu × List Ev :=
  if t.source = 0 then (t, []) else Tu.lost (if t.source = 2 then { t with ppsPresent := false } else t)

/-- TB_SOURCE_LOST. -/
def execTbSourceLost (s : State) : Host.Outcome State Fault Refusal := s.act (fun d => d.withTu d.tu.sourceLost)

/-- HOLDOVER_EXPIRY (Table 11.1). -/
def execHoldoverExpiry (s : State) : Host.Outcome State Fault Refusal := s.act (fun d => d.withTu d.tu.holdoverEnd)

/-- PPS_IN_EDGE (R342, R356). -/
def execPpsInEdge (instant : Int) (falling : Bool) (s : State) : Host.Outcome State Fault Refusal :=
  s.act (fun d => d.withTu ((d.tuAt instant).ppsIn instant falling))

/-- PPS_OUT_PULSE (R356). -/
def execPpsOutPulse (s : State) : Host.Outcome State Fault Refusal := s.does (fun d => { d with tu := d.tu.ppsOut })

/-- TOUT_EDGE (R350 to R352). -/
def execToutEdge (out : Nat) (s : State) : Host.Outcome State Fault Refusal := s.act (fun d => d.withTu (d.tu.edge out))

/-- TOUT_PULSE_END (R350). -/
def execToutPulseEnd (out : Nat) (s : State) : Host.Outcome State Fault Refusal := s.does (fun d => { d with tu := d.tu.pulseEnd out })

/-- CAPTURE_EDGE (R353 to R355); the new level then holds for `heldNs`. -/
def execCaptureEdge (input : Nat) (instant : Int) (falling : Bool) (heldNs : Nat) (s : State) : Host.Outcome State Fault Refusal :=
  s.act (fun d => { d with tu := (d.tuAt instant).capture input instant falling heldNs d.ctl.cycle })

end Sys2Proof.Machine
end

