-- ==== Sys2Proof/Machine/CmdTime.lean ====
section
/-! DEFINITION. The time commands of class 0x5 beside SET_PARAMS and GET_PARAMS (R419). -/

namespace Sys2Proof.Machine

open Sys2Proof

/-- TIME_SET is checked (R3, R344). -/
def Dev.timeSetCheck (d : Dev) (q : HostReq) : CmdRes :=
  .st (firstFail [(0x0104, fieldLE q.pay 6 2 ≠ 0), (0x0108, 999999999 < fieldLE q.pay 8 4),
    (0x0214, Params.nat d.tu.prm pTB_SOURCE = 1 && (d.tu.state = 1 || d.tu.state = 2))])

/-- TIME_SET takes effect: TB at this Meridian becomes the given time when the steps of the Meridian are made (R344). -/
def Dev.timeSetEffect (d : Dev) (q : HostReq) : Dev × CmdRes :=
  let x : Int := (((fieldLE q.pay 0 6) * 1000000000 + fieldLE q.pay 8 4) * 65536 : Nat)
  Dev.done { d with tu := { d.tu with hostSet := d.tu.hostSet ++ [x] } }

/-- The steps of a Meridian are made. -/
def Dev.makeSteps (d : Dev) : Dev := d.withTu (d.tu.applySteps d.ctl.cycle d.merQ)

/-- TIME_STATUS (Table 13.9). -/
def Snap.timeStatus (v : Snap) : List Byte := v.tu.status ++ leBytes 4 v.tu.ppsReject ++ zeroBytes 4

/-- CAPTURE_READ is checked. -/
def Dev.captureCheck (_ : Dev) (q : HostReq) : CmdRes :=
  let n := fieldLE q.pay 0 2
  .st (firstFail [(0x0108, n = 0 || 253 < n)])

/-- CAPTURE_READ: the oldest entries leave the FIFO (R355); NOTE 0x0030 says that more remain (R420). -/
def Dev.captureEffect (d : Dev) (q : HostReq) : Dev × CmdRes :=
  let r := d.tu.captureRead q.h.index (fieldLE q.pay 0 2)
  let more := !(r.1.tcaps.getD q.h.index {}).fifo.isEmpty
  ({ d with tu := r.1 }, { note := if more then 0x0030 else 0, pay := leBytes 2 r.2.length ++ zeroBytes 6 ++ r.2.flatten })

/-- IO_STATUS (Table 13.9). -/
def Snap.ioStatus (v : Snap) (kind i : Nat) : List Byte :=
  match kind with
  | 8 => let t := v.tu.touts.getD i {}; padTo 24 (leBytes 4 t.lateCnt ++ leBytes 4 t.dropCnt ++ leBytes 4 t.mergeCnt)
  | 9 => let t := v.tu.tcaps.getD i {}; padTo 24 (leBytes 4 t.intDrop ++ leBytes 4 t.dense ++ leBytes 2 t.overflow ++ leBytes 2 t.fifo.length)
  | _ => let p := v.tu.ports.getD i {}; padTo 24 (leBytes 4 p.discard ++ leBytes 1 p.state)

end Sys2Proof.Machine
end

