-- ==== Sys2Proof/Machine/Boot.lean ====
section
/-! DEFINITION. Flash layout, manifests, images, Almanac, boot choice, persistent records and the TAP (chapters 18 and 19). -/

namespace Sys2Proof.Machine

/-! ## Flash layout (R528, R530) -/

/-- Offset of an image in flash (Tables 18.5, 18.6). -/
def imageBase (bank idx : Nat) : Nat :=
  0x00100000 + 0x00400000 * bank + (match idx with
    | 0 => 0
    | 1 => 0x200000
    | 2 => 0x240000
    | _ => 0x280000)

/-- Maximum size of an image, header included (Table 18.6). -/
def imageSize (idx : Nat) : Nat :=
  match idx with
  | 0 => 0x200000
  | 1 => 0x40000
  | 2 => 0x40000
  | _ => 0x80000

/-- The bytes of a manifest. -/
def manifestBytes (flash : Memory) (bank : Nat) : List Byte := Memory.readList 0xFF flash (0x1000 * bank) 256

/-- VALID of an image in a manifest (Table 18.7). -/
def manifestEntry (m : List Byte) (idx : Nat) : Bool := fieldLE m (16 + 16 * idx) 1 = 1

/-- MAGIC, FORMAT and CRC of a manifest are correct (R531). -/
def manifestSound (m : List Byte) : Bool := fieldLE m 0 4 = 0x464E4D52 && fieldLE m 4 2 = 1 && fieldLE m 252 4 = crc32 (m.take 252)

/-- A manifest is valid (R531). -/
def manifestValid (m : List Byte) : Bool := manifestSound m && (List.range 4).all (manifestEntry m)

/-- A manifest with its CRC made right. -/
def manifestSeal (m : List Byte) : List Byte := putBytes m 252 (leBytes 4 (crc32 (m.take 252)))

/-- A fresh manifest with no valid entry. -/
def manifestBlank : List Byte := leBytes 4 0x464E4D52 ++ leBytes 2 1 ++ zeroBytes 250

/-- A manifest written into its bank's sector (R531). -/
def manifestWrite (flash : Memory) (bank : Nat) (m : List Byte) : Memory :=
  Memory.writeList 0xFF (Memory.clear flash (0x1000 * bank) 0x1000) (0x1000 * bank) (manifestSeal m)

/-- The manifest to be changed: the one in flash when it is sound, a blank one otherwise. -/
def manifestFor (flash : Memory) (bank : Nat) : List Byte :=
  let m := manifestBytes flash bank
  if manifestSound m then m else manifestBlank

/-- ACTIVE_GEN of a bank; 0 when its manifest is not sound. -/
def activeGen (flash : Memory) (bank : Nat) : Nat := let m := manifestBytes flash bank; if manifestSound m then fieldLE m 8 4 else 0

/-! ## Images (R534 to R538) -/

/-- The header of an image slot. -/
def imageHeader (flash : Memory) (bank idx : Nat) : List Byte := Memory.readList 0xFF flash (imageBase bank idx) 192

/-- The Almanac of a header: four versions. -/
def headerAlmanac (h : List Byte) : List Nat := (List.range 4).map (fun i => fieldLE h (16 + 4 * i) 4)

/-- The key hash that KEY names (R535, R536). -/
def keyHash (integ : Option (List Byte)) (key : Nat) : Option (List Byte) :=
  match key with
  | 0 => some ((List.range 32).map Config.vendorKeyHash)
  | 1 => integ
  | _ => none

/-- R535: 0 verified; otherwise the cause of BANK_FALLBACK: 2 signature or key, 3 digest. -/
def imageCheck (flash : Memory) (integ : Option (List Byte)) (bank idx : Nat) : Nat :=
  let h := imageHeader flash bank idx
  let len := fieldLE h 8 4
  if !(fieldLE h 0 4 = 0x494E4752 && fieldLE h 4 1 = idx && decide (192 + len ≤ imageSize idx)) then 2
  else
    let pub := (h.drop 64).take 64
    let keyOk := match keyHash integ (fieldLE h 5 1) with
      | some k => k = sha256 pub
      | none => false
    if !(keyOk && (fieldLE h 5 1 = 0 || idx = 1) && ecdsaOk (h.take 128) pub (h.drop 128)) then 2
    else if (h.drop 32).take 32 = sha256 (Memory.readList 0xFF flash (imageBase bank idx + 192) len) then 0 else 3

/-- A major mismatch between the entry `e` for an image and what that image provides (R537). -/
def majorDiffers (e own : Nat) : Bool := e / 65536 ≠ own / 65536

/-- The images of a bank, each with its Almanac: a major mismatch exists among them (R537). -/
def bankMismatch (flash : Memory) (bank : Nat) : Bool :=
  let al := (List.range 4).map (fun i => headerAlmanac (imageHeader flash bank i))
  (List.range 4).any (fun i => (List.range 4).any (fun j => i ≠ j && majorDiffers ((al.getD i []).getD j 0) ((al.getD j []).getD j 0)))

/-- Why a bank is rejected (R532): 0 not rejected; the cause of BANK_FALLBACK (R551). `bad` says that a flash read had a lasting fault. -/
def bankCheck (flash : Memory) (integ : Option (List Byte)) (fails : List Nat) (bad : Bool) (bank : Nat) : Nat :=
  if 3 ≤ fails.getD bank 0 then 6
  else if bad then 5
  else if !manifestValid (manifestBytes flash bank) then 1
  else
    let c := (List.range 4).map (fun i => imageCheck flash integ bank i)
    match c.find? (· ≠ 0) with
    | some x => x
    | none => if bankMismatch flash bank then 4 else 0

/-- The bank order (R525). -/
def bankOrder (flash : Memory) (sel : Nat) : List Nat :=
  match sel with
  | 1 => [0, 1]
  | 2 => [1, 0]
  | 3 => []
  | _ =>
    let a := manifestValid (manifestBytes flash 0)
    let b := manifestValid (manifestBytes flash 1)
    if b && (!a || activeGen flash 0 < activeGen flash 1) then [1, 0] else [0, 1]

/-- The running image read from a bank's slot. -/
def runImage (flash : Memory) (bank idx : Nat) : RunImage :=
  let h := imageHeader flash bank idx
  { bank := bank, almanac := headerAlmanac h, build := fieldLE h 12 4, digest := (h.drop 32).take 32 }

/-- The pairs of images whose majors agree and minors differ (R538): kinds and both minors. -/
def minorPairs (imgs : List RunImage) : List (Nat × Nat × Nat × Nat) :=
  ((List.range 4).map (fun i => (List.range 4).filterMap (fun j =>
    let e := ((imgs.getD i {}).almanac).getD j 0
    let own := ((imgs.getD j {}).almanac).getD j 0
    if i ≠ j && !majorDiffers e own && e % 65536 ≠ own % 65536 then some (i, j, e % 65536, own % 65536) else none))).flatten

/-- The minor in force for each image (R538, COMMON): the smallest of its own minor and those the others were built against. -/
def commonMinor (imgs : List RunImage) (i : Nat) : Nat :=
  ((List.range 4).map (fun j => (((imgs.getD j {}).almanac).getD i 0) % 65536)).foldl min (((imgs.getD i {}).almanac).getD i 0 % 65536)

/-- The ALMANAC_MINOR events of a set of running images (R538, R551). -/
def minorEvents (imgs : List RunImage) : List Ev :=
  (minorPairs imgs).map (fun p => evM srcMgc eALMANAC_MINOR (leBytes 1 p.1 ++ leBytes 1 p.2.1 ++ leBytes 2 p.2.2.1 ++ leBytes 2 p.2.2.2))

/-- IMG_FLAGS (Table 18.10). -/
def BootSt.flags (b : BootSt) : Nat :=
  flag b.recovery 0 + flag b.minor 1 + flag b.live.isSome 2 + flag b.fallback 3 + flag b.integKey.isSome 4 + flag b.ownerKey.isSome 5

/-- The banks that a boot tries, in order (R525); after a recovery activation the bank that it names alone (R539). -/
def BootSt.order (b : BootSt) (flash : Memory) : List Nat := match b.into with | some k => [k] | none => bankOrder flash b.bootSel

/-- Boot step 5 (R532, R538, R539): the bank is chosen and its images run, or RECOVERY is entered. `bad` lists banks with a lasting read fault. -/
def BootSt.choose (b : BootSt) (flash : Memory) (bad : List Nat) : BootSt × List Ev :=
  let order := b.order flash
  let b := { b with into := none }
  let checks := order.map (fun k => (k, bankCheck flash b.integKey b.fails (bad.contains k) k))
  let recover (cause : Nat) : BootSt × List Ev :=
    ({ b with bank := 255, recovery := true, fallback := false, minor := false, images := [{}, {}, {}, {}] }, [evM srcMgc eRECOVERY_ENTERED (leBytes 1 cause)])
  let run (k : Nat) (fb : Bool) : BootSt :=
    let imgs := (List.range 4).map (runImage flash k)
    let imgs := imgs.mapIdx (fun i x => { x with common := commonMinor imgs i })
    { b with bank := k, recovery := false, fallback := fb, images := imgs, minor := !(minorPairs imgs).isEmpty }
  match checks with
  | [] => recover 1
  | (k, c) :: r =>
    if c = 0 then (let x := run k false; (x, minorEvents x.images))
    else match r.find? (fun e => e.2 = 0) with
      | some (k2, _) =>
        let x := run k2 true
        ({ x with fallbacks := incSat 16 x.fallbacks }, evM srcMgc eBANK_FALLBACK (leBytes 1 k ++ leBytes 1 c) :: minorEvents x.images)
      | none => recover 2

/-! ## Persistent records (R548, R549) -/

/-- The bytes of a persistent record (Table 18.9). -/
def persistRecord (wseq opsec pwr res : Nat) (drift : List Int) : List Byte :=
  let b := leBytes 4 0x53504F52 ++ leBytes 4 wseq ++ leBytes 8 opsec ++ leBytes 4 pwr ++ leBytes 4 res
    ++ ((List.range 18).map (fun e => leBytes 2 (lowBits 16 (drift.getD e 0)))).flatten
  b ++ leBytes 4 (crc32 b)

/-- A persistent record is written into the ring of 1,024 slots (R549); a sector is erased before its first slot is used. -/
def persistWrite (flash : Memory) (b : BootSt) (res : Nat) (drift : List Int) : Memory × BootSt :=
  let w := (b.wseq + 1) % 2 ^ 32
  let slot := w % 1024
  let a := 0x00010000 + 64 * slot
  let flash := if slot % 64 = 0 then Memory.clear flash a 0x1000 else flash
  (Memory.writeList 0xFF (Memory.clear flash a 64) a (persistRecord w b.opsec b.pwr res drift), { b with wseq := w })

/-- The valid records of the ring, by WSEQ. -/
def persistScan (flash : Memory) : List (Nat × List Byte) :=
  (List.range 1024).filterMap (fun i =>
    let a := 0x00010000 + 64 * i
    if flash.any (fun c => decide (a ≤ c.1 ∧ c.1 < a + 64)) then
      let r := Memory.readList 0xFF flash a 64
      if fieldLE r 0 4 = 0x53504F52 && fieldLE r 60 4 = crc32 (r.take 60) then some (fieldLE r 4 4, r) else none
    else none)

/-- The valid record with the highest WSEQ (R549). -/
def persistNewest (flash : Memory) : Option (Nat × List Byte) :=
  (persistScan flash).foldl (fun b r => match b with
    | none => some r
    | some x => if x.1 < r.1 then some r else some x) none

/-! ## Image commands (R540 to R542) -/

/-- IMAGE_OPEN: the slot is erased and its VALID cleared in the bank's manifest. -/
def imageOpen (flash : Memory) (bank idx : Nat) : Memory :=
  let flash := Memory.clear flash (imageBase bank idx) (imageSize idx)
  let m := manifestBytes flash bank
  if manifestSound m then manifestWrite flash bank (putBytes m (16 + 16 * idx) (leBytes 1 0)) else flash

/-- IMAGE_VERIFY passes: VALID, LENGTH and HDR_CRC are set in the manifest. -/
def imageMark (flash : Memory) (bank idx : Nat) : Memory :=
  let h := imageHeader flash bank idx
  let m := manifestFor flash bank
  manifestWrite flash bank (putBytes m (16 + 16 * idx) (leBytes 1 1 ++ zeroBytes 3 ++ leBytes 4 (fieldLE h 8 4) ++ leBytes 4 (crc32 h) ++ leBytes 4 0))

/-- The Almanac of an image against the verified images of its bank and the running images (R540): no major mismatch. -/
def imageAlmanacOk (flash : Memory) (imgs : List RunImage) (recovery : Bool) (bank idx : Nat) : Bool :=
  let m := manifestBytes flash bank
  let own := headerAlmanac (imageHeader flash bank idx)
  (List.range 4).all (fun j =>
    j = idx ||
      ((!(manifestSound m && manifestEntry m j) ||
          (let al := headerAlmanac (imageHeader flash bank j); !majorDiffers (own.getD j 0) (al.getD j 0) && !majorDiffers (al.getD idx 0) (own.getD idx 0))) &&
       (recovery || (let al := (imgs.getD j {}).almanac; !majorDiffers (own.getD j 0) (al.getD j 0) && !majorDiffers (al.getD idx 0) (own.getD idx 0)))))

/-- The manifest of a bank is made the preferred one (R541): ACTIVE_GEN one greater than the boot bank's. -/
def manifestActivate (flash : Memory) (bank boot : Nat) : Memory :=
  manifestWrite flash bank (putBytes (manifestFor flash bank) 8 (leBytes 4 (activeGen flash boot + 1)))

/-- The conditions of a live activation that concern images (R542): 0, or 0x020D, 0x010E. -/
def liveCheck (b : BootSt) (flash : Memory) (bank idx : Nat) : Nat :=
  if !manifestValid (manifestBytes flash bank) then 0x020D
  else
    let own := headerAlmanac (imageHeader flash bank idx)
    let seqOk := (imageHeader flash bank 2 |>.drop 32 |>.take 32) = (b.images.getD 2 {}).digest
    let alOk := (List.range 4).all (fun j => j = idx || !majorDiffers (own.getD j 0) (((b.images.getD j {}).almanac).getD j 0))
    if seqOk && alOk then 0 else 0x010E

/-- A live activation completes (R542): the image runs from the target bank, whose manifest becomes the preferred one. -/
def BootSt.liveDone (b : BootSt) (flash : Memory) (bank idx : Nat) : BootSt × Memory × List Ev :=
  let imgs := b.images.set idx (runImage flash bank idx)
  let imgs := imgs.mapIdx (fun i x => { x with common := commonMinor imgs i })
  ({ b with images := imgs, live := none, minor := !(minorPairs imgs).isEmpty, liveUpdates := incSat 32 b.liveUpdates }, manifestActivate flash bank b.bank,
   evM srcMgc eUPDATE_DONE (leBytes 1 idx ++ leBytes 1 bank ++ leBytes 1 0) :: minorEvents imgs)

/-! ## Status -/

/-- VALID_A and VALID_B (Table 18.10). -/
def validMask (flash : Memory) (bank : Nat) : Nat :=
  let m := manifestBytes flash bank
  if manifestSound m then (List.range 4).foldl (fun v i => v + flag (manifestEntry m i) i) 0 else 0

/-- Table 18.10. -/
def BootSt.status (b : BootSt) (flash : Memory) (plate : Nat) : List Byte :=
  leBytes 8 plate ++ leBytes 1 b.bank ++ leBytes 1 b.cause ++ leBytes 1 b.bootSel ++ leBytes 1 b.flags ++ leBytes 4 b.longMs ++ leBytes 4 (activeGen flash 0)
  ++ leBytes 4 (activeGen flash 1) ++ leBytes 1 (validMask flash 0) ++ leBytes 1 (validMask flash 1) ++ leBytes 1 ((b.live.map (·.kind)).getD 0xFF)
  ++ leBytes 1 ((b.live.map (·.engines.length)).getD 0) ++ leBytes 1 (b.fails.getD b.bank 0) ++ zeroBytes 3
  ++ ((List.range 4).map (fun i =>
      let x := b.images.getD i {}
      leBytes 1 x.bank ++ zeroBytes 3 ++ leBytes 4 (x.almanac.getD i 0) ++ leBytes 4 x.build ++ leBytes 4 x.common)).flatten ++ zeroBytes 32

/-- The counters of Table 18.12, from device summary offset 0xE00. -/
def BootSt.counters (b : BootSt) : List Byte :=
  leBytes 4 b.boots ++ leBytes 4 b.liveUpdates ++ leBytes 4 b.flashTransient ++ leBytes 2 b.fallbacks ++ leBytes 2 b.longResets ++ leBytes 2 b.rollbacks ++ leBytes 2 b.flashLasting

/-! ## The TAP (R536, R569) -/

/-- The value of IDCODE; the identity code of [11:1] is not given and is a free value (log 20). -/
def idcodeValue : Nat := Config.siliconRev % 16 * 2 ^ 28 + 0x2564 * 2 ^ 12 + Config.freeNat 0 % 2048 * 2 + 1

/-- An instruction that BOOT_SEL must permit takes effect, or BYPASS in its place (R569). -/
def Tap.load (t : Tap) (sel ir drive : Nat) : Tap :=
  if sel = 3 then { t with ir := ir, drive := drive } else { t with ir := 0xFF, drive := 0 }

/-- KEY_WRITE at Update-DR (R536, R569): `dr` is the 280-bit register, `blank` whether the selected entry is blank. -/
def Tap.keyWrite (t : Tap) (sel dr : Nat) (blank : Nat → Bool) : Tap :=
  if sel ≠ 3 then { t with ir := 0xFF, drive := 0, keyStatus := 3 } else
    let s := dr % 256
    let v := leBytes 32 (dr / 256)
    let msg := leBytes 1 s ++ beBytes 32 (dr / 256)
    let ok := crcKey msg = dr / 2 ^ 264 % 65536 && decide (s = 1 ∨ s = 2) && blank s
    if ok then { t with ir := 0xC5, drive := 0, dr := dr, keyStatus := 1, keyEntry := some (s, v) } else { t with ir := 0xC5, drive := 0, dr := dr, keyStatus := 3, keyEntry := none }

end Sys2Proof.Machine
end

