-- ==== Sys2Proof/Machine/LogRows.lean ====
section
/-! DEFINITION. The commands of the Logbook (chapter 15): ingress, the writer, persistence and clearing, with the persistent record (R549). -/

namespace Sys2Proof.Machine

open Sys2Proof

/-- The stamp of a record that the LOG writes itself (R449, R452). -/
def Dev.logStamp (d : Dev) : LogStamp :=
  let e := d.stampEv (evM srcLog 0 [])
  { pwr := e.pwr, cycle := e.cycle, opsec := e.opsec, noCycle := e.noCycle }

/-- An event for the host alone, numbered (R381, R452): the LOG writes its record itself. -/
def Dev.toHostOnly (d : Dev) (e : Ev) : Dev :=
  let e := d.stampEv e
  let seq := incWrap 32 d.router.seq
  let tb := d.tu.stamp d.tu.now
  { d with ctl := { d.ctl with free := d.ctl.free + 1 }, router := { d.router with seq := seq, toHost := d.router.toHost ++ [{ seq := seq, tbS := tb.1, tbNs := tb.2, ev := e }] } }

/-- A record of the LOG's own that is also an event for the host (R452). -/
def Dev.logOwn (d : Dev) (code : Nat) (args : List Byte) : Dev :=
  Dev.toHostOnly { d with log := d.log.own d.logStamp code args } (evM srcLog code args)

/-- A flash access under R11 and R529: a free value decides whether it passes, passes when repeated, or fails lastingly; answers whether it failed (log 37). -/
def Dev.flashOp (d : Dev) : Dev × Bool :=
  match d.freeVal % 3 with
  | 0 => (d.took, false)
  | 1 => ({ d.took with boot := { d.boot with flashTransient := incSat 32 d.boot.flashTransient } }, false)
  | _ => ({ d.took with boot := { d.boot with flashLasting := incSat 16 d.boot.flashLasting } }, true)

/-- A persistent record with the current values of all its fields (R549) goes into flash. -/
def Dev.recordPut (d : Dev) : Dev :=
  let r := persistWrite d.flash d.boot d.log.seqRes ((d.engines.map (fun g => g.ageDrift)))
  { d with flash := r.1, boot := r.2, log := { d.log with recFault := false } }

/-- A persistent record is written under R11 and R529: a lasting fault leaves none. -/
def Dev.persistNow (d : Dev) : Dev :=
  let r := d.flashOp
  if r.2 then { r.1 with log := { r.1.log with recFault := true } } else r.1.recordPut

/-- The flash address at which the LOG would write next. -/
def Log.flashAddr (l : Log) : Nat := logBase + 4096 * l.page + 32 * l.slot

/-- The reservation of sequence numbers is kept ahead of their use (R461); without a writable persistent record it becomes unsafe. -/
def Dev.keepRes (d : Dev) : Dev :=
  if !d.log.needsRes then d
  else
    let r := if d.log.recFault then d else Dev.persistNow { d with log := d.log.raiseRes }
    if r.log.recFault then Dev.logOwn { r with log := { r.log with seqRes := d.log.seqRes, resUnsafe := true } } ePERSIST_FAULT (leBytes 4 0x00010000) else r

/-- EVENT_INGRESS (R457): the oldest event that waits for the Logbook arrives at the ingress FIFO. -/
def execEventIngress (s : State) : Host.Outcome State Fault Refusal :=
  s.act (fun d => match d.router.toLog with
    | e :: r => { d with router := { d.router with toLog := r }, log := d.log.ingress e }
    | [] => d)

/-- The page being filled is programmed (R459). -/
def Dev.logPersist (d : Dev) : Dev :=
  if d.log.waiting.isEmpty then d
  else
    let r := d.log.persist d.flash
    { d with log := r.1, flash := r.2 }

/-- A lasting fault of the LOG's flash area (R459): it stops persisting. -/
def Dev.logFault (d : Dev) : Dev := Dev.logOwn { d with log := d.log.persistFailed } ePERSIST_FAULT (leBytes 4 d.log.flashAddr)

/-- The LOG persists what waits, at once and under R11, unless it has stopped persisting. -/
def Dev.logPersistNow (d : Dev) : Dev :=
  if d.log.persistFault then d
  else
    let r := d.flashOp
    if r.2 then r.1.logFault
    else if r.1.boot.flashTransient = d.boot.flashTransient then r.1.logPersist
    else Dev.logPersist { r.1 with log := { r.1.log with persistTransient := incSat 32 r.1.log.persistTransient } }

/-- The writer takes the oldest entry or an accepted clear (R458, R463); CLEARED is persisted at once. -/
def Dev.logWrite (d : Dev) : Dev :=
  let r := d.log.write d.logStamp
  let d := { d with log := r.1 }
  let d := match r.2 with
    | some args => (d.toHostOnly (evM srcLog eCLEARED args)).logPersistNow
    | none => d
  d.keepRes

/-- LOG_WRITE. -/
def execLogWrite (s : State) : Host.Outcome State Fault Refusal := s.act Dev.logWrite

/-- LOG_PERSIST (R459, R11); `ok` and `again` are the outcomes of the program and of its repeat. -/
def execLogPersist (ok again : Bool) (s : State) : Host.Outcome State Fault Refusal :=
  s.act (fun d =>
    if d.log.persistFault || d.log.waiting.isEmpty then d
    else if ok then d.logPersist
    else if again then
      Dev.logPersist { d with log := { d.log with persistTransient := incSat 32 d.log.persistTransient }, boot := { d.boot with flashTransient := incSat 32 d.boot.flashTransient } }
    else
      (Dev.logFault { d with boot := { d.boot with flashLasting := incSat 16 d.boot.flashLasting } }).keepRes)

/-- The erase of the older pages ends and the clears it served are answered (R463); a lasting fault of the erase fails them (R529). -/
def Dev.logErased (d0 : Dev) : Dev :=
  if !d0.log.erasing || 0 < d0.log.clearPending then d0
  else
    let r := d0.flashOp
    let d := r.1
    if r.2 then Dev.opsEnd { d with log := { d.log with erasing := false } } (fun q => q.op = 0x7011) { status := 0x0602 }
    else
      let flash := logErase d.flash d.log.clearPage d.log.page
      Dev.opsEnd { d with flash := flash, log := { d.log with erasing := false, flashRecs := (logScan flash).length } } (fun q => q.op = 0x7011) {}

/-- LOG_ERASE_DONE. -/
def execLogEraseDone (s : State) : Host.Outcome State Fault Refusal := s.act Dev.logErased

/-- The record of every ten minutes (R548, R549, R529): OPSEC has reached `opsec`; `ok` and `again` are the outcomes of the program and of its repeat. -/
def Dev.recordTimer (d : Dev) (opsec : Nat) (ok again : Bool) : Dev :=
  let d := { d with boot := { d.boot with opsec := max d.boot.opsec (min opsec (2 ^ 40 - 1)) } }
  if ok || again then
    let d := if ok then d else { d with boot := { d.boot with flashTransient := incSat 32 d.boot.flashTransient } }
    d.recordPut
  else { d with boot := { d.boot with flashLasting := incSat 16 d.boot.flashLasting }, log := { d.log with recFault := true } }

/-- PERSIST_RECORD_TIMER. -/
def execPersistRecordTimer (opsec : Nat) (ok again : Bool) (s : State) : Host.Outcome State Fault Refusal :=
  s.act (fun d => if d.host.mgtReady then d.recordTimer opsec ok again else d)

/-! ## The end of a live activation (R542) -/

/-- A live activation completes: the image runs from the target bank, whose manifest becomes the preferred one. A lasting fault of that manifest's write fails the
activation with 0x0602 and OUTCOME 3 (R529). -/
def Dev.liveEnds (d : Dev) (l : Live) (idx : Nat) : Dev :=
  let w := d.flashOp
  let r := d.boot.liveDone d.flash l.bank idx
  if w.2 then
    Dev.opEnd (Dev.emit { w.1 with boot := { r.1 with liveUpdates := d.boot.liveUpdates, flashLasting := w.1.boot.flashLasting } }
      (evM srcMgc eUPDATE_DONE (leBytes 1 idx ++ leBytes 1 l.bank ++ leBytes 1 3))) l.owner { status := 0x0602 }
  else Dev.opEnd (Dev.emits { w.1 with boot := { r.1 with flashTransient := w.1.boot.flashTransient }, flash := r.2.1 } r.2.2) l.owner {}

end Sys2Proof.Machine
end

