-- ==== Sys2Proof/Machine/CmdRecord.lean ====
section
/-! DEFINITION. The commands of the Chronograph and of the Logbook (classes 0x6 and 0x7, R421). -/

namespace Sys2Proof.Machine

open Sys2Proof

/-! ## Chronograph (R423, R434 to R440) -/

/-- The block of CHR_CONFIG as far as its header's counts reach. -/
def Dev.chrBlock (d : Dev) (q : HostReq) : List Byte := d.bulkBytes q (chrBlockLen (d.bulkBytes q 64))

/-- CHR_CONFIG is checked. -/
def Dev.chrConfCheck (d : Dev) (q : HostReq) : CmdRes :=
  let b := d.chrBlock q
  let h := d.bulkCheck q b.length (fieldLE q.pay 4 4)
  let c := if h = 0 then chrCheck b plateLen else 0
  .st (firstFail [(0x0104, fieldLE q.pay 2 2 ≠ 0), (h, h ≠ 0), (c, c ≠ 0)])

/-- CHR_CONFIG takes effect (R437). -/
def Dev.chrConfEffect (d : Dev) (q : HostReq) : Dev × CmdRes := Dev.done { d with chr := d.chr.configure (chrParse (d.chrBlock q)) }

/-- The configuration that an arm would use. -/
def Chr.next (c : Chr) : Option ChrConf := c.pending.orElse (fun _ => c.conf)

/-- CHR_ARM is checked (R437, R441). -/
def Dev.armCheck (d : Dev) (q : HostReq) : CmdRes :=
  let m := fieldLE q.pay 0 1
  let ready := match d.chr.next with
    | none => false
    | some k => m ≠ 3 || bit (d.host.pair k.pair).qctrl 2
  .st (firstFail [(0x0108, 3 < m), (0x020D, d.chr.state ≠ 0 || !ready)])

/-- CHR_ARM takes effect. -/
def Dev.armEffect (d : Dev) (q : HostReq) : Dev × CmdRes := Dev.done { d with chr := d.chr.arm (fieldLE q.pay 0 1) }

/-- CHR_DISARM takes effect. -/
def Dev.disarmEffect (d : Dev) (_ : HostReq) : Dev × CmdRes := (d.withChr d.chr.disarm).done

/-- CHR_FORCE is checked. -/
def Dev.forceCheck (d : Dev) (_ : HostReq) : CmdRes := .st (firstFail [(0x020D, d.chr.state = 0)])

/-- CHR_FORCE takes effect at its Meridian's instant. -/
def Dev.forceEffect (d : Dev) (_ : HostReq) : Dev × CmdRes := Dev.done { d with chr := d.chr.doForce (16384 * d.merQ) }

/-- CHR_READ is checked (R439). -/
def Dev.chrReadCheck (d : Dev) (q : HostReq) : CmdRes :=
  let ok := match d.chr.find (fieldLE q.pay 0 2) with | some x => x.complete || x.truncated | none => false
  .st (firstFail [(0x0104, fieldLE q.pay 2 2 ≠ 0), (0x0108, 4048 < fieldLE q.pay 8 2), (0x020D, !ok)])

/-- CHR_READ: bytes of a capture's image. -/
def Dev.chrReadEffect (d : Dev) (q : HostReq) : Dev × CmdRes :=
  match d.chr.find (fieldLE q.pay 0 2) with
  | none => (d, .st 0x020D)
  | some x =>
    let img := x.image
    let o := fieldLE q.pay 4 4
    let b := (img.drop o).take (fieldLE q.pay 8 2)
    (d, { note := if o + b.length < img.length then 0x0030 else 0, pay := leBytes 8 d.ctl.published ++ leBytes 2 b.length ++ zeroBytes 6 ++ b })

/-! ## Logbook (R453, R456, R462, R463) -/

/-- LOG_READ is checked. -/
def Dev.logReadCheck (_ : Dev) (q : HostReq) : CmdRes :=
  let n := fieldLE q.pay 4 2
  .st (firstFail [(0x0108, n = 0 || 126 < n)])

/-- LOG_READ. -/
def Dev.logReadEffect (d : Dev) (q : HostReq) : Dev × CmdRes :=
  let r := d.log.read (fieldLE q.pay 0 4) (fieldLE q.pay 4 2)
  let d1 : Dev := if r.2.2.2 then { d with log := { d.log with readRace := incSat 32 d.log.readRace } } else d
  (d1, { note := if r.2.2.1 then 0x0030 else 0, pay := leBytes 2 r.1.length ++ zeroBytes 2 ++ leBytes 4 r.2.1 ++ r.1.flatten })

/-- LOG_MARK is checked. -/
def Dev.markCheck (_ : Dev) (q : HostReq) : CmdRes := .st (firstFail [(0x0104, fieldLE q.pay 2 6 ≠ 0), (0x0108, 24 < q.pay.length)])

/-- LOG_MARK: the event HOST_MARK of the command's pair. -/
def Dev.markEffect (d : Dev) (q : HostReq) : Dev × CmdRes :=
  (d.emit (evM (srcPair q.h.pair) eHOST_MARK (q.pay.take 2 ++ padTo 16 (q.pay.drop 8)))).done

/-- Sixteen nonce bytes: a free value. -/
def Dev.freshNonce (d : Dev) : List Byte := leBytes 16 d.freeVal

/-- LOG_CHALLENGE. -/
def Dev.logChallenge (d : Dev) (_ : HostReq) : Dev × CmdRes :=
  let n := d.freshNonce
  ({ d.took with host := { d.host with nonceLog := some n } }, .data n)

/-- LOG_CLEAR: the clear is accepted; the writer takes it between two entries (R463). -/
def Dev.clearLog (d : Dev) (_ : HostReq) : Dev × CmdRes := ({ d with log := { d.log with clearPending := d.log.clearPending + 1 } }, { later := true })

/-- A refused LOG_CLEAR writes CLEAR_REFUSED (R462). -/
def Dev.clearRefused (d : Dev) (st : Nat) : Dev :=
  Dev.logOwn { d with log := { d.log with clearRefused := incSat 16 d.log.clearRefused } } eCLEAR_REFUSED (leBytes 2 st)

end Sys2Proof.Machine
end

