-- ==== Sys2Proof/Machine/SafetyRows.lean ====
section
/-! DEFINITION. The commands of the Safety Island (chapter 16): its cycle, its inputs and test pulses, its connections, its outputs and its diagnostics. -/

namespace Sys2Proof.Machine

open Sys2Proof

/-- An act of the SI while it is not held in reset. -/
def Dev.siAct (d : Dev) (f : Si → Si × List Ev) : Dev := if d.si.held then d else d.withSi (f d.si)

/-- SI_CYCLE (R466, R473, R478, R483). -/
def execSiCycle (s : State) : Host.Outcome State Fault Refusal := s.act (fun d => d.siAct Si.cycle)

/-- SAFE_INPUT_CHANGE (R469, R471, R473). -/
def execSafeInputChange (channel : Nat) (high : Bool) (s : State) : Host.Outcome State Fault Refusal :=
  s.act (fun d => if channel < 32 then d.siAct (fun x => x.inputChange channel high) else d)

/-- TEST_PULSE (R470): `highs` are the inputs that read high in their check window. -/
def execTestPulse (output highs : Nat) (s : State) : Host.Outcome State Fault Refusal := s.act (fun d => d.siAct (fun x => x.testPulse output highs))

/-- DISCREPANCY_TIMEOUT (R471). -/
def execDiscrepancyTimeout (pair : Nat) (s : State) : Host.Outcome State Fault Refusal := s.act (fun d => d.siAct (fun x => x.discrepancy pair))

/-- TWO_HAND_SYNC (R473). -/
def execTwoHandSync (func : Nat) (s : State) : Host.Outcome State Fault Refusal := s.act (fun d => d.siAct (fun x => x.twoHandLate func))

/-- RESET_INPUT_PULSE (R474): channel A of the pair was high for `ms` milliseconds. -/
def execResetInputPulse (pair ms : Nat) (s : State) : Host.Outcome State Fault Refusal := s.act (fun d => d.siAct (fun x => x.resetPulse pair ms))

/-- CONN_WATCHDOG_EXPIRY (R481). -/
def execConnWatchdogExpiry (conn : Nat) (s : State) : Host.Outcome State Fault Refusal := s.act (fun d => d.siAct (fun x => x.connTimeout conn false))

/-- CONN_START_TIMEOUT (R481). -/
def execConnStartTimeout (conn : Nat) (s : State) : Host.Outcome State Fault Refusal := s.act (fun d => d.siAct (fun x => x.connTimeout conn true))

/-- STO_FB_FAULT (R484). -/
def execStoFbFault (conn chan : Nat) (s : State) : Host.Outcome State Fault Refusal := s.act (fun d => d.siAct (fun x => x.stoFault conn chan))

/-- SLS_VIOLATION (R485). -/
def execSlsViolation (conn chan : Nat) (s : State) : Host.Outcome State Fault Refusal := s.act (fun d => d.siAct (fun x => x.slsViolation conn chan))

/-- The off-pulse of the energised outputs under test (R466): those in `high` read high through SAFE_FB during their pulse. -/
def Si.offPulse (s : Si) (high : Nat) : Si × List Ev :=
  match s.conf with
  | some c => if s.outs &&& c.outTest &&& high = 0 then (s, []) else s.fault 9
  | none => (s, [])

/-- SAFE_OUT_OFF_PULSE. -/
def execSafeOutOffPulse (high : Nat) (s : State) : Host.Outcome State Fault Refusal := s.act (fun d => d.siAct (fun x => x.offPulse high))

/-- SAFE_FB has differed from the commanded outputs for 1 ms (R472). -/
def Si.fbMismatch (s : Si) (fb : Nat) : Si × List Ev :=
  if fb % 16 = s.outs then (s, [])
  else
    let r := s.fault 8
    ({ r.1 with fb := fb % 16 }, r.2)

/-- SAFE_FB_MISMATCH. -/
def execSafeFbMismatch (fb : Nat) (s : State) : Host.Outcome State Fault Refusal := s.act (fun d => d.siAct (fun x => x.fbMismatch fb))

/-- SI_WATCHDOG_EXPIRY (R466, R468). -/
def execSiWatchdogExpiry (s : State) : Host.Outcome State Fault Refusal := s.act (fun d => d.siAct Si.watchdog)

/-- SI_FAULT (R467): `cause` is the row of Table 16.1 of a diagnostic of the processor, the memory or the clock. -/
def execSiFault (cause : Nat) (s : State) : Host.Outcome State Fault Refusal :=
  s.act (fun d => if 1 ≤ cause ∧ cause ≤ 3 then d.siAct (fun x => x.fault cause) else d)

/-- VDD_SAFE_WINDOW (R466): the SI is held in reset with its outputs de-energised. -/
def execVddSafeWindow (s : State) : Host.Outcome State Fault Refusal := s.does (fun d => { d with si := d.si.hold })

/-- The SI starts: its copy counter goes on after the newest stored copy, and a stored configuration is loaded when the test passed (R466, R491). -/
def Dev.siStart (d : Dev) (pass : Bool) : Dev :=
  let gens := (List.range 2).filterMap (fun k => (siStoredAt d.flash k).map (·.1))
  let d := { d with si := { d.si with copy := gens.foldl (fun m g => max m (g + 1)) d.si.copy } }
  (d.withSi (d.si.startUp pass (siStored d.flash))).siConnect

/-- SI_START_UP_TEST (R466, R492): the SI runs once boot has verified its image. -/
def execSiStartUpTest (pass : Bool) (s : State) : Host.Outcome State Fault Refusal :=
  s.act (fun d => if d.si.state = 0 && !d.si.restarting && d.host.mgtReady && !d.boot.recovery then d.siStart pass else d)

/-- The restart of the SI into the activated image ends (R492, R542): NOCONFIG, then its stored configuration; the update is done. -/
def Dev.siRestarted (d : Dev) : Dev :=
  if !d.si.restarting then d
  else
    let d := d.siStart true
    match d.boot.live with
    | some l =>
      if l.kind ≠ 3 then d
      else d.liveEnds l 3
    | none => d

/-- SI_RESTART_DONE. -/
def execSiRestartDone (s : State) : Host.Outcome State Fault Refusal := s.act Dev.siRestarted

end Sys2Proof.Machine
end

