-- ==== Sys2Proof/Machine/Lea.lean ====
section
/-! DEFINITION. The loop engines' commands (chapter 7): the start of a slot, the words of a bundle, the table port, DONE, traps and the engine's own
reports. A row that issues a word acts while the engine runs a computation and no bundle waits; `fin` is the END bit. -/

namespace Sys2Proof.Machine

open Sys2Proof

/-- The OVERLAYS of an axis (R160). -/
def Dev.overlays (d : Dev) (a : Nat) (ax : Axis) : Nat :=
  ax.overlays d.runAhead (d.motion.regs.any (fun r => r.2.prm.nat pREG_AXIS = a)) (d.chr.traces a)

/-! ## Traps -/

/-- The preemption handler failed (R224): the engine stops, the save area is invalid. -/
def Dev.handlerFailed (d : Dev) (e : Nat) : Dev :=
  (d.onEngine e (fun g => { g.halted with saveValid := false })).emit (evC (srcEngine e) ePREEMPT_OVERRUN)

/-- An illegal bundle (R222): the computation ends at once and commits nothing; in the handler it counts as an overrun of the handler. A slot that
trapped is not started again in the cycle. -/
def Dev.trap (d : Dev) (e : Nat) : Dev :=
  let g := d.engine e
  match g.run with
  | none => d
  | some r =>
    if r.kind = 2 then d.handlerFailed e else
    let slots := if r.kind = 0 then Tab.upd g.slots r.slot (fun s => { s with outs := s.outs ++ [{ words := [], commit := false, pass := 15 }] }) else g.slots
    (d.onEngine e (fun g => { g.halted with slots := slots })).emit
      (evC (srcEngine e) eENGINE_TRAP (leBytes 1 e ++ leBytes 2 g.pcw ++ leBytes 2 (if r.kind = 0 then r.axis else 65535)))

/-- A part joins the open bundle of an engine that runs; END executes the bundle (R204 to R209). -/
def Dev.part (d : Dev) (e : Nat) (f : Bundle → Bundle) (fin : Bool) : Dev :=
  let g := d.engine e
  if g.run.isSome && g.stall.isNone then
    match g.take (f g.cur) fin with
    | .ok g' => d.onEngine e (fun _ => g')
    | .trap => d.trap e
  else d

/-- A MAC lane (Table 7.5). -/
def Dev.mac (d : Dev) (e kind lane psh sign acc a b : Nat) (fin : Bool) : Dev :=
  d.part e (fun x => x.addLane { lane := lane, kind := kind, psh := psh, sign := sign, acc := acc, a := a, b := b }) fin

/-- A MEM access (Table 7.6). -/
def Dev.mem (d : Dev) (e bus : Nat) (store wide : Bool) (reg amode ptr : Nat) (ofs : Int) (fin : Bool) : Dev :=
  d.part e (fun x => x.addAcc { bus := bus, store := store, wide := wide, reg := reg, amode := amode, ptr := ptr, ofs := ofs }) fin

/-- An ALU operation (Table 7.8). -/
def Dev.alu (d : Dev) (e op dst a b sh imm : Nat) (fin : Bool) : Dev :=
  d.part e (fun x => x.addOp { ctl := false, op := op, dst := dst, a := a, b := b, sh := sh, imm := imm }) fin

/-- A CTL operation (Table 7.17). -/
def Dev.ctlOp (d : Dev) (e op dst a b sh imm addr : Nat) (fin : Bool) : Dev :=
  d.part e (fun x => x.addOp { ctl := true, op := op, dst := dst, a := a, b := b, sh := sh, imm := imm, addr := addr }) fin

/-- MAC: the product is added (R212). -/
def execMac (engine lane psh sign acc a b : Nat) (fin : Bool) (s : State) : Host.Outcome State Fault Refusal :=
  s.act (fun d => d.mac engine 1 lane psh sign acc a b fin)

/-- MSU: the product is subtracted (R212). -/
def execMsu (engine lane psh sign acc a b : Nat) (fin : Bool) (s : State) : Host.Outcome State Fault Refusal :=
  s.act (fun d => d.mac engine 2 lane psh sign acc a b fin)

/-- MPY: the accumulator starts again from the product (R212). -/
def execMpy (engine lane psh sign acc a b : Nat) (fin : Bool) (s : State) : Host.Outcome State Fault Refusal :=
  s.act (fun d => d.mac engine 3 lane psh sign acc a b fin)

/-- A load (R200, R201, R210). -/
def execMemLoad (engine bus : Nat) (wide : Bool) (reg amode ptr : Nat) (ofs : Int) (fin : Bool) (s : State) : Host.Outcome State Fault Refusal :=
  s.act (fun d => d.mem engine bus false wide reg amode ptr ofs fin)

/-- A store (R200, R201, R210). -/
def execMemStore (engine bus : Nat) (wide : Bool) (reg amode ptr : Nat) (ofs : Int) (fin : Bool) (s : State) : Host.Outcome State Fault Refusal :=
  s.act (fun d => d.mem engine bus true wide reg amode ptr ofs fin)

/-- NOP of class ALU. -/
def execAluNop (engine : Nat) (fin : Bool) (s : State) : Host.Outcome State Fault Refusal :=
  s.act (fun d => d.alu engine 0x00 0 0 0 0 0 fin)

/-- ADD: modulo 2^32 (R217). -/
def execAdd (engine dst a b : Nat) (fin : Bool) (s : State) : Host.Outcome State Fault Refusal :=
  s.act (fun d => d.alu engine 0x01 dst a b 0 0 fin)

/-- SUB: modulo 2^32 (R217). -/
def execSub (engine dst a b : Nat) (fin : Bool) (s : State) : Host.Outcome State Fault Refusal :=
  s.act (fun d => d.alu engine 0x02 dst a b 0 0 fin)

/-- ADDS: saturating (R217). -/
def execAdds (engine dst a b : Nat) (fin : Bool) (s : State) : Host.Outcome State Fault Refusal :=
  s.act (fun d => d.alu engine 0x03 dst a b 0 0 fin)

/-- SUBS: saturating (R217). -/
def execSubs (engine dst a b : Nat) (fin : Bool) (s : State) : Host.Outcome State Fault Refusal :=
  s.act (fun d => d.alu engine 0x04 dst a b 0 0 fin)

/-- ADD64 on pairs (R217). -/
def execAdd64 (engine dst a b : Nat) (fin : Bool) (s : State) : Host.Outcome State Fault Refusal :=
  s.act (fun d => d.alu engine 0x05 dst a b 0 0 fin)

/-- SUB64 on pairs (R217). -/
def execSub64 (engine dst a b : Nat) (fin : Bool) (s : State) : Host.Outcome State Fault Refusal :=
  s.act (fun d => d.alu engine 0x06 dst a b 0 0 fin)

/-- AND (Table 7.8). -/
def execAnd (engine dst a b : Nat) (fin : Bool) (s : State) : Host.Outcome State Fault Refusal :=
  s.act (fun d => d.alu engine 0x07 dst a b 0 0 fin)

/-- OR (Table 7.8). -/
def execOr (engine dst a b : Nat) (fin : Bool) (s : State) : Host.Outcome State Fault Refusal :=
  s.act (fun d => d.alu engine 0x08 dst a b 0 0 fin)

/-- XOR (Table 7.8). -/
def execXor (engine dst a b : Nat) (fin : Bool) (s : State) : Host.Outcome State Fault Refusal :=
  s.act (fun d => d.alu engine 0x09 dst a b 0 0 fin)

/-- SHL by SH[4:0] (Table 7.8). -/
def execShl (engine dst a sh : Nat) (fin : Bool) (s : State) : Host.Outcome State Fault Refusal :=
  s.act (fun d => d.alu engine 0x0A dst a 0 sh 0 fin)

/-- SHRA by SH[4:0] (Table 7.8). -/
def execShra (engine dst a sh : Nat) (fin : Bool) (s : State) : Host.Outcome State Fault Refusal :=
  s.act (fun d => d.alu engine 0x0B dst a 0 sh 0 fin)

/-- SHRL by SH[4:0] (Table 7.8). -/
def execShrl (engine dst a sh : Nat) (fin : Bool) (s : State) : Host.Outcome State Fault Refusal :=
  s.act (fun d => d.alu engine 0x0C dst a 0 sh 0 fin)

/-- MIN, signed (Table 7.8). -/
def execMin (engine dst a b : Nat) (fin : Bool) (s : State) : Host.Outcome State Fault Refusal :=
  s.act (fun d => d.alu engine 0x0D dst a b 0 0 fin)

/-- MAX, signed (Table 7.8). -/
def execMax (engine dst a b : Nat) (fin : Bool) (s : State) : Host.Outcome State Fault Refusal :=
  s.act (fun d => d.alu engine 0x0E dst a b 0 0 fin)

/-- CLAMP: min(max(a, −b), b) (Table 7.8). -/
def execClamp (engine dst a b : Nat) (fin : Bool) (s : State) : Host.Outcome State Fault Refusal :=
  s.act (fun d => d.alu engine 0x0F dst a b 0 0 fin)

/-- CMP sets Z, N and V (R217). -/
def execCmp (engine a b : Nat) (fin : Bool) (s : State) : Host.Outcome State Fault Refusal :=
  s.act (fun d => d.alu engine 0x10 0 a b 0 0 fin)

/-- CMP64 sets Z, N and V (R217). -/
def execCmp64 (engine a b : Nat) (fin : Bool) (s : State) : Host.Outcome State Fault Refusal :=
  s.act (fun d => d.alu engine 0x11 0 a b 0 0 fin)

/-- SEL by condition SH[2:0] (Table 7.8). -/
def execSel (engine dst a b sh : Nat) (fin : Bool) (s : State) : Host.Outcome State Fault Refusal :=
  s.act (fun d => d.alu engine 0x12 dst a b sh 0 fin)

/-- MOVI (Table 7.8). -/
def execMovi (engine dst imm : Nat) (fin : Bool) (s : State) : Host.Outcome State Fault Refusal :=
  s.act (fun d => d.alu engine 0x13 dst 0 0 0 imm fin)

/-- RND (R216). -/
def execRnd (engine dst a sh : Nat) (fin : Bool) (s : State) : Host.Outcome State Fault Refusal :=
  s.act (fun d => d.alu engine 0x14 dst a 0 sh 0 fin)

/-- RND64 (R216). -/
def execRnd64 (engine dst a sh : Nat) (fin : Bool) (s : State) : Host.Outcome State Fault Refusal :=
  s.act (fun d => d.alu engine 0x15 dst a 0 sh 0 fin)

/-- AMOV: pair a into an accumulator (R214). -/
def execAmov (engine dst a : Nat) (fin : Bool) (s : State) : Host.Outcome State Fault Refusal :=
  s.act (fun d => d.alu engine 0x16 dst a 0 0 0 fin)

/-- ACLR: the accumulator and its AOV bit clear (R215). -/
def execAclr (engine dst : Nat) (fin : Bool) (s : State) : Host.Outcome State Fault Refusal :=
  s.act (fun d => d.alu engine 0x17 dst 0 0 0 0 fin)

/-- RDS: a special register is read (R202). -/
def execRds (engine dst sh : Nat) (fin : Bool) (s : State) : Host.Outcome State Fault Refusal :=
  s.act (fun d => d.alu engine 0x18 dst 0 0 sh 0 fin)

/-- WRS: a special register is written (R202, R203). -/
def execWrs (engine sh a : Nat) (fin : Bool) (s : State) : Host.Outcome State Fault Refusal :=
  s.act (fun d => d.alu engine 0x19 0 a 0 sh 0 fin)

/-- NOP of class CTL. -/
def execCtlNop (engine : Nat) (fin : Bool) (s : State) : Host.Outcome State Fault Refusal :=
  s.act (fun d => d.ctlOp engine 0x0 0 0 0 0 0 0 fin)

/-- BR: the target is the third bundle after (R208). -/
def execBr (engine addr : Nat) (fin : Bool) (s : State) : Host.Outcome State Fault Refusal :=
  s.act (fun d => d.ctlOp engine 0x1 0 0 0 0 0 addr fin)

/-- BRC: taken when the condition holds (R208). -/
def execBrc (engine sh addr : Nat) (fin : Bool) (s : State) : Host.Outcome State Fault Refusal :=
  s.act (fun d => d.ctlOp engine 0x2 0 0 0 sh 0 addr fin)

/-- LOOP: count from D[a] or from IMM (R218, Table 7.17). -/
def execLoop (engine : Nat) (immSel : Bool) (a imm addr : Nat) (fin : Bool) (s : State) : Host.Outcome State Fault Refusal :=
  s.act (fun d => d.ctlOp engine 0x3 0 a (if immSel then 1 else 0) 0 imm addr fin)

/-- DJNZ1 (Table 7.8, R208). -/
def execDjnz1 (engine addr : Nat) (fin : Bool) (s : State) : Host.Outcome State Fault Refusal :=
  s.act (fun d => d.ctlOp engine 0x4 0 0 0 0 0 addr fin)

/-- TRD: a table read is asked for; a fifth waits (R220). -/
def execTrd (engine dst a b : Nat) (fin : Bool) (s : State) : Host.Outcome State Fault Refusal :=
  s.act (fun d => d.ctlOp engine 0x5 dst a b 0 0 0 fin)

/-- TWAIT: waits for every table read and writes the returned pairs (R221). -/
def execTwait (engine : Nat) (fin : Bool) (s : State) : Host.Outcome State Fault Refusal :=
  s.act (fun d => d.ctlOp engine 0x6 0 0 0 0 0 0 fin)

/-! ## The table port -/

/-- The table that a handle names (R220, R221; the handle is 2 × axis + kind, log 27). -/
def Dev.tableOf (d : Dev) (h : Nat) : Option TrqTable :=
  match d.axis? (h / 2) with
  | some ax => if h % 2 = 0 then ax.cog else ax.fric
  | none => none

/-- The first outstanding read gets its entries. -/
def fillFirst (v : Int × Int) : List TabReq → List TabReq
  | [] => []
  | r :: rs => if r.got.isNone then { r with got := some v } :: rs else r :: fillFirst v rs

/-- Entries i mod n and (i + 1) mod n of a table, sign-extended (R220). -/
def TrqTable.entries2 (t : TrqTable) (i : Nat) : Int × Int := (t.entries.getD (i % t.n) 0, t.entries.getD ((i + 1) % t.n) 0)

/-- A table read returns (R220, R221); a waiting bundle is tried again. A handle that names no table has entries that the spec does not state: free values. -/
def execTableReadReturn (engine : Nat) (s : State) : Host.Outcome State Fault Refusal :=
  s.does (fun d =>
    let g := d.engine engine
    match g.reqs.find? (fun r => r.got.isNone) with
    | none => d
    | some r =>
      let d1 := match d.tableOf r.handle with | some _ => d | none => d.took
      let v : Int × Int := match d.tableOf r.handle with
        | some t => t.entries2 r.idx
        | none => (wrapS 16 d.freeVal, wrapS 16 ((d.freeVal / 65536 : Nat) : Int))
      d1.onEngine engine (fun g => let rs := fillFirst v g.reqs; Engine.retry { (g.setEstat (g.tpend rs)) with reqs := rs }))

/-! ## Starting a slot -/

/-- The input block of an axis (Table 7.14); a SPEC pass computes the next axis cycle and sees its set-point (R87). PROC_IN holds the process-image words that the axis's
configuration maps, which the spec does not give (log 13); an unmapped word stays. -/
def Dev.inputBlock (d : Dev) (a pass : Nat) (ax : Axis) (old : List Word) : List Word :=
  let f := ax.fb
  let w (x : Nat) : Word := BitVec.ofNat 32 x
  let sp := if pass = 1 || ax.spCycle ≤ d.ctl.cycle then ax.sp else ax.spPrev
  [w f.count, BitVec.ofInt 32 f.offset, w (flag f.fresh 0 + flag f.missed 1 + flag f.held 2 + flag f.fault 3), BitVec.ofInt 32 f.trqAct] ++ words64 sp.p ++ words64 sp.v ++
    words64 sp.a ++ words64 sp.j ++
    [w (ax.now.sup.mode + 256 * d.overlays a ax + ax.evt), w (d.ctl.cycle % 2 ^ 32), w (a + 65536 * ax.div + 16777216 * ax.phase), 0] ++
    (old.drop 16).take 16 |>.mapIdx (fun i v => match Config.procMap a i with | some p => w (leNat (Memory.readList 0 d.image p 4)) | none => v)

/-- The slot may be started for the pass now: Reduce runs, the axis is computed in this cycle, its set-points are delivered (R105), the pass is next
(R87), and the slot has neither made it nor trapped in this cycle. -/
def Dev.mayStart (d : Dev) (sl : Slot) (ax : Axis) (pass : Nat) : Bool :=
  let n := d.ctl.cycle
  let doneP (p : Nat) : Bool := sl.outs.any (fun o => o.pass = p)
  d.ctl.gathered && !d.ctl.sealed && ax.inPhase n && !ax.shed && !doneP pass && !doneP 15 &&
  (if d.split ax then (pass = 2 && n ≤ ax.spCycle) || (pass = 1 && doneP 2 && n + ax.div ≤ ax.spCycle) else pass = 0 && ax.spCycle = n)

/-- The planned slots of an engine have ended their work of the cycle: a shadow waits for them (Table 8.3). -/
def Dev.plannedDone (d : Dev) (e : Nat) : Bool :=
  (d.engine e).slots.all (fun x =>
    let ax := d.axis x.2.axis
    x.2.shadow || !ax.inPhase d.ctl.cycle || ax.shed || x.2.outs.any (fun o => o.pass = 15 || o.pass = (if d.split ax then 1 else 0)))

/-- The sequencer starts a slot at the entry of its kernel and pass, or the background task (pass 3), with the entry registers set (R226). -/
def Dev.slotStart (d : Dev) (e slot pass : Nat) : Dev :=
  let g := d.engine e
  if g.run.isSome then d else
  if pass = 3 then
    if g.bgDeclared && d.ctl.gathered && !d.ctl.sealed then
      d.onEngine e (fun g => g.enter { kind := 1, slot := 0, axis := 0, kernel := 0, pass := 3 } false (d.ctl.cycle % 2 ^ 32))
    else d
  else
    match Tab.find g.slots slot with
    | none => d
    | some sl =>
      match d.axis? sl.axis with
      | none => d
      | some ax =>
        if d.mayStart sl ax pass && (!sl.shadow || d.plannedDone e) then
          let g := { g with ym := putWords g.ym (0x1000 + 64 * slot) (d.inputBlock sl.axis pass ax (wordsAt g.ym (0x1000 + 64 * slot) 64)) }
          d.onEngine e (fun _ => g.enter { kind := 0, slot := slot, axis := sl.axis, kernel := ax.prm.nat pKERNEL_SEL, pass := pass } sl.bank (d.ctl.cycle % 2 ^ 32))
        else d

/-- SLOT_START. -/
def execSlotStart (engine slot pass : Nat) (s : State) : Host.Outcome State Fault Refusal :=
  s.does (fun d => d.slotStart engine slot pass)

/-! ## DONE -/

/-- S_OBS of a pass (R236), as the engine pace record holds it (log 28). -/
def sObs (steps reads elapsed : Nat) : Nat :=
  if elapsed = 0 then 65535
  else min 65535 (rndHE (32768 * ((steps : Rat) * (17875 / 10000) + (reads : Rat) * (9625 / 10000)) / (elapsed : Rat))).toNat

/-- The engine's pace record counts a completed pass (R25, R236). -/
def Engine.measured (g : Engine) (r : Run) (elapsed : Nat) : Engine :=
  let o := sObs r.steps r.reads elapsed
  { g with passes := g.passes + 1, steps := g.steps + r.steps, reads := g.reads + r.reads, elapsed := g.elapsed + elapsed, busy := g.elapsed + elapsed,
           obsMin := if g.passes = 0 then o else min g.obsMin o, obsMax := max g.obsMax o }

/-- The result of an axis pass: kernel 0's by its rules, another kernel's from its output block. -/
def Dev.passOf (d : Dev) (g : Engine) (r : Run) (ax : Axis) : PassRes :=
  let T := d.period ax
  if r.kernel = 0 then
    (if r.pass = 0 then ax.doFull r.axis T d.ctl.cycle
     else if r.pass = 2 then ax.doCorr r.axis T d.ctl.cycle d.ctl.corrPacked
     else ax.doSpec r.axis T d.ctl.cycle)
  else ax.doWords r.axis r.pass ((wordsAt g.ym (0x1800 + 64 * r.slot) 18).map BitVec.toNat) d.ctl.corrPacked

/-- The words that another slot of the same axis has delivered for the pass in this cycle: while an axis migrates two engines compute it (R249). -/
def Dev.twinWords (d : Dev) (e : Nat) (r : Run) : Option (List Nat) :=
  (d.engines.zipIdx.map (fun g => (g.1.slots.filter (fun s => s.2.axis = r.axis && (g.2 ≠ e || s.1 ≠ r.slot))).map (fun s => s.2))).flatten.findSome?
    (fun s => (s.outs.find? (fun o => o.pass = r.pass)).map (fun o => o.words))

/-- The words of the second of two engines that compute an axis under kernel 0: those of the first, each but for a difference that a defect of either engine may
make, which is a free value (R250; log 13). -/
def Dev.secondWords (d : Dev) (ws : List Nat) : List Nat := ws.zipIdx.map (fun w => (w.1 + Config.freeNat (d.ctl.free + w.2)) % 2 ^ 32)

/-- DONE of an axis computation (R229, R236): the slot keeps the output block for the Seal. The first of two engines that compute a migrating axis delivers
its result; the other computes the same kernel on the same state, and its output block is kept for the comparison (R249, R250). -/
def Dev.axisDone (d : Dev) (e : Nat) (g : Engine) (r : Run) (elapsed : Nat) : Dev :=
  match d.axis? r.axis with
  | none => d.onEngine e (fun _ => { g with run := none })
  | some ax =>
    let p := d.passOf g r ax
    let twin := d.twinWords e r
    let same := twin.isSome && r.kernel = 0
    let ws := if same then d.secondWords (twin.getD []) else p.words
    let out : SlotOut := { words := ws, commit := p.commit, pass := r.pass }
    let g := { (g.measured r elapsed) with
      run := none
      ym := putWords g.ym (0x1800 + 64 * r.slot) (ws.map (BitVec.ofNat 32))
      slots := Tab.upd g.slots r.slot (fun s => { s with outs := s.outs ++ [out] }) }
    let d := d.onEngine e (fun _ => g)
    let d := if same then { d with ctl := { d.ctl with free := d.ctl.free + ws.length } } else d
    if twin.isSome then d else (d.onAxis r.axis (fun _ => p.ax)).emits p.evs

/-- DONE ends the computation (R223, R229): its bundle issues, every bundle in flight completes, the repeat cache empties. DONE of the handler leaves a
valid save area when the background task was cut (R224, R225). -/
def Dev.engineDone (d : Dev) (e elapsed : Nat) : Dev :=
  let g := d.engine e
  match g.run with
  | none => d
  | some r =>
    if g.stall.isSome then d else
    let b := g.cur.addOp { ctl := true, op := 7 }
    if b.illegal then d.trap e else
    let g := Engine.drain (g.issue b)
    let r := match g.run with | some x => x | none => r
    let g := { (g.setEstat (g.tpend [])) with cache := [], reqs := [] }
    if r.kind = 2 then d.onEngine e (fun _ => { g with run := none, saveValid := g.saveValid || (g.bgDeclared && !bit g.estat 17) })
    else if r.kind = 1 then d.onEngine e (fun _ => { (g.measured r elapsed) with run := none })
    else d.axisDone e g r elapsed

/-- DONE; `elapsedNs` is the time the pass took, which the sequencer records (R236). -/
def execDone (engine elapsedNs : Nat) (s : State) : Host.Outcome State Fault Refusal :=
  s.act (fun d => d.engineDone engine elapsedNs)

/-! ## The engine's reports -/

/-- ENGINE_TRAP: the instruction words at the program address break R204 or R205 (R222). -/
def execEngineTrap (engine : Nat) (words : List Nat) (s : State) : Host.Outcome State Fault Refusal :=
  s.act (fun d => if wordsIllegal words then d.trap engine else d)

/-- PREEMPT_OVERRUN: the handler has made 96 bundle steps without DONE (R224). -/
def execPreemptOverrun (engine : Nat) (s : State) : Host.Outcome State Fault Refusal :=
  s.act (fun d =>
    match (d.engine engine).run with
    | some r => if r.kind = 2 && decide (96 ≤ r.steps) then d.handlerFailed engine else d
    | none => d)

/-- WCB of what an engine runs (R233). -/
def Engine.wcb (g : Engine) (r : Run) : Nat := if r.kind = 1 then Config.backgroundDecl g.version else (declOf g.version r.kernel r.pass).1

/-- KERNEL_OVER_BUDGET: the computation has issued more steps than its WCB; it runs on and the PAC replans (R234, R60). -/
def execKernelOverBudget (engine : Nat) (s : State) : Host.Outcome State Fault Refusal :=
  s.act (fun d =>
    let g := d.engine engine
    match g.run with
    | some r =>
      if r.kind ≠ 2 && !r.overBudget && decide (g.wcb r < r.steps) then
        let d := d.onEngine engine (fun g => { g with run := some { r with overBudget := true } })
        Dev.emit { d with pace := { d.pace with trigger := true } } (evC (srcEngine engine) eKERNEL_OVER_BUDGET (leBytes 1 r.kernel ++ leBytes 1 r.pass ++ leBytes 4 r.steps))
      else d
    | none => d)

end Sys2Proof.Machine
end

