-- ==== Sys2Proof/Machine/Tru.lean ====
section
/-! DEFINITION. The Test and Repair Unit (chapter 17): test blocks, verdicts, repair, ECC, fabric integrity, schedule and status. -/

namespace Sys2Proof.Machine

/-- Methods of Table 17.1: 0 whole-block engine, 1 burst, 2 whole-block MGC core, 3 fabric router, 4 SRAM pool, 5 boot-only, 6 not listed. -/
def blockMethod (b : Nat) : Nat :=
  if b ≤ 0x11 then 0
  else if (0x20 ≤ b && b ≤ 0x23) || (0x28 ≤ b && b ≤ 0x2B) || (0x38 ≤ b && b ≤ 0x3A) then 1
  else if 0x30 ≤ b && b ≤ 0x33 then 2
  else if 0x40 ≤ b && b ≤ 0x57 then 3
  else if 0x80 ≤ b && b ≤ 0x87 then 4
  else if 0xC0 ≤ b && b ≤ 0xC3 then 5
  else 6

/-- The pattern count of a block (Table 17.1). -/
def blockPatterns (b : Nat) : Nat :=
  if b ≤ 0x11 then 262144
  else if b ≤ 0x2B then 131072
  else if b ≤ 0x33 then 262144
  else if b ≤ 0x3A then 65536
  else if b ≤ 0x57 then 32768
  else if b ≤ 0x87 then 0
  else 65536

/-- Patterns of one burst (Table 17.1). -/
def burstPatterns (b : Nat) : Nat := if b ≤ 0x2B then 512 else 1024

/-- The block type whose seeds rotate together: the rows of Table 17.1. -/
def blockType (b : Nat) : Nat :=
  if b ≤ 0x11 then 0 else if b ≤ 0x23 then 1 else if b ≤ 0x2B then 2 else if b ≤ 0x33 then 3 else if b ≤ 0x3A then b else if b ≤ 0x57 then 4 else b

/-- The banks of a pool (R498, Table 1.2): the pools in their order over the two domains of 384 banks of 64 KiB. -/
def poolBanks (b : Nat) : List Nat :=
  let r (lo n : Nat) := (List.range n).map (fun i => lo + i)
  match b with
  | 0x80 => r 0 256
  | 0x81 => r 256 64
  | 0x82 => r 320 16
  | 0x83 => r 336 48
  | 0x84 => r 384 160
  | 0x85 => r 544 96
  | 0x86 => r 640 36
  | 0x87 => r 676 92
  | _ => []

/-- The memory domain of a bank. -/
def bankDomain (b : Nat) : Nat := b / 384

/-- ST_RUN may name the block with the kind (R498). -/
def stRunOk (block kind : Nat) : Bool :=
  match blockMethod block with
  | 0 => true
  | 1 | 2 | 3 => kind = 0
  | 4 => kind = 1 && block ≠ 0x86
  | _ => false

/-- The seed of the next test of a block's type (R501): the sixteen in rotation. -/
def Tru.seed (t : Tru) (block : Nat) : Nat := Tab.getD t.seeds (blockType block) 0

/-- A result block (Table 17.6). -/
def resultBlock (block kind verdict cause seed repairs run total sig exp start fin : Nat) : List Byte :=
  leBytes 1 block ++ leBytes 1 kind ++ leBytes 1 verdict ++ leBytes 1 cause ++ leBytes 1 seed ++ leBytes 1 repairs ++ leBytes 2 0 ++ leBytes 4 run ++ leBytes 4 total
  ++ leBytes 8 sig ++ leBytes 8 exp ++ leBytes 8 start ++ leBytes 8 fin

/-- A result joins the last eight (R518), with the event SELFTEST_RESULT (R519). -/
def Tru.result (t : Tru) (r : List Byte) : Tru × List Ev :=
  ({ t with results := (r :: t.results).take 8 }, [evM srcTru eSELFTEST_RESULT (r.take 24)])

/-- A logic test starts on a block (R501, R502); an engine's test begins when its hand-over has taken effect. -/
def Tru.startLogic (t : Tru) (block cycle : Nat) (begun : Bool) (owner : Option OpenOp) : Tru × List Ev :=
  let seed := t.seed block
  ({ t with logic := some { block := block, seed := seed, start := cycle, begun := begun, owner := owner, misr := Config.signature block seed 0 },
            seeds := Tab.set t.seeds (blockType block) ((seed + 1) % 16), runs := incSat 32 t.runs, wanted := t.wanted.filter (· ≠ block) },
   [evM srcTru eSELFTEST_START (leBytes 1 block ++ leBytes 1 (if block ≤ 0x11 then 2 else 0))])

/-- A memory test starts on the banks given (R505). -/
def Tru.startMem (t : Tru) (block cycle : Nat) (banks : List Nat) (owner : Option OpenOp) : Tru × List Ev :=
  let ok := banks.filter (fun b => !t.degraded.contains (bankDomain b))
  match ok with
  | b :: r =>
    ({ t with mem := some { block := block, bank := b, left := r, start := cycle, owner := owner }, runs := incSat 32 t.runs }, [evM srcTru eSELFTEST_START (leBytes 1 block ++ leBytes 1 1)])
  | [] => (t, [])

/-- One burst on the block under test (R501, R508). -/
def Tru.burst (t : Tru) (waited : Nat) : Tru :=
  match t.logic with
  | some l =>
    if blockMethod l.block ≠ 1 then t else
      let p := min (blockPatterns l.block) (l.progress + burstPatterns l.block)
      { t with logic := some { l with progress := p, misr := Config.signature l.block l.seed p },
               waits := if waited = 0 then t.waits else incSat 32 t.waits, waitMax := max t.waitMax (min 0xFFFF waited) }
  | none => t

/-! ## The fabric mesh (R514): six columns, four rows; FR(6·row + column); FL0 to FL19 horizontal row by row, FL20 to FL37 vertical column by column. -/

/-- The two routers of a link. -/
def linkEnds (l : Nat) : Nat × Nat :=
  if l < 20 then (6 * (l / 5) + l % 5, 6 * (l / 5) + l % 5 + 1)
  else ((l - 20) % 3 * 6 + (l - 20) / 3, ((l - 20) % 3 + 1) * 6 + (l - 20) / 3)

/-- The routers reached from a set over the links in service, `n` hops further. -/
def reach (fenced : List Nat) : Nat → List Nat → List Nat
  | 0, s => s
  | n + 1, s =>
    let more := (List.range 38).filterMap (fun l =>
      if fenced.contains l then none else
        let e := linkEnds l
        if s.contains e.1 && !s.contains e.2 then some e.2 else if s.contains e.2 && !s.contains e.1 then some e.1 else none)
    reach fenced n (s ++ more.dedup)

/-- The mesh stays connected with the links `fenced` out of service. -/
def meshConnected (fenced : List Nat) : Bool := decide (24 ≤ (reach fenced 24 [0]).dedup.length)

/-- A link has a lasting fault (R12, R514): fenced, or critical when its loss would disconnect routers. -/
def Tru.fenceLink (t : Tru) (l : Nat) : Tru × List Ev :=
  if t.fencedLinks.contains l then (t, []) else
    let t := { t with fabricLasting := incSat 16 t.fabricLasting }
    if meshConnected (l :: t.fencedLinks) then
      ({ t with fencedLinks := t.fencedLinks ++ [l], passed := t.passed.filter (fun r => r ≠ (linkEnds l).1 ∧ r ≠ (linkEnds l).2) }, [evM srcTru ePATH_FENCED (leBytes 1 l)])
    else ({ t with critical := true }, [evM srcTru eFABRIC_CRITICAL (leBytes 1 l)])

/-- The link between two neighbouring routers. -/
def linkOf (a b : Nat) : Option Nat := (List.range 38).find? (fun l => linkEnds l = (a, b) || linkEnds l = (b, a))

/-- The route along columns first, then along rows ("Fabric integrity" of chapter 17), as the routers that follow `a` on the way to `b`. -/
def plainRoute (a b : Nat) : List Nat :=
  let col := (List.range 4).map (fun i => if a / 6 ≤ b / 6 then a / 6 + i + 1 else a / 6 - i - 1)
  let row := (List.range 6).map (fun i => if a % 6 ≤ b % 6 then a % 6 + i + 1 else a % 6 - i - 1)
  (col.take (max (a / 6) (b / 6) - min (a / 6) (b / 6))).map (fun r => 6 * r + a % 6) ++ (row.take (max (a % 6) (b % 6) - min (a % 6) (b % 6))).map (fun c => 6 * (b / 6) + c)

/-- The links along a list of routers. -/
def linksAlong : Nat → List Nat → List Nat
  | _, [] => []
  | a, b :: r => (linkOf a b).toList ++ linksAlong b r

/-- A shortest route to `b` over the links not `out`, from routers reached with the links used so far; of routes of equal length the one over lower link numbers
(DESIGN CHOICE, log 57). -/
def shortest (out : List Nat) (b : Nat) : Nat → List Nat → List (Nat × List Nat) → List Nat
  | 0, _, _ => []
  | k + 1, seen, front =>
    match front.find? (fun x => x.1 = b) with
    | some x => x.2
    | none =>
      let next := front.foldl (fun (n : List (Nat × List Nat)) x =>
        (List.range 38).foldl (fun (n : List (Nat × List Nat)) l =>
          let e := linkEnds l
          let y := if e.1 = x.1 then e.2 else e.1
          if out.contains l || !(e.1 = x.1 || e.2 = x.1) || seen.contains y || n.any (fun z => z.1 = y) then n else n ++ [(y, x.2 ++ [l])]) n) []
      shortest out b k (seen ++ next.map (fun x => x.1)) next

/-- The links of a router. -/
def routerLinks (r : Nat) : List Nat := (List.range 38).filter (fun l => (linkEnds l).1 = r || (linkEnds l).2 = r)

/-- The links that carry no traffic: the fenced ones, and those of a router under test for its test alone (R12, R515). -/
def Tru.outLinks (t : Tru) : List Nat :=
  t.fencedLinks ++ (match t.logic with | some l => if blockMethod l.block = 3 && l.begun then routerLinks (l.block - 0x40) else [] | none => [])

/-- The route of a block from router `a` to router `b`, as links (R12, R514): the plain one while its links are in service, else a shortest one over the others. -/
def Tru.route (t : Tru) (a b : Nat) : List Nat :=
  let p := linksAlong a (plainRoute a b)
  if p.any (fun l => t.outLinks.contains l) then shortest t.outLinks b 24 [a] [(a, [])] else p

/-- A block crosses a link (R11): `ok` and `ok2` are the checks of the transfer and of its repeat. -/
def Tru.transfer (t : Tru) (l : Nat) (ok ok2 : Bool) : Tru × List Ev :=
  if ok || l ≥ 38 || t.fencedLinks.contains l then (t, [])
  else if ok2 then ({ t with fabricTransient := incSat 32 t.fabricTransient }, [])
  else t.fenceLink l

/-- A fenced link returns to service (R515): both routers passed since the fence, the link test clean, fabric tests enabled. -/
def Tru.linkReturn (t : Tru) (l : Nat) (clean : Bool) : Tru :=
  let e := linkEnds l
  if clean && t.fencedLinks.contains l && t.passed.contains e.1 && t.passed.contains e.2 && bit (fieldLE t.sched 0 1) 3 then
    { t with fencedLinks := t.fencedLinks.filter (· ≠ l) }
  else t

/-! ## Verdicts -/

/-- An engine is fenced, with its fuse (R507). -/
def Tru.fenceEngine (t : Tru) (e : Nat) : Tru × List Ev :=
  if t.fencedEngines.contains e then (t, []) else
    ({ t with fencedEngines := t.fencedEngines ++ [e], fuseFenced := t.fuseFenced ++ [e], reload := t.reload.filter (· ≠ e) }, [evM srcTru eENGINE_FENCED (leBytes 1 e)])

/-- The action of a FAIL verdict of a logic test (R507), boot tests included (R527). -/
def Tru.failLogic (t : Tru) (block : Nat) : Tru × List Ev :=
  match blockMethod block with
  | 0 => t.fenceEngine block
  | 2 => ({ t with removedCores := t.removedCores ++ [block - 0x30] }, [])
  | 3 => (routerLinks (block - 0x40)).foldl (fun (r : Tru × List Ev) l => (let q := r.1.fenceLink l; (q.1, r.2 ++ q.2))) (t, [])
  | _ => ({ t with suspect := true }, [])

/-- The verdict of a logic test on the outcomes of its run and its repeat (R502): PASS, PASS_TRANSIENT, FAIL. -/
def logicVerdict (first again : Bool) : Nat := if first then 0 else if again then 1 else 3

/-- The logic test ends with its verdict (R502, R507): the result, its owner and the engine; a failed engine is fenced by the device. -/
def Tru.logicDone (t : Tru) (first again : Bool) (cycle : Nat) : Tru × List Ev × Option (OpenOp × List Byte) × Option Nat :=
  match t.logic with
  | none => (t, [], none, none)
  | some l =>
    let v := logicVerdict first again
    let n := blockPatterns l.block
    let exp := Config.signature l.block l.seed n
    let sig := if v = 3 then Config.badSignature l.block l.seed cycle else exp
    let r := resultBlock l.block (if l.block ≤ 0x11 then 2 else 0) v 0 l.seed 0 n n sig exp l.start cycle
    let t := { t with logic := none, partialMisr := sig, lastProgress := n, transient := if v = 1 then incSat 32 t.transient else t.transient,
                      fails := if v = 3 then incSat 16 t.fails else t.fails,
                      passed := if v ≠ 3 && blockMethod l.block = 3 then (l.block - 0x40) :: t.passed else t.passed,
                      reload := if v ≠ 3 && l.block ≤ 0x11 then t.reload ++ [l.block] else t.reload }
    let a := t.result r
    let b := if v = 3 && 0x11 < l.block then a.1.failLogic l.block else (a.1, [])
    (b.1, a.2 ++ b.2, l.owner.map (fun o => (o, r)), if l.block ≤ 0x11 then some l.block else none)

/-- A test stops early (R503): verdict INCOMPLETE, the partial signature not compared. -/
def Tru.stopLogic (t : Tru) (cause cycle : Nat) : Tru × List Ev × Option (OpenOp × List Byte) × Option Nat :=
  match t.logic with
  | none => (t, [], none, none)
  | some l =>
    let r := resultBlock l.block (if l.block ≤ 0x11 then 2 else 0) 4 cause l.seed 0 l.progress (blockPatterns l.block) l.misr 0 l.start cycle
    let t := { t with logic := none, partialMisr := l.misr, lastProgress := l.progress, incomplete := incSat 32 t.incomplete,
                      reload := if l.block ≤ 0x11 then t.reload ++ [l.block] else t.reload }
    let a := t.result r
    (a.1, a.2, l.owner.map (fun o => (o, r)), if l.block ≤ 0x11 then some l.block else none)

/-- The spares of a bank still free for a kind: four rows, two columns (chapter 17). -/
def Tru.sparesLeft (t : Tru) (bank kind : Nat) : Nat :=
  (if kind = 0 then 4 else 2) - ((t.soft ++ t.fused).filter (fun r => r.bank = bank && r.kind = kind)).length

/-- One soft repair (R509); `none` when the spares are exhausted. -/
def Tru.repair (t : Tru) (bank kind addr : Nat) : Option (Tru × List Ev) :=
  if (t.soft ++ t.fused).any (fun r => r.bank = bank && r.kind = kind && r.addr = addr) then some (t, [])
  else if t.sparesLeft bank kind = 0 then none
  else
    let used := ((t.soft ++ t.fused).filter (fun r => r.bank = bank && r.kind = kind)).length
    some ({ t with soft := t.soft ++ [{ bank := bank, kind := kind, spare := used, addr := addr }] },
      [evM srcTru eMEM_REPAIRED (leBytes 2 bank ++ leBytes 1 kind ++ leBytes 2 addr)])

/-- Every faulty line of a bank is repaired; `none` when the faults exceed the spares. -/
def Tru.repairAll (t : Tru) (bank : Nat) : List (Nat × Nat) → Option (Tru × List Ev)
  | [] => some (t, [])
  | (k, a) :: r =>
    match t.repair bank k a with
    | none => none
    | some (t', es) => (Tru.repairAll t' bank r).map (fun q => (q.1, es ++ q.2))

/-- A bank fails (R506). -/
def Tru.failBank (t : Tru) (bank : Nat) : Tru × List Ev :=
  let d := bankDomain bank
  if t.degraded.contains d then ({ t with failedBanks := t.failedBanks ++ [bank] }, [])
  else ({ t with degraded := t.degraded ++ [d], redirected := t.redirected ++ [bank], failedBanks := t.failedBanks ++ [bank] }, [evM srcTru eMEM_DEGRADED (leBytes 2 bank)])

/-- The verdict of one bank (R505): `lines` the lasting faults found, `transient` whether a repeat passed. -/
def Tru.bankVerdict (t : Tru) (bank : Nat) (lines : List (Nat × Nat)) (transient : Bool) : Tru × List Ev × Nat × Nat :=
  let t := if transient then { t with transient := incSat 32 t.transient } else t
  match lines with
  | [] => (t, [], if transient then 1 else 0, 0)
  | ls =>
    match t.repairAll bank ls with
    | some (t', es) => (t', es, 2, ls.length)
    | none => let f := t.failBank bank; ({ f.1 with fails := incSat 16 f.1.fails }, f.2, 3, 0)

/-- One row with a lasting fault is repaired without a further test, or its bank fails (R509). -/
def Tru.repairRow (t : Tru) (bank row : Nat) : Tru × List Ev := (t.repair bank 0 row).getD (t.failBank bank)

/-- The bank cannot be tested on its own: its domain is tested no more, or it belongs to the engine memories (R498, R506). -/
def Tru.untested (t : Tru) (bank : Nat) : Bool := t.degraded.contains (bankDomain bank) || (poolBanks 0x86).contains bank

/-- The rows whose bank can be tested no more are repaired as they are (R506, R509). -/
def Tru.settleAsked (t : Tru) : Tru × List Ev :=
  (t.asked.filter (fun e => t.untested e.1)).foldl (fun (r : Tru × List Ev) e => (let q := r.1.repairRow e.1 e.2; (q.1, r.2 ++ q.2)))
    ({ t with asked := t.asked.filter (fun e => !t.untested e.1) }, [])

/-- The lasting faults of a bank: those that its BIST found, and the rows that asked for the test (R509). -/
def Tru.linesOf (t : Tru) (bank : Nat) (lines : List (Nat × Nat)) : List (Nat × Nat) :=
  lines ++ ((t.asked.filter (fun e => e.1 = bank)).map (fun e => (0, e.2))).filter (fun e => !lines.contains e)

/-- The BIST of the bank under test ends (R505, R509): the next bank follows, or the whole test ends with its result. -/
def Tru.bankDone (t : Tru) (lines : List (Nat × Nat)) (transient : Bool) (cycle : Nat) : Tru × List Ev × Option (OpenOp × List Byte) :=
  match t.mem with
  | none => (t, [], none)
  | some m =>
    let b := Tru.bankVerdict { t with asked := t.asked.filter (fun e => e.1 ≠ m.bank) } m.bank (t.linesOf m.bank lines) transient
    let q := b.1.settleAsked
    let m := { m with doneBanks := m.doneBanks + 1, repairs := m.repairs + b.2.2.2, verdict := max m.verdict b.2.2.1 }
    let left := m.left.filter (fun x => !q.1.degraded.contains (bankDomain x))
    match left with
    | n :: r => ({ q.1 with mem := some { m with bank := n, left := r } }, b.2.1 ++ q.2, none)
    | [] =>
      let res := resultBlock m.block 1 m.verdict 0 0 (min 255 m.repairs) m.doneBanks 0 0 0 m.start cycle
      let a := Tru.result { q.1 with mem := none } res
      (a.1, b.2.1 ++ q.2 ++ a.2, m.owner.map (fun o => (o, res)))

/-- A memory test stops early (R503). -/
def Tru.stopMem (t : Tru) (cause cycle : Nat) : Tru × List Ev × Option (OpenOp × List Byte) :=
  match t.mem with
  | none => (t, [], none)
  | some m =>
    let res := resultBlock m.block 1 4 cause 0 (min 255 m.repairs) m.doneBanks 0 0 0 m.start cycle
    let a := Tru.result { t with mem := none, incomplete := incSat 32 t.incomplete } res
    (a.1, a.2, m.owner.map (fun o => (o, res)))

/-! ## ECC (R512, R513) -/

/-- The scrubber or a consumer reads the word at byte address `a` with an error of so many bits; `again` says that the re-read passes (R512).
A lasting single-bit fault asks for the test of its bank, after which its row is repaired (R509). -/
def Tru.eccRead (t : Tru) (a bitsBad : Nat) (again : Bool) : Tru × List Ev :=
  let bank := a / 65536
  match bitsBad with
  | 0 => (t, [])
  | 1 =>
    if again then ({ t with eccCorrected := incSat 32 t.eccCorrected }, [])
    else
      let t := { t with eccLasting := incSat 16 t.eccLasting }
      let row := a % 65536 / 256
      if t.untested bank then t.repairRow bank row
      else ({ t with asked := if t.asked.contains (bank, row) then t.asked else t.asked ++ [(bank, row)] }, [])
  | _ =>
    if again then ({ t with eccCorrected := incSat 32 t.eccCorrected }, [])
    else ({ t with poisoned := if t.poisoned.contains a then t.poisoned else t.poisoned ++ [a], eccUncorrectable := incSat 16 t.eccUncorrectable },
          [evM srcTru eMEM_UNCORRECTABLE (leBytes 4 a)])

/-- The scrubber reads its next word (R512): after the last of the 48 MiB a pass is complete. -/
def Tru.scrub (t : Tru) (bitsBad : Nat) (again changed : Bool) : Tru × List Ev :=
  if !bit (fieldLE t.sched 0 1) 2 then (t, []) else
    let a := t.scrubAddr
    let r := if changed then (t, []) else t.eccRead a bitsBad again
    let nxt := a + 8
    if 48 * 1048576 ≤ nxt then ({ r.1 with scrubAddr := 0, scrubPasses := incWrap 32 r.1.scrubPasses }, r.2) else ({ r.1 with scrubAddr := nxt }, r.2)

/-! ## Schedule, fusing and status -/

/-- The status a schedule block gets (R516). -/
def schedCheck (b : List Byte) : Nat :=
  let r (o lo hi : Nat) : Bool := decide (lo ≤ fieldLE b o 4 ∧ fieldLE b o 4 ≤ hi)
  if !(fieldLE b 1 3 = 0 && fieldLE b 28 4 = 0 && decide (fieldLE b 0 1 < 16)) then 0x0104
  else if r 4 10 86400 && r 8 1 10000 && r 12 1 3600 && r 16 1 3600 && r 20 10 86400 && r 24 10 86400 then 0 else 0x0108

/-- The repair list of the reply to REPAIR_COMMIT (R511). -/
def Tru.fusedList (t : Tru) : List Byte :=
  leBytes 2 t.fused.length ++ zeroBytes 6 ++
    (t.fused.map (fun r => leBytes 2 r.bank ++ leBytes 1 r.kind ++ leBytes 1 r.spare ++ leBytes 2 r.addr ++ leBytes 2 0)).flatten

/-- REPAIR_COMMIT fuses every soft repair (R511). -/
def Tru.fuse (t : Tru) : Tru × List Ev :=
  let f := t.fused ++ t.soft
  ({ t with fused := f, soft := [] }, [evM srcTru eREPAIR_FUSED (leBytes 2 t.soft.length ++ leBytes 2 (256 - f.length))])

/-- The next engine due: in order, fenced engines skipped (R516). -/
def Tru.nextEngine (t : Tru) : Option Nat := ((List.range 18).map (fun i => (t.nextLe + i) % 18)).find? (fun e => !t.fencedEngines.contains e)

/-- The MGC cores and burst blocks in block order (R516). -/
def otherBlocks : List Nat := [0x20, 0x21, 0x22, 0x23, 0x28, 0x29, 0x2A, 0x2B, 0x30, 0x31, 0x32, 0x33, 0x38, 0x39, 0x3A]

/-- The status block (Table 17.7). -/
def Tru.status (t : Tru) (plate : Nat) (tempHold burstHeld : Bool) : List Byte :=
  let mask (l : List Nat) := l.foldl (fun m i => setBit m i) 0
  let bank := (t.mem.map (·.bank)).getD 0
  leBytes 8 plate ++ leBytes 2 (flag t.logic.isSome 0 + flag t.mem.isSome 1 + flag t.suspect 2 + flag (!t.degraded.isEmpty) 3 + flag t.critical 4 + flag tempHold 5 + flag burstHeld 6)
  ++ leBytes 1 ((t.logic.map (·.block)).getD 0xFF) ++ leBytes 1 (if t.mem.isSome then bank / 256 else 0xFF) ++ leBytes 1 (bank % 256) ++ zeroBytes 3
  ++ leBytes 4 ((t.logic.map (·.progress)).getD t.lastProgress) ++ leBytes 4 (mask t.fencedEngines) ++ leBytes 8 (mask t.fencedLinks)
  ++ leBytes 8 ((t.logic.map (·.misr)).getD t.partialMisr) ++ leBytes 2 t.soft.length ++ leBytes 2 t.fused.length ++ leBytes 2 (256 - t.fused.length) ++ leBytes 2 0
  ++ (t.results.flatten ++ zeroBytes 384).take 384

/-- The counters of Table 17.9, from device summary offset 0xC00. -/
def Tru.counters (t : Tru) : List Byte :=
  leBytes 4 t.runs ++ leBytes 4 t.transient ++ leBytes 4 t.incomplete ++ leBytes 4 t.eccCorrected ++ leBytes 4 t.waits ++ leBytes 4 t.scrubPasses ++ leBytes 2 t.fails
  ++ leBytes 2 t.eccLasting ++ leBytes 2 t.eccUncorrectable ++ leBytes 2 t.waitMax

end Sys2Proof.Machine
end

