-- ==== Sys2Proof/Machine/TruRows.lean ====
section
/-! DEFINITION. The commands of the Test and Repair Unit (chapter 17): scheduled tests, bursts, verdicts, early stops, scrubbing, poisoned words, fabric blocks and
links. -/

namespace Sys2Proof.Machine

open Sys2Proof

/-- A sensor reads at or above TEMP_WARN: no online logic test starts (R499). -/
def Dev.tempHold (d : Dev) : Bool := d.pace.temps.any (fun t => Params.val d.ctl.prm pTEMP_WARN * 16 ≤ t)

/-- The tests of step engines and planner cores are held: 1.5 µs is more than (1 − PACE_BUDGET) × W (R508). -/
def Dev.burstHeld (d : Dev) : Bool := d.windowW * 45 < 150000

/-- A block whose bursts the control plane would meet (R508). -/
def meetsBurst (b : Nat) : Bool := 0x20 ≤ b && b ≤ 0x2B

/-- A logic test runs on a loop engine: it occupies both kinds (R499). -/
def Tru.engineTest (t : Tru) : Bool := match t.logic with | some l => l.block ≤ 0x11 | none => false

/-- A live KRN update runs: online engine tests wait (R544). -/
def Dev.krnLive (d : Dev) : Bool := match d.boot.live with | some l => l.kind = 1 | none => false

/-- An engine's test is asked of the PAC; it begins after the Seal of its hand-over (R253, R501, R517). -/
def Dev.askTest (d : Dev) (e : Nat) (owner : Option OpenOp) : Dev :=
  let d := d.withTru (d.tru.startLogic e d.ctl.cycle false owner)
  { d with pace := { d.pace with testAsk := some e, trigger := true } }

/-- An engine can be tested now: both kinds free, in a role of Table 8.4 from which a hand-over starts, a SPARE present for a carrier (R253, R254). -/
def Dev.engineTestable (d : Dev) (e : Nat) : Bool :=
  d.ctl.running && d.tru.logic.isNone && d.tru.mem.isNone && !d.krnLive && !(d.engines.any (fun g => g.role = 3)) &&
    ((d.engine e).role = 1 || ((d.engine e).role = 0 && d.engines.any (fun g => g.role = 1)))

/-- The engine whose scheduled test is due: one that a mismatch asks for, or the next of the rotation (R250, R516). -/
def Tru.dueEngine (t : Tru) : Option Nat :=
  match t.wanted.find? (fun e => !t.fencedEngines.contains e) with
  | some e => some e
  | none => t.nextEngine

/-- The next block of the others in block order that may be tested now (R508, R516). -/
def Dev.dueOther (d : Dev) : Option Nat :=
  let n := otherBlocks.length
  (((List.range n).map (fun i => (d.tru.nextOther + i) % n)).find? (fun i =>
    let b := otherBlocks.getD i 0
    !(meetsBurst b && d.burstHeld) && !(0x30 ≤ b && b ≤ 0x33 && d.tru.removedCores.contains (b - 0x30))))

/-- The pool that a bank belongs to. -/
def poolOf (bank : Nat) : Nat := ((List.range 8).map (fun i => 0x80 + i)).find? (fun b => (poolBanks b).contains bank) |>.getD 0x87

/-- The next bank of the rotation: banks of the engine memories belong to the engine tests, a degraded domain is not tested (R498, R506, R516). -/
def Tru.dueBank (t : Tru) : Option Nat :=
  ((List.range 768).map (fun i => (t.nextBank + i) % 768)).find? (fun b => !t.degraded.contains (bankDomain b) && !(poolBanks 0x86).contains b)

/-- The bank of a row with a lasting fault is tested as soon as no memory test runs, ahead of the schedule (R499, R509). -/
def Dev.testAsked (d0 : Dev) : Dev :=
  let d := if d0.tru.asked.any (fun e => d0.tru.untested e.1) then d0.withTru d0.tru.settleAsked else d0
  match d.tru.asked with
  | e :: _ => if d.tru.mem.isNone && !d.tru.engineTest then d.withTru (d.tru.startMem (poolOf e.1) d.ctl.cycle [e.1] none) else d
  | [] => d

/-- A scheduled test is due (R499, R516): kind 0 a loop engine, 1 a core or burst block, 2 a memory bank, 3 a fabric router. What it needs must be free; otherwise
it is deferred. -/
def Dev.scheduled (d : Dev) (kind : Nat) : Dev :=
  let on (i : Nat) : Bool := bit (fieldLE d.tru.sched 0 1) i
  if !d.host.mgtReady || d.boot.recovery then d
  else
    match kind with
    | 0 => match d.tru.dueEngine with
      | some e => if on 0 && !d.tempHold && d.engineTestable e then d.askTest e none |> (fun (d : Dev) => { d with tru := { d.tru with nextLe := (e + 1) % 18 } }) else d
      | none => d
    | 1 => match d.dueOther with
      | some i => if on 0 && !d.tempHold && d.tru.logic.isNone then
          let d := d.withTru (d.tru.startLogic (otherBlocks.getD i 0) d.ctl.cycle true none)
          { d with tru := { d.tru with nextOther := (i + 1) % otherBlocks.length } }
        else d
      | none => d
    | 2 => if !d.tru.asked.isEmpty then d.testAsked else match d.tru.dueBank with
      | some b => if on 1 && d.tru.mem.isNone && !d.tru.engineTest then
          let d := d.withTru (d.tru.startMem (poolOf b) d.ctl.cycle [b] none)
          { d with tru := { d.tru with nextBank := (b + 1) % 768 } }
        else d
      | none => d
    | _ => if on 3 && !d.tempHold && d.tru.logic.isNone then
        let d := d.withTru (d.tru.startLogic (0x40 + d.tru.nextRouter) d.ctl.cycle true none)
        { d with tru := { d.tru with nextRouter := (d.tru.nextRouter + 1) % 24 } }
      else d

/-- SCHEDULED_TEST_START. -/
def execScheduledTestStart (kind : Nat) (s : State) : Host.Outcome State Fault Refusal := s.act (fun d => d.scheduled kind)

/-- BIST_BURST (R501, R508): a request to the block waited `waitNs`. -/
def execBistBurst (waitNs : Nat) (s : State) : Host.Outcome State Fault Refusal :=
  s.act (fun d => match d.tru.logic with
    | some l => if !d.tru.stops.isEmpty || (meetsBurst l.block && d.burstHeld) then d else { d with tru := d.tru.burst waitNs }
    | none => d)

/-- A whole-block test runs on: its progress at this instant is open (log 18). -/
def Dev.bistRuns (d : Dev) : Dev :=
  match d.tru.logic with
  | some l =>
    if blockMethod l.block = 1 || !l.begun then d
    else
      let p := l.progress + d.freeVal % (blockPatterns l.block - l.progress + 1)
      { d.took with tru := { d.tru with logic := some { l with progress := p, misr := Config.signature l.block l.seed p } } }
  | none => d

/-- A loop engine leaves service for good (R507, Table 8.4): what it runs ends, its stand-in carries its axes, and the PAC plans anew. A test whose stand-in it was
stops (Table 17.2). -/
def Dev.fenceNow (d : Dev) (e : Nat) : Dev :=
  let role := (d.engine e).role
  if role = 4 then d
  else
    let d := d.withTru (d.tru.fenceEngine e)
    let fix (r : Nat) (i : Nat) : Nat := if i = e then 4 else if role = 3 && r = 2 then 0 else r
    let stop := role = 2 && d.tru.engineTest
    { d with
      engines := d.engines.zipIdx.map (fun (g : Engine × Nat) => if g.2 = e then { g.1.halted with role := 4 } else { g.1 with role := fix g.1.role g.2 })
      pace := { d.pace with plan := { d.pace.plan with roles := d.pace.plan.roles.mapIdx (fun i r => fix r i) }, trigger := true,
                            testAsk := d.pace.testAsk.filter (· ≠ e), returnAsk := d.pace.returnAsk.filter (· ≠ e) }
      motion := { d.motion with axes := Tab.mapAll d.motion.axes (fun _ ax => { ax with shadowed := ax.shadowed && role ≠ 3 }) }
      tru := if stop then { d.tru with stops := d.tru.stops ++ [(2, false)] } else d.tru }

/-- The owner of a test gets its result block (R517, R391). -/
def Dev.testReply (d : Dev) (o : Option (OpenOp × List Byte)) (status : Nat) : Dev :=
  match o with
  | some x => d.opEnd (some x.1) { status := status, pay := x.2 }
  | none => d

/-- A logic test ends with its verdict (R502, R507, R253): an engine that failed is fenced, any other goes on to its reload. -/
def Dev.logicEnds (d : Dev) (first again : Bool) : Dev :=
  match d.tru.logic with
  | none => d
  | some l =>
    if !l.begun || !d.tru.stops.isEmpty || (blockMethod l.block = 1 && l.progress < blockPatterns l.block) then d
    else
      let failed := !first && !again
      let r := d.tru.logicDone first again d.ctl.cycle
      let d := (d.withTru (r.1, r.2.1)).testReply r.2.2.1 0
      if l.block ≤ 0x11 then
        if failed then d.fenceNow l.block else { d with pace := { d.pace with suspects := d.pace.suspects.filter (· ≠ l.block) } }
      else d

/-- LOGIC_BIST_DONE; `first` and `again` are the comparisons of the run and of its repeat. -/
def execLogicBistDone (first again : Bool) (s : State) : Host.Outcome State Fault Refusal := s.act (fun d => d.logicEnds first again)

/-- A logic test stops early (R503, R504). An engine whose hand-over the PAC has not planned yet is not handed over. -/
def Dev.logicStops (d : Dev) (cause : Nat) : Dev :=
  match d.tru.logic with
  | none => { d with tru := { d.tru with stops := d.tru.stops.filter (fun c => c.2) } }
  | some l =>
    let early := l.block ≤ 0x11 && !l.begun
    if early && d.pace.testAsk ≠ some l.block then d
    else
      let d := d.bistRuns
      let r := d.tru.stopLogic cause d.ctl.cycle
      let t := { r.1 with stops := r.1.stops.filter (fun c => c.2), reload := if early then r.1.reload.filter (· ≠ l.block) else r.1.reload }
      let d := if early then { d with pace := { d.pace with testAsk := none } } else d
      (d.withTru (t, r.2.1)).testReply r.2.2.1 (if cause = 1 then 0x0501 else 0)

/-- A memory test stops early (R503). -/
def Dev.memStops (d : Dev) (cause : Nat) : Dev :=
  let r := d.tru.stopMem cause d.ctl.cycle
  (d.withTru ({ r.1 with stops := r.1.stops.filter (fun c => !c.2) }, r.2.1)).testReply r.2.2 (if cause = 1 then 0x0501 else 0)

/-- TEST_EARLY_STOP (R503): a cause of Table 17.2 that has taken effect stops its test; cause 5 comes from the fabric port of the block. -/
def execTestEarlyStop (cause : Nat) (s : State) : Host.Outcome State Fault Refusal :=
  s.act (fun d =>
    let d1 := if cause = 5 || d.tru.stops.contains (cause, false) then d.logicStops cause else d
    if d.tru.stops.contains (cause, true) then d1.memStops cause else d1)

/-- MEMORY_BIST_DONE (R505); `lines` are the rows and columns with lasting faults, `transient` says that a repeat passed. -/
def execMemoryBistDone (lines : List (Nat × Nat)) (transient : Bool) (s : State) : Host.Outcome State Fault Refusal :=
  s.act (fun d =>
    if d.tru.mem.isNone || d.tru.stops.any (fun c => c.2) then d
    else
      let r := d.tru.bankDone lines transient d.ctl.cycle
      ((d.withTru (r.1, r.2.1)).testReply r.2.2 0).testAsked)

/-- The kernel of an image: its Almanac version and its build (log 13). -/
def RunImage.kernelId (x : RunImage) : Nat := x.almanac.getD 1 0 + 2 ^ 32 * x.build

/-- The engines of a live KRN update that are still to be switched, in the order in which they are (R544, R546). -/
def Dev.krnLeft (d : Dev) (l : Live) : List Nat :=
  let all := (List.range 18).filter (fun e => (d.engine e).role ≠ 4)
  if l.back then (all.filter (fun e => l.engines.contains e)).reverse else all.filter (fun e => !l.engines.contains e)

/-- A live KRN update goes on (R542, R544, R546): a SPARE reloads where it is, a carrying engine is handed over, and at the end the update is done or aborted. -/
def Dev.krnNext (d : Dev) : Dev :=
  match d.boot.live with
  | none => d
  | some l =>
    if l.kind ≠ 1 || !d.tru.reload.isEmpty || d.pace.testAsk.isSome || d.pace.returnAsk.isSome || d.engines.any (fun g => g.role = 3) || d.pace.done.isSome || d.pace.building.isSome then d
    else match d.krnLeft l with
      | [] =>
        if l.back then
          Dev.opEnd (Dev.emit { d with boot := { d.boot with live := none } } (evM srcMgc eUPDATE_DONE (leBytes 1 1 ++ leBytes 1 l.bank ++ leBytes 1 1))) l.owner { status := 0x0501 }
        else (d.declareBg (runImage d.flash l.bank 1).kernelId).liveEnds l 1
      | e :: rest =>
        let spares := (e :: rest).filter (fun x => (d.engine x).role = 1)
        if !spares.isEmpty then { d with tru := { d.tru with reload := d.tru.reload ++ spares } }
        else { d with pace := { d.pace with testAsk := some e, trigger := true } }

/-- The engine that a hand-over of a live KRN update has freed reloads (R544). -/
def Dev.krnReload (d : Dev) (e : Nat) : Dev :=
  if d.krnLive && (d.engine e).role = 3 && !d.tru.reload.contains e && d.tru.logic.isNone then { d with tru := { d.tru with reload := d.tru.reload ++ [e] } } else d

/-- The reload of an engine ends (R504, R544, R202): it holds the kernel of the update or that of the management pool, its registers are 0, and the PAC plans its
return. -/
def Dev.reloaded (d : Dev) (e : Nat) : Dev :=
  if !d.tru.reload.contains e then d
  else
    let d := { d with tru := { d.tru with reload := d.tru.reload.filter (· ≠ e) } }
    let old := (d.boot.images.getD 1 {}).kernelId
    let d := match d.boot.live with
      | some l =>
        if l.kind ≠ 1 then d
        else
          let v := if l.back then old else (runImage d.flash l.bank 1).kernelId
          let es := if l.back then l.engines.filter (· ≠ e) else l.engines ++ [e]
          Dev.onEngine { d with boot := { d.boot with live := some { l with engines := es } } } e (fun g => { g with version := v })
      | none => d
    let d := d.onEngine e (fun g => g.load g.version)
    if (d.engine e).role = 3 then { d with pace := { d.pace with returnAsk := some e, trigger := true } } else d.krnNext

/-- ENGINE_RELOAD_DONE. -/
def execEngineReloadDone (engine : Nat) (s : State) : Host.Outcome State Fault Refusal := s.act (fun d => d.reloaded engine)

/-- SCRUB_READ (R512): the scrubber reads its next word. -/
def execScrubRead (bitsBad : Nat) (again changed : Bool) (s : State) : Host.Outcome State Fault Refusal :=
  s.act (fun d => if d.host.mgtReady then (d.withTru (d.tru.scrub bitsBad again changed)).testAsked else d)

/-- The computation of an axis that reads a poisoned word ends and commits nothing (R513): the slot is not started again in the cycle. -/
def Dev.poisonAxis (d : Dev) (a : Nat) : Dev :=
  match Tab.find d.pace.plan.place a with
  | none => d
  | some (e, t) =>
    d.onEngine e (fun g =>
      let g := match g.run with
        | some r => if r.kind = 0 && r.slot = t then g.halted else g
        | none => g
      { g with slots := Tab.upd g.slots t (fun s => { s with outs := s.outs ++ [{ words := [], commit := false, pass := 15 }] }) })

/-- A consumer reads a poisoned word (Table 17.4): kind 0 the engine of a servo axis, 1 the step engine of a stepper, 2 the PU for a servo axis, 3 a BAR2 read, 4 a
staged command, 5 an operation of the MGC, 6 a Logbook record, 7 a Chronograph channel; `index` names it. -/
def Dev.poisonRead (d : Dev) (addr kind index : Nat) : Dev :=
  if !d.tru.poisoned.contains addr then d
  else
    let ev (src : Nat) := evM srcTru ePOISON_READ (leBytes 4 addr ++ leBytes 2 src)
    match kind with
    | 0 => (d.poisonAxis index).emit (ev (srcAxis index))
    | 1 => (d.onStepper index (fun s => { s with blocked := true })).emit (ev (srcStepper index))
    | 2 => d.onAxis index (fun ax => { ax with blocked := true })
    | 3 => { d with host := { d.host with poisoned := true } }
    | 4 => match d.host.staged[index]? with
      | some x => d.withdraw (fun y => y = x) (fun _ => 0x0601)
      | none => d
    | 5 => d.opEnd d.host.openOps[index]? { status := 0x0601 }
    | 6 => { d with log := { d.log with bad := d.log.bad ++ [index] } }
    | _ => { d with chr := { d.chr with poison := d.chr.poison ++ [index] } }

/-- POISON_READ. -/
def execPoisonRead (addr kind index : Nat) (s : State) : Host.Outcome State Fault Refusal := s.act (fun d => d.poisonRead addr kind index)

/-- A block is checked on one hop of its way (R11, R12, R507, R514). An engine whose port has a lasting fault is fenced. -/
def Dev.fabric (d : Dev) (path : FabricHop) (ok ok2 : Bool) : Dev :=
  if path.src < 24 then (match (d.tru.route path.src path.dst)[path.hop]? with | some l => d.withTru (d.tru.transfer l ok ok2) | none => d)
  else if ok || 42 ≤ path.src || (d.engine (path.src - 24)).role = 4 then d
  else if ok2 then { d with tru := { d.tru with fabricTransient := incSat 32 d.tru.fabricTransient } }
  else
    let e := path.src - 24
    let d := { d with tru := { d.tru with fabricLasting := incSat 16 d.tru.fabricLasting } }
    let d := match d.tru.logic with
      | some l => if l.block = e && l.begun then d.logicStops 5 else if l.block = e then { d with tru := { d.tru with logic := none } } else d
      | none => d
    d.fenceNow e

/-- FABRIC_BLOCK_TRANSFER: the data and the CRC received, and those of the repeat. -/
def execFabricBlockTransfer (path : FabricHop) (data : List Byte) (crc : Nat) (again : List Byte) (crcAgain : Nat) (s : State) : Host.Outcome State Fault Refusal :=
  s.act (fun d => d.fabric path (crc16 data = crc) (crc16 again = crcAgain))

/-- LINK_RETURN (R515). -/
def execLinkReturn (link : Nat) (clean : Bool) (s : State) : Host.Outcome State Fault Refusal := s.does (fun d => { d with tru := d.tru.linkReturn link clean })

end Sys2Proof.Machine
end

