-- ==== Sys2Proof/Machine/PowerRows.lean ====
section
/-! DEFINITION. The commands of reset, boot, clocks, power domains, the update of management firmware and the TAP (chapters 18 and 19). -/

namespace Sys2Proof.Machine

open Sys2Proof

/-! ## Reset (R521 to R524) -/

/-- The counters of a segment, which only a power-on reset clears (R40, R334). -/
def Segment.counted (s : Segment) : Segment :=
  { discardedCnt := s.discardedCnt, linkTransient := s.linkTransient, linkLasting := s.linkLasting, breakCnt := s.breakCnt, joinCnt := s.joinCnt }

/-- The counters of the ring, and the highest cycle of R297. -/
def Ring.counted (r : Ring) : Ring :=
  { segs := r.segs.map Segment.counted, takeoverCnt := r.takeoverCnt, twinMissCnt := r.twinMissCnt, highCycle := r.highCycle }

/-- What an engine keeps over a reset: the counters that are never cleared, and what lasts until the next power-on (R40, R236). -/
def Engine.counted (g : Engine) : Engine := { migrations := g.migrations, lateCnt := g.lateCnt, mismatch := g.mismatch, obsLast := g.obsLast }

/-- The counters of the Pace Unit. -/
def Pace.counted (p : Pace) : Pace :=
  { mismatchCnt := p.mismatchCnt, discarded := p.discarded, avsTransient := p.avsTransient, avsLasting := p.avsLasting, marginEntries := p.marginEntries, shedCnt := p.shedCnt }

/-- What the Time Unit keeps in PD_AON (R335, R337) and its counters; its discipline starts again (log 16). -/
def Tu.counted (t : Tu) : Tu :=
  { rc := t.rc, rcRem := t.rcRem, ofs := t.ofs, rate := t.rate, slewing := true, steps := t.steps, ppsReject := t.ppsReject,
    ports := t.ports.map (fun (p : PlantPort) => ({ discard := p.discard } : PlantPort)),
    touts := t.touts.map (fun (x : Tout) => ({ lateCnt := x.lateCnt, dropCnt := x.dropCnt, mergeCnt := x.mergeCnt } : Tout)),
    tcaps := t.tcaps.map (fun (x : Tcap) => ({ overflow := x.overflow, intDrop := x.intDrop, dense := x.dense, level := x.level } : Tcap)) }

/-- What the HIU keeps: the epoch and the tokens given out (R367), and its counters. -/
def Hif.counted (h : Hif) : Hif :=
  { epoch := h.epoch, tokens := h.tokens, ownerLossCnt := h.ownerLossCnt, eventsDropped := h.eventsDropped, streamSkip := h.streamSkip, pinExpired := h.pinExpired,
    batchesFailed := h.batchesFailed }

/-- The counters of the Chronograph. -/
def Chr.counted (c : Chr) : Chr :=
  { triggers := c.triggers, captures := c.captures, forced := c.forced, overwritten := c.overwritten, streamLost := c.streamLost, readRace := c.readRace, capture := c.capture }

/-- The counters of the Logbook and what R461 keeps. -/
def Log.counted (l : Log) : Log :=
  { resUnsafe := l.resUnsafe, clearCount := l.clearCount, fifoDropped := l.fifoDropped, lostRecords := l.lostRecords, persistTransient := l.persistTransient, unpersisted := l.unpersisted,
    persistLasting := l.persistLasting, clearRefused := l.clearRefused, readRace := l.readRace, peak := l.peak }

/-- The fuses of the Test and Repair Unit (R507, R511). -/
def Tru.fuses (t : Tru) : Tru := { fuseFenced := t.fuseFenced, fused := t.fused }

/-- The counters of the Test and Repair Unit beside its fuses; a fenced link stays fenced until it is proved (R515). -/
def Tru.counted (t : Tru) : Tru :=
  { t.fuses with fencedLinks := t.fencedLinks, fabricTransient := t.fabricTransient, fabricLasting := t.fabricLasting, runs := t.runs, transient := t.transient, incomplete := t.incomplete,
                 eccCorrected := t.eccCorrected, waits := t.waits, scrubPasses := t.scrubPasses, fails := t.fails, eccLasting := t.eccLasting, eccUncorrectable := t.eccUncorrectable,
                 waitMax := t.waitMax }

/-- The key store, which is fused (R536). -/
def BootSt.fuses (b : BootSt) : BootSt := { integKey := b.integKey, ownerKey := b.ownerKey }

/-- What boot keeps in PD_AON (R524, R533, R548, R461) and its counters. -/
def BootSt.counted (b : BootSt) (cause next : Nat) : BootSt :=
  { b.fuses with cause := cause, heldMs := b.heldMs, longMs := b.longMs, fails := b.fails, pwr := b.pwr, opsec := b.opsec, wseq := b.wseq, seqKept := some next, boots := b.boots, liveUpdates := b.liveUpdates,
                 flashTransient := b.flashTransient, fallbacks := b.fallbacks, longResets := b.longResets, rollbacks := b.rollbacks, flashLasting := b.flashLasting }

/-- The device right after a rise of VDD_AON (R521): what flash, fuses and host memory hold stays; all else is at its reset value. -/
def Dev.afterPowerOn (d : Dev) : Dev :=
  { flash := d.flash, hostMem := d.hostMem, ctl := { free := d.ctl.free }, boot := d.boot.fuses, tru := d.tru.fuses,
    log := { clearCount := d.log.clearCount, resUnsafe := d.log.resUnsafe } }

/-- The device right after a reset of another cause (Table 18.1, R40): PD_AON and the counters stay; a SUPPLY reset (cause 2) leaves the SI running, its connections IDLE (Table 16.7).
A KEY_WRITE in progress and the TAP are outside the domains that are reset. -/
def Dev.afterReset (d : Dev) (cause : Nat) : Dev :=
  { flash := d.flash, hostMem := d.hostMem, ctl := { free := d.ctl.free }, ring := d.ring.counted, pace := d.pace.counted, engines := d.engines.map Engine.counted, tu := d.tu.counted, host := d.host.counted, chr := d.chr.counted,
    log := d.log.counted, tru := d.tru.counted, boot := d.boot.counted cause d.log.next, tap := d.tap, power := { aon := d.power.aon },
    router := { dropped := d.router.dropped },
    si := if cause = 2 then (List.range 8).foldl (fun (s : Si) k => s.segDown k) { d.si with standby := false } else d.si.reset }

/-- POWER_ON. -/
def execPowerOn (s : State) : Host.Outcome State Fault Refusal := s.does Dev.afterPowerOn

/-- VDD_AON_FALL (R556): the device resets; RC stands until the next rise (R335). -/
def execVddAonFall (s : State) : Host.Outcome State Fault Refusal :=
  s.does (fun d => let d := d.afterPowerOn; { d with power := { d.power with aon := false }, tu := { d.tu with halted := true } })

/-- SUPPLY_RESET. -/
def execSupplyReset (s : State) : Host.Outcome State Fault Refusal := s.does (fun d => d.afterReset 2)

/-- RESET_N was low for `lowNs` (R522, R524): a pulse from 1 µs to 10 µs resets or is ignored, by a free value. -/
def Dev.resetPin (d : Dev) (lowNs : Nat) : Dev :=
  let held (d : Dev) : Dev := { d with boot := { d.boot with heldMs := min (lowNs / 1000000) (2 ^ 32 - 1) } }
  if lowNs < 1000 then d
  else if lowNs < 10000 then (if d.freeVal % 2 = 0 then d.took else (held d.took).afterReset 3)
  else (held d).afterReset 3

/-- RESET_N_PIN. -/
def execResetNPin (lowNs : Nat) (s : State) : Host.Outcome State Fault Refusal := s.does (fun d => d.resetPin lowNs)

/-- The bank that a boot tries: the first of its order that is not rejected. -/
def BootSt.trying (b : BootSt) (flash : Memory) : Nat :=
  ((b.order flash).find? (fun k => bankCheck flash b.integKey b.fails false k = 0)).getD 0

/-- The boot watchdog expires (R533): the bank that was tried fails once more, and the device resets. -/
def Dev.bootWatchdog (d : Dev) : Dev :=
  if d.host.mgtReady || d.boot.recovery then d
  else Dev.afterReset { d with boot := { d.boot with fails := d.boot.fails.modify (d.boot.trying d.flash) (incSat 8) } } 4

/-- BOOT_WATCHDOG_EXPIRY. -/
def execBootWatchdogExpiry (s : State) : Host.Outcome State Fault Refusal := s.does Dev.bootWatchdog

/-! ## Boot (Table 18.4) -/

/-- OPSEC of a persistent record (Table 18.9). -/
def recordOpsec (x : List Byte) : Nat := fieldLE x 8 5

/-- PWR_CYCLES of a persistent record. -/
def recordPwr (x : List Byte) : Nat := fieldLE x 16 4

/-- SEQ_RES of a persistent record. -/
def recordRes (x : List Byte) : Nat := fieldLE x 20 4

/-- AGE_DRIFT of engine `e` in a persistent record. -/
def recordDrift (x : List Byte) (e : Nat) : Int := fieldLES x (24 + 2 * e) 2

/-- What boot takes from the newest persistent record (R460, R549): its WSEQ, SEQ_RES and AGE_DRIFT; all zero where the area holds none. -/
def Dev.fromRecord (d : Dev) (w : Nat) (x : List Byte) : Dev :=
  Dev.floors { d with boot := { d.boot with wseq := w }, log := { d.log with seqRes := recordRes x }, engines := d.engines.mapIdx (fun e g => { g with ageDrift := recordDrift x e }) }

/-- The newest persistent record and its WSEQ; no bytes where the area holds none. -/
def Dev.newestRecord (d : Dev) : Nat × List Byte := (persistNewest d.flash).getD (d.boot.wseq, [])

/-- Boot steps 1 and 2: fuses apply, and after POWER_ON the lifetime counts resume from the newest persistent record and PWR_CYCLES counts (R526, R548). -/
def Dev.bootCounts (d : Dev) : Dev :=
  let r := d.newestRecord
  let d := Dev.fromRecord { d with tru := { d.tru with fencedEngines := d.tru.fuseFenced } } r.1 r.2
  if d.boot.cause = 1 then Dev.persistNow { d with boot := { d.boot with opsec := recordOpsec r.2, pwr := incSat 32 (recordPwr r.2) } } else d

/-- A block fails its boot test (R507, R527): a block tested only at boot is treated as one without a spare. -/
def Dev.bootFail (d : Dev) (block : Nat) : Dev :=
  d.withTru (Tru.failLogic { d.tru with fails := incSat 16 d.tru.fails } block)

/-- Boot step 4: the blocks and banks that fail act (R505 to R507, R527). -/
def Dev.bootTests (d : Dev) (badLogic badBanks : List Nat) : Dev :=
  let d := badLogic.foldl Dev.bootFail d
  badBanks.foldl (fun (d : Dev) b => d.withTru (Tru.failBank { d.tru with fails := incSat 16 d.tru.fails } b)) d

/-- Boot step 7: the kernel image goes into every engine in service; the Logbook is restored with RESTART as its first record (R460); a persistent record is written (R549). A background task runs on
every carrying engine where the image declares one (R240, R252). -/
def Dev.bootRestore (d : Dev) (logBad : Bool) : Dev :=
  let v := (d.boot.images.getD 1 {}).kernelId
  let roles := d.pace.plan.roles.mapIdx (fun e r => if d.tru.fencedEngines.contains e then 4 else r)
  let d : Dev := { d with
    engines := d.engines.mapIdx (fun e g => { g.load v with role := roles.getD e 0 })
    pace := { d.pace with plan := { d.pace.plan with roles := roles } } }
  let d := d.declareBg v
  let risky := d.boot.cause = 1 && d.log.resUnsafe
  let r := d.log.restore (if logBad then [] else d.flash) (if d.boot.cause = 1 then none else d.boot.seqKept) d.log.seqRes risky d.logStamp
  let d := { d with log := { r.1 with resUnsafe := if d.boot.cause = 1 then false else d.log.resUnsafe }, flash := if logBad then d.flash else r.2 }
  let d := if logBad then Dev.logFault { d with boot := { d.boot with flashLasting := incSat 16 d.boot.flashLasting } } else d
  Dev.persistNow { d with ctl := { d.ctl with free := d.ctl.free + 1 } }

/-- Boot step 8 (R524, R526, R533): MGT_READY, BOOT, and LONG_RESET after a RESET_N that was held for more than 10 s. -/
def Dev.bootReady (d : Dev) : Dev :=
  let long := d.boot.cause = 3 && 10000 < d.boot.heldMs
  let b := { d.boot with fails := [0, 0], boots := incSat 32 d.boot.boots }
  let b := if long then { b with longMs := b.heldMs, longResets := incSat 16 b.longResets } else b
  let d := { d with boot := b, host := { d.host with mgtReady := true } }
  let d := d.emit (evM srcMgc eBOOT (leBytes 1 b.cause ++ leBytes 1 b.bank ++ leBytes 1 b.flags))
  if long then d.emit (evM srcMgc eLONG_RESET (leBytes 4 b.heldMs)) else d

/-- The flash is made ready (R566): XSPI_RESET_N rises 100 µs after the reset ends, the SFDP table is read in 1S-1S-1S, and the flash goes over to 8D-8D-8D. Reads of
this boot that pass only when repeated are counted, and each bank of the order that has a read with a lasting fault (R11, R529). -/
def Dev.bootFlash (d : Dev) (reads : BootReads) : Dev :=
  { d with boot := { d.boot with xspi := { resetN := true, octal := true, sfdp := true }, flashTransient := addSat 32 d.boot.flashTransient reads.retries,
                                 flashLasting := addSat 16 d.boot.flashLasting ((d.boot.order d.flash).filter (fun k => reads.banks.contains k)).length } }

/-- The whole boot in one transition (R526): `reads` is what its flash reads find, `badLogic` and `badBanks` the blocks and banks that fail their
test. In RECOVERY only the boot ROM runs (R539). -/
def Dev.bootRun (d : Dev) (bootSel : Nat) (reads : BootReads) (badLogic badBanks : List Nat) : Dev :=
  if d.host.mgtReady || d.boot.recovery || !d.power.aon then d
  else
    let d : Dev := { d with boot := { d.boot with bootSel := bootSel % 4 } }
    let d := (d.bootFlash reads).bootCounts
    let d : Dev := { d with host := { d.host with linkUp := !d.power.peLost } }
    let d := d.bootTests badLogic badBanks
    let r := d.boot.choose d.flash reads.banks
    let d := Dev.emits { d with boot := r.1 } r.2
    if r.1.recovery then { d with host := { d.host with recovery := true } } else (d.bootRestore reads.logBad).bootReady

/-- BOOT. -/
def execBoot (bootSel : Nat) (reads : BootReads) (badLogic badBanks : List Nat) (s : State) : Host.Outcome State Fault Refusal :=
  s.act (fun d => d.bootRun bootSel reads badLogic badBanks)

/-! ## Clocks and power domains (R558, R562, R564) -/

/-- CLOCK_FAULT. -/
def Dev.clockFault (d : Dev) (cause : Nat) : Dev := d.emit (evC srcTu eCLOCK_FAULT (leBytes 1 cause))

/-- TB_REFCLK is lost (R562): the TU counts from SD_REFCLK, or from the internal oscillator when both are lost; the SI enters FAULT. -/
def Dev.tbLoss (d : Dev) : Dev :=
  if d.power.tbLost then d
  else
    let both := d.power.sdLost
    let d := { d with power := { d.power with tbLost := true }, tu := { d.tu with onSd := !both, internal := both } }
    (d.siAct (fun x => x.fault 3)).clockFault (if both then 3 else 1)

/-- TB_REFCLK_LOSS. -/
def execTbRefclkLoss (s : State) : Host.Outcome State Fault Refusal := s.act Dev.tbLoss

/-- SD_REFCLK is lost (R562): every SerDes link goes down; the cycle runs on. -/
def Dev.sdLoss (d : Dev) : Dev :=
  if d.power.sdLost then d
  else
    let both := d.power.tbLost
    let d := { d with
      power := { d.power with sdLost := true }
      ring := { d.ring with segs := d.ring.segs.map (fun (s : Segment) => { s with upA := false, upB := false }) }
      tu := { d.tu with ports := d.tu.ports.map (fun (p : PlantPort) => { p with up := false }), onSd := d.tu.onSd && !both, internal := both } }
    d.clockFault (if both then 3 else 2)

/-- SD_REFCLK_LOSS. -/
def execSdRefclkLoss (s : State) : Host.Outcome State Fault Refusal := s.act Dev.sdLoss

/-- The condition of Table 1.3 under which a domain may be off: 0 PD_PLANT, 1 PD_SEGB, 2 PD_STEP, 3 PD_TRACE. -/
def Dev.domainIdle (d : Dev) (domain : Nat) : Bool :=
  match domain with
  | 0 => d.tu.ports.all (fun p => p.prm.isEmpty)
  | 1 => [4, 5, 6, 7].all (fun i => !d.ring.map.configured i)
  | 2 => d.motion.steppers.isEmpty
  | _ => d.chr.conf.isNone && d.chr.pending.isNone

/-- A domain is switched off (R558): its ports lose their links. Chronograph captures survive in PD_MEM1 (R557). -/
def Dev.domainOff (d : Dev) (domain : Nat) : Dev :=
  if !d.domainIdle domain then d
  else match domain with
    | 0 => { d with power := { d.power with plant := false }, tu := { d.tu with ports := d.tu.ports.map (fun (p : PlantPort) => { p with up := false }) } }
    | 1 => { d with power := { d.power with segb := false }, ring := { d.ring with segs := d.ring.segs.mapIdx (fun i s => if 4 ≤ i then { s with upA := false, upB := false } else s) } }
    | 2 => { d with power := { d.power with step := false } }
    | _ => { d with power := { d.power with trace := false } }

/-- DOMAIN_IDLE_OFF: the condition of Table 1.3 has held for 1 s. -/
def execDomainIdleOff (domain : Nat) (s : State) : Host.Outcome State Fault Refusal := s.does (fun d => if domain < 4 then d.domainOff domain else d)

/-- FAULT_N is low (R564). -/
def Dev.faultN (d : Dev) : Bool := !d.host.mgtReady || d.si.state = 3 || d.tru.suspect || d.tru.critical || d.power.tbLost || d.power.sdLost

/-! ## The update of the management firmware (R543) -/

/-- The new MGT image reaches MGT_READY: the update is done. -/
def Dev.mgtReadyNow (d : Dev) : Dev :=
  match d.boot.live with
  | some l =>
    if l.kind ≠ 0 || !d.host.mgtRestart then d
    else
      Dev.liveEnds { d with host := { d.host with mgtRestart := false } } l 0
  | none => d

/-- MGT_RESTART_READY. -/
def execMgtRestartReady (s : State) : Host.Outcome State Fault Refusal := s.act Dev.mgtReadyNow

/-- The new image did not reach MGT_READY in 25 ms: the cores restart into the old one. -/
def Dev.mgtRollback (d : Dev) : Dev :=
  match d.boot.live with
  | some l =>
    if l.kind ≠ 0 || !d.host.mgtRestart then d
    else
      let b := { d.boot with live := none, rollbacks := incSat 16 d.boot.rollbacks }
      let d := Dev.emit { d with boot := b, host := { d.host with mgtRestart := false } } (evM srcMgc eUPDATE_DONE (leBytes 1 0 ++ leBytes 1 l.bank ++ leBytes 1 2))
      d.opEnd l.owner {}
  | none => d

/-- MGT_ROLLBACK_TIMEOUT. -/
def execMgtRollbackTimeout (s : State) : Host.Outcome State Fault Refusal := s.act Dev.mgtRollback

/-! ## The TAP (R536, R569) -/

/-- EXTEST. -/
def execExtest (bootSel : Nat) (s : State) : Host.Outcome State Fault Refusal := s.does (fun d => { d with tap := d.tap.load (bootSel % 4) 0x00 1 })

/-- IDCODE. -/
def execIdcode (s : State) : Host.Outcome State Fault Refusal := s.does (fun d => { d with tap := { d.tap with ir := 0x01, drive := 0, dr := idcodeValue } })

/-- SAMPLE/PRELOAD: the balls are captured as `pins`, and the boundary register is loaded. -/
def execSamplePreload (pins preload : Nat) (s : State) : Host.Outcome State Fault Refusal :=
  s.does (fun d => { d with tap := { d.tap with ir := 0x02, drive := 0, dr := pins, boundary := preload } })

/-- CLAMP. -/
def execClampInstruction (bootSel : Nat) (s : State) : Host.Outcome State Fault Refusal := s.does (fun d => { d with tap := d.tap.load (bootSel % 4) 0x04 1 })

/-- HIGHZ. -/
def execHighz (bootSel : Nat) (s : State) : Host.Outcome State Fault Refusal := s.does (fun d => { d with tap := d.tap.load (bootSel % 4) 0x05 2 })

/-- The selected entry of the key store is blank: 1 INTEGRATOR_PK_HASH, 2 OWNER_KEY. -/
def BootSt.blankKey (b : BootSt) (sel : Nat) : Bool := if sel = 1 then b.integKey.isNone else if sel = 2 then b.ownerKey.isNone else false

/-- KEY_WRITE. -/
def execKeyWrite (bootSel dr : Nat) (s : State) : Host.Outcome State Fault Refusal :=
  s.does (fun d => { d with tap := d.tap.keyWrite (bootSel % 4) dr d.boot.blankKey })

/-- The fusing of an entry ends with its read-back (R536): the entry holds what was read back, and a difference reads as a refusal. -/
def Dev.keyFused (d : Dev) (readBack : List Byte) : Dev :=
  match d.tap.keyEntry with
  | none => d
  | some e =>
    let b := if e.1 = 1 then { d.boot with integKey := some readBack } else { d.boot with ownerKey := some readBack }
    { d with boot := b, tap := { d.tap with keyEntry := none, keyStatus := if readBack = e.2 then 2 else 3 } }

/-- KEY_FUSE_DONE. -/
def execKeyFuseDone (readBack : List Byte) (s : State) : Host.Outcome State Fault Refusal := s.does (fun d => d.keyFused readBack)

/-- BYPASS. -/
def execBypass (s : State) : Host.Outcome State Fault Refusal := s.does (fun d => { d with tap := { d.tap with ir := 0xFF, drive := 0 } })

end Sys2Proof.Machine
end

