-- ==== Sys2Proof/Machine/CmdDevice.lean ====
section
/-! DEFINITION. The commands of the Safety Island, of self-test and repair and of images (classes 0x8 to 0xA, R421), and the authority of authorised opcodes
(R462, R490, R536). -/

namespace Sys2Proof.Machine

open Sys2Proof

/-! ## Authority -/

/-- The response of an authorised opcode (R462, R490, R536): `nonce` is the unused nonce of its class, `msg` what follows it in the message. -/
def authAnswer (key nonce : Option (List Byte)) (op : Nat) (got resp msg : List Byte) : Nat :=
  match key, nonce with
  | none, _ => 0x0402
  | some _, none => 0x0404
  | some k, some n => if n ≠ got then 0x0404 else if hmac k (leBytes 2 op ++ n ++ leBytes 8 (Config.devSerial % 2 ^ 64) ++ msg) = resp then 0 else 0x0402

/-- The authority check of a command (R403): 0 for an opcode that is not authorised. -/
def Dev.authCheck (d : Dev) (q : HostReq) : Nat :=
  let key := d.boot.ownerKey
  let n (o : Nat) : List Byte := (q.pay.drop o).take 16
  let r (o : Nat) : List Byte := (q.pay.drop o).take 32
  match q.op with
  | 0x7010 | 0x8010 => if key.isNone then 0x0402 else 0
  | 0x7011 => authAnswer key d.host.nonceLog q.op (n 0) (r 16) []
  | 0x8011 => authAnswer key d.host.nonceSafe q.op (n 8) (r 24) (leBytes 4 (fieldLE q.pay 4 4))
  | 0xA010 => authAnswer key d.host.nonceSafe q.op (n 8) (r 24) (leBytes 4 (16777216 * q.h.kind + q.h.index) ++ leBytes 1 (fieldLE q.pay 0 1))
  | _ => 0

/-- The attempt of an authorised command consumes the nonce of its class; a refused LOG_CLEAR is recorded (R462). -/
def Dev.authTaken (d : Dev) (q : HostReq) (st : Nat) : Dev :=
  match q.op with
  | 0x7011 =>
    let d1 : Dev := { d with host := { d.host with nonceLog := none } }
    if st = 0 then d1 else d1.clearRefused st
  | 0x8011 | 0xA010 => { d with host := { d.host with nonceSafe := none } }
  | _ => d

/-! ## Safety Island (R482, R489 to R495) -/

/-- SAFE_STATUS (R495). -/
def Dev.safeStatusEffect (d : Dev) (q : HostReq) : Dev × CmdRes :=
  let v := d.seen
  if q.h.kind = 0 then (d, .data (v.si.status d.ctl.published))
  else if (v.si.entry q.h.index).isSome then (d, .data (v.si.connStatus d.ctl.published q.h.index)) else (d, .st 0x0102)

/-- SAFE_RESET is checked. -/
def Dev.safeResetCheck (d : Dev) (q : HostReq) : CmdRes :=
  if q.h.kind = 0 then .st (firstFail [(0x020D, d.si.state = 0 || d.si.state = 3)])
  else .st (firstFail [(0x0102, (d.si.entry q.h.index).isNone), (0x020D, (d.si.conn q.h.index).state ≠ 3)])

/-- SAFE_RESET takes effect. -/
def Dev.safeResetEffect (d : Dev) (q : HostReq) : Dev × CmdRes :=
  if q.h.kind = 0 then (d.withSi d.si.safeReset).done else Dev.done { d with si := d.si.connReset q.h.index }

/-- SAFE_CHALLENGE. -/
def Dev.safeChallenge (d : Dev) (_ : HostReq) : Dev × CmdRes :=
  let n := d.freshNonce
  ({ d.took with host := { d.host with nonceSafe := some n } }, .data n)

/-- The block of SAFE_CONFIG as far as its header's counts reach. -/
def Dev.siBlock (d : Dev) (q : HostReq) : List Byte := d.bulkBytes q (siBlockLen (d.bulkBytes q 32))

/-- SAFE_CONFIG is checked but for its authority. -/
def Dev.siConfCheck (d : Dev) (q : HostReq) : CmdRes :=
  let b := d.siBlock q
  let h := d.bulkCheck q b.length (fieldLE q.pay 4 4)
  let c := if h = 0 then siCheck b d.tcycMost (if d.ring.standbyPresent then some (d.prm pMISS_TAKEOVER) else none) else 0
  .st (firstFail [(0x0104, fieldLE q.pay 2 2 ≠ 0), (h, h ≠ 0), (c, c ≠ 0), (0x020C, !d.si.safeState)])

/-- SAFE_CONFIG takes effect (R491): at its Meridian while no segment's connection count changes, else as the pending configuration. -/
def Dev.siConfEffect (d : Dev) (q : HostReq) : Dev × CmdRes :=
  let c := siParse (d.siBlock q)
  let now (i : Nat) : Nat := match d.si.conf with | some x => x.count i | none => 0
  if (List.range 8).all (fun i => c.count i = now i) then ((d.withSi (d.si.apply c)).siConnect.siPersist).done
  else ({ d with si := { d.si with pending := some c } }, { note := 0x0002 })

/-! ## Self-test and repair (R498, R499, R511, R516 to R518) -/

/-- The block that ST_RUN names. -/
def stBlock (q : HostReq) : Nat := if q.h.kind = 12 then q.h.index else fieldLE q.pay 0 1

/-- The test that ST_RUN names is a memory test. -/
def stMem (q : HostReq) : Bool := q.h.kind = 0 && blockMethod (stBlock q) = 4

/-- A test of the kind that ST_RUN needs runs, or what the engine test needs is taken by a live KRN update or by a test that returns (R499, R544). -/
def Dev.stBusy (d : Dev) (q : HostReq) : Bool :=
  if stMem q then d.tru.mem.isSome || d.tru.engineTest
  else if stBlock q ≤ 0x11 then d.tru.logic.isSome || d.tru.mem.isSome || d.krnLive || d.engines.any (fun g => g.role = 3)
  else d.tru.logic.isSome

/-- ST_RUN is checked. -/
def Dev.stCheck (d : Dev) (q : HostReq) : CmdRes :=
  let wrong := if q.h.kind = 12 then fieldLE q.pay 0 1 ≠ 0 else 1 < fieldLE q.pay 1 1 || !stRunOk (fieldLE q.pay 0 1) (fieldLE q.pay 1 1)
  .st (firstFail [(0x0108, wrong), (0x020E, d.stBusy q)])

/-- The result of a test that cannot start (R517): NOT_RUN. -/
def Dev.notRun (d : Dev) (q : HostReq) : CmdRes :=
  let b := stBlock q
  .data (resultBlock b (if b ≤ 0x11 then 2 else if stMem q then 1 else 0) 5 0 0 0 0 (blockPatterns b) 0 0 d.ctl.cycle d.ctl.cycle)

/-- ST_RUN takes effect: the test starts, or answers NOT_RUN (R254, R499, R507, R517). -/
def Dev.stEffect (d : Dev) (q : HostReq) : Dev × CmdRes :=
  let b := stBlock q
  let o : OpenOp := { req := q, res := 0, since := d.ctl.cycle }
  if stMem q then
    let r := d.tru.startMem b d.ctl.cycle (poolBanks b) (some o)
    if r.1.mem.isSome then (d.withTru r, { later := true }) else (d, d.notRun q)
  else if d.tempHold then (d, d.notRun q)
  else if b ≤ 0x11 then (if d.engineTestable b then (d.askTest b (some o), { later := true }) else (d, d.notRun q))
  else if (meetsBurst b && d.burstHeld) || (0x30 ≤ b && b ≤ 0x33 && d.tru.removedCores.contains (b - 0x30)) then (d, d.notRun q)
  else (d.withTru (d.tru.startLogic b d.ctl.cycle true (some o)), { later := true })

/-- The device as it stood at the seal of the latest Plate, in what status blocks read. -/
def Dev.atPlate (d : Dev) : Dev :=
  let v := d.seen
  { d with ctl := v.ctl, motion := v.motion, engines := v.engines, pace := v.pace, ring := v.ring, tu := v.tu, host := v.host, chr := v.chr, log := v.log, si := v.si, tru := v.tru, boot := v.boot }

/-- ST_STATUS (R518). -/
def Dev.stStatusEffect (d : Dev) (_ : HostReq) : Dev × CmdRes :=
  let v := d.atPlate
  (d, .data (v.tru.status d.ctl.published v.tempHold v.burstHeld))

/-- ST_SCHEDULE is checked. -/
def Dev.schedChk (_ : Dev) (q : HostReq) : CmdRes := .st (schedCheck q.pay)

/-- ST_SCHEDULE takes effect. -/
def Dev.schedEffect (d : Dev) (q : HostReq) : Dev × CmdRes := Dev.done { d with tru := { d.tru with sched := q.pay } }

/-- A command that writes or reads flash: with a lasting fault it fails with FLASH_FAULT. -/
def Dev.withFlash (d : Dev) (f : Dev → Dev × CmdRes) : Dev × CmdRes :=
  let r := d.flashOp
  if r.2 then (r.1, .st 0x0602) else f r.1

/-- REPAIR_COMMIT is checked (R511). -/
def Dev.repairCheck (d : Dev) (_ : HostReq) : CmdRes :=
  .st (firstFail [(0x020E, d.tru.logic.isSome || d.tru.mem.isSome), (0x0301, 256 < d.tru.fused.length + d.tru.soft.length)])

/-- The repair list in flash (Table 18.5), in the layout of the reply (log 10). -/
def repairStore (flash : Memory) (t : Tru) : Memory := Memory.writeList 0xFF (Memory.clear flash 0x20000 0x10000) 0x20000 t.fusedList

/-- REPAIR_COMMIT. -/
def Dev.repairEffect (d : Dev) (_ : HostReq) : Dev × CmdRes :=
  d.withFlash (fun (d : Dev) =>
    let d1 : Dev := d.withTru d.tru.fuse
    ({ d1 with flash := repairStore d1.flash d1.tru }, .data d1.tru.fusedList))

/-! ## Images (R539 to R544) -/

/-- Bank and image of an IMAGE target (Table 13.1). -/
def imageTarget (q : HostReq) : Nat × Nat := (q.h.index / 256 % 2, q.h.index % 256)

/-- An image runs from the bank. -/
def BootSt.runs (b : BootSt) (bank : Nat) : Bool := !b.recovery && b.images.any (fun x => x.bank = bank)

/-- IMAGE_OPEN is checked (R540). -/
def Dev.imgOpenCheck (d : Dev) (q : HostReq) : CmdRes :=
  let t := imageTarget q
  let n := fieldLE q.pay 0 4
  .st (firstFail [(0x0108, n < 192 || imageSize t.2 < n), (0x020D, d.boot.runs t.1), (0x020E, d.boot.live.isSome)])

/-- IMAGE_OPEN. -/
def Dev.imgOpenEffect (d : Dev) (q : HostReq) : Dev × CmdRes :=
  let t := imageTarget q
  d.withFlash (fun (d : Dev) => Dev.done { d with flash := imageOpen d.flash t.1 t.2, boot := { d.boot with slotOpen := some (t.1, t.2, fieldLE q.pay 0 4) } })

/-- The length with which the slot of the command is open. -/
def Dev.openLen (d : Dev) (q : HostReq) : Option Nat :=
  match d.boot.slotOpen with
  | some (b, i, n) => if (b, i) = imageTarget q then some n else none
  | none => none

/-- IMAGE_WRITE is checked (R540). -/
def Dev.imgWriteCheck (d : Dev) (q : HostReq) : CmdRes :=
  let o := fieldLE q.pay 0 4
  let n := d.openLen q
  .st (firstFail [(0x0104, fieldLE q.pay 4 4 ≠ 0), (0x0108, o % 8 ≠ 0 || (match n with | some n => decide (n < o + (q.pay.length - 8)) | none => false)), (0x020D, n.isNone)])

/-- IMAGE_WRITE programs its data. -/
def Dev.imgWriteEffect (d : Dev) (q : HostReq) : Dev × CmdRes :=
  let t := imageTarget q
  d.withFlash (fun (d : Dev) => Dev.done { d with flash := Memory.writeList 0xFF d.flash (imageBase t.1 t.2 + fieldLE q.pay 0 4) (q.pay.drop 8) })

/-- IMAGE_VERIFY is checked (R540). -/
def Dev.imgVerifyCheck (d : Dev) (q : HostReq) : CmdRes :=
  let t := imageTarget q
  let ok := imageCheck d.flash d.boot.integKey t.1 t.2 = 0 && imageAlmanacOk d.flash d.boot.images d.boot.recovery t.1 t.2
  .st (firstFail [(0x010E, !ok), (0x020E, d.boot.live.isSome)])

/-- IMAGE_VERIFY: VALID is set, the slot is no longer open, and the Almanac is answered. -/
def Dev.imgVerifyEffect (d : Dev) (q : HostReq) : Dev × CmdRes :=
  let t := imageTarget q
  d.withFlash (fun (d : Dev) =>
    ({ d with flash := imageMark d.flash t.1 t.2, boot := { d.boot with slotOpen := if (d.openLen q).isSome then none else d.boot.slotOpen } },
     .data ((imageHeader d.flash t.1 t.2 |>.drop 16).take 16)))

/-- The engines hold the new kernel: what R544 asks of a live KRN update. -/
def Dev.krnCheck (d : Dev) (bank : Nat) : Nat :=
  let v := (runImage d.flash bank 1).kernelId
  let lacks := d.motion.axes.any (fun e => (declOf v (e.2.prm.nat pKERNEL_SEL) 0).1 = 0)
  let d1 : Dev := { d with engines := d.engines.map (fun (g : Engine) => { g with version := v }) }
  firstFail [(0x0108, lacks), (0x020D, !d.engines.any (fun g => g.role = 1)), (0x0306, !d1.servoFits)]

/-- The conditions of a live activation (R542): 0 or a status. -/
def Dev.liveConds (d : Dev) (bank idx : Nat) : Nat :=
  let c := liveCheck d.boot d.flash bank idx
  let v := idx ≠ 1 && imageCheck d.flash d.boot.integKey bank idx ≠ 0
  let k := if idx = 1 then d.krnCheck bank else 0
  firstFail [(c, c ≠ 0), (0x010E, v), (0x020E, d.boot.live.isSome), (k, k ≠ 0)]

/-- IMAGE_ACTIVATE is checked (R541, R542). -/
def Dev.activateCheck (d : Dev) (q : HostReq) : CmdRes :=
  let t := imageTarget q
  let w := fieldLE q.pay 0 1
  let bad := 1 < w || (w = 1 && t.2 = 2 && !d.boot.recovery)
  let invalid := !manifestValid (manifestBytes d.flash t.1)
  let c := if bad || w = 0 || d.boot.recovery then 0 else d.liveConds t.1 t.2
  .st (firstFail [(0x0102, t.2 = 3), (0x0108, bad), (0x020D, (w = 0 || d.boot.recovery) && invalid), (c, c ≠ 0)])

/-- The bank that a new preferred manifest is compared with (R541); in RECOVERY the other bank. -/
def BootSt.rival (b : BootSt) (bank : Nat) : Nat := if b.bank ≤ 1 then b.bank else 1 - bank

/-- The tests that a live update of an image stops (Table 17.2). -/
def Dev.updateStops (d : Dev) (idx : Nat) : Dev :=
  let runs (b : Nat) : Bool := if idx = 1 then decide (b ≤ 0x11) else idx = 0 && 0x30 ≤ b && b ≤ 0x33
  match d.tru.logic with
  | some l => if runs l.block then { d with tru := { d.tru with stops := d.tru.stops ++ [(6, false)] } } else d
  | none => d

/-- A live activation begins, with UPDATE_START (R542 to R544, R492). -/
def Dev.liveBegin (d : Dev) (q : HostReq) (bank idx : Nat) : Dev :=
  let d1 : Dev := { d with boot := { d.boot with live := some { kind := idx, bank := bank, owner := some { req := q, res := 0, since := d.ctl.cycle } } } }
  let d2 := (d1.updateStops idx).emit (evM srcMgc eUPDATE_START (leBytes 1 idx ++ leBytes 1 bank ++ leBytes 1 0))
  match idx with
  | 0 => { d2 with host := { d2.host with mgtRestart := true } }
  | 1 => d2.krnNext
  | _ => { d2 with si := { d2.si.reset with held := true, restarting := true } }

/-- IMAGE_ACTIVATE takes effect. -/
def Dev.activateEffect (d : Dev) (q : HostReq) : Dev × CmdRes :=
  let t := imageTarget q
  let w := fieldLE q.pay 0 1
  if w = 1 && !d.boot.recovery then (d.liveBegin q t.1 t.2, { later := true })
  else
    d.withFlash (fun (d : Dev) =>
      let d1 : Dev := { d with flash := manifestActivate d.flash t.1 (d.boot.rival t.1) }
      if w = 1 then
        let d2 := d1.afterReset 4
        Dev.done { d2 with boot := { d2.boot with into := some t.1 } }
      else d1.done)

/-- SAF_ACTIVATE is checked but for its authority (R490, R492, R542). -/
def Dev.safCheck (d : Dev) (q : HostReq) : CmdRes :=
  let t := imageTarget q
  let w := fieldLE q.pay 0 1
  let c := if w = 1 then d.liveConds t.1 3 else if manifestValid (manifestBytes d.flash t.1) then 0 else 0x020D
  .st (firstFail [(0x0104, fieldLE q.pay 1 7 ≠ 0), (0x0102, t.2 ≠ 3), (0x0108, 1 < w), (0x020C, !d.si.safeState), (c, c ≠ 0)])

/-- SAF_ACTIVATE takes effect. -/
def Dev.safEffect (d : Dev) (q : HostReq) : Dev × CmdRes :=
  let t := imageTarget q
  if fieldLE q.pay 0 1 = 1 then (d.liveBegin q t.1 3, { later := true })
  else d.withFlash (fun (d : Dev) => Dev.done { d with flash := manifestActivate d.flash t.1 (d.boot.rival t.1) })

/-- IMAGE_STATUS (R550). -/
def Dev.imageStatusEffect (d : Dev) (_ : HostReq) : Dev × CmdRes := (d, .data (d.seen.boot.status d.seen.flash d.ctl.published))

end Sys2Proof.Machine
end

