-- ==== Sys2Proof/Machine/Commands.lean ====
section
/-! DEFINITION. How a host command runs (R26 to R31, R374 to R392, R400 to R404, R558): the checks of admission, staging and batches, what a command does when it
takes effect, and its completion; the fetch and the admission of commands; and one row for each opcode. -/

namespace Sys2Proof.Machine

open Sys2Proof

/-! ## What each opcode checks and does -/

/-- The checks of an opcode's own row: reserved fields, parameters, state, resources. -/
def Dev.chkOf (d : Dev) (q : HostReq) : CmdRes :=
  match q.op with
  | 0x0001 | 0x1001 | 0x3001 | 0x4001 | 0x5001 => d.setCheck q
  | 0x0004 => d.ownerCheck q
  | 0x0005 => d.abortCheck q
  | 0x0006 => d.resizeCheck q
  | 0x0007 => d.streamCheck q
  | 0x0009 => d.countersCheck q
  | 0x0020 => d.openCheck q
  | 0x0021 => d.writeCheck q
  | 0x0022 => d.closeCheck q
  | 0x1010 => d.addCheck q
  | 0x1011 => d.removeCheck q
  | 0x1012 => d.enableCheck q
  | 0x1013 => d.disableCheck q
  | 0x1014 => d.clearCheck q
  | 0x1020 => d.tableCheck q
  | 0x1030 => d.bindCheck q
  | 0x1050 => d.setPosCheck q
  | 0x2001 => d.modeCheck q
  | 0x2100 => d.estopCheck q
  | 0x2200 => d.processCheck q
  | 0x3010 => d.orrConfCheck q
  | 0x3011 => d.orrRemCheck q
  | 0x3012 => d.orrSpeedCheck q
  | 0x3013 => d.orrStopCheck q
  | 0x3020 => d.camLoadCheck q
  | 0x3021 => d.camDelCheck q
  | 0x3030 => d.regRemCheck q
  | 0x4010 => d.mapLoadCheck q
  | 0x4011 => d.patchCheck q
  | 0x4012 => d.ringCheck q
  | 0x4030 => d.mailboxCheck q
  | 0x5010 => d.timeSetCheck q
  | 0x5021 => d.captureCheck q
  | 0x6001 => d.chrConfCheck q
  | 0x6002 => d.armCheck q
  | 0x6004 => d.forceCheck q
  | 0x6005 => d.chrReadCheck q
  | 0x7001 => d.logReadCheck q
  | 0x7003 => d.markCheck q
  | 0x8002 => d.safeResetCheck q
  | 0x8011 => d.siConfCheck q
  | 0x9001 => d.stCheck q
  | 0x9003 => d.schedChk q
  | 0x9004 => d.repairCheck q
  | 0xA001 => d.imgOpenCheck q
  | 0xA002 => d.imgWriteCheck q
  | 0xA003 => d.imgVerifyCheck q
  | 0xA004 => d.activateCheck q
  | 0xA010 => d.safCheck q
  | _ => {}

/-- What an opcode does when it takes effect. -/
def Dev.effOf (d : Dev) (q : HostReq) : Dev × CmdRes :=
  match q.op with
  | 0x0001 | 0x1001 | 0x3001 | 0x4001 | 0x5001 => d.setEffect q
  | 0x0002 | 0x1002 | 0x3002 | 0x4002 | 0x5002 => (d, d.getParams q)
  | 0x0003 => d.infoEffect q
  | 0x0004 => d.ownerEffect q
  | 0x0005 => d.abortEffect q
  | 0x0006 => d.resizeEffect q
  | 0x0007 => d.streamEffect q
  | 0x0008 => d.streamEnd q
  | 0x0009 => d.countersEffect q
  | 0x0010 => d.ask Snap.paceStatus
  | 0x0020 => d.openEffect q
  | 0x0021 => d.writeEffect q
  | 0x0022 => d.closeEffect q
  | 0x1010 => d.addEffect q
  | 0x1011 => d.removeEffect q
  | 0x1012 => d.enableEffect q
  | 0x1013 => d.disableEffect q
  | 0x1014 => d.clearEffect q
  | 0x1020 => d.tableEffect q
  | 0x1030 => d.bindEffect q
  | 0x1040 => d.askOf (d.seen.axisStatus q.h.index)
  | 0x1041 => d.askOf (d.seen.stepStatus q.h.index)
  | 0x1050 => d.setPosEffect q
  | 0x2001 => d.modeEffect q
  | 0x2100 => d.estopEffect q
  | 0x2200 => d.processEffect q
  | 0x3010 => d.orrConfEffect q
  | 0x3011 => d.orrRemEffect q
  | 0x3012 => d.orrSpeedEffect q
  | 0x3013 => d.orrStopEffect q
  | 0x3020 => d.camLoadEffect q
  | 0x3021 => d.camDelEffect q
  | 0x3030 => d.regRemEffect q
  | 0x4010 => d.mapLoadEffect q
  | 0x4011 => d.patchEffect q
  | 0x4012 => d.ringEffect q
  | 0x4020 => d.ask (fun v => v.segStatus q.h.index)
  | 0x4021 => d.ask (fun v => v.collimation q.h.index)
  | 0x4030 => d.mailboxEffect q
  | 0x5010 => d.timeSetEffect q
  | 0x5020 => d.ask Snap.timeStatus
  | 0x5021 => d.captureEffect q
  | 0x5022 => d.ask (fun v => v.ioStatus q.h.kind q.h.index)
  | 0x6001 => d.chrConfEffect q
  | 0x6002 => d.armEffect q
  | 0x6003 => d.disarmEffect q
  | 0x6004 => d.forceEffect q
  | 0x6005 => d.chrReadEffect q
  | 0x6006 => (d, .data (d.seen.chr.status d.ctl.published))
  | 0x7001 => d.logReadEffect q
  | 0x7002 => (d, .data (d.seen.log.status d.ctl.published d.seen.boot.opsec d.seen.boot.pwr))
  | 0x7003 => d.markEffect q
  | 0x7010 => d.logChallenge q
  | 0x7011 => d.clearLog q
  | 0x8001 => d.safeStatusEffect q
  | 0x8002 => d.safeResetEffect q
  | 0x8010 => d.safeChallenge q
  | 0x8011 => d.siConfEffect q
  | 0x9001 => d.stEffect q
  | 0x9002 => d.stStatusEffect q
  | 0x9003 => d.schedEffect q
  | 0x9004 => d.repairEffect q
  | 0xA001 => d.imgOpenEffect q
  | 0xA002 => d.imgWriteEffect q
  | 0xA003 => d.imgVerifyEffect q
  | 0xA004 => d.activateEffect q
  | 0xA005 => d.imageStatusEffect q
  | 0xA010 => d.safEffect q
  | _ => (d, .st 0x0101)

/-! ## The checks of admission (R28, R30, R390, R400, R401, R403) -/

/-- EFFECTIVE of an immediate command (R30). -/
abbrev immediate : Nat := 0xFFFFFFFFFFFFFFFF

/-- EFFECTIVE is one that the opcode accepts (R400). -/
def effOk (e : Eff) (eff : Nat) : Bool :=
  match e with
  | .m => eff ≠ immediate
  | .zero => eff = 0
  | .i | .q => eff = immediate

/-- The opcode is immediate. -/
def immediateOp (e : Eff) : Bool := e = .i || e = .q

/-- What a device in the standby role accepts (R390): ownership, queue set-up, queries, Chronograph commands and Logbook reads. -/
def standbyTakes (o : OpDesc) : Bool := o.eff = .q || o.code = 0x0004 || o.code = 0x0006 || o.code / 4096 = 6 || o.code = 0x7001

/-- What RECOVERY accepts (R539): image commands and GET_INFO, on pair 0. -/
def recoveryTakes (o : OpDesc) (pair : Nat) : Bool := (o.code = 0x0003 || o.code / 4096 = 10) && pair = 0

/-- The role or boot state of the device keeps a command out: its status, 0 when none does. -/
def Dev.roleCheck (d : Dev) (o : OpDesc) (pair : Nat) : Nat :=
  if d.host.recovery && !recoveryTakes o pair then 0x020D else if d.ring.role = 5 && !standbyTakes o then 0x0215 else 0

/-- The parameters of the header (R401, R400, R30, R28, R409), 0 when they are right; `c` is the opcode's own check. -/
def Dev.headParams (d : Dev) (o : OpDesc) (q : HostReq) (c : Nat) : Nat :=
  if c = 0x0104 then c
  else if !o.kinds.contains q.h.kind || !targetOk q.h.kind q.h.index then 0x0102
  else if !effOk o.eff q.h.effective || (!immediateOp o.eff && d.ctl.cycle + 16777216 < q.h.effective) then 0x0105
  else if immediateOp o.eff && q.h.batch ≠ 0 then 0x010B
  else if consumes q.op && d.host.handleNamed (handleOf q) then 0x010D
  else if stRank c = 1 then c else 0

/-- What admission finds in a command: the device after the authority check, which takes a nonce with it (R403, R462), and the answer. `late` is the status of what keeps the
command from its Meridian, `room` that of what it finds no room for. -/
def Dev.admits (d : Dev) (q : HostReq) (late room : Nat) : Dev × CmdRes :=
  match opDesc q.op with
  | none => (d, .st 0x0101)
  | some o =>
    if !plenOk q.op q.pay then (d, .st 0x0103)
    else
      let c := d.chkOf q
      let p := d.headParams o q c.status
      if p ≠ 0 then (d, if p = c.status then c else .st p)
      else
        let a := d.authCheck q
        let d := d.authTaken q a
        let r := d.roleCheck o q.h.pair
        if a ≠ 0 then (d, .st a)
        else if r ≠ 0 then (d, .st r)
        else if late ≠ 0 then (d, .st late)
        else if stRank c.status = 3 then (d, c)
        else if room ≠ 0 then (d, .st room)
        else (d, c)

/-! ## A command takes effect -/

/-- The last command of a servo axis and its batch (Table 1.7). -/
def Axis.lastOf (ax : Axis) (n batch : Nat) : Axis := { ax with lastCmd := n, lastBatch := batch }

/-- The last command of a stepper axis and its batch. -/
def Stepper.lastOf (s : Stepper) (n batch : Nat) : Stepper := { s with lastCmd := n, lastBatch := batch }

/-- The last command of an axis or Orrery and its batch (Tables 1.7, 4.4): an emergency stop is the last command of every axis that it covers. -/
def Dev.lastCommand (d : Dev) (q : HostReq) : Dev :=
  let n := d.ctl.cycle
  let b := q.h.batch
  let covered (seg : Option Nat) : Dev :=
    { d with motion := { d.motion with axes := Tab.mapAll d.motion.axes (fun a ax => if d.stopCovers seg 0 a then ax.lastOf n b else ax),
                                       steppers := Tab.mapAll d.motion.steppers (fun a s => if d.stopCovers seg 1 a then s.lastOf n b else s) } }
  match q.h.kind with
  | 1 => d.onAxis q.h.index (fun ax => ax.lastOf n b)
  | 2 => d.onStepper q.h.index (fun s => s.lastOf n b)
  | 3 => if Tab.has d.motion.orrs q.h.index then d.onOrr q.h.index (fun o => { o with lastCmd := n, lastBatch := b }) else d
  | 5 => if q.op = 0x2100 then covered (some q.h.index) else d
  | 0 => if q.op = 0x2100 then covered none else d
  | _ => d

/-- The operation that a command leaves open goes on by itself: a mailbox request is sent (R287), and a ring start that is over at once is answered (R418). -/
def Dev.goesOn (d : Dev) (q : HostReq) : Dev :=
  if q.op = 0x4030 then d.mailStart (q.h.index / 96) else if q.op = 0x4012 then d.ringReplies else d

/-- The answer `r` of a command that has taken effect: its reply, or an operation that owes one (R380). -/
def Dev.finish (d : Dev) (q : HostReq) (res : Nat) (r : CmdRes) (hold : Nat) : Dev :=
  if r.later then
    let h : Hif := { d.host with openOps := d.host.openOps ++ [{ req := q, res := res, since := d.ctl.cycle }] }
    Dev.goesOn { d with host := h.releaseHandle q true } q
  else d.reply q res r d.ctl.cycle hold

/-- A homing run of the target that a MODE command replaces is over (R380). -/
def Dev.homeReplaced (d : Dev) (q : HostReq) : Dev :=
  if q.op = 0x2001 then d.opsEnd (fun x => isHome x && x.h.kind = q.h.kind && x.h.index = q.h.index) { status := 0x0501 } d.ctl.cycle else d

/-- A command takes effect with its reply; `hold` is the Plate that the reply waits for (R32). -/
def Dev.takes (d : Dev) (q : HostReq) (res hold : Nat) : Dev :=
  let r := (d.homeEnds 0x0501).effOf q
  let m := match opDesc q.op with | some o => !immediateOp o.eff | none => false
  let d1 := if r.2.status = 0 then (if m then (r.1.homeReplaced q).lastCommand q else r.1).homeEnds 0x0501 else r.1
  d1.finish q res r.2 hold

/-! ## Batches at their Meridian (R26, R27, R403) -/

/-- One member of a batch: it takes effect, or its check fails. -/
def Dev.member (hold : Nat) (x : Dev × List (Staged × CmdRes)) (s : Staged) : Dev × List (Staged × CmdRes) :=
  let c := x.1.chkOf s.req
  if c.status = 0 then (x.1.takes s.req s.res hold, x.2) else (x.1, x.2 ++ [(s, c)])

/-- The withdrawal of a batch: a member that failed returns its own status, every other 0x0502. -/
def Dev.batchFails (d : Dev) (ss : List Staged) (bad : List (Staged × CmdRes)) : Dev :=
  ss.foldl (fun d s => match bad.find? (fun x => x.1 = s) with
    | some x => d.reply s.req s.res x.2 d.ctl.cycle 0
    | none => d.reject s.req s.res 0x0502) d.batchCount

/-- A closed batch takes effect together or not at all; answers whether it did. -/
def Dev.takeBatch (d : Dev) (hold : Nat) (ss : List Staged) : Dev × Bool :=
  let r := ss.foldl (Dev.member hold) (d, [])
  if r.2.isEmpty then (r.1, true) else (d.batchFails ss r.2, false)

/-- A staged command at its Meridian is checked again and takes effect, or is withdrawn (R403); answers whether it took effect. -/
def Dev.takeOne (d : Dev) (hold : Nat) (s : Staged) : Dev × Bool :=
  let c := d.chkOf s.req
  if c.status = 0 then (d.takes s.req s.res hold, true) else (d.reply s.req s.res c d.ctl.cycle 0, false)

/-- What took effect at the Meridian is counted in its Plate (Table 1.6) and in the twin stream (R326), and the Chronograph sees it (R432). -/
def Dev.counted (d : Dev) (ss : List Staged) (batch : Bool) : Dev :=
  let haps : List ChrHap := if d.chr.state = 0 then [] else ss.map (fun s => { kind := 4, a := s.req.op, b := 16777216 * s.req.h.kind + s.req.h.index, instant := d.tu.rc, cycle := d.ctl.cycle })
  { d with ctl := { d.ctl with commands := addSat 16 d.ctl.commands ss.length, batches := if batch then incSat 16 d.ctl.batches else d.ctl.batches },
           chr := { d.chr with haps := d.chr.haps ++ haps } }

/-- One group of staged commands at their Meridian: a batch, or a command by itself. -/
def Dev.takeGroup (d : Dev) (hold : Nat) (ss : List Staged) : Dev :=
  match ss with
  | [] => d
  | s :: _ =>
    if s.req.h.batch = 0 then let r := d.takeOne hold s; if r.2 then r.1.counted ss false else r.1
    else let r := d.takeBatch hold ss; if r.2 then r.1.counted ss true else r.1

/-- Two staged commands next to each other belong to one batch. -/
def sameBatch (a b : Staged) : Bool := b.member a.req.h.batch a.req.h.effective a.meridian

/-! ## The Meridian of an admitted command -/

/-- The optional domain that a command needs (R558): 0 PD_PLANT, 1 PD_SEGB, 2 PD_STEP, 3 PD_TRACE. -/
def Dev.needs (d : Dev) (q : HostReq) : Option Nat :=
  let high (m : FrameMap) : Bool := [4, 5, 6, 7].any m.configured
  match q.op with
  | 0x5001 => if q.h.kind = 13 then some 0 else none
  | 0x4012 =>
    if q.h.kind = 0 then (if high d.ring.map || (match d.ring.mapPending with | some m => high m | none => false) then some 1 else none)
    else if 4 ≤ q.h.index then some 1 else none
  | 0x1010 => if q.h.kind = 2 then some 2 else none
  | 0x6001 => some 3
  | _ => none

/-- The domain is on. -/
def Power.isOn (p : Power) : Nat → Bool
  | 0 => p.plant | 1 => p.segb | 2 => p.step | _ => p.trace

/-- The domain is switched on. -/
def Power.switchOn (p : Power) : Nat → Power
  | 0 => { p with plant := true }
  | 1 => { p with segb := true }
  | 2 => { p with step := true }
  | _ => { p with trace := true }

/-- A command that is admitted switches the domain on that it needs (R558). -/
def Dev.domainOn (d : Dev) (q : HostReq) : Dev :=
  match d.needs q with
  | some k => { d with power := d.power.switchOn k }
  | none => d

/-- The command needs a domain that is off. -/
def Dev.domainOff? (d : Dev) (q : HostReq) : Bool :=
  match d.needs q with
  | some k => !d.power.isOn k
  | none => false

/-- The first Meridian whose gate closes at least 200 µs from now (R558). -/
def Dev.domainMeridian (d : Dev) : Nat :=
  let gone := if d.ctl.first then 0 else d.tu.rcNs - d.mer d.ctl.cycle
  d.ctl.cycle + ceilDiv (200000 + gateLead + gone) (max 1 d.tcyc)

/-- The first Meridian that EFFECTIVE 0 can name for the command, but for the room in the twin stream. -/
def Dev.soonest (d : Dev) (q : HostReq) : Nat := if d.domainOff? q then max d.openMeridian d.domainMeridian else d.openMeridian

/-- Bytes of a command's record in a TWIN frame (Table 10.6): its header and its payload behind four bytes. -/
def twinRecLen (q : HostReq) : Nat := 36 + q.pay.length

/-- Bytes of the records staged for Meridian `m`. -/
def Dev.twinLoad (d : Dev) (m : Nat) : Nat :=
  ((d.host.staged.filter (fun s => s.req.op ≠ 0x2100 && (s.meridian = m || (s.meridian = 0 && s.req.h.effective = m)))).map (fun s => twinRecLen s.req)).sum

/-- The commands fit the TWIN frame of Meridian `m` beside its 28 bytes of fields and the 392 kept for the stop summary (R326). -/
def Dev.twinFits (d : Dev) (m n : Nat) : Bool := !d.ring.standbyPresent || decide (d.twinLoad m + n + 28 + 392 ≤ d.twinCap)

/-- The first Meridian from `m` on whose TWIN frame has room (R326). -/
def Dev.twinMeridian (d : Dev) (n : Nat) : Nat → Nat → Nat
  | 0, m => m
  | k + 1, m => if d.twinFits m n then m else Dev.twinMeridian d n k (m + 1)

/-- The status that a named Meridian gives a command (R28, R558): its gate has closed, or closes before a domain can be on. -/
def Dev.gateCheck (d : Dev) (q : HostReq) : Nat :=
  let e := q.h.effective
  if e = 0 || e = immediate then 0
  else if e < d.openMeridian then 0x0205 else if d.domainOff? q && e < d.domainMeridian then 0x020D else 0

/-- The room that a command finds: in command staging (R392) and in the twin stream (R326). `used` are the bytes of staging with this command among them. -/
def Dev.roomCheck (d : Dev) (q : HostReq) (used : Nat) : Nat :=
  let n := twinRecLen q
  if immediateOp (match opDesc q.op with | some o => o.eff | none => .i) then 0
  else if 2097152 < used then 0x0303
  else if d.ring.standbyPresent && d.twinCap < n + 28 + 392 then 0x0304
  else if q.h.effective ≠ 0 && !d.twinFits q.h.effective n then 0x0304 else 0

/-! ## Admission (R26 to R29, R375, R403) -/

/-- The device runs cycles, so that a command of kind M waits for a Meridian; without them it takes effect when it is admitted (log 12). -/
def Dev.waits (d : Dev) (eff : Nat) : Bool := d.ctl.running || eff ≠ 0

/-- An admitted command of kind M: it waits in staging for its Meridian, or takes effect now. -/
def Dev.stageOne (d : Dev) (q : HostReq) (res : Nat) : Dev :=
  let m := if q.h.effective = 0 then d.twinMeridian (twinRecLen q) (d.host.staged.length + 1) (d.soonest q) else q.h.effective
  let w := d.waits q.h.effective
  let d := d.domainOn q
  if w then { d with host := { d.host with staged := d.host.staged ++ [{ req := q, meridian := m, res := res }] } }
  else d.takes q res 0

/-- The members of an open batch in the order of their admission. -/
def Dev.openMembers (d : Dev) (id eff : Nat) : List Staged := d.host.staged.filter (fun s => s.member id eff 0)

/-- A batch closes (R26, R31): its members take the place of the closing one, or take effect now when no cycle runs. -/
def Dev.closeBatch (d : Dev) (q : HostReq) (m0 : Nat) : Dev :=
  let id := q.h.batch
  let eff := q.h.effective
  let ss := d.openMembers id eff
  let rest := d.host.staged.filter (fun s => !s.member id eff 0)
  let n := (ss.map (fun s => twinRecLen s.req)).sum
  let m := if eff = 0 then d.twinMeridian n (d.host.staged.length + 1) m0 else eff
  let d1 := Dev.dropBatch { d with host := { d.host with staged := rest } } id eff
  if d1.waits eff then { d1 with host := { d1.host with staged := rest ++ ss.map (fun s => { s with meridian := m }) } }
  else (d1.takeBatch 0 ss).1

/-- The open batch counts one more member. -/
def Dev.batchGrows (d : Dev) (q : HostReq) : Dev :=
  let id := q.h.batch
  let eff := q.h.effective
  match d.host.batch? id eff with
  | some _ => { d with host := { d.host with batches := d.host.batches.map (fun b => if b.id = id && b.effective = eff then { b with count := b.count + 1 } else b) } }
  | none => { d with host := { d.host with batches := d.host.batches ++ [{ id := id, pair := q.h.pair, effective := eff, count := 1 }] } }

/-- The limits of R29 for one more member. -/
def Dev.batchLimit (d : Dev) (q : HostReq) : Bool :=
  match d.host.batch? q.h.batch q.h.effective with
  | some b => decide (256 ≤ b.count)
  | none => decide (64 ≤ (d.host.batches.filter (fun b => !b.failed)).length)

/-- A member of a batch at its admission (R26 to R29); `c` is what its own checks found. -/
def Dev.admitMember (d : Dev) (q : HostReq) (res : Nat) (c : CmdRes) : Dev :=
  let id := q.h.batch
  let eff := q.h.effective
  let close := bit q.h.flags 0
  let drop (d : Dev) : Dev := if close then d.dropBatch id eff else d
  if c.status ≠ 0 then drop ((d.reply q res c d.ctl.cycle 0).failBatch id eff q.h.pair)
  else if (match d.host.batch? id eff with | some b => b.failed | none => false) then drop (d.reject q res 0x0502)
  else if d.batchLimit q then drop ((d.reject q res 0x0305).failBatch id eff q.h.pair)
  else
    let m := d.soonest q
    let d := (d.batchGrows q).domainOn q
    let d := { d with host := { d.host with staged := d.host.staged ++ [{ req := q, meridian := 0, res := res }] } }
    if close then d.closeBatch q m else d

/-- The oldest fetched command is admitted or rejected (R375, R403); a restarting management plane admits none (R388). A command with EFFECTIVE all-ones is no member of a batch,
whatever its opcode (R30); any other with a BATCH is one, and its rejection fails the batch (R27). -/
def Dev.admission (d : Dev) : Dev :=
  match d.host.fetched with
  | [] => d
  | f :: fs =>
    if d.host.mgtRestart then d
    else
      let q := f.req
      let used := d.host.stagingUsed
      let d := { d with host := { d.host with fetched := fs } }
      let imm := match opDesc q.op with | some o => immediateOp o.eff | none => true
      let r := d.admits q (d.gateCheck q) (d.roomCheck q used)
      if q.h.effective ≠ immediate && q.h.batch ≠ 0 then r.1.admitMember q f.res r.2
      else if r.2.status ≠ 0 then r.1.reply q f.res r.2 d.ctl.cycle 0
      else if imm then r.1.takes q f.res 0
      else r.1.stageOne q f.res

/-- COMMAND_ADMISSION. -/
def execCommandAdmission (s : State) : Host.Outcome State Fault Refusal := s.act Dev.admission

/-! ## Fetch (R66, R374 to R378, R388) -/

/-- An emergency stop that the HIU admits by itself (R66). -/
def Dev.admitStop (d : Dev) (q : HostReq) : Dev :=
  let c := if !plenOk q.op q.pay then CmdRes.st 0x0103 else if !([0, 1, 2, 5].contains q.h.kind && targetOk q.h.kind q.h.index) then .st 0x0102 else d.estopCheck q
  let r := match opDesc q.op with | some o => d.roleCheck o q.h.pair | none => 0
  if c.status ≠ 0 then d.reply q 0 c d.ctl.cycle 0
  else if r ≠ 0 then d.reject q 0 r
  else if d.ctl.running then { d with host := { d.host with staged := d.host.staged ++ [{ req := q, meridian := d.openMeridian, res := 0 }] } }
  else d.takes q 0 0

/-- A member that the HIU rejects at fetch makes its batch fail (R27); a command that is not the owner's is no member. -/
def Dev.rejectedMember (d : Dev) (q : HostReq) (st : Nat) : Dev :=
  if q.h.batch = 0 || q.h.effective = immediate || st = 0x0401 || q.op = 0x2100 then d else d.failBatch q.h.batch q.h.effective q.h.pair

/-- The HIU fetches the command at the head of a pair, whose slots hold `bytes`. -/
def Dev.fetch (d : Dev) (pair : Nat) (bytes : List Byte) : Dev :=
  let r := d.host.fetch pair bytes
  let d := { d with host := r.1 }
  match r.2 with
  | .none => d
  | .reply q res st dup => (d.reply q res (.st st) d.ctl.cycle 0 dup).rejectedMember q st
  | .estop q => d.admitStop q
  | .pass _ _ => d

/-- COMMAND_FETCH. -/
def execCommandFetch (pair : Nat) (bytes : List Byte) (s : State) : Host.Outcome State Fault Refusal := s.act (fun d => d.hiu (fun d => d.fetch pair bytes))

/-! ## One row for each opcode

A row of the Command Reference stands for its command as it takes effect: it is fetched and admitted and acts in the cycle in progress, with every check of R377, R383 and R403 but those
of TAG, of reply slots and of the Meridian's gate (log 12). -/

/-- The command joins those of its pair that await their replies, with its reservation (R378). -/
def Dev.joins (d : Dev) (q : HostReq) : Dev :=
  { d with host := d.host.onPair q.h.pair (fun p => { p with reserved := p.reserved + reserveOf q, awaiting := p.awaiting ++ [{ tag := q.h.tag, op := q.op, batch := q.h.batch }] }) }

/-- The header as R377 checks it. -/
def Dev.headOf (d : Dev) (q : HostReq) : Nat :=
  if 4064 < q.pay.length then 0x0103 else if 16 ≤ q.h.flags then 0x0104 else d.host.authority q

/-- The Plate that the reply of a command whose row is given waits for (R32): that of the cycle in progress, for a command of kind M. -/
def Dev.rowHold (d : Dev) (q : HostReq) : Nat :=
  match opDesc q.op with
  | some o => if immediateOp o.eff || !d.ctl.running || d.ctl.first then 0 else d.ctl.cycle
  | none => 0

/-- A command whose row is given runs: rejected, or with its effect. -/
def Dev.runs (d : Dev) (q : HostReq) : Dev :=
  let st := d.headOf q
  let d := d.joins q
  if st ≠ 0 then d.reject q (reserveOf q) st
  else
    let r := d.admits q 0 0
    if r.2.status ≠ 0 then r.1.reply q (reserveOf q) r.2 d.ctl.cycle 0
    else
      let d1 := (r.1.domainOn q).takes q (reserveOf q) (d.rowHold q)
      if q.op = 0x5010 then d1.makeSteps else d1

/-- A host command's row. -/
def State.runs (s : State) (op : Nat) (h : CmdHead) (pay : List Byte) : Host.Outcome State Fault Refusal := s.act (fun d => d.runs { op := op, h := h, pay := pay })

end Sys2Proof.Machine
end

