-- ==== Sys2Proof/Machine/CommandRows.lean ====
section
/-! DEFINITION. The rows of the Command Reference (chapter 13): each opcode's command as it takes effect. What an opcode checks is its line in `Dev.chkOf`, what it does its
line in `Dev.effOf`. -/

namespace Sys2Proof.Machine

open Sys2Proof

/-- MGMT_SET_PARAMS, opcode 0x0001 (R407). -/
def execMgmtSetParams (h : CmdHead) (pay : List Byte) (s : State) : Host.Outcome State Fault Refusal := s.runs 0x0001 h pay

/-- MGMT_GET_PARAMS, opcode 0x0002 (R408). -/
def execMgmtGetParams (h : CmdHead) (pay : List Byte) (s : State) : Host.Outcome State Fault Refusal := s.runs 0x0002 h pay

/-- GET_INFO, opcode 0x0003 (R410). -/
def execGetInfo (h : CmdHead) (pay : List Byte) (s : State) : Host.Outcome State Fault Refusal := s.runs 0x0003 h pay

/-- SET_OWNERSHIP, opcode 0x0004 (R370). -/
def execSetOwnership (h : CmdHead) (pay : List Byte) (s : State) : Host.Outcome State Fault Refusal := s.runs 0x0004 h pay

/-- ABORT, opcode 0x0005 (R391). -/
def execAbort (h : CmdHead) (pay : List Byte) (s : State) : Host.Outcome State Fault Refusal := s.runs 0x0005 h pay

/-- QUEUE_RESIZE, opcode 0x0006 (R385). -/
def execQueueResize (h : CmdHead) (pay : List Byte) (s : State) : Host.Outcome State Fault Refusal := s.runs 0x0006 h pay

/-- STREAM_START, opcode 0x0007 (R397). -/
def execStreamStart (h : CmdHead) (pay : List Byte) (s : State) : Host.Outcome State Fault Refusal := s.runs 0x0007 h pay

/-- STREAM_STOP, opcode 0x0008 (R397). -/
def execStreamStop (h : CmdHead) (pay : List Byte) (s : State) : Host.Outcome State Fault Refusal := s.runs 0x0008 h pay

/-- CLEAR_COUNTERS, opcode 0x0009 (R411). -/
def execClearCounters (h : CmdHead) (pay : List Byte) (s : State) : Host.Outcome State Fault Refusal := s.runs 0x0009 h pay

/-- PACE_STATUS, opcode 0x0010 (R260). -/
def execPaceStatus (h : CmdHead) (pay : List Byte) (s : State) : Host.Outcome State Fault Refusal := s.runs 0x0010 h pay

/-- BULK_OPEN, opcode 0x0020 (R409). -/
def execBulkOpen (h : CmdHead) (pay : List Byte) (s : State) : Host.Outcome State Fault Refusal := s.runs 0x0020 h pay

/-- BULK_WRITE, opcode 0x0021 (R409). -/
def execBulkWrite (h : CmdHead) (pay : List Byte) (s : State) : Host.Outcome State Fault Refusal := s.runs 0x0021 h pay

/-- BULK_CLOSE, opcode 0x0022 (R409). -/
def execBulkClose (h : CmdHead) (pay : List Byte) (s : State) : Host.Outcome State Fault Refusal := s.runs 0x0022 h pay

/-- AXIS_SET_PARAMS, opcode 0x1001 (R407). -/
def execAxisSetParams (h : CmdHead) (pay : List Byte) (s : State) : Host.Outcome State Fault Refusal := s.runs 0x1001 h pay

/-- AXIS_GET_PARAMS, opcode 0x1002 (R408). -/
def execAxisGetParams (h : CmdHead) (pay : List Byte) (s : State) : Host.Outcome State Fault Refusal := s.runs 0x1002 h pay

/-- AXIS_ADD, opcode 0x1010 (R156). -/
def execAxisAdd (h : CmdHead) (pay : List Byte) (s : State) : Host.Outcome State Fault Refusal := s.runs 0x1010 h pay

/-- AXIS_REMOVE, opcode 0x1011 (R412). -/
def execAxisRemove (h : CmdHead) (pay : List Byte) (s : State) : Host.Outcome State Fault Refusal := s.runs 0x1011 h pay

/-- AXIS_ENABLE, opcode 0x1012 (R98). -/
def execAxisEnable (h : CmdHead) (pay : List Byte) (s : State) : Host.Outcome State Fault Refusal := s.runs 0x1012 h pay

/-- AXIS_DISABLE, opcode 0x1013 (R98). -/
def execAxisDisable (h : CmdHead) (pay : List Byte) (s : State) : Host.Outcome State Fault Refusal := s.runs 0x1013 h pay

/-- FAULT_CLEAR, opcode 0x1014 (R99). -/
def execFaultClear (h : CmdHead) (pay : List Byte) (s : State) : Host.Outcome State Fault Refusal := s.runs 0x1014 h pay

/-- TABLE_LOAD, opcode 0x1020 (R83). -/
def execTableLoad (h : CmdHead) (pay : List Byte) (s : State) : Host.Outcome State Fault Refusal := s.runs 0x1020 h pay

/-- BIND_SWITCH, opcode 0x1030 (R412). -/
def execBindSwitch (h : CmdHead) (pay : List Byte) (s : State) : Host.Outcome State Fault Refusal := s.runs 0x1030 h pay

/-- AXIS_STATUS, opcode 0x1040 (R412). -/
def execAxisStatus (h : CmdHead) (pay : List Byte) (s : State) : Host.Outcome State Fault Refusal := s.runs 0x1040 h pay

/-- STEP_STATUS, opcode 0x1041 (R412). -/
def execStepStatus (h : CmdHead) (pay : List Byte) (s : State) : Host.Outcome State Fault Refusal := s.runs 0x1041 h pay

/-- SET_POSITION, opcode 0x1050 (R195). -/
def execSetPosition (h : CmdHead) (pay : List Byte) (s : State) : Host.Outcome State Fault Refusal := s.runs 0x1050 h pay

/-- MODE, opcode 0x2001 (R164). -/
def execMode (h : CmdHead) (pay : List Byte) (s : State) : Host.Outcome State Fault Refusal := s.runs 0x2001 h pay

/-- ESTOP, opcode 0x2100 (R415). -/
def execEstop (h : CmdHead) (pay : List Byte) (s : State) : Host.Outcome State Fault Refusal := s.runs 0x2100 h pay

/-- PROCESS_WRITE, opcode 0x2200 (R291). -/
def execProcessWrite (h : CmdHead) (pay : List Byte) (s : State) : Host.Outcome State Fault Refusal := s.runs 0x2200 h pay

/-- ORRERY_SET_PARAMS, opcode 0x3001 (R407). -/
def execOrrerySetParams (h : CmdHead) (pay : List Byte) (s : State) : Host.Outcome State Fault Refusal := s.runs 0x3001 h pay

/-- ORRERY_GET_PARAMS, opcode 0x3002 (R408). -/
def execOrreryGetParams (h : CmdHead) (pay : List Byte) (s : State) : Host.Outcome State Fault Refusal := s.runs 0x3002 h pay

/-- ORR_CONFIGURE, opcode 0x3010 (R124). -/
def execOrrConfigure (h : CmdHead) (pay : List Byte) (s : State) : Host.Outcome State Fault Refusal := s.runs 0x3010 h pay

/-- ORR_REMOVE, opcode 0x3011 (R124). -/
def execOrrRemove (h : CmdHead) (pay : List Byte) (s : State) : Host.Outcome State Fault Refusal := s.runs 0x3011 h pay

/-- ORR_SPEED, opcode 0x3012 (R573). -/
def execOrrSpeed (h : CmdHead) (pay : List Byte) (s : State) : Host.Outcome State Fault Refusal := s.runs 0x3012 h pay

/-- ORR_STOP, opcode 0x3013 (R124). -/
def execOrrStop (h : CmdHead) (pay : List Byte) (s : State) : Host.Outcome State Fault Refusal := s.runs 0x3013 h pay

/-- CAM_LOAD, opcode 0x3020 (R138). -/
def execCamLoad (h : CmdHead) (pay : List Byte) (s : State) : Host.Outcome State Fault Refusal := s.runs 0x3020 h pay

/-- CAM_DELETE, opcode 0x3021 (R139). -/
def execCamDelete (h : CmdHead) (pay : List Byte) (s : State) : Host.Outcome State Fault Refusal := s.runs 0x3021 h pay

/-- REG_REMOVE, opcode 0x3030 (R416). -/
def execRegRemove (h : CmdHead) (pay : List Byte) (s : State) : Host.Outcome State Fault Refusal := s.runs 0x3030 h pay

/-- NET_SET_PARAMS, opcode 0x4001 (R407). -/
def execNetSetParams (h : CmdHead) (pay : List Byte) (s : State) : Host.Outcome State Fault Refusal := s.runs 0x4001 h pay

/-- NET_GET_PARAMS, opcode 0x4002 (R408). -/
def execNetGetParams (h : CmdHead) (pay : List Byte) (s : State) : Host.Outcome State Fault Refusal := s.runs 0x4002 h pay

/-- MAP_LOAD, opcode 0x4010 (R418). -/
def execMapLoad (h : CmdHead) (pay : List Byte) (s : State) : Host.Outcome State Fault Refusal := s.runs 0x4010 h pay

/-- MAP_PATCH, opcode 0x4011 (R289). -/
def execMapPatch (h : CmdHead) (pay : List Byte) (s : State) : Host.Outcome State Fault Refusal := s.runs 0x4011 h pay

/-- RING_START, opcode 0x4012 (R418). -/
def execRingStart (h : CmdHead) (pay : List Byte) (s : State) : Host.Outcome State Fault Refusal := s.runs 0x4012 h pay

/-- SEG_STATUS, opcode 0x4020 (R417). -/
def execSegStatus (h : CmdHead) (pay : List Byte) (s : State) : Host.Outcome State Fault Refusal := s.runs 0x4020 h pay

/-- COLLIMATION, opcode 0x4021 (R307). -/
def execCollimation (h : CmdHead) (pay : List Byte) (s : State) : Host.Outcome State Fault Refusal := s.runs 0x4021 h pay

/-- MAILBOX, opcode 0x4030 (R418). -/
def execMailbox (h : CmdHead) (pay : List Byte) (s : State) : Host.Outcome State Fault Refusal := s.runs 0x4030 h pay

/-- TIME_SET_PARAMS, opcode 0x5001 (R407). -/
def execTimeSetParams (h : CmdHead) (pay : List Byte) (s : State) : Host.Outcome State Fault Refusal := s.runs 0x5001 h pay

/-- TIME_GET_PARAMS, opcode 0x5002 (R408). -/
def execTimeGetParams (h : CmdHead) (pay : List Byte) (s : State) : Host.Outcome State Fault Refusal := s.runs 0x5002 h pay

/-- TIME_SET, opcode 0x5010 (R344). -/
def execTimeSet (h : CmdHead) (pay : List Byte) (s : State) : Host.Outcome State Fault Refusal := s.runs 0x5010 h pay

/-- TIME_STATUS, opcode 0x5020 (R358). -/
def execTimeStatus (h : CmdHead) (pay : List Byte) (s : State) : Host.Outcome State Fault Refusal := s.runs 0x5020 h pay

/-- CAPTURE_READ, opcode 0x5021 (R355). -/
def execCaptureRead (h : CmdHead) (pay : List Byte) (s : State) : Host.Outcome State Fault Refusal := s.runs 0x5021 h pay

/-- IO_STATUS, opcode 0x5022 (R419). -/
def execIoStatus (h : CmdHead) (pay : List Byte) (s : State) : Host.Outcome State Fault Refusal := s.runs 0x5022 h pay

/-- CHR_CONFIG, opcode 0x6001 (R437). -/
def execChrConfig (h : CmdHead) (pay : List Byte) (s : State) : Host.Outcome State Fault Refusal := s.runs 0x6001 h pay

/-- CHR_ARM, opcode 0x6002 (R436). -/
def execChrArm (h : CmdHead) (pay : List Byte) (s : State) : Host.Outcome State Fault Refusal := s.runs 0x6002 h pay

/-- CHR_DISARM, opcode 0x6003 (R436). -/
def execChrDisarm (h : CmdHead) (pay : List Byte) (s : State) : Host.Outcome State Fault Refusal := s.runs 0x6003 h pay

/-- CHR_FORCE, opcode 0x6004 (R436). -/
def execChrForce (h : CmdHead) (pay : List Byte) (s : State) : Host.Outcome State Fault Refusal := s.runs 0x6004 h pay

/-- CHR_READ, opcode 0x6005 (R439). -/
def execChrRead (h : CmdHead) (pay : List Byte) (s : State) : Host.Outcome State Fault Refusal := s.runs 0x6005 h pay

/-- CHR_STATUS, opcode 0x6006 (R440). -/
def execChrStatus (h : CmdHead) (pay : List Byte) (s : State) : Host.Outcome State Fault Refusal := s.runs 0x6006 h pay

/-- LOG_READ, opcode 0x7001 (R456). -/
def execLogRead (h : CmdHead) (pay : List Byte) (s : State) : Host.Outcome State Fault Refusal := s.runs 0x7001 h pay

/-- LOG_STATUS, opcode 0x7002 (R464). -/
def execLogStatus (h : CmdHead) (pay : List Byte) (s : State) : Host.Outcome State Fault Refusal := s.runs 0x7002 h pay

/-- LOG_MARK, opcode 0x7003 (R453). -/
def execLogMark (h : CmdHead) (pay : List Byte) (s : State) : Host.Outcome State Fault Refusal := s.runs 0x7003 h pay

/-- LOG_CHALLENGE, opcode 0x7010 (R462). -/
def execLogChallenge (h : CmdHead) (pay : List Byte) (s : State) : Host.Outcome State Fault Refusal := s.runs 0x7010 h pay

/-- LOG_CLEAR, opcode 0x7011 (R462). -/
def execLogClear (h : CmdHead) (pay : List Byte) (s : State) : Host.Outcome State Fault Refusal := s.runs 0x7011 h pay

/-- SAFE_STATUS, opcode 0x8001 (R495). -/
def execSafeStatus (h : CmdHead) (pay : List Byte) (s : State) : Host.Outcome State Fault Refusal := s.runs 0x8001 h pay

/-- SAFE_RESET, opcode 0x8002 (R482). -/
def execSafeReset (h : CmdHead) (pay : List Byte) (s : State) : Host.Outcome State Fault Refusal := s.runs 0x8002 h pay

/-- SAFE_CHALLENGE, opcode 0x8010 (R490). -/
def execSafeChallenge (h : CmdHead) (pay : List Byte) (s : State) : Host.Outcome State Fault Refusal := s.runs 0x8010 h pay

/-- SAFE_CONFIG, opcode 0x8011 (R491). -/
def execSafeConfig (h : CmdHead) (pay : List Byte) (s : State) : Host.Outcome State Fault Refusal := s.runs 0x8011 h pay

/-- ST_RUN, opcode 0x9001 (R517). -/
def execStRun (h : CmdHead) (pay : List Byte) (s : State) : Host.Outcome State Fault Refusal := s.runs 0x9001 h pay

/-- ST_STATUS, opcode 0x9002 (R518). -/
def execStStatus (h : CmdHead) (pay : List Byte) (s : State) : Host.Outcome State Fault Refusal := s.runs 0x9002 h pay

/-- ST_SCHEDULE, opcode 0x9003 (R516). -/
def execStSchedule (h : CmdHead) (pay : List Byte) (s : State) : Host.Outcome State Fault Refusal := s.runs 0x9003 h pay

/-- REPAIR_COMMIT, opcode 0x9004 (R511). -/
def execRepairCommit (h : CmdHead) (pay : List Byte) (s : State) : Host.Outcome State Fault Refusal := s.runs 0x9004 h pay

/-- IMAGE_OPEN, opcode 0xA001 (R540). -/
def execImageOpen (h : CmdHead) (pay : List Byte) (s : State) : Host.Outcome State Fault Refusal := s.runs 0xA001 h pay

/-- IMAGE_WRITE, opcode 0xA002 (R540). -/
def execImageWrite (h : CmdHead) (pay : List Byte) (s : State) : Host.Outcome State Fault Refusal := s.runs 0xA002 h pay

/-- IMAGE_VERIFY, opcode 0xA003 (R540). -/
def execImageVerify (h : CmdHead) (pay : List Byte) (s : State) : Host.Outcome State Fault Refusal := s.runs 0xA003 h pay

/-- IMAGE_ACTIVATE, opcode 0xA004 (R542). -/
def execImageActivate (h : CmdHead) (pay : List Byte) (s : State) : Host.Outcome State Fault Refusal := s.runs 0xA004 h pay

/-- IMAGE_STATUS, opcode 0xA005 (R550). -/
def execImageStatus (h : CmdHead) (pay : List Byte) (s : State) : Host.Outcome State Fault Refusal := s.runs 0xA005 h pay

/-- SAF_ACTIVATE, opcode 0xA010 (R492). -/
def execSafActivate (h : CmdHead) (pay : List Byte) (s : State) : Host.Outcome State Fault Refusal := s.runs 0xA010 h pay

end Sys2Proof.Machine
end

