-- ==== Sys2Proof/Machine/GatherRows.lean ====
section
/-! DEFINITION. The commands of a cycle up to the correction frame (chapter 2): the command gate closes, returned frames are gathered, the correction frame is
packed and launched. -/

namespace Sys2Proof.Machine

open Sys2Proof

/-! ## The command gate -/

/-- The gate for the next Meridian closes (R26 to R28): a batch that names that Meridian and is not closed fails. -/
def Dev.gateClose (d : Dev) : Dev :=
  if !d.ctl.running || d.ctl.gate then d
  else
    let n := d.ctl.cycle + 1
    let late := d.host.batches.filter (fun b => !b.failed && 0 < b.effective && b.effective ≤ n)
    let d := (late.foldl (fun (d : Dev) b => d.failBatch b.id b.effective b.pair) d).watchStyle
    { d with ctl := { d.ctl with gate := true } }

/-- GATE_CLOSE. -/
def execGateClose (s : State) : Host.Outcome State Fault Refusal := s.act Dev.gateClose

/-! ## Gather: servo feedback (R279, R294, R295, R576) -/

/-- The input entry of kind `kind` whose TARGET is `t`. -/
def FrameMap.inputOf (m : FrameMap) (kind t : Nat) : Option (Nat × MapEntry) := m.entries.find? (fun e => e.2.input && e.2.kind = kind && e.2.target = t)

/-- FB_OFFSET (R576): LATCH_NS as a ring count, less ARRIVE_DEV, less S_N. -/
def Dev.fbOffset (d : Dev) (e : MapEntry) (latch : Nat) : Int :=
  extend 32 (latch : Int) (d.mer d.ctl.cycle : Int) - ((d.ring.seg e.seg).node e.node).dev - d.sampleNs d.ctl.cycle

/-- The position at the encoder index (R69, R70; Table 9.7): its count extends against the sample's. -/
def Axis.indexPos (ax : Axis) (count idx : Nat) : Int :=
  let c : Int := (count : Int)
  let ext := if ax.now.k.hasCount then ax.now.k.count + wrapS 32 (c - ax.now.k.count) else wrapS 32 c
  reduceMod (ax.prm.val pMODULUS) ((ext + wrapS 32 ((idx : Int) - c)) * ax.prm.val pFB_SCALE + ax.prm.val pPOS_OFFSET)

/-- The feedback that an input slot of content `c` brings. ENC_ERR counts as missed feedback (R576). -/
def Dev.slotFeedback (d : Dev) (ax : Axis) (e : MapEntry) (st : SlotStat) : Feedback :=
  let c := st.content
  let w := fieldLE c 0 2
  let missed := st.missed || bit w 4
  let count := fieldLE c 2 4
  { count := count, offset := if missed then ax.fb.offset else d.fbOffset e (fieldLE c 6 4), fresh := !missed, missed := missed, held := st.held, fault := bit w 0,
    trqAct := fieldLES c 10 4, index := if bit w 3 && !missed then some (ax.indexPos count (fieldLE c 14 4)) else none }

/-- A servo axis takes the feedback of the cycle, with the flags of its slot, and the age and the count of missed feedback, in which a sample of R71 and one
with ENC_ERR count too (R41, R72, R295, R576; Tables 1.7, 1.8). -/
def Dev.feedServo (d : Dev) (a : Nat) (ax : Axis) : Axis :=
  let slot := (d.ring.map.inputOf 0 a).map (fun e => (e.2, Tab.getD d.ring.stats e.1 {}))
  let f := match slot with
    | some (e, st) => d.slotFeedback ax e st
    | none => { ax.fb with fresh := false, missed := true, held := false, fault := false, index := none }
  let st := match slot with | some (_, st) => st | none => { missed := true, age := 255 }
  let good := { ax with fb := f }.sampleGood
  { ax with fb := f, fbMissed := st.missed, fbHeld := st.held, fbAge := if good then 0 else if st.missed then min 255 st.age else incSat 8 ax.fbAge,
            fbMissCnt := if good then ax.fbMissCnt else incSat 32 ax.fbMissCnt }

/-! ## Gather: stepper feedback (R181, R193, R295) -/

/-- A stepper axis takes its feedback word in the cycles of its phase; missed input slots in succession count in every base cycle (Table 6.8; DESIGN CHOICE,
log 43). -/
def Dev.feedStepper (d : Dev) (a : Nat) (s : Stepper) : Stepper :=
  let st := match d.ring.map.inputOf 1 a with
    | some e => Tab.getD d.ring.stats e.1 {}
    | none => { missed := true }
  let s := if s.inPhase d.ctl.cycle then { s with fb := st.content, fbFresh := !st.missed, updated := false } else s
  if st.missed then { s with missRun := s.missRun + 1, fbMissCnt := incSat 32 s.fbMissCnt }
  else { s with missRun := 0 }.dropCond fSTEP_FB_LOST

/-! ## Gather: marks and switches (R140, R146, R147, R354) -/

/-- The edges that a register channel or a switch sees in this cycle, as instants in quarter ns and levels: those of its capture input, or the change of its
point, which takes S_N as its stamp (chapter 4): no chapter gives the format of a point that carries a time stamp, so every node point is taken as one without (DESIGN CHOICE,
log 48). `old` is the process image before this Gather. -/
def Dev.edgesOf (d : Dev) (old : Memory) (node : Bool) (src : Nat) : List (Int × Bool) :=
  if node then
    (if imageBit old src = imageBit d.image src then [] else [(4 * d.sampleNs d.ctl.cycle, imageBit d.image src)])
  else (d.tu.tcaps.getD src {}).delivered.map (fun e => (e.1, !e.2))

/-- A register channel collects the stamps of REG_EDGE edges of its source (R140). -/
def Dev.gatherReg (d : Dev) (old : Memory) (ch : RegCh) : RegCh :=
  let src := ch.prm.nat pREG_SRC
  let up := ch.prm.nat pREG_EDGE = 0
  let es := (d.edgesOf old (src / 2 ^ 24 = 2) (src % 2 ^ 23)).filter (fun e => e.2 = up)
  { ch with stamps := ch.stamps ++ es.map (fun e => e.1) }

/-- DEBOUNCE_TIME in quarter ns, rounded up to whole base cycles. -/
def Switch.debounceQ (sw : Switch) (tcyc : Nat) : Nat := 4 * sw.debounceCycles tcyc * tcyc

/-- A raw edge of a switch (R146, R147): `act` is the raw value after it. A limit switch becomes active at its first raw active edge. -/
def Switch.edge (sw : Switch) (tcyc : Nat) (limit : Bool) (q : Nat) (act : Bool) : Switch :=
  if act = sw.raw then sw
  else
    let w := sw.debounceQ tcyc
    let follows := match sw.edges.getLast? with | some l => decide (q ≤ l + w) | none => false
    let now := limit && act && !sw.active
    let es := (sw.edges ++ [q]).filter (fun l => decide (q ≤ l + w))
    { sw with raw := act, runStamp := (q : Int), runCycles := 0, chatter := if follows then incSat 16 sw.chatter else sw.chatter, edges := es, burst := max sw.burst es.length, active := sw.active || now, hit := sw.hit || now }

/-- The switch in a cycle: its run counts one more cycle, then come its edges; the chatter ends once no more than CHATTER_LIMIT edges lie in the window. -/
def Switch.gather (sw : Switch) (tcyc : Nat) (limit : Bool) (nowQ : Nat) (es : List (Int × Bool)) : Switch :=
  if sw.src.isNone then sw
  else
    let s := es.foldl (fun (s : Switch) e => s.edge tcyc limit e.1.toNat (e.2 ≠ s.invert)) { sw with runCycles := sw.runCycles + 1, burst := 0 }
    let keep := s.edges.filter (fun l => decide (nowQ ≤ l + s.debounceQ tcyc))
    { s with edges := keep, chatterCond := s.chatterCond && (decide (s.chatterLimit < keep.length) || decide (s.chatterLimit < s.burst)) }

/-- A bound switch sees the cycle's edges. -/
def Dev.gatherSwitch (d : Dev) (old : Memory) (limit : Bool) (sw : Switch) : Switch :=
  match sw.src with
  | none => sw
  | some i => sw.gather d.tcyc limit (4 * d.mer d.ctl.cycle) (d.edgesOf old sw.node (if sw.node then sw.bitAddr else i))

/-- The switches of a servo axis. Their positions are interpolated at the Seal, when both samples are known (R148). -/
def Dev.gatherAxis (d : Dev) (old : Memory) (ax : Axis) : Axis :=
  { ax with swPos := d.gatherSwitch old true ax.swPos, swNeg := d.gatherSwitch old true ax.swNeg, swHome := d.gatherSwitch old false ax.swHome }

/-- The switches of a stepper axis. Their positions are interpolated at its next update (R148, R195). -/
def Dev.gatherStepper (d : Dev) (old : Memory) (s : Stepper) : Stepper :=
  { s with swPos := d.gatherSwitch old true s.swPos, swNeg := d.gatherSwitch old true s.swNeg, swHome := d.gatherSwitch old false s.swHome }

/-! ## Gather as a whole -/

/-- PROC inputs and slot status records enter the process image (Tables 9.11, 9.12). -/
def Dev.inputImage (d : Dev) : Dev :=
  { d with image := d.ring.map.entries.foldl (fun (m : Memory) e =>
      if e.2.input then
        let st := Tab.getD d.ring.stats e.1 {}
        let m := if e.2.proc then Memory.writeList 0 m (e.2.target / 8) st.content else m
        Memory.writeList 0 m (0xF0000 + 16 * e.1) st.bytes
      else m) d.image }

/-- The input slots missed in this cycle (Table 1.6). -/
def Dev.missedSlots (d : Dev) : Nat :=
  min 65535 (d.ring.map.entries.filter (fun e => e.2.input && (Tab.getD d.ring.stats e.1 {}).missed)).length

/-- Capture stamps go to their consumers and to the Chronograph (R354, R432). -/
def Dev.gatherCaps (d : Dev) : Dev :=
  let g : Int := ((4 * (d.mer d.ctl.cycle + d.tringMax) : Nat) : Int)
  let tcs := d.tu.tcaps.map (fun c => c.deliver g)
  let haps : List ChrHap := (tcs.zipIdx.map (fun t => t.1.delivered.map (fun e =>
    ({ kind := 2, a := t.2, b := if e.2 then 1 else 0, instant := e.1 * 16384, cycle := d.ctl.cycle } : ChrHap)))).flatten
  { d with tu := { d.tu with tcaps := tcs }, chr := if d.chr.state = 0 then d.chr else { d.chr with haps := d.chr.haps ++ haps } }

/-- What the judged slots bring reaches its users: inputs, marks and switches; the Orreries advance, and register channels correct phases from this cycle's data (R104). -/
def Dev.takeInputs (d0 : Dev) : Dev :=
  let old := d0.image
  let d := d0.inputImage.gatherCaps
  let mo := d.motion
  let mo := { mo with axes := Tab.mapAll mo.axes (fun a ax => d.gatherAxis old (d.feedServo a ax))
                      steppers := Tab.mapAll mo.steppers (fun a s => d.gatherStepper old (d.feedStepper a s))
                      regs := Tab.mapAll mo.regs (fun _ ch => d.gatherReg old ch) }
  (Dev.advance { d with motion := mo, ctl := { d.ctl with gathered := true, missed := d.missedSlots } }).regChannels

/-- Gather of the cycle in progress (Table 2.3): frames that have not returned are judged, then inputs, marks and switches reach their users. -/
def Dev.gather (d : Dev) : Dev :=
  if !d.ctl.running || d.ctl.first || d.ctl.gathered then d
  else
    let d := { d with tu := d.tu.reach (d.mer d.ctl.cycle + d.tringMax + gatherNs) }
    (d.segNos.foldl Dev.returnDeadline d).takeInputs

/-- GATHER. -/
def execGather (s : State) : Host.Outcome State Fault Refusal := s.act Dev.gather

/-! ## The correction frame (R52, R61, R90 to R92, R284) -/

/-- A pass of an axis is complete in this cycle, on an engine that is not fenced (R57). -/
def Dev.passDone (d : Dev) (a pass : Nat) : Bool :=
  d.engines.any (fun g => g.role ≠ 4 && g.slots.any (fun s => s.2.axis = a && s.2.outs.any (fun o => o.pass = pass)))

/-- The correction entry of an axis that was launched with SPEC (R52, R89, R92): Δ, or the retract mark. -/
def Dev.packAxis (d : Dev) (a : Nat) (ax : Axis) : Axis :=
  if !ax.out.spec then { ax with out := { ax.out with corr := 0, retract := false } }
  else
    let cs := if d.passDone a 2 then ax.spec.retract else 7 :: ax.spec.retract
    let c := max (-2147483647) ax.out.corr
    if cs = [] then { ax with out := { ax.out with corr := c, retract := false }, applied := satS 32 (ax.spec.tau + c) }
    else { ax.onWork (fun w => { w with r := { w.r with kout := w.r.kout.set 5 0 } }) with out := { ax.out with corr := 0, retract := true }, spec := { ax.spec with retract := cs }, retractCnt := incSat 32 ax.retractCnt, retractFlag := true }

/-- The retract mark of a correction entry (R284). -/
abbrev retractMark : Int := -2147483648

/-- Packing of the correction frame begins (R52): what is complete goes in, every other entry is a retract. -/
def Dev.corrPack (d : Dev) : Dev :=
  if !d.ctl.running || d.ctl.first || !d.runAhead || !d.ctl.gathered || d.ctl.corrPacked || d.ctl.sealed then d
  else
    let d := { d with tu := d.tu.reach (d.mer d.ctl.cycle + d.tcl - corrPackNs) }
    let axes := Tab.mapAll d.motion.axes (fun a ax => d.packAxis a ax)
    { d with motion := { d.motion with axes := axes }
             ring := { d.ring with corrs := axes.map (fun e => (e.1, if e.2.out.retract then retractMark else e.2.out.corr)) }
             ctl := { d.ctl with corrPacked := true } }

/-- CORRECTION_PACK_DEADLINE. -/
def execCorrectionPackDeadline (s : State) : Host.Outcome State Fault Refusal := s.does Dev.corrPack

/-- The correction frame of a segment leaves at C_N, which its launch time names (R270, R284). A segment that carries no cycle frame carries none. -/
def Dev.corrOn (d : Dev) (seg : Nat) : Dev :=
  let s := d.ring.seg seg
  if (d.ring.map.desc seg).corrLength = 0 || s.launched = [] then d
  else d.onSeg seg (fun s => { s with corrLaunched := corrFrame d.ring seg (d.launchAt seg (d.mer d.ctl.cycle + d.tcl) d.ctl.cycle) })

/-- The correction frames launch on all segments at C_N (R52). -/
def Dev.corrLaunch (d : Dev) : Dev :=
  if !d.ctl.running || !d.ctl.corrPacked || d.ctl.corrLaunched || d.ctl.sealed then d
  else
    let d := { d with tu := d.tu.reach (d.mer d.ctl.cycle + d.tcl) }
    let d := d.segNos.foldl Dev.corrOn d
    { d with ctl := { d.ctl with corrLaunched := true } }

/-- CORRECTION_FRAME_LAUNCH. -/
def execCorrectionFrameLaunch (s : State) : Host.Outcome State Fault Refusal := s.does Dev.corrLaunch

end Sys2Proof.Machine
end

