-- ==== Sys2Proof/Machine/SealRows.lean ====
section
/-! DEFINITION. The Seal deadline (R56 to R62, R223, R230, R249 to R251, R352): what is complete commits, what is late repeats, engines are cut, and the frames for
the next Meridian are packed. -/

namespace Sys2Proof.Machine

open Sys2Proof

/-! ## Results in the slots -/

/-- The slots that compute axis `a`, as engine, slot number and slot; a fenced engine's results do not count (R57, R251). -/
def Dev.slotsOf (d : Dev) (a : Nat) : List (Nat × Nat × Slot) :=
  (d.engines.zipIdx.map (fun g => if g.1.role = 4 then [] else (g.1.slots.filter (fun s => s.2.axis = a)).map (fun s => (g.2, s.1, s.2)))).flatten

/-- The pass with which an axis is complete: SPEC for a split axis, else FULL. -/
def finalPass (split : Bool) : Nat := if split then 1 else 0

/-- The slot's result is complete. -/
def Slot.onTime (s : Slot) (pass : Nat) : Bool := s.outs.any (fun o => o.pass = pass)

/-- The slot exchanges its banks at the Seal when a pass ended with COMMIT (R230). -/
def Slot.commit (s : Slot) : Slot := if s.outs.any (fun o => o.commit) then { s with bank := !s.bank } else s

/-- A slot of an engine changed. -/
def Dev.onSlot (d : Dev) (e s : Nat) (f : Slot → Slot) : Dev := d.onEngine e (fun g => { g with slots := Tab.upd g.slots s f })

/-- A slot is freed. -/
def Dev.freeSlot (d : Dev) (e s : Nat) : Dev := d.onEngine e (fun g => { g with slots := Tab.del g.slots s })

/-- Words 0 to 17 of a slot's results and its working bank, as R250 compares them. -/
def Dev.sealWords (d : Dev) (x : Nat × Nat × Slot) : List (List Nat) × List Word :=
  (x.2.2.outs.map (fun o => o.words.take 18), wordsAt (d.engine x.1).xm (128 * x.2.1 + (if x.2.2.bank then 0 else 64)) 64)

/-- The results of an axis under kernel `k` again from the words of one slot, when it migrates and is not computed by kernel 0 (R249). -/
def Axis.rewords (ax : Axis) (a : Nat) (sl : Slot) : Axis :=
  if ax.prm.nat pKERNEL_SEL = 0 then ax
  else sl.outs.foldl (fun ax o => if o.pass = 15 then ax else (ax.doWords a o.pass o.words true).ax) { ax with cand := none }

/-- A migration that the Seal completes (R249, Table 8.3): engine `e` is freed; `used` computed the cycle. -/
def Dev.migrated (d : Dev) (a e s used : Nat) : Dev :=
  ((d.freeSlot e s).onAxis a (fun ax => { ax with engine := used })).emit (evC (srcAxis a) eAXIS_MIGRATED)

/-- Both results are complete and differ (R250): the axis stays on `e`, and both engines are to be tested. -/
def Dev.mismatched (d : Dev) (a e s f t : Nat) : Dev :=
  let d := ((d.freeSlot f t).onSlot e s (fun x => { x.commit with shadow := false })).onAxis a (fun ax => { ax with engine := e, migrating := false })
  let p := d.pace
  let p := { p with plan := { p.plan with place := Tab.set p.plan.place a (e, s) }, suspects := p.suspects ++ [e, f].filter (fun g => !p.suspects.contains g),
                    mismatchCnt := incSat 16 p.mismatchCnt, trigger := true }
  Dev.emit { d with pace := p, tru := { d.tru with wanted := d.tru.wanted ++ [e, f].filter (fun g => !d.tru.wanted.contains g) } }
    (evM srcPac eMIGRATE_MISMATCH (leBytes 2 a ++ leBytes 1 e ++ leBytes 1 f))

/-- No engine keeps a shadow of the axis, a fenced one neither (R251). -/
def Dev.freeShadows (d : Dev) (a : Nat) : Dev :=
  { d with engines := d.engines.map (fun (g : Engine) => { g with slots := g.slots.filter (fun s => !(s.2.axis = a && s.2.shadow)) }) }

/-- The banks of an axis's slots at the Seal, and the end of its migration (R230, R249 to R251); one that left no shadow behind (its old engine is fenced, or holds another
kernel) ends as well. -/
def Dev.sealSlots (d : Dev) (a : Nat) (pass : Nat) : Dev :=
  let xs := d.slotsOf a
  let old := xs.find? (fun x => x.2.2.shadow)
  let new := xs.find? (fun x => !x.2.2.shadow)
  match old, new with
  | none, none => if (d.axis a).migrating then d.freeShadows a else d
  | none, some (f, t, sl) =>
    let d := if sl.onTime pass then d.onSlot f t Slot.commit else d
    if (d.axis a).migrating then (d.freeShadows a).emit (evC (srcAxis a) eAXIS_MIGRATED) else d
  | some (e, s, sl), none =>
    let d := if sl.onTime pass then d.onSlot e s Slot.commit else d
    match Tab.find d.pace.plan.place a with
    | some (f, t) => (d.onEngine f (fun g => g.receive (d.engine e) s t (Tab.getD (d.engine e).slots s { axis := a }))).migrated a e s e
    | none => d
  | some (e, s, se), some (f, t, sf) =>
    let oe := se.onTime pass
    let ofs := sf.onTime pass
    if oe && ofs && d.sealWords (e, s, se) ≠ d.sealWords (f, t, sf) then (d.onAxis a (fun ax => ax.rewords a se)).mismatched a e s f t
    else if ofs then ((d.onSlot f t Slot.commit).onAxis a (fun ax => ax.rewords a sf)).migrated a e s f
    else if oe then
      let d := (d.onSlot e s Slot.commit).onAxis a (fun ax => ax.rewords a se)
      let src := d.engine e
      let sl := Tab.getD src.slots s se
      (d.onEngine f (fun g => { g.receive src s t sl with migrations := g.migrations })).migrated a e s e
    else d.migrated a e s f

/-! ## Servo axes -/

/-- The true instant of the sample of the cycle, in quarter ns: S_N plus FB_OFFSET (R148). -/
def Dev.sampleInst (d : Dev) (ax : Axis) : Int := 4 * (d.sampleNs d.ctl.cycle + ax.fb.offset)

/-- The switches of an axis once the sample of the cycle is known: an edge lies after the last sample that committed (R148). -/
def Dev.placeSwitches (d : Dev) (ax : Axis) : Axis :=
  let t0 := ax.fbInst
  let t1 := d.sampleInst ax
  let f (sw : Switch) : Switch := sw.place (ax.prm.val pMODULUS) t0 t1 ax.w.k.pAct ax.now.k.pAct
  { ax with swPos := f ax.swPos, swNeg := f ax.swNeg, swHome := f ax.swHome }

/-- The command that goes into the frame of the next Meridian (R43, R56, R61, R165): 0 without torque; the speculative command of a split axis in the first
cycle of its next period; else the result, or the command that the node holds. -/
def Axis.nextOut (ax : Axis) (split fresh stale next : Bool) : OutCmd :=
  let off := ax.w.sup.state = 0 || ax.w.sup.state = 5 || ax.shed
  let spec := split && next && !off
  let trq := if off then 0 else if spec then ax.spec.tau else if split then ax.applied else if fresh then ax.w.r.trq else if ax.out.spec then ax.applied else ax.out.trq
  { trq := trq, drive := !off && (if fresh then ax.w.r.drive else ax.out.drive), stale := stale, age := ax.cmdAge, spec := spec,
    index := ax.indexArm && ax.fb.index.isNone, faultReset := bit ax.evt 21 }

/-- A fault that a pass raised stays latched when the cycle's result is late: it is latched at DONE (R229), while kernel state is not (R56). -/
def Work.keepFault (w c : Work) : Work :=
  if (c.sup.state = 3 || c.sup.state = 5) && c.sup.state ≠ w.sup.state then
    (if c.sup.state = 5 then { w with sup := c.sup }.cutTorque else { w with sup := c.sup })
  else w

/-- A hand-over after an on-time result: its first cycle is over, or the next pass begins it (R166, R168). -/
def Axis.stepHand (ax : Axis) : Axis :=
  match ax.hand with
  | some h => { ax with hand := if h.armed then none else some { h with armed := true } }
  | none => ax

/-- Where the set-point tracks p_act (Tables 3.3 and 3.5, R157), the set-point of cycle `n` is the p_act of that cycle; `s` is the supervision before it,
and a torque-off that the delivery of this cycle decided keeps the set-point that it delivered. -/
def Axis.track (ax : Axis) (s : Sup) (n : Nat) : Axis :=
  if s.loopMode = 2 || s.state = 0 || (s.state = 5 && !s.offNew) then
    (if ax.spCycle ≤ n then { ax with sp := { p := ax.w.k.pAct } } else { ax with spPrev := { p := ax.w.k.pAct } })
  else ax

/-- An on-time result commits (R56, R58, R62). A split axis keeps the prediction for its next correction pass; for one that is not split no command is launched
that a correction could complete (cause 9, the model's own number). -/
def Axis.sealFresh (ax : Axis) (split next : Bool) : Axis :=
  let w := ax.now
  let w := { w with sup := { w.sup with lateAgain := false }.dropWarn fOVERRUN }
  let ax1 := { ax with w := w, cand := none, pActPrev := ax.w.k.pAct, staleRun := 0, stale := false, cmdAge := 0, specNext := none,
                       spec := if split then ax.specNext.getD { retract := [9] } else { retract := [9] }, held := ax.held.filter (· ≠ fOVERRUN) }
  { ax1.stepHand with out := ax1.nextOut split true false next }

/-- A retract for a correction that is not complete counts in RETRACT_RUN (R92, Table 3.6). -/
def Work.countRetract (w : Work) : Work :=
  let n := incSat 4 w.sup.retractRun
  let v := w.r.kout.getD 6 0
  { w with sup := { w.sup with retractRun := n }, r := { w.r with kout := w.r.kout.set 6 (v - 65536 * (v / 65536 % 16) + 65536 * n) } }

/-- The correction of a late axis's cycle is complete: what it did to RETRACT_RUN stays, and TRQ_CORR, RETRACT_RUN and the SPLIT_PBOUND mark of SUPV are those of the
cycle (R92, R101). -/
def Work.keepCorr (w c : Work) : Work :=
  let v := w.r.kout.getD 6 0
  let n := c.r.kout.getD 6 0
  { w with sup := { w.sup with retractRun := c.sup.retractRun },
           r := { w.r with kout := (w.r.kout.set 5 (c.r.kout.getD 5 0)).set 6 (v - 65536 * bits v 19 16 - flag (bit v 28) 28 + 65536 * c.sup.retractRun + flag (bit n 28) 28) } }

/-- A late axis (R56, R58, R59, R61): nothing commits, the previous command repeats with its age, and a quick stop that an overrun met escalates when the axis is
late again. -/
def Axis.sealLate (ax : Axis) (split next noCorr : Bool) : Axis :=
  let w := match ax.cand with | some c => ax.w.keepFault c | none => ax.w
  let w := if split && ax.out.spec then (if noCorr then w.countRetract else match ax.cand with | some c => w.keepCorr c | none => w) else w
  let w := if w.sup.lateAgain && w.sup.state = 3 then w.escalate else w
  let ax1 := { ax with w := { w with sup := { w.sup with lateAgain := false } }, cand := none, specNext := none, stale := true, staleRun := incSat 4 ax.staleRun, pActPrev := ax.w.k.pAct,
                       overrunCnt := incSat 32 ax.overrunCnt, cmdAge := incSat 8 ax.cmdAge,
                       spec := if split then { ax.spec with retract := [8], late := true } else { retract := [9] } }
  { ax1 with out := ax1.nextOut split false true next }

/-- An axis outside its phase, or one that no engine carries (R43). -/
def Axis.sealIdle (ax : Axis) (split next : Bool) : Axis :=
  let ax1 := { ax with stale := false, pActPrev := ax.w.k.pAct }
  { ax1 with out := ax1.nextOut split false false next }

/-- What lateness of an axis tells the PAC (R25, R60): the first Seal of a run asks for a plan. -/
def Dev.countLate (d : Dev) (e : Nat) : Dev :=
  let d := d.onEngine e (fun g => { g with late := g.late + 1, lateCnt := incSat 32 g.lateCnt })
  if d.pace.latePending then d else { d with pace := { d.pace with trigger := true, latePending := true, lateServed := false } }

/-- A Seal without a late axis ends a run of late cycles (R60). -/
def Dev.runEnds (d : Dev) (before : List Engine) : Dev :=
  if (d.engines.map (fun (g : Engine) => g.late)) = before.map (fun (g : Engine) => g.late) && !d.motion.steppers.any (fun s => s.2.stale) then
    { d with pace := { d.pace with latePending := false, lateServed := false } }
  else d

/-- The notes that the Seal adds to the replies of an axis's commands (R99, R167). -/
def Dev.sealNotes (d : Dev) (key st : Nat) (fault blend : Bool) : Dev :=
  let d := if fault && (st = 3 || st = 5) then d.noteReply 0x1014 key d.ctl.cycle 0x0020 else d
  if blend then (d.noteReply 0x2001 key d.ctl.cycle 0x0024).noteHome key 0x0024 else d

/-- A servo axis after its Seal, with what its plans have ended in this cycle (R113 to R117, R132). -/
def Dev.settles (d : Dev) (a : Nat) (ax : Axis) : Dev :=
  let r := if d.ctl.cycle ≤ ax.spCycle then ax.settle d.tcyc d.ctl.cycle else (ax, [])
  (d.onAxis a (fun _ => r.1)).emits (r.1.events a r.2)

/-- A servo axis at the Seal deadline. -/
def Dev.sealServo (d : Dev) (a : Nat) : Dev :=
  match d.axis? a with
  | none => d
  | some ax0 =>
    let n := d.ctl.cycle
    let split := d.split ax0
    let next := ax0.inPhase (n + 1)
    if !ax0.inPhase n || ax0.shed || !Tab.has d.pace.plan.place a then
      (if ax0.migrating then d.sealSlots a 15 else d).onAxis a (fun ax => ax.sealIdle split next)
    else
      let pass := finalPass split
      let fresh := (d.slotsOf a).any (fun x => x.2.2.onTime pass)
      let noCorr := !d.passDone a 2
      let d := d.sealSlots a pass
      let ax := d.axis a
      if fresh then
        let ax1 := ({ (d.placeSwitches ax).sealFresh split next with fbInst := d.sampleInst ax }.track ax.w.sup n).prune (d.period ax)
        let used := match ax.hand with | some h => h.armed ≠ split | none => false
        (d.settles a ax1).sealNotes (16777216 + a) ax1.w.sup.state (ax1.w.sup.fault ≠ 0) (used && ax1.w.r.blending)
      else
        let ax1 := (ax.sealLate split next noCorr).prune (d.period ax)
        let d := (d.settles a ax1).countLate ax.engine
        if ax.staleRun = 0 then d.emit (evC (srcAxis a) eAXIS_OVERRUN) else d

/-! ## Steppers -/

/-- A stepper axis at the Seal deadline (R179): a late update repeats the set-point and moves the plan one update period later. -/
def Stepper.atSeal (s : Stepper) (n : Nat) : Stepper :=
  if !s.inPhase n then { s with stale := false }
  else if s.updated then { s with stale := false, staleRun := 0, cmdAge := 0, lateAgain := false }.dropCond fSTEP_OVERRUN
  else
    let div := max 1 (s.prm.nat pST_STEP_DIV)
    let s := if s.lateAgain && s.state = 2 then s.torqueOff s.fault else s
    { s with stale := true, staleRun := incSat 4 s.staleRun, overrunCnt := incSat 32 s.overrunCnt, cmdAge := incSat 8 s.cmdAge, lateAgain := false,
             planLag := if s.plan.isSome then addSat 32 s.planLag div else s.planLag, plan := s.plan.map (fun p => { p with lag := p.lag + div }) }

/-- The chatter of a stepper's switches has ended, and its warning with it (R147, R193). -/
def Stepper.prune (s : Stepper) : Stepper :=
  if s.swPos.chatterCond || s.swNeg.chatterCond || s.swHome.chatterCond then s else s.dropCond fSWITCH_CHATTER

/-- A stepper axis at the Seal, with the note of a fault clear that latched again (R99). -/
def Dev.sealStepper (d : Dev) (a : Nat) : Dev :=
  match d.stepper? a with
  | none => d
  | some s =>
    let s1 := (s.atSeal d.ctl.cycle).prune
    let d := d.onStepper a (fun _ => s1)
    if s1.fault ≠ 0 && (s1.state = 2 || s1.state = 4 || s1.state = 5) then d.noteReply 0x1014 (2 * 16777216 + a) d.ctl.cycle 0x0020 else d

/-! ## Engines at the deadline (R223) -/

/-- The plan that comes into force at the next Meridian, if one does. -/
def Dev.nextPlan (d : Dev) : Option PacePlan := d.pace.done.filter (fun p => p.cycle ≤ d.ctl.cycle + 1)

/-- What the next Meridian brings an engine (Table 7.11). -/
def Dev.nextCause (d : Dev) (e : Nat) : Nat :=
  match d.nextPlan with
  | none => 0
  | some p =>
    let on (q : Tab (Nat × Nat)) : List (Nat × Nat) := (q.filter (fun x => x.2.1 = e)).map (fun x => (x.1, x.2.2))
    let hand := match p.test with | some (t, some f) => if t = e then 2 else if f = e then 1 else 0 | _ => 0
    let back := match p.back with | some (t, some f) => if t = e then 3 else if f = e then 1 else 0 | _ => 0
    let task := (d.pace.plan.bg.zip p.bg).any (fun x => x.1 ≠ x.2 && (x.1 = e || x.2 = e))
    if hand ≠ 0 then hand else if back ≠ 0 then back else if task || decide (on d.pace.plan.place ≠ on p.place) then 1 else 0

/-- An engine at D_N: what runs is cut, and an idle engine starts its handler when the next Meridian changes what it carries. -/
def Engine.cut (g : Engine) (cause w : Nat) : Engine :=
  match g.run with
  | some r => if r.kind = 2 then g else { g with busy := w }.preempt cause
  | none => if cause = 0 || g.role = 4 then g else g.preempt cause

/-- Every engine at D_N. -/
def Dev.cutAll (d : Dev) : Dev :=
  { d with engines := d.engines.zipIdx.map (fun (g : Engine × Nat) => g.1.cut (d.nextCause g.2) d.windowW.toNat) }

/-- The test of the engine whose hand-over took effect at this cycle's Meridian starts after the Seal (Table 8.4). -/
def Dev.testBegins (d : Dev) : Dev :=
  match d.pace.plan.test, d.tru.logic with
  | some (e, _), some t =>
    if t.block = e && !t.begun && d.pace.plan.cycle ≤ d.ctl.cycle then { d with tru := { d.tru with logic := some { t with begun := true, start := d.ctl.cycle } } } else d
  | _, _ => d

/-! ## What the Seal prepares for the next Meridian -/

/-- The content of a servo output slot (Table 9.7). -/
def OutCmd.bytes (o : OutCmd) : List Byte :=
  leBytes 4 (lowBits 32 o.trq) ++ leBytes 2 (flag o.drive 0 + flag o.stale 1 + flag o.spec 2 + flag o.index 3 + flag o.faultReset 4) ++ leBytes 1 o.age ++ [0]

/-- The content of an output entry (R279, Table 6.1, R290). -/
def Dev.slotContent (d : Dev) (e : MapEntry) : List Byte :=
  if e.kind = 0 then (match d.axis? e.target with | some ax => ax.out.bytes | none => zeroBytes 8)
  else if e.kind = 1 then (match d.stepper? e.target with | some s => s.slotWord | none => zeroBytes 8)
  else if e.proc then Memory.readList 0 d.image (e.target / 8) e.len
  else zeroBytes e.len

/-- The output slots for the frames of the next Meridian. -/
def Dev.packSlots (d : Dev) : Dev :=
  { d with ring := { d.ring with slots := (d.ring.map.entries.filter (fun e => !e.2.input && e.2.kind ≠ 3)).map (fun e => (e.1, d.slotContent e.2)) } }

/-- The ORRERY edges of the timed outputs (R352); J_N is 0 for source AXIS_ACT. -/
def Dev.placeTouts (d : Dev) : Dev :=
  { d with tu := { d.tu with touts := d.tu.touts.map (fun (o : Tout) =>
      match d.orr? (Params.nat o.prm pTOUT_ORR) with
      | some r => o.place (fix 64 r.theta) (fix 40 r.omega) (fix 32 r.alpha) (if r.axisSrc then 0 else r.jerk) (d.applyInst d.ctl.cycle) (4 * d.tcyc)
      | none => o) } }

/-- The Seal at D_N. -/
def Dev.seal (d : Dev) : Dev :=
  if !d.ctl.running || !d.ctl.gathered || d.ctl.sealed then d
  else
    let d := { d with tu := d.tu.reach d.dn }
    let d := d.advance
    let es := d.engines
    let d := (d.motion.axes.map (fun e => e.1)).foldl Dev.sealServo d
    let d := (d.motion.steppers.map (fun e => e.1)).foldl Dev.sealStepper d
    let d := ((d.runEnds es).cutAll.testBegins.packSlots.placeTouts).homeEnds 0x0601
    { d with ctl := { d.ctl with sealed := true } }

/-- SEAL_DEADLINE. -/
def execSealDeadline (s : State) : Host.Outcome State Fault Refusal := s.act Dev.seal

end Sys2Proof.Machine
end

