-- ==== Sys2Proof/Machine/PlateRows.lean ====
section
/-! DEFINITION. The Plate (R17 to R25, R101, R125, R143, R196, R396): its regions, its publication, and what reads it at once: Plate streams (R397, R398) and the
Chronograph (R427, R441). -/

namespace Sys2Proof.Machine

open Sys2Proof

/-! ## Records -/

/-- A signed 64-bit field. -/
def s64 (x : Int) : List Byte := leBytes 8 (lowBits 64 x)

/-- AX_FLAGS of cycle `n` (Table 1.8). Where the set-points of a later cycle have been delivered, LIMIT_DEFERRED and OVERSHOOT_PLANNED are those before them. -/
def Axis.flags (ax : Axis) (n : Nat) : Nat :=
  let past := decide (n < ax.spCycle)
  flag ax.stale 0 + flag ax.specFlag 1 + flag ax.retractFlag 2 + flag ax.fbMissed 3 + flag ax.fbHeld 4 + flag (if past then ax.deferPrev else ax.deferNow) 5 + flag (if past then ax.overPrev else ax.overNow) 6 +
  flag ax.migrating 7 + flag ax.shadowed 8 + flag ax.w.r.blending 9 + flag ax.safeOff 10 + flag ax.kernelChanged 11

/-- A servo axis record (Table 1.7). TRQ_CMD is the command that leaves at the next Meridian: before an axis cycle of a split axis τ_spec, outside the
phase the repeat (R22, R43, R87). TRQ_CORR belongs to the correction pass of the cycle. -/
def Dev.axisRecord (d : Dev) (a : Nat) (ax : Axis) : List Byte :=
  let sp := ax.delivered d.ctl.cycle
  let r := ax.w.r
  let u := ax.w.sup
  let trq := if d.split ax && !ax.stale && ax.spec.ready && ax.inPhase (d.ctl.cycle + 1) then ax.spec.tau else ax.out.trq
  let kout := if ax.inPhase d.ctl.cycle then r.kout else r.kout.set 5 0
  s64 r.posAct ++ s64 sp.p ++ s64 r.velAct ++ s64 sp.v ++ s64 sp.a ++ s64 r.followErr ++ leBytes 4 (lowBits 32 trq) ++ leBytes 4 (lowBits 32 ax.fb.trqAct) ++
  leBytes 4 (lowBits 32 ax.fb.offset) ++ leBytes 1 u.mode ++ leBytes 1 (d.overlays a ax) ++ leBytes 1 u.state ++ leBytes 1 u.reaction ++ leBytes 4 (ax.flags d.ctl.cycle) ++
  leBytes 1 ax.cmdAge ++ leBytes 1 ax.fbAge ++ leBytes 1 ax.engine ++ [0] ++ leBytes 4 ax.overrunCnt ++ leBytes 4 ax.retractCnt ++ leBytes 4 ax.fbMissCnt ++
  leBytes 2 u.fault ++ leBytes 2 u.warn ++ leBytes 8 ax.lastCmd ++ leBytes 4 ax.lastBatch ++ (kout.map (leBytes 4)).flatten

/-- A stepper axis record (Table 6.6). -/
def Stepper.record (s : Stepper) : List Byte :=
  s64 s.posCmd ++ s64 s.sp.v ++ leBytes 2 s.eangle ++ leBytes 2 s.amp ++ leBytes 2 (lowBits 16 s.la) ++ leBytes 1 s.state ++ leBytes 1 (s.level + 8 * s.request) ++
  leBytes 2 s.flags ++ leBytes 1 s.cmdAge ++ leBytes 1 s.mode ++ leBytes 2 s.stallCnt ++ leBytes 2 s.fault

/-- ORR_FLAGS (Table 4.5). Entries beyond the next cycle are provisional where the source is an axis and the Ephemeris is kept (R120). -/
def Dev.orrFlags (d : Dev) (i : Nat) (o : Orrery) : Nat :=
  flag (o.omega = o.tgt && o.alpha = 0) 0 + flag o.faultStop 1 + flag o.axisSrc 2 + flag o.ramping 3 +
  flag ((d.followers i).any (fun e => match e.2.fol with | some f => f.late | none => false)) 4 + flag (o.axisSrc && d.runAhead) 5

/-- An Orrery record (Table 4.4). -/
def Dev.orrRecord (d : Dev) (i : Nat) (o : Orrery) : List Byte :=
  let n := o.prm.nat pLADDER_RUNGS
  let fs := (d.followers i).filter (fun e => e.2.now.sup.mode = 3 || e.2.now.sup.mode = 4)
  s64 (o.theta / 2 ^ 64) ++ leBytes 8 (lowBits 64 o.theta) ++ s64 o.omega ++ s64 o.alpha ++ s64 o.tgt ++ leBytes 1 o.state ++ leBytes 1 n ++ leBytes 2 (d.orrFlags i o) ++
  leBytes 2 fs.length ++ leBytes 2 (fs.filter (fun e => match e.2.fol with | some f => f.engage.isSome | none => false)).length ++ leBytes 8 o.lastCmd ++
  leBytes 4 o.lastBatch ++ leBytes 1 (o.prm.nat pLADDER_PIVOT) ++ zeroBytes 3 ++
  ((List.range 16).map (fun k => leBytes 4 (if k < n then ratToF32 (o.factor k) else 0))).flatten

/-- An engine pace record (Table 1.13). -/
def Engine.record (g : Engine) : List Byte :=
  leBytes 4 g.probe ++ leBytes 2 (min 65535 g.passes) ++ leBytes 2 (min 65535 g.late) ++ leBytes 4 g.steps ++ leBytes 4 g.reads ++ leBytes 4 g.elapsed ++
  leBytes 2 g.obsMin ++ leBytes 2 g.obsMax ++ leBytes 4 g.busy ++ leBytes 1 g.slots.length ++ leBytes 1 g.pcause ++ zeroBytes 34

/-- A register channel's block (Table 4.8). -/
def RegCh.block (c : RegCh) : List Byte :=
  s64 c.err ++ s64 c.corr ++ leBytes 4 c.marks ++ leBytes 4 c.reject ++ leBytes 4 c.missed ++ leBytes 1 c.missRun ++ leBytes 1 c.stateNow ++ zeroBytes 2

/-! ## Header and summary -/

/-- Axes whose command in this Plate is stale (Table 1.6). -/
def Dev.staleAxes (d : Dev) : Nat :=
  min 65535 ((d.motion.axes.filter (fun e => e.2.stale)).length + (d.motion.steppers.filter (fun e => e.2.stale)).length)

/-- DEV_FLAGS (Table 1.9). -/
def Dev.flags (d : Dev) : Nat :=
  flag d.runAhead 0 + flag (d.motion.axes.any (fun e => e.2.migrating)) 1 +
  flag ((match d.tru.logic with | some t => t.begun | none => false) || d.tru.mem.isSome) 2 + flag (d.tru.fencedEngines ≠ [] || d.tru.fencedLinks ≠ []) 3 +
  flag d.boot.live.isSome 4 + flag d.host.mgtRestart 5 + flag d.ring.freshLead 6 + flag (d.ring.role = 5) 7 + flag d.pace.marginLow 8 +
  flag (decide (2048 < d.ring.map.inputs)) 9 + flag (decide (0 < d.staleAxes)) 10 + flag d.boot.minor 11 +
  flag (d.si.safeStop none || d.motion.axes.any (fun e => e.2.safeOff) || d.motion.steppers.any (fun e => e.2.safeOff)) 12 + flag d.host.pin.isSome 13 + flag d.ctl.dropped 14

/-- The Plate header (Table 1.6). -/
def Dev.plateHeader (d : Dev) : List Byte :=
  let t := d.tu.stamp d.tu.now
  leBytes 8 d.ctl.cycle ++ leBytes 8 t.1 ++ leBytes 4 t.2 ++ leBytes 4 d.flags ++ leBytes 4 d.ctl.layoutGen ++ leBytes 4 1179648 ++ leBytes 4 d.router.seq ++
  leBytes 2 d.ctl.batches ++ leBytes 2 d.ctl.commands ++ leBytes 2 d.motion.axes.length ++ leBytes 2 d.motion.steppers.length ++ leBytes 2 d.staleAxes ++ leBytes 2 d.ctl.missed

/-- The first part of the device summary (Table 12.13). -/
def Dev.summary (d : Dev) : List Byte :=
  leBytes 2 1 ++ leBytes 1 (flag d.host.owned 0) ++ [0] ++ leBytes 4 d.host.epoch ++ leBytes 4 d.host.staged.length ++ leBytes 4 d.host.stagingFree ++
  leBytes 4 d.tru.fabricTransient ++ leBytes 4 d.router.dropped ++ leBytes 4 d.host.batchesFailed ++ leBytes 4 d.ring.twinMissCnt ++ leBytes 4 d.pace.discarded ++
  leBytes 4 d.pace.avsTransient ++ leBytes 2 d.tru.fabricLasting ++ leBytes 2 d.host.pinExpired ++ leBytes 2 d.pace.mismatchCnt ++ leBytes 2 d.pace.avsLasting ++
  leBytes 2 d.pace.marginEntries ++ leBytes 2 d.ring.takeoverCnt ++ leBytes 2 d.host.ownerLossCnt ++ zeroBytes 2 ++ leBytes 4 d.host.eventsDropped ++ leBytes 4 d.host.streamSkip

/-- The node status records by their Plate offset (Table 1.5). -/
def Dev.nodeRecords (d : Dev) : List (Nat × List Byte) :=
  (d.ring.segs.zipIdx.map (fun s => s.1.nodes.map (fun n => (0x1A000 + 16 * (96 * s.2 + n.1 - 1), n.2.bytes)))).flatten

/-- The regions of the Plate before the process image, in rising order (Table 1.5). -/
def Dev.plateParts (d : Dev) : List (Nat × List Byte) :=
  [(0, d.plateHeader), (0x40, d.summary), (0x400, d.chr.counters), (0x600, d.log.counters), (0x800, d.si.counters), (0xC00, d.tru.counters), (0xE00, d.boot.counters)] ++
  d.motion.axes.map (fun e => (0x1000 + 128 * e.1, d.axisRecord e.1 e.2)) ++ d.motion.steppers.map (fun e => (0x11000 + 32 * e.1, e.2.record)) ++
  (d.motion.orrs.filter (fun e => e.2.state ≠ 0)).map (fun e => (0x19000 + 128 * e.1, d.orrRecord e.1 e.2)) ++ d.nodeRecords ++ d.engines.zipIdx.map (fun g => (0x1D000 + 64 * g.2, g.1.record))

/-- The bytes of the Plate of the cycle in progress. Written from the end, so that each byte goes in front of those already there. -/
def Dev.plateBytes (d : Dev) : Memory :=
  d.plateParts.reverse.foldl (fun m p => Memory.writeList 0 m p.1 p.2) (d.image.reverse.foldl (fun m c => Memory.write 0 m (0x20000 + c.1) c.2) [])

/-! ## Publication -/

/-- CYCLE of a Plate buffer. -/
def plateCycle (m : Memory) : Nat := leNat (Memory.readList 0 m 0 8)

/-- The buffer for the next Plate (R17): the oldest that is neither pinned nor the latest published, the lowest-numbered among equals. -/
def Dev.plateBuffer (d : Dev) : Nat :=
  let cy (k : Nat) : Nat := plateCycle (d.plates.getD k [])
  let free := (List.range 4).filter (fun k => !(d.ctl.published ≠ 0 && k = d.ctl.latest) && (d.host.pin.map (fun p => p.1)) ≠ some k)
  free.foldl (fun b k => if cy k < cy b then k else b) (free.headD 0)

/-- PROBE_COUNT of every engine (R25, R234): physical counts, free values. -/
def Dev.probeAll (d : Dev) : Dev :=
  { d with engines := d.engines.zipIdx.map (fun (g : Engine × Nat) => { g.1 with probe := Config.freeNat (d.ctl.free + g.2) % 2 ^ 32 })
           ctl := { d.ctl with free := d.ctl.free + 18 } }

/-- The register channels' blocks go to REG_PUB (R143). -/
def Dev.regBlocks (d : Dev) : Dev :=
  { d with image := d.motion.regs.foldl (fun (m : Memory) e => Memory.writeList 0 m (e.2.prm.nat pREG_PUB / 8) e.2.block) d.image }

/-- One record of a Plate stream but for SKIPPED, PHASE and QSEQ (Table 12.14). -/
def Stream.record (s : Stream) (i cycle layout : Nat) (m : Memory) : List Byte :=
  let data := (s.regions.map (fun r => Memory.readList 0 m r.1 r.2)).flatten
  leBytes 2 i ++ leBytes 2 s.regions.length ++ zeroBytes 4 ++ leBytes 8 cycle ++ zeroBytes 2 ++ [2, 0] ++ zeroBytes 4 ++ leBytes 4 data.length ++ leBytes 4 layout ++ data

/-- A stream at the publication of a Plate (R398): its regions go into a staging half, or the record is skipped. -/
def Hif.streamTake (h : Hif) (i cycle layout : Nat) (m : Memory) : Hif :=
  match Tab.find h.streams i with
  | none => h
  | some s =>
    if cycle % s.period ≠ s.phase then h
    else if s.halves.length < 2 then { h with streams := Tab.set h.streams i { s with halves := s.halves ++ [s.record i cycle layout m] } }
    else { h with streams := Tab.set h.streams i { s with skipped := incSat 32 s.skipped }, streamSkip := incSat 32 h.streamSkip }

/-- PLATE_IRQ: the vector rises at every k-th publication (Table 12.2). -/
def Hif.plateSignal (h : Hif) : Hif :=
  let k := max 1 (bits h.plateIrq 31 16)
  let c := h.plateIrqCnt + 1
  if k ≤ c then (if bit h.plateIrq 6 then Hif.raise { h with plateIrqCnt := 0 } (bits h.plateIrq 5 0) else { h with plateIrqCnt := 0 }) else { h with plateIrqCnt := c }

/-- The Plate of cycle N is sealed in its buffer and published (R17, R18): at the same instant queries see the device as it stands (R404). -/
def Dev.publishPlate (d : Dev) : Dev :=
  let d := d.probeAll.regBlocks
  let k := d.plateBuffer
  let m := d.plateBytes
  let d := { d with plates := d.plates.set k m, ctl := { d.ctl with published := d.ctl.cycle, latest := k } }
  let h := (d.host.streams.map (fun e => e.1)).foldl (fun h i => h.streamTake i d.ctl.cycle d.ctl.layoutGen m) d.host
  let d := { d with host := h.plateSignal, ring := { d.ring with freshLead := false } }
  { d with snap := d.view }

/-- The publication of the cycle's Plate, once its Seal has passed. -/
def Dev.publish (d : Dev) : Dev :=
  if !d.ctl.running || !d.ctl.sealed || d.ctl.published = d.ctl.cycle then d else d.publishPlate

/-- PLATE_PUBLISH. -/
def execPlatePublish (s : State) : Host.Outcome State Fault Refusal := s.does Dev.publish

/-! ## Streams -/

/-- STREAM_RECORD_WRITE: the oldest staged record of a stream is written when the ring has room for the whole of it (R398). -/
def execStreamRecordWrite (stream : Nat) (s : State) : Host.Outcome State Fault Refusal :=
  s.does (fun d => let r := d.host.streamWrite d.hostMem stream; { d with host := r.1, hostMem := r.2 })

/-! ## The Chronograph -/

/-- The instants that belong to the published Plate of cycle `n` (R426, R438), in 2^−16 ns; layout, ARRIVE_DEV and TB_OFFSET are those at its Seal. -/
def Dev.chrTimes (d : Dev) (n : Nat) : ChrTimes :=
  let u : Int := 65536
  { cycle := n, layout := d.seen.ctl.layoutGen, sample := u * d.sampleNs n, apply := u * ((d.mer (n + 1) + d.tApply : Nat) : Int),
    sealT := u * ((d.mer n + d.tcyc - sealReserve : Nat) : Int), meridian := u * ((d.mer n : Nat) : Int),
    devs := (d.seen.ring.segs.zipIdx.map (fun s => s.1.nodes.map (fun p => (96 * s.2 + p.1 - 1, p.2.dev)))).flatten, tb := fun x => d.seen.tu.stamp (x / 16384) }

/-- The Chronograph samples the latest Plate once (R427). -/
def Dev.chrSample (d : Dev) : Dev :=
  let n := d.ctl.published
  if n = 0 || d.chr.state = 0 || d.chr.lastPlate = n || !d.power.trace then d
  else
    let m := d.plates.getD d.ctl.latest []
    d.withChr (d.chr.sample (fun a => Memory.read 0 m a) (d.chrTimes n))

/-- CHR_SAMPLE. -/
def execChrSample (s : State) : Host.Outcome State Fault Refusal := s.act Dev.chrSample

/-- CHR_HOLDOFF_EXPIRY: HOLDOFF sampled Plates have passed (R436). -/
def execChrHoldoffExpiry (s : State) : Host.Outcome State Fault Refusal := s.does (fun d => { d with chr := d.chr.holdoffEnd })

/-- AUTO_TIMEOUT sampled Plates have passed in WAIT (R436). -/
def Dev.chrAuto (d : Dev) : Dev :=
  let q : Int := ((4 * d.mer d.chr.lastPlate : Nat) : Int)
  d.withChr (d.chr.autoTimeout (16384 * q) (d.seen.tu.stamp q))

/-- CHR_AUTO_TIMEOUT. -/
def execChrAutoTimeout (s : State) : Host.Outcome State Fault Refusal := s.act Dev.chrAuto

/-- A frames record is due (R441): STREAM_BLOCK bytes have accumulated, STREAM_FLUSH has passed, a mark waits behind the frames, or a disarm has ended the stream (R436). -/
def Chr.due (c : Chr) (timeUp : Bool) : Bool :=
  match c.conf with
  | some k =>
    let fs := c.fifo.takeWhile (fun o => !o.mark)
    c.fifo ≠ [] && (c.state = 0 || timeUp || c.fifo.any (fun o => o.mark) || decide (k.block < (fs.length + 1) * k.frameBytes))
  | none => false

/-- The Chronograph's next stream record goes into its ring when it is due and fits (R441 to R443). -/
def Dev.chrFlush (d : Dev) (timeUp : Bool) : Dev :=
  match d.chr.conf, d.chr.record with
  | some k, some (b, c) =>
    let p := d.host.pair k.pair
    if d.chr.due timeUp && p.active && decide (ceilDiv b.length 64 ≤ p.freeReply) then
      let r := d.host.write d.hostMem k.pair b false
      { d with chr := c, host := r.1, hostMem := r.2 }
    else d
  | _, _ => d

/-- CHR_STREAM_FLUSH. -/
def execChrStreamFlush (timeUp : Bool) (s : State) : Host.Outcome State Fault Refusal := s.does (fun d => d.chrFlush timeUp)

end Sys2Proof.Machine
end

