-- ==== Sys2Proof/Machine/Meridian.lean ====
section
/-! DEFINITION. The Meridian (R5, R6, R51, R161, R486): a new cycle begins, the pace plan and the commands named for it take effect, emergency stops last, then the
posts of the Safety Island and the steps of the time base; the cycle frames leave on all segments, and with a standby the TWIN frame is made (R325, R326). -/

namespace Sys2Proof.Machine

open Sys2Proof

/-! ## What counts one cycle -/

/-- A servo axis at the start of a cycle: its event word and the flags of one cycle clear, its engine is that of the plan, and a reference shift that waited for this
Meridian acts (R152). -/
def Axis.newCycle (ax0 : Axis) (plan : Tab (Nat × Nat)) (a : Nat) : Axis :=
  let ax := match ax0.refShift with | some d => { ax0.shiftRef d with refShift := none } | none => ax0
  { ax with evt := 0, migrating := false, kernelChanged := false, retractFlag := false, blocked := false,
            engine := match Tab.find plan a with | some p => p.1 | none => ax.engine }

/-- A stepper axis at the start of a cycle. -/
def Stepper.newCycle (s : Stepper) : Stepper := { s with blocked := false, updated := false }

/-- An engine's pace record starts anew (Table 1.13, R25), and its slots hold no result of this cycle yet. -/
def Engine.newCycle (g : Engine) : Engine :=
  { g with passes := 0, late := 0, steps := 0, reads := 0, elapsed := 0, obsMin := 0, obsMax := 0, busy := 0, pcause := 255,
           slots := g.slots.map (fun s => (s.1, { s.2 with outs := [] })) }

/-- The control plane at Meridian `n`: cycle `n` is in progress, with its gate open and nothing of it done. -/
def Ctl.newCycle (c : Ctl) (n : Nat) : Ctl :=
  { c with cycle := n, first := false, gate := false, gathered := false, corrPacked := false, corrLaunched := false, sealed := false, missed := 0, dropped := false,
           commands := 0, batches := 0, layoutChg := false }

/-- A segment at a Meridian: no frame of the new cycle has come back. -/
def Segment.newCycle (s : Segment) : Segment := { s with returned := false, accepted := false, judged := false }

/-- The ring count at Meridian `n` (R338): RC(M) of the first Meridian is the origin of the instants, every later one follows from it. -/
def Dev.atMeridian (d : Dev) (n : Nat) : Dev :=
  if d.ctl.first then { d with tu := { d.tu with merN0 := n, merRC0 := d.tu.rcNs } } else { d with tu := d.tu.reach (d.mer n) }

/-- Cycle `n` begins, before anything takes effect at its Meridian. -/
def Dev.newCycle (d0 : Dev) (n : Nat) : Dev :=
  let d := d0.atMeridian n
  { d with ctl := d.ctl.newCycle n, router := { d.router with cycleCnt := 0 },
           motion := { d.motion with axes := Tab.mapAll d.motion.axes (fun a ax => ax.newCycle d.pace.plan.place a),
                                     steppers := Tab.mapAll d.motion.steppers (fun _ s => s.newCycle) },
           ring := { d.ring with segs := d.ring.segs.map Segment.newCycle, highCycle := n } }

/-- What the pace plan of Meridian `n` leads to (R15, R51): the engines of a live kernel update reload, whole-block tests run on, indices follow the last Plate's
records. -/
def Dev.paceAt (d : Dev) (n : Nat) : Dev :=
  let d := d.planAt n
  let d := ((List.range 18).foldl Dev.krnReload d).krnNext
  let d := d.bistRuns.seeAll
  { d with engines := d.engines.map Engine.newCycle }

/-! ## Commands -/

/-- The staged commands whose Meridian has come, in the order of R31. -/
def Dev.dueAt (d : Dev) (n : Nat) : List Staged := d.host.staged.filter (fun s => s.meridian ≠ 0 && decide (s.meridian ≤ n))

/-- The staged command is an emergency stop. -/
def Staged.stop (s : Staged) : Bool := s.req.op = 0x2100

/-- The emergency stop that ends ownership brings (R369), when its Meridian has come. -/
def Dev.lossDue (d : Dev) (n : Nat) : Option Nat :=
  match d.host.lossStop with
  | some (cls, m) => if m ≤ n then some cls else none
  | none => none

/-- The emergency stop of an owner loss takes effect. -/
def Dev.lossStops (d : Dev) (n : Nat) : Dev :=
  match d.lossDue n with
  | some cls => Dev.estopAll { d with host := { d.host with lossStop := none } } none cls
  | none => d

/-- The commands and batches of Meridian `n` in the order of R31, then every emergency stop (R51). -/
def Dev.commandsAt (d : Dev) (n : Nat) : Dev :=
  let due := d.dueAt n
  let d := { d with host := { d.host with staged := d.host.staged.filter (fun s => !due.contains s) } }
  let d := ((due.filter (fun s => !s.stop)).splitBy sameBatch).foldl (fun (d : Dev) g => d.takeGroup n g) d
  (((due.filter Staged.stop).foldl (fun (d : Dev) s => d.takeGroup n [s]) d).lossStops n).watchStyle

/-! ## The posts of the Safety Island (R161, R171 to R173, R486) -/

/-- SAFE_OFF of a servo axis at this Meridian. Its kernel acts on it from its next computation on (R100). -/
def Dev.safeServo (d : Dev) (a : Nat) : Dev :=
  match d.axis? a with
  | none => d
  | some ax =>
    let off := (d.si.safeOff 0 a ax.safeOff).getD false
    if off = ax.safeOff then d
    else if off then (d.onAxis a (fun ax => ({ ax with safeOff := true } : Axis).mark 20)).changed a 3
    else d.onAxis a (fun ax => { ax with safeOff := false })

/-- SAFE_OFF of a stepper axis at this Meridian (Table 6.5). -/
def Dev.safeStepper (d : Dev) (a : Nat) : Dev :=
  match d.stepper? a with
  | none => d
  | some s =>
    let off := (d.si.safeOff 1 a s.safeOff).getD false
    let d1 := d.onStepper a (fun s => { s with safeOff := off })
    if off && !s.safeOff && s.state ≠ 0 then d1.stepperCond a fSTEP_SAFE_OFF else d1

/-- LIMIT of a servo axis at this Meridian: the planner replans under the new bound, and a follower's Orrery slows with it. A homing keeps the least
bound that it has met (R173). -/
def Dev.limitServo (d : Dev) (a : Nat) : Dev :=
  match d.axis? a with
  | none => d
  | some ax =>
    let l := d.si.limit 0 a
    if l = ax.slsLim then d
    else
      let cap := match l, ax.homeCap with | some v, some c => some (min v c) | some v, none => some v | none, c => c
      let r := (({ ax with slsLim := l, homeCap := cap } : Axis).mark 18).throughN (fun x => x.relimit ax d.tcyc d.origin (d.spNow ax))
      let ev := match ax.slsLim, l with
        | none, some v => [evC (srcAxis a) eLIMIT_ENTERED (leBytes 8 (lowBits 64 v))]
        | some _, none => [evC (srcAxis a) eLIMIT_RELEASED]
        | _, _ => []
      let d1 := ((d.onAxis a (fun _ => r.1)).emits (r.1.events a r.2.2 ++ ev)).changed a 2
      match ax.fol with
      | some f => d1.limitOrr f.orr d.origin
      | none => d1

/-- What the SI has posted takes effect after every item of R51. -/
def Dev.safetyAt (d : Dev) : Dev :=
  let as := d.motion.axes.map (fun e => e.1)
  let d1 := (d.motion.steppers.map (fun e => e.1)).foldl Dev.safeStepper (as.foldl Dev.safeServo d)
  let d2 := as.foldl Dev.limitServo d1
  { d2 with si := d2.si.taken }

/-! ## The launch (R51, R272, R310, R321, R468) -/

/-- The SO messages of a segment. -/
def Dev.soOf (d : Dev) (seg : Nat) : List (List Byte) :=
  match d.si.conf with
  | some c => (List.range (c.count seg)).map (fun j => d.si.launchMsg (64 * seg + j))
  | none => []

/-- A segment carries the cycle frame of Meridian `n`: it is in SYNC, RUN, BROKEN, or in the notice of a re-initialisation. -/
def Segment.carries (s : Segment) (n : Nat) : Bool := [6, 7, 8, 9].contains s.state && decide (s.firstCycle ≤ n) && s.reinitLeft ≠ some 0

/-- The cycle frame of a segment leaves; in SYNC and in the notice of a re-initialisation the enables are clear. -/
def Dev.launchOn (d : Dev) (n seg : Nat) : Dev :=
  let s := d.ring.seg seg
  if s.carries n then
    let so := d.soOf seg
    let f := cycleFrame d.ring seg (d.launchAt seg (d.mer n) n) so so.length (s.state = 6 || s.state = 9)
    let d1 := d.onSeg seg (fun s => { s with launched := f, corrLaunched := [], reinitLeft := s.reinitLeft.map (fun k => k - 1) })
    { d1 with si := d1.si.launched seg }
  else d.onSeg seg (fun s => { s with launched := [], corrLaunched := [] })

/-- The command that an axis's drive holds for this cycle: that of the frame; a speculative one waits for its correction (R22, R84). -/
def Axis.atLaunch (ax : Axis) : Axis :=
  { ax with specFlag := ax.out.spec, appliedPrev := ax.applied, applied := if ax.out.spec then ax.applied else if ax.out.drive then ax.out.trq else 0 }

/-- The LEADER_ALIVE frame of a segment (R325). -/
def Dev.aliveOn (d : Dev) (n seg : Nat) : Dev :=
  let s := d.ring.seg seg
  if s.carries n then
    let f := acyclicFrame (d.launchAt seg (d.mer n) n) seg s.mapGen 0x19 0xFF (incWrap 16 s.seq) []
    { d with ring := { (d.ring.onSeg seg (fun s => { s with seq := incWrap 16 s.seq })) with aliveSent := Tab.set d.ring.aliveSent seg f } }
  else d

/-- The frames of Meridian `n` leave on all segments at once. -/
def Dev.launchAll (d : Dev) (n : Nat) : Dev :=
  let d1 := d.segNos.foldl (fun d i => d.aliveOn n i) (d.segNos.foldl (fun d i => d.launchOn n i) d)
  { d1 with motion := { d1.motion with axes := Tab.mapAll d1.motion.axes (fun _ ax => ax.atLaunch) },
            ring := { d1.ring with takeoverLeft := d1.ring.takeoverLeft - 1 } }

/-! ## The TWIN frame (R326, Table 10.6) -/

/-- The bytes of a command as admitted: its header (Table 12.11) and its payload. -/
def HostReq.bytes (q : HostReq) : List Byte :=
  leBytes 2 q.op ++ leBytes 2 q.h.tag ++ leBytes 4 (q.h.kind * 2 ^ 24 + q.h.index) ++ leBytes 8 q.h.effective ++ leBytes 2 q.h.flags ++ leBytes 2 q.pay.length ++
  leBytes 4 q.h.batch ++ leBytes 4 q.h.auth ++ zeroBytes 4 ++ q.pay

/-- A record of a TWIN frame. -/
def twinRecord (kind : Nat) (c : List Byte) : List Byte := leBytes 1 kind ++ [0] ++ leBytes 2 c.length ++ c

/-- 2-bit values packed from bit 0. -/
def pack2 (bytes : Nat) (v : Nat → Nat) : List Byte :=
  (List.range bytes).map (fun i => BitVec.ofNat 8 (v (4 * i) + 4 * v (4 * i + 1) + 16 * v (4 * i + 2) + 64 * v (4 * i + 3)))

/-- The highest class among the emergency stops that `p` selects. -/
def topClass (stops : List HostReq) (p : HostReq → Bool) : Nat := (stops.filter p).foldl (fun m q => max m (fieldLE q.pay 0 1 % 4)) 0

/-- The content of a stop summary record: `loss` is the class of an owner loss. -/
def stopSummary (stops : List HostReq) (loss : Nat) : List Byte :=
  leBytes 1 (max loss (topClass stops (fun q => q.h.kind = 0))) ++ [0] ++ pack2 2 (fun i => topClass stops (fun q => q.h.kind = 5 && q.h.index = i)) ++
  pack2 128 (fun i => topClass stops (fun q => q.h.kind = 1 && q.h.index = i)) ++ pack2 256 (fun i => topClass stops (fun q => q.h.kind = 2 && q.h.index = i))

/-- The opcodes that change the configuration, for IMAGE_GEN. -/
def configures (op : Nat) : Bool :=
  [0x0001, 0x1001, 0x1010, 0x1011, 0x1020, 0x1030, 0x3001, 0x3010, 0x3011, 0x3020, 0x3021, 0x3030, 0x4001, 0x4010, 0x4011, 0x5001].contains op

/-- The records of a group of commands: a batch ends with its close. -/
def groupRecords (g : List Staged) : List Byte :=
  (g.map (fun s => twinRecord 1 s.req.bytes)).flatten ++
    (match g with | s :: _ => if s.req.h.batch = 0 then [] else twinRecord 3 (Config.twinClose s.req.h.batch s.req.h.effective) | [] => [])

/-- The records of Meridian `n`: the stop summary, the commands in force in the order of their admission, and the axis phases that its plan brings. -/
def Dev.twinRecords (d : Dev) (n : Nat) (due : List Staged) (loss : Option Nat) : List Byte :=
  let stops := (due.filter Staged.stop).map (fun s => s.req)
  let phases := if d.pace.plan.cycle = n then d.pace.plan.carries.filter (fun c => c.1 / 16777216 = 1 && c.2.1 = pAXIS_PHASE) else []
  (if stops = [] && loss.isNone then [] else twinRecord 4 (stopSummary stops (loss.getD 0))) ++
  (((due.filter (fun s => !s.stop)).splitBy sameBatch).map groupRecords).flatten ++
  (phases.map (fun c => twinRecord 2 (Config.twinPhase (c.1 % 16777216) c.2.2.toNat))).flatten

/-- The axis whose digest goes next: the configured axes in turn, 0xFFFF without one. -/
def Dev.digestAxis (d : Dev) : Nat :=
  match d.motion.axes with
  | [] => 0xFFFF
  | e :: es => (((e :: es).map (fun x => x.1))[d.ring.digestNext % (es.length + 1)]?).getD 0xFFFF

/-- The TWIN frame of cycle `n` waits in front of the other acyclic traffic of the twin segment. The refresh bytes fill what the records leave (log 30). -/
def Dev.twinFrame (d : Dev) (n : Nat) (records : List Byte) : Dev :=
  let seg := d.twinSeg
  if !d.ring.standbyPresent || !(d.ring.seg seg).carries n then d
  else
    let ofs := d.ring.refOfs
    let len := min (d.twinCap - 28 - records.length) (Config.twinLen - ofs)
    let ax := d.digestAxis
    let dig := if ax = 0xFFFF then 0 else Config.bankDigest ax (n - 1)
    let body := leBytes 8 n ++ leBytes 4 d.ring.imageGen ++ leBytes 2 records.length ++ leBytes 2 len ++ leBytes 4 ofs ++ leBytes 2 ax ++ zeroBytes 2 ++ leBytes 4 dig ++ records ++
      (List.range len).map (fun i => Config.twinByte n (ofs + i))
    let s := d.ring.seg seg
    let f := acyclicFrame (d.launchAt seg d.tu.rcNs n) seg s.mapGen 0x18 0xFF (incWrap 16 s.seq) body
    let d1 := d.onSeg seg (fun s => { s with seq := incWrap 16 s.seq, queue := f :: s.queue.filter (fun g => service g ≠ 0x18) })
    { d1 with ring := { d1.ring with refOfs := if ofs + len < Config.twinLen then ofs + len else 0, digestNext := d1.ring.digestNext + 1 } }

/-- IMAGE_GEN counts a Meridian that changes the configuration. -/
def Dev.imageCount (d : Dev) (due : List Staged) : Dev :=
  if due.any (fun s => configures s.req.op) then { d with ring := { d.ring with imageGen := incWrap 32 d.ring.imageGen } } else d

/-! ## The Meridian as a whole -/

/-- Replies that wait for the Plate of cycle `n` wait no longer: a ring start has ended the cycles before it (log 12). -/
def Hif.unhold (h : Hif) (n : Nat) : Hif :=
  { h with pairs := h.pairs.map (fun (p : Pair) => { p with out := p.out.map (fun o => if o.hold = n then { o with hold := 0 } else o) }) }

/-- The CLEAR_COUNTERS of a group of due commands, cleared ahead of the rest of the Meridian where the group is to take effect (R40). -/
def Dev.clearGroup (d : Dev) (n : Nat) (g : List Staged) : Dev :=
  let cs := g.filter (fun s => s.req.op = 0x0009)
  let ok := if (g.head?.map (fun s => s.req.h.batch)).getD 0 = 0 then g.all (fun s => (d.chkOf s.req).status = 0) else (d.takeBatch n g).2
  if cs.isEmpty || !ok then d
  else cs.foldl (fun (d : Dev) s => let d := d.clearTarget s.req.h.kind s.req.h.index; { d with ctl := { d.ctl with preCleared := (s.req.h.kind, s.req.h.index) :: d.ctl.preCleared } }) d

/-- Counters that a command of Meridian `n` clears are 0 before any increment of cycle `n` (R40). -/
def Dev.clearAt (d : Dev) (n : Nat) : Dev := (((d.dueAt n).filter (fun s => !s.stop)).splitBy sameBatch).foldl (fun (d : Dev) g => d.clearGroup n g) d

/-- The parameter block that the MGC writes into the Y memory of an engine for one of its slots (Table 7.13). -/
def Dev.paramBlock (d : Dev) (g : Engine) (m : Tab Word) (x : Nat × Slot) : Tab Word :=
  match d.axis? x.2.axis with
  | some ax => putWords m (128 * x.1) ((List.range 128).map (fun i => Config.paramWord g.version (ax.prm.nat pKERNEL_SEL) ax.prm i))
  | none => m

/-- The MGC writes the parameter block of every slot at a Meridian (R227). -/
def Dev.paramBlocks (d : Dev) : Dev := { d with engines := d.engines.map (fun (g : Engine) => { g with ym := g.slots.foldl (d.paramBlock g) g.ym }) }

/-- What takes effect at Meridian `n`, in its order. -/
def Dev.effectsAt (d : Dev) (n : Nat) : Dev :=
  let d := ((((d.newCycle n).clearAt n).paceAt n).commandsAt n).safetyAt.makeSteps
  Dev.paramBlocks { d with ctl := { d.ctl with preCleared := [] } }

/-- A deposed leader launches nothing more and is passive (R331). -/
def Dev.deposedNow (d : Dev) : Dev :=
  { d with ctl := { d.ctl with running := false, first := false }, ring := { d.ring with role := 4 } }

/-- The Meridian of the next cycle. -/
def Dev.meridian (d0 : Dev) : Dev :=
  if !d0.ctl.running || d0.ring.role ≠ 3 || !(d0.ctl.first || d0.ctl.published = d0.ctl.cycle) then d0
  else if d0.ring.deposed then d0.deposedNow
  else
    let n := d0.ctl.cycle + 1
    let first := d0.ctl.first
    let d := d0.gateClose
    let due := d.dueAt n
    let loss := d.lossDue n
    let d := d.effectsAt n
    if !d.ctl.running then { d with host := d.host.unhold n }
    else
      let d := (if first then d.packSlots else d).launchAll n
      if d.ring.standbyPresent then (d.imageCount due).twinFrame n (d.twinRecords n due loss) else d

/-- MERIDIAN. -/
def execMeridian (s : State) : Host.Outcome State Fault Refusal := s.act Dev.meridian

end Sys2Proof.Machine
end

