-- ==== Sys2Proof/Machine/Twin.lean ====
section
/-! DEFINITION. The standby head (R324 to R331, R493): what a TWIN frame brings, the cycles that it computes behind the leader, silence, and takeover. -/

namespace Sys2Proof.Machine

open Sys2Proof

/-! ## The records of a TWIN frame (R326, Table 10.6) -/

/-- The records in `b`, as kind and content; the number bounds them. -/
def twinParse : Nat → List Byte → List (Nat × List Byte)
  | 0, _ => []
  | k + 1, b =>
    if b.length < 4 then []
    else
      let n := fieldLE b 2 2
      (fieldLE b 0 1, (b.drop 4).take n) :: twinParse k (b.drop (4 + n))

/-- A command of the leader takes effect at the standby, without a reply. A ring start is the leader's own. -/
def Dev.twinTake (d : Dev) (q : HostReq) : Dev :=
  let r := d.effOf q
  if q.op = 0x4012 then d else if r.2.status = 0 then r.1.lastCommand q else d

/-- A command by itself: it is checked again, as at the leader (R403). -/
def Dev.twinOne (d : Dev) (q : HostReq) : Dev := if (d.chkOf q).status = 0 then d.twinTake q else d

/-- A closed batch takes effect together or not at all. -/
def Dev.twinBatch (d : Dev) (qs : List HostReq) : Dev :=
  (qs.foldl (fun (x : Option Dev) q => x.bind (fun d => if (d.chkOf q).status = 0 then some (d.twinTake q) else none)) (some d)).getD d

/-- AXIS_PHASE that an axis phase record names (the record's layout is open, log 30). -/
def Dev.twinPhased (d : Dev) (c : List Byte) : Dev :=
  let cands := (d.motion.axes.map (fun e => (List.range 8).map (fun p => (e.1, p)))).flatten
  match cands.find? (fun x => Config.twinPhase x.1 x.2 = c) with
  | some x => d.onAxis x.1 (fun ax => { ax with prm := Tab.set ax.prm pAXIS_PHASE (x.2 : Int) })
  | none => d

/-- The records of commands, batch closes and axis phases in order; `waiting` are the members of the batch whose close comes. -/
def Dev.twinRecordsTake (d : Dev) (rs : List (Nat × List Byte)) : Dev :=
  (rs.foldl (fun (x : Dev × List HostReq) r =>
    if r.1 = 1 then
      let q := Sys2Proof.Machine.headOf 0 r.2
      let d := { x.1 with ctl := { x.1.ctl with commands := incSat 16 x.1.ctl.commands } }
      if q.h.batch = 0 then (d.twinOne q, x.2) else (d, x.2 ++ [q])
    else if r.1 = 3 then (Dev.twinBatch { x.1 with ctl := { x.1.ctl with batches := incSat 16 x.1.ctl.batches } } x.2, [])
    else if r.1 = 2 then (x.1.twinPhased r.2, x.2)
    else x) (d, [])).1

/-- The 2-bit value `i` of packed values. -/
def unpack2 (b : List Byte) (o i : Nat) : Nat := fieldLE b (o + i / 4) 1 / 4 ^ (i % 4) % 4

/-- A stop summary: every emergency stop of the Meridian (R326). -/
def Dev.twinStops (d : Dev) (c : List Byte) : Dev :=
  let dev := fieldLE c 0 1
  let d := if dev = 0 then d else d.estopAll none dev
  let d := (List.range 8).foldl (fun (d : Dev) i => let v := unpack2 c 2 i; if v = 0 then d else d.estopAll (some i) v) d
  let d := (d.motion.axes.map (fun e => e.1)).foldl (fun (d : Dev) a => let v := unpack2 c 4 a; if v = 0 then d else d.estopServo a v) d
  (d.motion.steppers.map (fun e => e.1)).foldl (fun (d : Dev) a => let v := unpack2 c 132 a; if v = 0 then d else d.estopStep a v) d

/-! ## The twin state (R327, Table 10.7) -/

/-- The twin image is no longer trusted (R327): cause 1 digest, 2 frame missed, 3 IMAGE_GEN, 4 placement (the numbers are the model's, log 30). -/
def Dev.diverged (d : Dev) (cause : Nat) : Dev :=
  Dev.emit { d with ring := { d.ring with twin := 1, refOfs := 0, refDone := false, digestOk := [], twinMissCnt := if cause = 2 then incSat 32 d.ring.twinMissCnt else d.ring.twinMissCnt } }
    (evC srcDevice eTWIN_DIVERGED (leBytes 1 cause))

/-- The refresh of a frame in FILLING: the image is filled from its start to its end under one IMAGE_GEN. -/
def Ring.fill (r : Ring) (gen ofs len : Nat) : Ring :=
  let on := ofs = 0 || (r.refDone && gen = r.imageGen && ofs = r.refOfs)
  let full := on && decide (Config.twinLen ≤ ofs + len)
  { r with imageGen := gen, refDone := on && !full, refOfs := if on && !full then ofs + len else 0, twin := if full then 2 else 1, digestOk := [] }

/-- The standby's PAC can place the leader's axes with their phases (R327). -/
def Dev.twinPlaces (d : Dev) : Bool :=
  let seff := d.planIndex d.pace.marginLow d.pace.plan.roles
  let tp := d.toPlace
  placeable seff (d.bgCost seff) (couldCarry d.pace.plan.roles) d.budget (tp.1 ++ tp.2)

/-- The digest of a frame in VERIFYING or READY: matches for every configured axis make READY. -/
def Dev.twinDigest (d : Dev) (k axis digest : Nat) : Dev :=
  let bad := axis ≠ 0xFFFF && digest ≠ Config.bankDigest axis (k - 1)
  if bad then d.diverged 1
  else if d.ring.twin = 3 then d
  else
    let ok := if axis = 0xFFFF || d.ring.digestOk.contains axis then d.ring.digestOk else d.ring.digestOk ++ [axis]
    let d := { d with ring := { d.ring with digestOk := ok } }
    if d.motion.axes.all (fun e => ok.contains e.1) then Dev.emit { d with ring := { d.ring with twin := 3 } } (evC srcDevice eTWIN_READY) else d

/-- The twin state on the TWIN frame of cycle `k`. -/
def Dev.twinStep (d : Dev) (k : Nat) (f : List Byte) : Dev :=
  let gen := pay f 52 4
  let d := { d with ring := { d.ring with twinSeen := true } }
  if d.ring.twin = 1 then { d with ring := d.ring.fill gen (pay f 60 4) (pay f 58 2) }
  else if d.ring.twin = 2 || d.ring.twin = 3 then
    (if gen ≠ d.ring.imageGen then Dev.diverged { d with ring := { d.ring with imageGen := gen } } 3
     else if !d.twinPlaces then d.diverged 4
     else d.twinDigest k (pay f 64 2) (pay f 68 4))
  else d

/-! ## TWIN -/

/-- The standby's cycle `k` begins with the records of its TWIN frame, and the inputs of cycle frame `k` are there (R328). -/
def Dev.twinCycle (d : Dev) (k : Nat) (rs : List (Nat × List Byte)) : Dev :=
  let d := (d.newCycle k).twinRecordsTake rs
  let d := (rs.filter (fun r => r.1 = 4)).foldl (fun (d : Dev) r => d.twinStops r.2) d
  d.safetyAt.makeSteps.takeInputs

/-- A TWIN frame reaches the standby. -/
def Dev.twinFrameIn (d : Dev) (f : List Byte) : Dev :=
  let k := pay f 44 8
  if !(d.ring.role = 5 && fcsOk f && frameKind f = 3 && service f = 0x18 && hdr f 1 1 = d.twinSeg && d.ctl.cycle < k) then d
  else
    let n := pay f 56 2
    (d.twinCycle k (twinParse (n / 4) (payBytes f 72 n))).twinStep k f

/-- TWIN. -/
def execTwin (frame : List Byte) (s : State) : Host.Outcome State Fault Refusal := s.act (fun d => d.twinFrameIn frame)

/-! ## The standby's computation (R328) -/

/-- The output block of a kernel other than 0 at the standby: its words are open (log 13). -/
def Dev.openWords (d : Dev) : List Nat := (List.range 18).map (fun i => Config.freeNat (d.ctl.free + i) % 2 ^ 32)

/-- One pass of an axis at the standby. -/
def Dev.twinPass (d : Dev) (a pass : Nat) : Dev :=
  match d.axis? a with
  | none => d
  | some ax =>
    let T := d.period ax
    let n := d.ctl.cycle
    if ax.prm.nat pKERNEL_SEL = 0 then
      let p := if pass = 0 then ax.doFull a T n else if pass = 2 then ax.doCorr a T n false else ax.doSpec a T n
      (d.onAxis a (fun _ => p.ax)).emits p.evs
    else
      let p := ax.doWords a pass d.openWords false
      Dev.onAxis { d with ctl := { d.ctl with free := d.ctl.free + 18 } } a (fun _ => p.ax)

/-- A servo axis of the standby in its cycle: set-points, passes, Seal. -/
def Dev.twinServo (d : Dev) (a : Nat) : Dev :=
  match d.axis? a with
  | none => d
  | some ax0 =>
    let n := d.ctl.cycle
    let split := d.split ax0
    let next := ax0.inPhase (n + 1)
    if !ax0.inPhase n || ax0.shed then d.onAxis a (fun ax => ax.sealIdle split next)
    else
      let d := if split then (((d.deliver a).twinPass a 2).deliver a).twinPass a 1 else (d.deliver a).twinPass a 0
      d.onAxis a (fun ax => (((d.placeSwitches ax).sealFresh split next).track ax.w.sup n).prune (d.period ax))

/-- The standby computes and seals the cycle whose inputs it has. -/
def Dev.twinCompute (d : Dev) : Dev :=
  let d := Dev.advance { d with ctl := { d.ctl with running := true, first := false } }
  let d := (d.motion.axes.map (fun e => e.1)).foldl Dev.twinServo d
  let d := (d.motion.steppers.map (fun e => e.1)).foldl (fun (d : Dev) a => (d.stepUpdate a).sealStepper a) d
  let d := d.packSlots.placeTouts
  { d with ctl := { d.ctl with running := false, sealed := true } }

/-- A cycle that no TWIN frame brought is due: cycle frames have gone on past it, or the leader is silent (Table 10.8). -/
def Dev.twinLate (d : Dev) : Bool :=
  d.ctl.sealed && (if d.ring.silent = 0 then decide (d.ctl.cycle + 1 < d.ring.leaderCycle)
    else decide (d.ctl.cycle + 1 ≤ d.ring.leaderCycle + min d.ring.silent (d.prm pMISS_TAKEOVER - 1)))

/-- The standby computes the cycle behind the leader and publishes its Plate. In silence it computes with missed feedback and no commands, and the new leader's Plates
follow at takeover (R329). -/
def Dev.standbySeal (d : Dev) : Dev :=
  if d.ring.role ≠ 5 then d
  else if d.ctl.gathered && !d.ctl.sealed then d.twinCompute.publishPlate
  else if d.twinLate then
    let m := d.ring.silent = 0
    let d := if m then (if d.ring.twin = 2 || d.ring.twin = 3 then d.diverged 2 else d) else d
    let d := (d.twinCycle (d.ctl.cycle + 1) []).twinCompute
    if m || d.ctl.cycle ≤ d.ring.leaderCycle then d.publishPlate else d
  else d

/-- STANDBY_PLATE_SEAL. -/
def execStandbyPlateSeal (s : State) : Host.Outcome State Fault Refusal := s.act Dev.standbySeal

/-! ## Silence and takeover (R329) -/

/-- M_N + t_ring,max + 1 µs passes at the standby: a cycle is silent without a cycle frame and without LEADER_ALIVE. -/
def Dev.silenceCheck (d : Dev) : Dev :=
  if d.ring.role ≠ 5 then d
  else if d.ring.frameSeen || d.ring.aliveSeen then { d with ring := { d.ring with silent := 0, frameSeen := false, aliveSeen := false } }
  else
    let d := d.segNos.foldl (fun (d : Dev) i => { d with ring := d.ring.missSlots i true }) d
    let d := { d with ring := { d.ring with silent := d.ring.silent + 1 } }
    if d.ring.silent = d.prm pMISS_TAKEOVER && d.ring.twin ≠ 3 then d.emit (evC srcDevice eTAKEOVER_REFUSED) else d

/-- SILENCE_CHECK. -/
def execSilenceCheck (s : State) : Host.Outcome State Fault Refusal := s.act Dev.silenceCheck

/-- Every command repeats with its age at a takeover: no count of lateness takes note (R329). -/
def Dev.takeoverStale (d : Dev) (m : Nat) : Dev :=
  { d with motion := { d.motion with
      axes := Tab.mapAll d.motion.axes (fun _ ax => { ax with stale := true, cmdAge := m, out := { ax.out with stale := true, age := m } })
      steppers := Tab.mapAll d.motion.steppers (fun _ s => { s with stale := true, cmdAge := m }) } }

/-- The Plates of the silent cycles and of the first one after them (R329, R36): `k` of them from cycle `n` on. -/
def Dev.takeoverPlates (d : Dev) : Nat → Nat → Dev
  | 0, _ => d
  | k + 1, n => ((Dev.publishPlate { d with ctl := { d.ctl with cycle := n, commands := 0, batches := 0 } })).takeoverPlates k (n + 1)

/-- A segment that the new leader takes over: RUN, with the nodes before its own position. -/
def Segment.taken (s : Segment) (n : Nat) : Segment :=
  if s.state = 10 then
    { s with state := 7, devs := s.cfgPos - 1, firstCycle := n, wrapPos := 0, silentRun := 0, returnRun := 0,
             nodes := (List.range (s.cfgPos - 1)).foldl (fun (t : Tab Node) i => Tab.set t (i + 1) { Tab.getD t (i + 1) {} with state := 2 }) s.nodes }
  else s

/-- The standby becomes the leader. -/
def Ring.takeOver (r : Ring) (n : Nat) : Ring :=
  { r with role := 3, standbyPresent := false, tookOver := true, takeoverLeft := 16, takeoverCnt := incSat 16 r.takeoverCnt, twin := 0, silent := 0, freshLead := true,
           segs := r.segs.map (fun s => s.taken n) }

/-- The takeover at Meridian L + m + 1 (Table 10.8): cycle L + m commits nothing. -/
def Dev.takeover (d0 : Dev) : Dev :=
  let m := d0.prm pMISS_TAKEOVER
  if !(d0.ring.role = 5 && d0.ring.twin = 3 && decide (m ≤ d0.ring.silent)) then d0
  else
    let l := d0.ring.leaderCycle
    let n := l + m + 1
    let d := Dev.takeoverStale { d0 with ring := d0.ring.takeOver n, si := d0.si.takeOver m } m
    let d := d.takeoverPlates m (l + 1)
    let d := d.planInForce (d.makePlan n).1
    let d := Dev.newCycle { d with ctl := { d.ctl with running := true, tapply := d.tApplyOf d.runAhead } } n
    (d.packSlots.launchAll n).emit (evC srcDevice eTAKEOVER)

/-- TAKEOVER. -/
def execTakeover (s : State) : Host.Outcome State Fault Refusal := s.act Dev.takeover

end Sys2Proof.Machine
end

