-- ==== Sys2Proof/Machine/Dispatch.lean ====
section
/-! DEFINITION. The dispatcher: one arm per constructor of `Instr`, one direct call of its meaning. -/

namespace Sys2Proof.Machine

open Sys2Proof

def exec (i : Instr) (s : State) : Host.Outcome State Fault Refusal :=
  match i with
  | .powerOn => Sys2Proof.Machine.execPowerOn s
  | .vddAonFall => Sys2Proof.Machine.execVddAonFall s
  | .supplyReset => Sys2Proof.Machine.execSupplyReset s
  | .resetNPin lowNs => Sys2Proof.Machine.execResetNPin lowNs s
  | .bootWatchdogExpiry => Sys2Proof.Machine.execBootWatchdogExpiry s
  | .boot bootSel reads badLogic badBanks => Sys2Proof.Machine.execBoot bootSel reads badLogic badBanks s
  | .siStartUpTest pass => Sys2Proof.Machine.execSiStartUpTest pass s
  | .tbRefclkLoss => Sys2Proof.Machine.execTbRefclkLoss s
  | .sdRefclkLoss => Sys2Proof.Machine.execSdRefclkLoss s
  | .peRefclkLoss => Sys2Proof.Machine.execPeRefclkLoss s
  | .domainIdleOff domain => Sys2Proof.Machine.execDomainIdleOff domain s
  | .gateClose => Sys2Proof.Machine.execGateClose s
  | .meridian => Sys2Proof.Machine.execMeridian s
  | .frameReturnDeadline seg => Sys2Proof.Machine.execFrameReturnDeadline seg s
  | .cycleFrameReturn seg portA frame => Sys2Proof.Machine.execCycleFrameReturn seg portA frame s
  | .gather => Sys2Proof.Machine.execGather s
  | .correctionPackDeadline => Sys2Proof.Machine.execCorrectionPackDeadline s
  | .correctionFrameLaunch => Sys2Proof.Machine.execCorrectionFrameLaunch s
  | .correctionFrameReturn seg portA frame => Sys2Proof.Machine.execCorrectionFrameReturn seg portA frame s
  | .slotStart engine slot pass => Sys2Proof.Machine.execSlotStart engine slot pass s
  | .setpointDelivery axis => Sys2Proof.Machine.execSetpointDelivery axis s
  | .regLost ch => Sys2Proof.Machine.execRegLost ch s
  | .switchDebounceExpiry step axis which => Sys2Proof.Machine.execSwitchDebounceExpiry step axis which s
  | .switchChatter step axis which => Sys2Proof.Machine.execSwitchChatter step axis which s
  | .homeTimeout step axis => Sys2Proof.Machine.execHomeTimeout step axis s
  | .homeHsTimeExpiry axis => Sys2Proof.Machine.execHomeHsTimeExpiry axis s
  | .stepUpdate axis => Sys2Proof.Machine.execStepUpdate axis s
  | .stallDeclared axis => Sys2Proof.Machine.execStallDeclared axis s
  | .holdDelayExpiry axis => Sys2Proof.Machine.execHoldDelayExpiry axis s
  | .stepFbLost axis => Sys2Proof.Machine.execStepFbLost axis s
  | .sealDeadline => Sys2Proof.Machine.execSealDeadline s
  | .overrunLimit step axis => Sys2Proof.Machine.execOverrunLimit step axis s
  | .platePublish => Sys2Proof.Machine.execPlatePublish s
  | .streamRecordWrite stream => Sys2Proof.Machine.execStreamRecordWrite stream s
  | .chrSample => Sys2Proof.Machine.execChrSample s
  | .chrHoldoffExpiry => Sys2Proof.Machine.execChrHoldoffExpiry s
  | .chrAutoTimeout => Sys2Proof.Machine.execChrAutoTimeout s
  | .chrStreamFlush timeUp => Sys2Proof.Machine.execChrStreamFlush timeUp s
  | .feTimerExpiry axis => Sys2Proof.Machine.execFeTimerExpiry axis s
  | .qsTimeout axis => Sys2Proof.Machine.execQsTimeout axis s
  | .standstillReached axis => Sys2Proof.Machine.execStandstillReached axis s
  | .torqueSat axis => Sys2Proof.Machine.execTorqueSat axis s
  | .feedbackLost axis => Sys2Proof.Machine.execFeedbackLost axis s
  | .splitLost axis => Sys2Proof.Machine.execSplitLost axis s
  | .handoverBlendEnd axis => Sys2Proof.Machine.execHandoverBlendEnd axis s
  | .mac engine lane psh sign acc a b fin => Sys2Proof.Machine.execMac engine lane psh sign acc a b fin s
  | .msu engine lane psh sign acc a b fin => Sys2Proof.Machine.execMsu engine lane psh sign acc a b fin s
  | .mpy engine lane psh sign acc a b fin => Sys2Proof.Machine.execMpy engine lane psh sign acc a b fin s
  | .memLoad engine bus wide reg amode ptr ofs fin => Sys2Proof.Machine.execMemLoad engine bus wide reg amode ptr ofs fin s
  | .memStore engine bus wide reg amode ptr ofs fin => Sys2Proof.Machine.execMemStore engine bus wide reg amode ptr ofs fin s
  | .aluNop engine fin => Sys2Proof.Machine.execAluNop engine fin s
  | .add engine dst a b fin => Sys2Proof.Machine.execAdd engine dst a b fin s
  | .sub engine dst a b fin => Sys2Proof.Machine.execSub engine dst a b fin s
  | .adds engine dst a b fin => Sys2Proof.Machine.execAdds engine dst a b fin s
  | .subs engine dst a b fin => Sys2Proof.Machine.execSubs engine dst a b fin s
  | .add64 engine dst a b fin => Sys2Proof.Machine.execAdd64 engine dst a b fin s
  | .sub64 engine dst a b fin => Sys2Proof.Machine.execSub64 engine dst a b fin s
  | .and engine dst a b fin => Sys2Proof.Machine.execAnd engine dst a b fin s
  | .or engine dst a b fin => Sys2Proof.Machine.execOr engine dst a b fin s
  | .xor engine dst a b fin => Sys2Proof.Machine.execXor engine dst a b fin s
  | .shl engine dst a sh fin => Sys2Proof.Machine.execShl engine dst a sh fin s
  | .shra engine dst a sh fin => Sys2Proof.Machine.execShra engine dst a sh fin s
  | .shrl engine dst a sh fin => Sys2Proof.Machine.execShrl engine dst a sh fin s
  | .min engine dst a b fin => Sys2Proof.Machine.execMin engine dst a b fin s
  | .max engine dst a b fin => Sys2Proof.Machine.execMax engine dst a b fin s
  | .clamp engine dst a b fin => Sys2Proof.Machine.execClamp engine dst a b fin s
  | .cmp engine a b fin => Sys2Proof.Machine.execCmp engine a b fin s
  | .cmp64 engine a b fin => Sys2Proof.Machine.execCmp64 engine a b fin s
  | .sel engine dst a b sh fin => Sys2Proof.Machine.execSel engine dst a b sh fin s
  | .movi engine dst imm fin => Sys2Proof.Machine.execMovi engine dst imm fin s
  | .rnd engine dst a sh fin => Sys2Proof.Machine.execRnd engine dst a sh fin s
  | .rnd64 engine dst a sh fin => Sys2Proof.Machine.execRnd64 engine dst a sh fin s
  | .amov engine dst a fin => Sys2Proof.Machine.execAmov engine dst a fin s
  | .aclr engine dst fin => Sys2Proof.Machine.execAclr engine dst fin s
  | .rds engine dst sh fin => Sys2Proof.Machine.execRds engine dst sh fin s
  | .wrs engine sh a fin => Sys2Proof.Machine.execWrs engine sh a fin s
  | .ctlNop engine fin => Sys2Proof.Machine.execCtlNop engine fin s
  | .br engine addr fin => Sys2Proof.Machine.execBr engine addr fin s
  | .brc engine sh addr fin => Sys2Proof.Machine.execBrc engine sh addr fin s
  | .loop engine immSel a imm addr fin => Sys2Proof.Machine.execLoop engine immSel a imm addr fin s
  | .djnz1 engine addr fin => Sys2Proof.Machine.execDjnz1 engine addr fin s
  | .trd engine dst a b fin => Sys2Proof.Machine.execTrd engine dst a b fin s
  | .tableReadReturn engine => Sys2Proof.Machine.execTableReadReturn engine s
  | .twait engine fin => Sys2Proof.Machine.execTwait engine fin s
  | .done engine elapsedNs => Sys2Proof.Machine.execDone engine elapsedNs s
  | .engineTrap engine words => Sys2Proof.Machine.execEngineTrap engine words s
  | .preemptOverrun engine => Sys2Proof.Machine.execPreemptOverrun engine s
  | .kernelOverBudget engine => Sys2Proof.Machine.execKernelOverBudget engine s
  | .pacePlanStart meridian => Sys2Proof.Machine.execPacePlanStart meridian s
  | .pacePlanComplete => Sys2Proof.Machine.execPacePlanComplete s
  | .planPeriodExpiry => Sys2Proof.Machine.execPlanPeriodExpiry s
  | .marginLowExit => Sys2Proof.Machine.execMarginLowExit s
  | .seeingMismatch engine => Sys2Proof.Machine.execSeeingMismatch engine s
  | .tempSensorRead temps => Sys2Proof.Machine.execTempSensorRead temps s
  | .ageingUpdate since opsec => Sys2Proof.Machine.execAgeingUpdate since opsec s
  | .avsAdjust ok again => Sys2Proof.Machine.execAvsAdjust ok again s
  | .avsReadback mv ok again => Sys2Proof.Machine.execAvsReadback mv ok again s
  | .listenTimeExpiry => Sys2Proof.Machine.execListenTimeExpiry s
  | .claimInterval => Sys2Proof.Machine.execClaimInterval s
  | .claim seg frame => Sys2Proof.Machine.execClaim seg frame s
  | .claimTimeout => Sys2Proof.Machine.execClaimTimeout s
  | .enum seg frame => Sys2Proof.Machine.execEnum seg frame s
  | .delay seg elapsedPs frame => Sys2Proof.Machine.execDelay seg elapsedPs frame s
  | .config seg frame => Sys2Proof.Machine.execConfig seg frame s
  | .start => Sys2Proof.Machine.execStart s
  | .syncTimeout seg => Sys2Proof.Machine.execSyncTimeout seg s
  | .joinPollPeriodExpiry => Sys2Proof.Machine.execJoinPollPeriodExpiry s
  | .joinPoll seg frame => Sys2Proof.Machine.execJoinPoll seg frame s
  | .joinGrant seg ringNs => Sys2Proof.Machine.execJoinGrant seg ringNs s
  | .linkTest seg frame => Sys2Proof.Machine.execLinkTest seg frame s
  | .mailboxFrameReturn seg frame => Sys2Proof.Machine.execMailboxFrameReturn seg frame s
  | .acyclicFrameLaunch seg atNs => Sys2Proof.Machine.execAcyclicFrameLaunch seg atNs s
  | .reinitNoticeEnd seg => Sys2Proof.Machine.execReinitNoticeEnd seg s
  | .linkStateChange plant port sideB up => Sys2Proof.Machine.execLinkStateChange plant port sideB up s
  | .twin frame => Sys2Proof.Machine.execTwin frame s
  | .standbyPlateSeal => Sys2Proof.Machine.execStandbyPlateSeal s
  | .leaderAlive seg frame => Sys2Proof.Machine.execLeaderAlive seg frame s
  | .silenceCheck => Sys2Proof.Machine.execSilenceCheck s
  | .takeover => Sys2Proof.Machine.execTakeover s
  | .ptpMessageReceive port instant frame => Sys2Proof.Machine.execPtpMessageReceive port instant frame s
  | .ptpMessageTransmit port instant kind => Sys2Proof.Machine.execPtpMessageTransmit port instant kind s
  | .tbSourceLost => Sys2Proof.Machine.execTbSourceLost s
  | .holdoverExpiry => Sys2Proof.Machine.execHoldoverExpiry s
  | .ppsInEdge instant falling => Sys2Proof.Machine.execPpsInEdge instant falling s
  | .ppsOutPulse => Sys2Proof.Machine.execPpsOutPulse s
  | .toutEdge out => Sys2Proof.Machine.execToutEdge out s
  | .captureEdge input instant falling heldNs => Sys2Proof.Machine.execCaptureEdge input instant falling heldNs s
  | .siCycle => Sys2Proof.Machine.execSiCycle s
  | .safeInputChange channel high => Sys2Proof.Machine.execSafeInputChange channel high s
  | .testPulse output highs => Sys2Proof.Machine.execTestPulse output highs s
  | .discrepancyTimeout pair => Sys2Proof.Machine.execDiscrepancyTimeout pair s
  | .twoHandSync func => Sys2Proof.Machine.execTwoHandSync func s
  | .resetInputPulse pair ms => Sys2Proof.Machine.execResetInputPulse pair ms s
  | .connWatchdogExpiry conn => Sys2Proof.Machine.execConnWatchdogExpiry conn s
  | .connStartTimeout conn => Sys2Proof.Machine.execConnStartTimeout conn s
  | .stoFbFault conn chan => Sys2Proof.Machine.execStoFbFault conn chan s
  | .slsViolation conn chan => Sys2Proof.Machine.execSlsViolation conn chan s
  | .safeOutOffPulse high => Sys2Proof.Machine.execSafeOutOffPulse high s
  | .safeFbMismatch fb => Sys2Proof.Machine.execSafeFbMismatch fb s
  | .siWatchdogExpiry => Sys2Proof.Machine.execSiWatchdogExpiry s
  | .siFault cause => Sys2Proof.Machine.execSiFault cause s
  | .vddSafeWindow => Sys2Proof.Machine.execVddSafeWindow s
  | .eventIngress => Sys2Proof.Machine.execEventIngress s
  | .logWrite => Sys2Proof.Machine.execLogWrite s
  | .logPersist ok again => Sys2Proof.Machine.execLogPersist ok again s
  | .logEraseDone => Sys2Proof.Machine.execLogEraseDone s
  | .persistRecordTimer opsec ok again => Sys2Proof.Machine.execPersistRecordTimer opsec ok again s
  | .scheduledTestStart kind => Sys2Proof.Machine.execScheduledTestStart kind s
  | .bistBurst waitNs => Sys2Proof.Machine.execBistBurst waitNs s
  | .logicBistDone first again => Sys2Proof.Machine.execLogicBistDone first again s
  | .testEarlyStop cause => Sys2Proof.Machine.execTestEarlyStop cause s
  | .memoryBistDone lines transient => Sys2Proof.Machine.execMemoryBistDone lines transient s
  | .engineReloadDone engine => Sys2Proof.Machine.execEngineReloadDone engine s
  | .scrubRead bitsBad again changed => Sys2Proof.Machine.execScrubRead bitsBad again changed s
  | .poisonRead addr kind index => Sys2Proof.Machine.execPoisonRead addr kind index s
  | .fabricBlockTransfer path data crc again crcAgain => Sys2Proof.Machine.execFabricBlockTransfer path data crc again crcAgain s
  | .linkReturn link clean => Sys2Proof.Machine.execLinkReturn link clean s
  | .mgtRestartReady => Sys2Proof.Machine.execMgtRestartReady s
  | .mgtRollbackTimeout => Sys2Proof.Machine.execMgtRollbackTimeout s
  | .ownClaim nonce => Sys2Proof.Machine.execOwnClaim nonce s
  | .ownHeartbeat token => Sys2Proof.Machine.execOwnHeartbeat token s
  | .ownRelease token => Sys2Proof.Machine.execOwnRelease token s
  | .ownerLeaseExpiry => Sys2Proof.Machine.execOwnerLeaseExpiry s
  | .hostReset => Sys2Proof.Machine.execHostReset s
  | .plateLatestRead => Sys2Proof.Machine.execPlateLatestRead s
  | .pinRequest value => Sys2Proof.Machine.execPinRequest value s
  | .pinRelease value => Sys2Proof.Machine.execPinRelease value s
  | .pinExpiry => Sys2Proof.Machine.execPinExpiry s
  | .queueEnable pair value => Sys2Proof.Machine.execQueueEnable pair value s
  | .cqTailDoorbell pair value => Sys2Proof.Machine.execCqTailDoorbell pair value s
  | .rqHeadDoorbell pair value => Sys2Proof.Machine.execRqHeadDoorbell pair value s
  | .registerWrite ofs size value => Sys2Proof.Machine.execRegisterWrite ofs size value s
  | .bar2Write ofs bytes => Sys2Proof.Machine.execBar2Write ofs bytes s
  | .commandFetch pair bytes => Sys2Proof.Machine.execCommandFetch pair bytes s
  | .commandAdmission => Sys2Proof.Machine.execCommandAdmission s
  | .replyPost pair => Sys2Proof.Machine.execReplyPost pair s
  | .hostEventPost => Sys2Proof.Machine.execHostEventPost s
  | .irqModerationTimeout pair => Sys2Proof.Machine.execIrqModerationTimeout pair s
  | .hostDmaError pair again => Sys2Proof.Machine.execHostDmaError pair again s
  | .mgmtSetParams h pay => Sys2Proof.Machine.execMgmtSetParams h pay s
  | .mgmtGetParams h pay => Sys2Proof.Machine.execMgmtGetParams h pay s
  | .getInfo h pay => Sys2Proof.Machine.execGetInfo h pay s
  | .setOwnership h pay => Sys2Proof.Machine.execSetOwnership h pay s
  | .abort h pay => Sys2Proof.Machine.execAbort h pay s
  | .queueResize h pay => Sys2Proof.Machine.execQueueResize h pay s
  | .streamStart h pay => Sys2Proof.Machine.execStreamStart h pay s
  | .streamStop h pay => Sys2Proof.Machine.execStreamStop h pay s
  | .clearCounters h pay => Sys2Proof.Machine.execClearCounters h pay s
  | .paceStatus h pay => Sys2Proof.Machine.execPaceStatus h pay s
  | .bulkOpen h pay => Sys2Proof.Machine.execBulkOpen h pay s
  | .bulkWrite h pay => Sys2Proof.Machine.execBulkWrite h pay s
  | .bulkClose h pay => Sys2Proof.Machine.execBulkClose h pay s
  | .axisSetParams h pay => Sys2Proof.Machine.execAxisSetParams h pay s
  | .axisGetParams h pay => Sys2Proof.Machine.execAxisGetParams h pay s
  | .axisAdd h pay => Sys2Proof.Machine.execAxisAdd h pay s
  | .axisRemove h pay => Sys2Proof.Machine.execAxisRemove h pay s
  | .axisEnable h pay => Sys2Proof.Machine.execAxisEnable h pay s
  | .axisDisable h pay => Sys2Proof.Machine.execAxisDisable h pay s
  | .faultClear h pay => Sys2Proof.Machine.execFaultClear h pay s
  | .tableLoad h pay => Sys2Proof.Machine.execTableLoad h pay s
  | .bindSwitch h pay => Sys2Proof.Machine.execBindSwitch h pay s
  | .axisStatus h pay => Sys2Proof.Machine.execAxisStatus h pay s
  | .stepStatus h pay => Sys2Proof.Machine.execStepStatus h pay s
  | .setPosition h pay => Sys2Proof.Machine.execSetPosition h pay s
  | .mode h pay => Sys2Proof.Machine.execMode h pay s
  | .estop h pay => Sys2Proof.Machine.execEstop h pay s
  | .processWrite h pay => Sys2Proof.Machine.execProcessWrite h pay s
  | .orrerySetParams h pay => Sys2Proof.Machine.execOrrerySetParams h pay s
  | .orreryGetParams h pay => Sys2Proof.Machine.execOrreryGetParams h pay s
  | .orrConfigure h pay => Sys2Proof.Machine.execOrrConfigure h pay s
  | .orrRemove h pay => Sys2Proof.Machine.execOrrRemove h pay s
  | .orrSpeed h pay => Sys2Proof.Machine.execOrrSpeed h pay s
  | .orrStop h pay => Sys2Proof.Machine.execOrrStop h pay s
  | .camLoad h pay => Sys2Proof.Machine.execCamLoad h pay s
  | .camDelete h pay => Sys2Proof.Machine.execCamDelete h pay s
  | .regRemove h pay => Sys2Proof.Machine.execRegRemove h pay s
  | .netSetParams h pay => Sys2Proof.Machine.execNetSetParams h pay s
  | .netGetParams h pay => Sys2Proof.Machine.execNetGetParams h pay s
  | .mapLoad h pay => Sys2Proof.Machine.execMapLoad h pay s
  | .mapPatch h pay => Sys2Proof.Machine.execMapPatch h pay s
  | .ringStart h pay => Sys2Proof.Machine.execRingStart h pay s
  | .segStatus h pay => Sys2Proof.Machine.execSegStatus h pay s
  | .collimation h pay => Sys2Proof.Machine.execCollimation h pay s
  | .mailbox h pay => Sys2Proof.Machine.execMailbox h pay s
  | .mailboxTimeout seg => Sys2Proof.Machine.execMailboxTimeout seg s
  | .timeSetParams h pay => Sys2Proof.Machine.execTimeSetParams h pay s
  | .timeGetParams h pay => Sys2Proof.Machine.execTimeGetParams h pay s
  | .timeSet h pay => Sys2Proof.Machine.execTimeSet h pay s
  | .timeStatus h pay => Sys2Proof.Machine.execTimeStatus h pay s
  | .captureRead h pay => Sys2Proof.Machine.execCaptureRead h pay s
  | .ioStatus h pay => Sys2Proof.Machine.execIoStatus h pay s
  | .chrConfig h pay => Sys2Proof.Machine.execChrConfig h pay s
  | .chrArm h pay => Sys2Proof.Machine.execChrArm h pay s
  | .chrDisarm h pay => Sys2Proof.Machine.execChrDisarm h pay s
  | .chrForce h pay => Sys2Proof.Machine.execChrForce h pay s
  | .chrRead h pay => Sys2Proof.Machine.execChrRead h pay s
  | .chrStatus h pay => Sys2Proof.Machine.execChrStatus h pay s
  | .logRead h pay => Sys2Proof.Machine.execLogRead h pay s
  | .logStatus h pay => Sys2Proof.Machine.execLogStatus h pay s
  | .logMark h pay => Sys2Proof.Machine.execLogMark h pay s
  | .logChallenge h pay => Sys2Proof.Machine.execLogChallenge h pay s
  | .logClear h pay => Sys2Proof.Machine.execLogClear h pay s
  | .safeStatus h pay => Sys2Proof.Machine.execSafeStatus h pay s
  | .safeReset h pay => Sys2Proof.Machine.execSafeReset h pay s
  | .safeChallenge h pay => Sys2Proof.Machine.execSafeChallenge h pay s
  | .safeConfig h pay => Sys2Proof.Machine.execSafeConfig h pay s
  | .stRun h pay => Sys2Proof.Machine.execStRun h pay s
  | .stStatus h pay => Sys2Proof.Machine.execStStatus h pay s
  | .stSchedule h pay => Sys2Proof.Machine.execStSchedule h pay s
  | .repairCommit h pay => Sys2Proof.Machine.execRepairCommit h pay s
  | .imageOpen h pay => Sys2Proof.Machine.execImageOpen h pay s
  | .imageWrite h pay => Sys2Proof.Machine.execImageWrite h pay s
  | .imageVerify h pay => Sys2Proof.Machine.execImageVerify h pay s
  | .imageActivate h pay => Sys2Proof.Machine.execImageActivate h pay s
  | .imageStatus h pay => Sys2Proof.Machine.execImageStatus h pay s
  | .safActivate h pay => Sys2Proof.Machine.execSafActivate h pay s
  | .extest bootSel => Sys2Proof.Machine.execExtest bootSel s
  | .idcode => Sys2Proof.Machine.execIdcode s
  | .samplePreload pins preload => Sys2Proof.Machine.execSamplePreload pins preload s
  | .clampInstruction bootSel => Sys2Proof.Machine.execClampInstruction bootSel s
  | .highz bootSel => Sys2Proof.Machine.execHighz bootSel s
  | .keyWrite bootSel dr => Sys2Proof.Machine.execKeyWrite bootSel dr s
  | .keyFuseDone readBack => Sys2Proof.Machine.execKeyFuseDone readBack s
  | .bypass => Sys2Proof.Machine.execBypass s
  | .followerFrameReceive seg frame => Sys2Proof.Machine.execFollowerFrameReceive seg frame s
  | .measureFrameLost seg => Sys2Proof.Machine.execMeasureFrameLost seg s
  | .registerRead ofs size => Sys2Proof.Machine.execRegisterRead ofs size s
  | .announceReceiptTimeout port => Sys2Proof.Machine.execAnnounceReceiptTimeout port s
  | .igmpQueryReceive port => Sys2Proof.Machine.execIgmpQueryReceive port s
  | .toutPulseEnd out => Sys2Proof.Machine.execToutPulseEnd out s
  | .siRestartDone => Sys2Proof.Machine.execSiRestartDone s

end Sys2Proof.Machine
end

