-- ==== Sys2Proof/Safety.lean ====
section
/-! DEFINITION. What a good state is, and the words in which the statements speak of a command: it completes with a next state, it leaves the queue alone,
what it changes in the device, and which events it raises. -/

namespace Sys2Proof.Machine

open Sys2Proof

/-! ## The invariant -/

/-- The four Plate buffers exist (R17) and each is a byte memory in its canonical form. -/
def Dev.PlatesOk (d : Dev) : Prop := d.plates.length = 4 ∧ ∀ m ∈ d.plates, Memory.wf 0 m = true

/-- The invariant of a state. -/
def State.Inv (s : State) : Prop := s.dev.PlatesOk

/-! ## Completion -/

/-- Command `c` completes in `s`: the machine answers a next state, the queue of waiting commands is as it was, and the device after it is as `P` says. -/
def Completes (c : Instr) (s : State) (P : Dev → Prop) : Prop := ∃ t, exec c s = .next t ∧ t.pending = s.pending ∧ P t.dev

/-- What events and free values touch taken away: the event router (R16, R21), the happenings that the Chronograph still has to look at (R432), the mark of dropped events and the
count of free values (log 5). Two devices with the same core differ in nothing else. -/
def Dev.core (d : Dev) : Dev :=
  { d with router := {}, chr := { d.chr with haps := [] }, ctl := { d.ctl with free := 0, dropped := false } }

/-- The device differs from `e` in nothing but what events touch. -/
def Dev.Is (d e : Dev) : Prop := d.core = e.core

/-- An event of the code, source and arguments waits for the Logbook and for the host (R21). -/
def Dev.Reports (d : Dev) (code src : Nat) (args : List Byte) : Prop :=
  (∃ e ∈ d.router.toLog, e.code = code ∧ e.src = src ∧ e.args = args) ∧ ∃ e ∈ d.router.toHost, e.ev.code = code ∧ e.ev.src = src ∧ e.ev.args = args

/-- The control plane's event buffer of this cycle has room for `n` more (R16). -/
def Dev.EventRoom (d : Dev) (n : Nat) : Prop := d.router.cycleCnt + n ≤ 512

/-! ## The ring -/

/-- A segment's last acyclic frame, of the service, destination and payload, is on the ring and not yet back (R286). Its launch stamp is left open. -/
def Dev.Sent (d : Dev) (seg svc dest : Nat) (payload : List Byte) : Prop :=
  ∃ l, acyclicFrame l seg (d.ring.seg seg).mapGen svc dest (d.ring.seg seg).seq payload ∈ (d.ring.seg seg).sent

/-- A segment's last acyclic frame waits for the quiet window (R50). -/
def Dev.Queued (d : Dev) (seg svc dest : Nat) (payload : List Byte) : Prop :=
  ∃ l, acyclicFrame l seg (d.ring.seg seg).mapGen svc dest (d.ring.seg seg).seq payload ∈ (d.ring.seg seg).queue

/-- Nothing but the segments, the Safety Island's connections and the open host operations differ from `e`. -/
def Dev.RingOnly (d e : Dev) : Prop := d.Is { e with ring := { e.ring with segs := d.ring.segs }, si := d.si, host := d.host }

/-! ## The host's commands -/

/-- The reply of host command `q` waits for its pair's ring with status `st`. -/
def Dev.Answers (d : Dev) (q : HostReq) (st : Nat) : Prop := ∃ o ∈ (d.host.pair q.h.pair).out, o.tag = q.h.tag ∧ o.op = q.op ∧ o.status = st

/-- The row `c` of the command table is the host command of opcode `op` (Tables 13.4 to 13.10). -/
def HostRow (op : Nat) (c : CmdHead → List Byte → Instr) : Prop :=
  (op, c) ∈ ([
    (0x0001, Instr.mgmtSetParams), (0x0002, Instr.mgmtGetParams), (0x0003, Instr.getInfo), (0x0004, Instr.setOwnership), (0x0005, Instr.abort),
    (0x0006, Instr.queueResize), (0x0007, Instr.streamStart), (0x0008, Instr.streamStop), (0x0009, Instr.clearCounters), (0x0010, Instr.paceStatus),
    (0x0020, Instr.bulkOpen), (0x0021, Instr.bulkWrite), (0x0022, Instr.bulkClose), (0x1001, Instr.axisSetParams), (0x1002, Instr.axisGetParams),
    (0x1010, Instr.axisAdd), (0x1011, Instr.axisRemove), (0x1012, Instr.axisEnable), (0x1013, Instr.axisDisable), (0x1014, Instr.faultClear),
    (0x1020, Instr.tableLoad), (0x1030, Instr.bindSwitch), (0x1040, Instr.axisStatus), (0x1041, Instr.stepStatus), (0x1050, Instr.setPosition),
    (0x2001, Instr.mode), (0x2100, Instr.estop), (0x2200, Instr.processWrite), (0x3001, Instr.orrerySetParams), (0x3002, Instr.orreryGetParams),
    (0x3010, Instr.orrConfigure), (0x3011, Instr.orrRemove), (0x3012, Instr.orrSpeed), (0x3013, Instr.orrStop), (0x3020, Instr.camLoad),
    (0x3021, Instr.camDelete), (0x3030, Instr.regRemove), (0x4001, Instr.netSetParams), (0x4002, Instr.netGetParams), (0x4010, Instr.mapLoad),
    (0x4011, Instr.mapPatch), (0x4012, Instr.ringStart), (0x4020, Instr.segStatus), (0x4021, Instr.collimation), (0x4030, Instr.mailbox),
    (0x5001, Instr.timeSetParams), (0x5002, Instr.timeGetParams), (0x5010, Instr.timeSet), (0x5020, Instr.timeStatus), (0x5021, Instr.captureRead),
    (0x5022, Instr.ioStatus), (0x6001, Instr.chrConfig), (0x6002, Instr.chrArm), (0x6003, Instr.chrDisarm), (0x6004, Instr.chrForce),
    (0x6005, Instr.chrRead), (0x6006, Instr.chrStatus), (0x7001, Instr.logRead), (0x7002, Instr.logStatus), (0x7003, Instr.logMark),
    (0x7010, Instr.logChallenge), (0x7011, Instr.logClear), (0x8001, Instr.safeStatus), (0x8002, Instr.safeReset), (0x8010, Instr.safeChallenge),
    (0x8011, Instr.safeConfig), (0x9001, Instr.stRun), (0x9002, Instr.stStatus), (0x9003, Instr.stSchedule), (0x9004, Instr.repairCommit),
    (0xA001, Instr.imageOpen), (0xA002, Instr.imageWrite), (0xA003, Instr.imageVerify), (0xA004, Instr.imageActivate), (0xA005, Instr.imageStatus),
    (0xA010, Instr.safActivate)] : List (Nat × (CmdHead → List Byte → Instr)))

/-- A host command whose row is given passes every check of R377, R383 and R403, on a pair that is in use, and asks for its reply. -/
def Dev.accepts (d : Dev) (q : HostReq) : Prop :=
  d.headOf q = 0 ∧ ((d.joins q).admits q 0 0).2.status = 0 ∧ (d.host.pair q.h.pair).active = true ∧ bit q.h.flags 1 = false

/-- Nothing but the queue pairs, the open operations and the bulk handles differs from `e`: replies wait, and a consumed handle is released. -/
def Dev.Past (d e : Dev) : Prop := d.Is { e with host := { e.host with pairs := d.host.pairs, openOps := d.host.openOps, bulks := d.host.bulks } }

/-- The command is answered with success, and nothing else differs from `e`. -/
def Dev.After (d e : Dev) (q : HostReq) : Prop := d.Answers q 0 ∧ d.Past e

/-- The command's reply waits with the answer `r`. -/
def Dev.Gives (d : Dev) (q : HostReq) (r : CmdRes) (done : Nat) : Prop := ∃ o ∈ (d.host.pair q.h.pair).out, o.tag = q.h.tag ∧ o.bytes = replyBytes q.op q.h.tag r done

/-- The command's reply waits with success, a payload of `len` bytes and the fields given by offset in the payload, width in bytes and value. -/
def Dev.Tells (d : Dev) (q : HostReq) (len : Nat) (fields : List (Nat × Nat × Nat)) : Prop :=
  ∃ o ∈ (d.host.pair q.h.pair).out, o.tag = q.h.tag ∧ o.op = q.op ∧ o.status = 0 ∧ o.bytes.length = 32 + len ∧ fieldLE o.bytes 16 2 = len ∧
    ∀ x ∈ fields, fieldLE o.bytes (32 + x.1) x.2.1 = x.2.2 % 2 ^ (8 * x.2.1)

/-- The command's reply is owed until its operation ends (R380). -/
def Dev.Owes (d : Dev) (q : HostReq) : Prop := ∃ o ∈ d.host.openOps, o.req = q

/-! ## The loop engines -/

/-- Engine `e` runs a computation, no bundle waits and none is open: its next word begins a bundle. -/
def Dev.Ready (d : Dev) (e : Nat) : Prop := (d.engine e).run.isSome = true ∧ (d.engine e).stall = none ∧ (d.engine e).cur = {}

/-- What a bundle reads: the engine after the writes of the third bundle before it (R206). -/
def Engine.arrived (g : Engine) : Engine := g.applyAll g.w3

/-- The engine after a bundle of `n` instruction words that leaves the writes `ws` in flight: the writes of the third bundle before it are seen, those of the two between move on, the
sequencer goes to the next address, and nothing else of the engine changes (R206, R208, R218, R236). TPEND stands while a table read is outstanding. -/
def Engine.stepped (g : Engine) (n : Nat) (ws : List Wr) : Engine :=
  let e := g.arrived
  { e with
    w1 := ws, w2 := g.w1, w3 := g.w2, cur := {}, stall := none, pcw := (e.nextPc n).1
    brDue := g.brNext, brNext := none, cache := e.cached n
    special := (e.special.set 21 (e.nextPc n).2).set 25 (e.tpend g.reqs)
    run := g.run.map (fun r => { r with steps := r.steps + 1 + e.backSteps n }) }

/-- The device with engine `e` after a bundle of one word. -/
def Dev.Bundled (d : Dev) (e : Nat) (ws : Engine → List Wr) : Dev := d.onEngine e (fun g => g.stepped 1 (ws g.arrived))

end Sys2Proof.Machine
end

