-- ==== Sys2Proof/Certificates/Slice0/Obligations.lean ====
section
/-! DEFINITION. The statements for the provers, family by family. -/

open Sys2Proof Sys2Proof.Machine

/-! ## The machine -/

/-- The machine's step; the queue and the tick on an empty queue are the model's own (logs 3, 6). -/
def Obligations.StepRunsFrontCommand : Prop :=
  (∀ (s : State) (c : Instr) (cs : List Instr), s.pending = c :: cs → step s = exec c { s with pending := cs }) ∧
  (∀ (s : State), s.pending = [] → step s = .next { s with dev := { s.dev with tu := s.dev.tu.tick } })

/-- R17: the four buffers; the canonical form of a memory is the model's own (log 10). -/
def Obligations.ResetMeetsInv : Prop := State.reset.pending = [] ∧ State.reset.Inv

/-- R17 (four buffers, and the choice of the next one passes the pinned buffer over), R394 (a pin). The canonical form of a memory is the model's own (log 10). -/
def Obligations.StepKeepsInv : Prop :=
  ∀ (s t : State), step s = .next t →
    (s.Inv → t.Inv) ∧
    (∀ b c, s.dev.host.pin = some (b, c) → t.dev.host.pin = some (b, c) → t.dev.plates.getD b [] = s.dev.plates.getD b [])

/-- Table 12.11 (the header), R374 (header and payload in consecutive slots), R326 and Table 10.6 (records of a TWIN frame; their content is log 30). -/
def Obligations.CommandBytesRoundTrip : Prop :=
  (∀ (q : HostReq) (pair : Nat) (after : List Byte), q.op < 2 ^ 16 → q.h.tag < 2 ^ 16 → q.h.kind < 2 ^ 8 → q.h.index < 2 ^ 24 → q.h.effective < 2 ^ 64 → q.h.flags < 2 ^ 16 → q.h.batch < 2 ^ 32 →
    q.h.auth < 2 ^ 32 → q.pay.length < 2 ^ 16 → q.moved = false →
    q.bytes.length = 32 + q.pay.length ∧ fieldLE q.bytes 28 4 = 0 ∧ headOf pair (q.bytes ++ after) = { q with h := { q.h with pair := pair } }) ∧
  (∀ (rs : List (Nat × List Byte)), (∀ r ∈ rs, r.1 < 2 ^ 8 ∧ r.2.length < 2 ^ 16) → twinParse rs.length ((rs.map (fun r => twinRecord r.1 r.2)).flatten) = rs)

/-! ## Reset, boot, clocks, power domains and the TAP (chapters 18 and 19) -/

/-- Table 18.1, R521, R522, R524, R533, R556. What is kept of counters in detail (`counted`) is the reading of R40 and of logs 2 and 16; that flash and host memory stay
is the model's statement of what no reset touches. Completes, under its premises on state and operands alone: powerOn, vddAonFall, supplyReset, resetNPin,
bootWatchdogExpiry. -/
def Obligations.ResetsLeaveResetState : Prop :=
  ∀ (s : State) (lowNs : Nat),
    (let kept (d : Dev) (cause : Nat) (b : BootSt) : Prop :=
       d.motion = {} ∧ d.engines = s.dev.engines.map (fun g => { migrations := g.migrations, lateCnt := g.lateCnt, mismatch := g.mismatch, obsLast := g.obsLast }) ∧ d.plates = List.replicate 4 [] ∧ d.image = [] ∧ d.ctl.running = false ∧ d.ctl.cycle = 0 ∧ d.ctl.published = 0 ∧
       d.chr.conf = none ∧ d.chr.state = 0 ∧ d.host.owned = false ∧ d.host.mgtReady = false ∧ d.host.staged = [] ∧ d.host.pairs = List.replicate 32 {} ∧
       d.tu.rc = s.dev.tu.rc ∧ d.tu.rcRem = s.dev.tu.rcRem ∧ d.tu.ofs = s.dev.tu.ofs ∧ d.tu.rate = s.dev.tu.rate ∧ d.flash = s.dev.flash ∧ d.hostMem = s.dev.hostMem ∧ d.tap = s.dev.tap ∧
       d.boot.cause = cause ∧ d.boot.pwr = b.pwr ∧ d.boot.opsec = b.opsec ∧ d.boot.wseq = b.wseq ∧ d.boot.fails = b.fails ∧ d.boot.heldMs = b.heldMs ∧ d.boot.ownerKey = b.ownerKey ∧
       d.boot.integKey = b.integKey ∧ d.host.epoch = s.dev.host.epoch ∧ d.tru.fused = s.dev.tru.fused
     Completes .powerOn s (fun d => d = { flash := s.dev.flash, hostMem := s.dev.hostMem, ctl := { free := s.dev.ctl.free }, boot := { integKey := s.dev.boot.integKey, ownerKey := s.dev.boot.ownerKey }, tru := { fuseFenced := s.dev.tru.fuseFenced, fused := s.dev.tru.fused }, log := { clearCount := s.dev.log.clearCount, resUnsafe := s.dev.log.resUnsafe } }) ∧
     Completes .vddAonFall s (fun d => d.power.aon = false ∧ d.tu.halted = true ∧ d.motion = {} ∧ d.boot.cause = 1 ∧ d.flash = s.dev.flash ∧ d.si = {} ∧ d.ring = {}) ∧
     Completes .supplyReset s (fun d => kept d 2 s.dev.boot ∧ d.si.state = s.dev.si.state ∧ d.si.conf = s.dev.si.conf) ∧
     (lowNs < 1000 → Completes (.resetNPin lowNs) s (fun d => d = s.dev)) ∧
     (10000 ≤ lowNs → Completes (.resetNPin lowNs) s (fun d => kept d 3 { s.dev.boot with heldMs := min (lowNs / 1000000) 0xFFFFFFFF })) ∧
     (s.dev.host.mgtReady = false → s.dev.boot.recovery = false → Completes .bootWatchdogExpiry s (fun d =>
       kept d 4 { s.dev.boot with fails := s.dev.boot.fails.modify (s.dev.boot.trying s.dev.flash) (incSat 8) })))

/-- Table 18.4, R524 to R526, R532, R533, R539, R548, R566. The boot is one transition of the model (log 16); `reads`, `badLogic` and `badBanks` are what the tests and
reads find. Completes, under its premises on state and operands alone: boot. -/
def Obligations.BootRunsOrRecovers : Prop :=
  ∀ (s : State) (bootSel : Nat) (reads : BootReads) (badLogic badBanks : List Nat), s.dev.power.aon = true → s.dev.host.mgtReady = false → s.dev.boot.recovery = false →
    Completes (.boot bootSel reads badLogic badBanks) s (fun d =>
      d.Is { s.dev with boot := d.boot, host := { s.dev.host with linkUp := d.host.linkUp, recovery := d.boot.recovery, mgtReady := !d.boot.recovery }, tru := d.tru, engines := d.engines, pace := { s.dev.pace with plan := d.pace.plan, vFloor := d.pace.vFloor }, log := d.log, flash := d.flash } ∧
      d.boot.xspi = { resetN := true, octal := true, sfdp := true } ∧ d.boot.bootSel = bootSel % 4 ∧ d.boot.cause = s.dev.boot.cause ∧
      (d.boot.recovery = false → d.boot.fails = [0, 0] ∧ d.boot.boots = incSat 32 s.dev.boot.boots ∧
        d.Reports eBOOT srcMgc (leBytes 1 d.boot.cause ++ leBytes 1 d.boot.bank ++ leBytes 1 d.boot.flags) ∧
        (s.dev.boot.cause = 3 → 10000 < s.dev.boot.heldMs → d.boot.longMs = s.dev.boot.heldMs ∧ d.boot.longResets = incSat 16 s.dev.boot.longResets ∧
          d.Reports eLONG_RESET srcMgc (leBytes 4 s.dev.boot.heldMs))) ∧
      (s.dev.boot.cause = 1 → ∀ w x, persistNewest s.dev.flash = some (w, x) → d.boot.pwr = incSat 32 (recordPwr x) ∧ d.boot.opsec = recordOpsec x) ∧
      (s.dev.boot.cause ≠ 1 →
        match ((({ s.dev.boot with bootSel := bootSel % 4 } : BootSt).order s.dev.flash).find? (fun k =>
          decide (bankCheck s.dev.flash s.dev.boot.integKey s.dev.boot.fails (reads.banks.contains k) k = 0))) with
        | some k => d.boot.bank = k ∧ d.boot.recovery = false
        | none => d.boot.bank = 255 ∧ d.boot.recovery = true))

/-- R562, R558 with Table 1.3, R543. Each effect is the row's own; a clock that is already lost changes nothing more. Completes, under its premises on state and operands
alone: tbRefclkLoss, sdRefclkLoss, domainIdleOff, mgtRestartReady, mgtRollbackTimeout. -/
def Obligations.ClockFaultsAndDomains : Prop :=
  ∀ (s : State), s.dev.EventRoom 2 →
    (s.dev.power.tbLost = false → Completes .tbRefclkLoss s (fun d =>
      d.Is { s.dev with power := { s.dev.power with tbLost := true }, tu := { s.dev.tu with onSd := !s.dev.power.sdLost, internal := s.dev.power.sdLost }, si := d.si } ∧
      d.Reports eCLOCK_FAULT srcTu (leBytes 1 (if s.dev.power.sdLost then 3 else 1)))) ∧
    (s.dev.power.sdLost = false → Completes .sdRefclkLoss s (fun d =>
      d.Is { s.dev with power := { s.dev.power with sdLost := true }, tu := d.tu, ring := d.ring } ∧
      (∀ g ∈ d.ring.segs, g.upA = false ∧ g.upB = false) ∧ d.ring.segs.length = s.dev.ring.segs.length ∧ (∀ p ∈ d.tu.ports, p.up = false) ∧ d.tu.rc = s.dev.tu.rc ∧
      d.tu.internal = s.dev.power.tbLost ∧ d.Reports eCLOCK_FAULT srcTu (leBytes 1 (if s.dev.power.tbLost then 3 else 2)))) ∧
    ((∀ p ∈ s.dev.tu.ports, p.prm = []) → Completes (.domainIdleOff 0) s (fun d =>
      d = { s.dev with power := { s.dev.power with plant := false }, tu := { s.dev.tu with ports := s.dev.tu.ports.map (fun p => { p with up := false }) } })) ∧
    ((∀ i, 4 ≤ i → i < 8 → s.dev.ring.map.configured i = false) → Completes (.domainIdleOff 1) s (fun d =>
      d = { s.dev with power := { s.dev.power with segb := false }, ring := d.ring } ∧ (∀ i, 4 ≤ i → (d.ring.seg i).upA = false ∧ (d.ring.seg i).upB = false) ∧
      ∀ i, i < 4 → d.ring.seg i = s.dev.ring.seg i)) ∧
    (s.dev.motion.steppers = [] → Completes (.domainIdleOff 2) s (fun d => d = { s.dev with power := { s.dev.power with step := false } })) ∧
    (s.dev.chr.conf = none → s.dev.chr.pending = none → Completes (.domainIdleOff 3) s (fun d => d = { s.dev with power := { s.dev.power with trace := false } })) ∧
    (∀ l, s.dev.boot.live = some l → l.kind = 0 → s.dev.host.mgtRestart = true →
      Completes .mgtRestartReady s (fun d => d.host.mgtRestart = false ∧ d.boot.live = none ∧
        ((d.Is { s.dev with boot := d.boot, flash := manifestActivate s.dev.flash l.bank s.dev.boot.bank, host := d.host } ∧
            d.boot.liveUpdates = incSat 32 s.dev.boot.liveUpdates ∧ d.Reports eUPDATE_DONE srcMgc (leBytes 1 0 ++ leBytes 1 l.bank ++ leBytes 1 0)) ∨
         (d.Is { s.dev with boot := d.boot, host := d.host } ∧ d.boot.liveUpdates = s.dev.boot.liveUpdates ∧ d.boot.flashLasting = incSat 16 s.dev.boot.flashLasting ∧
            d.Reports eUPDATE_DONE srcMgc (leBytes 1 0 ++ leBytes 1 l.bank ++ leBytes 1 3)))) ∧
      Completes .mgtRollbackTimeout s (fun d => d.Is { s.dev with boot := { s.dev.boot with live := none, rollbacks := incSat 16 s.dev.boot.rollbacks }, host := d.host } ∧
        d.host.mgtRestart = false ∧ d.Reports eUPDATE_DONE srcMgc (leBytes 1 0 ++ leBytes 1 l.bank ++ leBytes 1 2)))

/-- R569, Table 19.10, R536. The key value is bits 263:8 of the data register, least significant byte first (log 20). Completes, under its premises on state and operands
alone: extest, clampInstruction, highz, keyWrite, idcode, samplePreload, bypass, keyFuseDone. -/
def Obligations.TapInstructionsAndKeyWrite : Prop :=
  ∀ (s : State) (sel pins preload dr : Nat) (readBack : List Byte),
    (let tap (f : Tap) : Dev → Prop := fun d => d = { s.dev with tap := f }
     let t := s.dev.tap
     let key := leBytes 32 (dr / 256)
     (sel % 4 = 3 → Completes (.extest sel) s (tap { t with ir := 0x00, drive := 1 }) ∧ Completes (.clampInstruction sel) s (tap { t with ir := 0x04, drive := 1 }) ∧
       Completes (.highz sel) s (tap { t with ir := 0x05, drive := 2 }) ∧
       (crcKey (leBytes 1 (dr % 256) ++ beBytes 32 (dr / 256)) = dr / 2 ^ 264 % 65536 → dr % 256 = 1 → s.dev.boot.integKey = none →
         Completes (.keyWrite sel dr) s (tap { t with ir := 0xC5, drive := 0, dr := dr, keyStatus := 1, keyEntry := some (1, key) })) ∧
       (crcKey (leBytes 1 (dr % 256) ++ beBytes 32 (dr / 256)) = dr / 2 ^ 264 % 65536 → dr % 256 = 2 → s.dev.boot.ownerKey = none →
         Completes (.keyWrite sel dr) s (tap { t with ir := 0xC5, drive := 0, dr := dr, keyStatus := 1, keyEntry := some (2, key) })) ∧
       (crcKey (leBytes 1 (dr % 256) ++ beBytes 32 (dr / 256)) ≠ dr / 2 ^ 264 % 65536 →
         Completes (.keyWrite sel dr) s (tap { t with ir := 0xC5, drive := 0, dr := dr, keyStatus := 3, keyEntry := none }))) ∧
     (sel % 4 ≠ 3 → Completes (.extest sel) s (tap { t with ir := 0xFF, drive := 0 }) ∧ Completes (.clampInstruction sel) s (tap { t with ir := 0xFF, drive := 0 }) ∧
       Completes (.highz sel) s (tap { t with ir := 0xFF, drive := 0 }) ∧ Completes (.keyWrite sel dr) s (tap { t with ir := 0xFF, drive := 0, keyStatus := 3 })) ∧
     Completes .idcode s (tap { t with ir := 0x01, drive := 0, dr := idcodeValue }) ∧
     Completes (.samplePreload pins preload) s (tap { t with ir := 0x02, drive := 0, dr := pins, boundary := preload }) ∧
     Completes .bypass s (tap { t with ir := 0xFF, drive := 0 }) ∧
     (∀ v, t.keyEntry = some (1, v) → Completes (.keyFuseDone readBack) s (fun d =>
       d = { s.dev with tap := { t with keyEntry := none, keyStatus := if readBack = v then 2 else 3 }, boot := { s.dev.boot with integKey := some readBack } })) ∧
     (∀ v, t.keyEntry = some (2, v) → Completes (.keyFuseDone readBack) s (fun d =>
       d = { s.dev with tap := { t with keyEntry := none, keyStatus := if readBack = v then 2 else 3 }, boot := { s.dev.boot with ownerKey := some readBack } })))

/-! ## The cycle (chapters 1 and 2) -/

/-- Table 2.3, R26, R27, R52, R61, R92, R279, R284, R295: the rows of a cycle up to C_N, on a device that runs cycles. Where frames have not returned by Gather they are
judged first (R294). Completes, under its premises on state and operands alone: gateClose, gather, correctionPackDeadline, correctionFrameLaunch. -/
def Obligations.GateGatherAndCorrection : Prop :=
  ∀ (s : State), s.dev.ctl.running = true →
    (let n := s.dev.ctl.cycle
     (s.dev.ctl.gate = false → Completes .gateClose s (fun d =>
       d.Is { s.dev with ctl := { s.dev.ctl with gate := true }, host := d.host } ∧
       ∀ b ∈ s.dev.host.batches, b.failed = false → 0 < b.effective → b.effective ≤ n + 1 → b.id ≠ 0 →
         ∀ x ∈ d.host.staged, ¬(x.req.h.batch = b.id ∧ x.req.h.effective = b.effective ∧ x.meridian = 0))) ∧
     (s.dev.ctl.first = false → s.dev.ctl.gathered = false → Completes .gather s (fun d =>
       d.ctl.gathered = true ∧ d.ctl.cycle = n ∧ d.plates = s.dev.plates ∧ d.flash = s.dev.flash ∧ d.engines = s.dev.engines ∧
       d.motion.axes.map (fun e => e.1) = s.dev.motion.axes.map (fun e => e.1) ∧
       (∀ a ax, d.axis? a = some ax → (d.ring.map.inputOf 0 a = none → ax.fb.fresh = false ∧ ax.fb.missed = true ∧ ax.fbMissed = true) ∧
         ∀ i m, d.ring.map.inputOf 0 a = some (i, m) →
           (let st := Tab.getD d.ring.stats i {}
            let bad := st.missed || bit (fieldLE st.content 0 2) 4
            ax.fbMissed = st.missed ∧ ax.fbHeld = st.held ∧ ax.fb.held = st.held ∧ ax.fb.missed = bad ∧ ax.fb.fresh = !bad ∧ ax.fb.count = fieldLE st.content 2 4 ∧
            ax.fb.fault = bit (fieldLE st.content 0 2) 0 ∧ ax.fb.trqAct = fieldLES st.content 10 4)))) ∧
     (s.dev.ctl.first = false → s.dev.runAhead = true → s.dev.ctl.gathered = true → s.dev.ctl.corrPacked = false → s.dev.ctl.sealed = false →
       Completes .correctionPackDeadline s (fun d =>
         d = { s.dev with tu := d.tu, motion := { s.dev.motion with axes := d.motion.axes }, ring := { s.dev.ring with corrs := d.ring.corrs }, ctl := { s.dev.ctl with corrPacked := true } } ∧
         d.ring.corrs = d.motion.axes.map (fun e => (e.1, if e.2.out.retract then -2147483648 else e.2.out.corr)) ∧
         ∀ a ax, s.dev.axis? a = some ax → ∃ ax', d.axis? a = some ax' ∧
           (ax.out.spec = false → ax' = { ax with out := { ax.out with corr := 0, retract := false } }) ∧
           (ax.out.spec = true → s.dev.passDone a 2 = true → ax.spec.retract = [] →
             ax'.out.retract = false ∧ ax'.out.corr = max (-2147483647) ax.out.corr ∧ ax'.retractCnt = ax.retractCnt) ∧
           (ax.out.spec = true → (s.dev.passDone a 2 = false ∨ ax.spec.retract ≠ []) →
             ax'.out.retract = true ∧ ax'.retractCnt = incSat 32 ax.retractCnt ∧ ax'.retractFlag = true))) ∧
     (s.dev.ctl.corrPacked = true → s.dev.ctl.corrLaunched = false → s.dev.ctl.sealed = false →
       Completes .correctionFrameLaunch s (fun d =>
         d = { s.dev with tu := d.tu, ring := { s.dev.ring with segs := d.ring.segs }, ctl := { s.dev.ctl with corrLaunched := true } } ∧
         ∀ i, ((s.dev.ring.map.desc i).corrLength = 0 ∨ (s.dev.ring.seg i).launched = []) → d.ring.seg i = s.dev.ring.seg i)))

/-- R43, R56, R58: what `Dev.sealServo`, the operation that SEAL_DEADLINE applies to every servo axis, does to the axis. STALE_RUN is held to four bits by its Plate word (Table 3.6). -/
def Obligations.SealCommitsOrRepeats : Prop :=
  ∀ (d : Dev) (a : Nat) (ax : Axis), d.axis? a = some ax →
    (ax.inPhase d.ctl.cycle = true → ax.shed = false → Tab.has d.pace.plan.place a = true → (∀ x ∈ d.slotsOf a, x.2.2.shadow = false) →
      ∃ ax', (d.sealServo a).axis? a = some ax' ∧
        ((d.slotsOf a).any (fun x => x.2.2.onTime (if d.split ax then 1 else 0)) = true →
          ax'.stale = false ∧ ax'.staleRun = 0 ∧ ax'.cmdAge = 0 ∧ ax'.cand = none ∧ ax'.overrunCnt = ax.overrunCnt ∧ ax'.w.k.pAct = ax.now.k.pAct ∧ ax'.w.sup.state = ax.now.sup.state) ∧
        ((d.slotsOf a).any (fun x => x.2.2.onTime (if d.split ax then 1 else 0)) = false →
          ax'.stale = true ∧ ax'.staleRun = incSat 4 ax.staleRun ∧ ax'.cmdAge = incSat 8 ax.cmdAge ∧ ax'.overrunCnt = incSat 32 ax.overrunCnt ∧ ax'.cand = none ∧
          ax'.w.k.pAct = ax.w.k.pAct ∧ ax'.out.stale = true ∧ ax'.out.age = incSat 8 ax.cmdAge ∧
          (ax'.w.sup.state ≠ 0 → ax'.w.sup.state ≠ 5 → d.split ax = false → ax.out.spec = false → ax'.out.trq = ax.out.trq))) ∧
    (ax.inPhase d.ctl.cycle = false → ax.migrating = false → ∃ ax', (d.sealServo a).axis? a = some ax' ∧
      ax'.stale = false ∧ ax'.staleRun = ax.staleRun ∧ ax'.cmdAge = ax.cmdAge ∧ ax'.overrunCnt = ax.overrunCnt ∧ ax'.w = ax.w ∧ ax'.out.age = ax.cmdAge)

/-- R56, R223: the cut of every engine, over all states. Completes, under its premises on state and operands alone: sealDeadline. -/
def Obligations.SealDeadlineSeals : Prop :=
  ∀ (s : State), s.dev.ctl.running = true → s.dev.ctl.gathered = true → s.dev.ctl.sealed = false →
    Completes .sealDeadline s (fun d =>
      d.ctl.sealed = true ∧ d.ctl.cycle = s.dev.ctl.cycle ∧ d.ctl.published = s.dev.ctl.published ∧ d.plates = s.dev.plates ∧ d.flash = s.dev.flash ∧ d.hostMem = s.dev.hostMem ∧
      d.log = s.dev.log ∧ d.si = s.dev.si ∧ d.boot = s.dev.boot ∧ d.chr.conf = s.dev.chr.conf ∧ d.ring.map = s.dev.ring.map ∧
      ∀ g ∈ d.engines, ∀ r, g.run = some r → r.kind = 2)

/-- R17, R404. `plateCycle` reads CYCLE of a buffer. Completes, under its premises on state and operands alone: platePublish. -/
def Obligations.PlatePublication : Prop :=
  ∀ (s : State), s.dev.ctl.running = true → s.dev.ctl.sealed = true → s.dev.ctl.published ≠ s.dev.ctl.cycle → s.dev.plates.length = 4 → s.dev.ctl.cycle < 2 ^ 64 →
    Completes .platePublish s (fun d =>
      (let k := d.ctl.latest
       let free (j : Nat) : Prop := j < 4 ∧ ¬(s.dev.ctl.published ≠ 0 ∧ j = s.dev.ctl.latest) ∧ ∀ p, s.dev.host.pin = some p → p.1 ≠ j
       let age (j : Nat) : Nat := plateCycle (s.dev.plates.getD j [])
       free k ∧ (∀ j, free j → age k ≤ age j ∧ (age j = age k → k ≤ j)) ∧
       d.ctl.published = s.dev.ctl.cycle ∧ d.ctl.cycle = s.dev.ctl.cycle ∧ plateCycle (d.plates.getD k []) = s.dev.ctl.cycle ∧
       (∀ j, j ≠ k → d.plates.getD j [] = s.dev.plates.getD j []) ∧ d.plates.length = 4 ∧
       d.motion = s.dev.motion ∧ d.flash = s.dev.flash ∧ d.hostMem = s.dev.hostMem ∧ d.router = s.dev.router ∧ d.si = s.dev.si ∧ d.log = s.dev.log ∧ d.tru = s.dev.tru ∧ d.snap = d.view))

/-- R5, R6, R25, R51, R331. The premises say that no staged command, owner-loss stop or open batch names this Meridian. Completes, under its premises on state and
operands alone: meridian. -/
def Obligations.MeridianBeginsCycle : Prop :=
  ∀ (s : State), s.dev.ctl.running = true → s.dev.ring.role = 3 → (s.dev.ctl.first = true ∨ s.dev.ctl.published = s.dev.ctl.cycle) →
    (s.dev.ring.deposed = false → (∀ x ∈ s.dev.host.staged, x.meridian = 0 ∨ s.dev.ctl.cycle + 1 < x.meridian) → s.dev.host.lossStop = none → s.dev.host.batches = [] →
      Completes .meridian s (fun d =>
        d.ctl.running = true ∧ d.ctl.cycle = s.dev.ctl.cycle + 1 ∧ d.ctl.first = false ∧ d.ctl.gate = false ∧ d.ctl.gathered = false ∧ d.ctl.corrPacked = false ∧
        d.ctl.corrLaunched = false ∧ d.ctl.sealed = false ∧ d.ctl.missed = 0 ∧ d.ctl.commands = 0 ∧ d.ctl.batches = 0 ∧ d.ctl.published = s.dev.ctl.published ∧
        d.ring.highCycle = s.dev.ctl.cycle + 1 ∧ (∀ g ∈ d.engines, g.passes = 0 ∧ g.late = 0 ∧ g.steps = 0 ∧ g.pcause = 255) ∧
        d.plates = s.dev.plates ∧ d.image = s.dev.image ∧ d.ring.map = s.dev.ring.map)) ∧
    (s.dev.ring.deposed = true → Completes .meridian s (fun d =>
      d = { s.dev with ctl := { s.dev.ctl with running := false, first := false }, ring := { s.dev.ring with role := 4 } }))

/-! ## Axes: set-points, supervision, switches, homing timers and steppers (chapters 3 to 6) -/

/-- R103, R105, R157. `spCycle` is the cycle whose set-points an axis holds. Completes, under its premises on state and operands alone: setpointDelivery. -/
def Obligations.SetpointsDelivered : Prop :=
  ∀ (s : State) (a : Nat) (ax : Axis), s.dev.axis? a = some ax → s.dev.ctl.running = true → s.dev.ctl.first = false → s.dev.ctl.sealed = false → s.dev.ctl.spCycle = s.dev.ctl.cycle →
    ax.blocked = false → ax.inPhase s.dev.ctl.cycle = true → ax.spCycle < s.dev.ctl.cycle →
    Completes (.setpointDelivery a) s (fun d =>
      d.Is { s.dev with motion := { s.dev.motion with axes := d.motion.axes, eph := d.motion.eph } } ∧ (∀ b, b ≠ a → d.axis? b = s.dev.axis? b) ∧
      ∃ ax', d.axis? a = some ax' ∧ ax'.spCycle = s.dev.ctl.cycle ∧ ax'.out = ax.out ∧ ax'.fb = ax.fb ∧
        (ax.cand = none → ax.w.sup.qsNew = false → ax.w.sup.offNew = false → ax.w.sup.mode ≠ 5 → ax.fol = none →
          ax'.spPrev = ax.sp ∧ ax'.prm = ax.prm ∧
          ((ax.w.sup.state = 0 ∨ ax.w.sup.state = 5) → ax'.sp = { p := satS 64 ax.w.k.pAct }) ∧
          (∀ pl, ax.plan = some pl → (ax.w.sup.state = 1 ∨ ax.w.sup.state = 2) → (ax.w.sup.mode = 0 ∨ ax.w.sup.mode = 1) → ax.prm.nat pSW_LIM_EN ≠ 1 →
            ax.swPos.active = false → ax.swNeg.active = false →
            ax'.sp = { pl.setPoint s.dev.tcyc s.dev.ctl.cycle with p := satS 64 (reduceMod (ax.prm.val pMODULUS) (pl.setPoint s.dev.tcyc s.dev.ctl.cycle).p) } ∧ ax'.w.sup = ax.w.sup.dropWarn fFOLLOW_OVERSPEED)))

/-- Tables 3.3 to 3.5, R59, R72, R92, R95, R97, R141, R147: the servo conditions that the rows report. `classOf` is the reaction class in force (Table 3.1). Completes,
under its premises on state and operands alone: feTimerExpiry, torqueSat, feedbackLost, splitLost, overrunLimit, switchChatter, regLost. -/
def Obligations.ServoConditionsReact : Prop :=
  ∀ (s : State) (a : Nat) (ax : Axis), s.dev.axis? a = some ax → (ax.now.sup.state = 1 ∨ ax.now.sup.state = 2) → s.dev.EventRoom 1 →
    (let cls (code : Nat) : Nat := classOf ax.prm pREACT_code code
     let one (d : Dev) : Prop := d.Is { s.dev with motion := { s.dev.motion with axes := d.motion.axes } } ∧ ∀ b, b ≠ a → d.axis? b = s.dev.axis? b
     let reacts (code : Nat) (d : Dev) : Prop := ∃ ax', d.axis? a = some ax' ∧ (1 ≤ cls code → cls code ≤ 3 →
       (cls code = 1 → ax'.now.sup.state = ax.now.sup.state ∧ code ∈ ax'.now.sup.warnHold) ∧ (cls code = 2 → ax'.now.sup.state = 3 ∧ ax'.now.sup.fault = code ∧ ax'.now.sup.mode = 7) ∧
       (cls code = 3 → ax'.now.sup.state = 5 ∧ ax'.now.sup.fault = code ∧ ax'.now.r.trq = 0) ∧ d.Reports code (srcAxis a) [BitVec.ofNat 8 (cls code), BitVec.ofNat 8 ax'.now.sup.state])
     (ax.now.sup.state = 2 → (∃ k, ax.now.sup.feCnt = some k ∧ cyclesOf (ax.prm.nat pFE_TIME) (s.dev.period ax) ≤ k) → ax.now.sup.warnHold.contains fFOLLOWING = false →
       Completes (.feTimerExpiry a) s (fun d => one d ∧ reacts fFOLLOWING d)) ∧
     (ax.prm.nat pTRQ_SAT_TIME ≠ 0 → (∃ k, ax.now.sup.satCnt = some k ∧ cyclesOf (ax.prm.nat pTRQ_SAT_TIME) (s.dev.period ax) ≤ k) → ax.held.contains fTORQUE_SAT = false →
       Completes (.torqueSat a) s (fun d => one d ∧ reacts fTORQUE_SAT d)) ∧
     (ax.prm.nat pFB_MISS_LIMIT ≤ ax.now.sup.fbMissRun → ax.held.contains fFEEDBACK_LOST = false → Completes (.feedbackLost a) s (fun d => one d ∧ reacts fFEEDBACK_LOST d)) ∧
     (ax.prm.nat pSPLIT_RETRACT_LIMIT ≤ ax.now.sup.retractRun → ax.held.contains fSPLIT_LOST = false → Completes (.splitLost a) s (fun d => one d ∧ reacts fSPLIT_LOST d)) ∧
     (s.dev.ctl.sealed = true → ax.stale = true → ax.prm.nat pOVR_LIMIT ≤ ax.staleRun → ax.held.contains fOVERRUN = false →
       Completes (.overrunLimit false a) s (fun d => one d ∧ reacts fOVERRUN d)) ∧
     (∀ w, w < 3 → (ax.switch w).src.isSome = true → (ax.switch w).chatterLimit < (ax.switch w).burst → (ax.switch w).chatterCond = false → ax.held.contains fSWITCH_CHATTER = false →
       Completes (.switchChatter false a w) s (fun d => one d ∧ reacts fSWITCH_CHATTER d)) ∧
     (∀ c ch, Tab.find s.dev.motion.regs c = some ch → ch.prm.nat pREG_AXIS = a → ch.prm.nat pREG_MISS_LIMIT ≤ ch.missRun → ch.lost = false → ch.stateNow = 1 → ax.held.contains fREG_LOST = false →
       Completes (.regLost c) s (fun d => d.Is { s.dev with motion := { s.dev.motion with axes := d.motion.axes, regs := Tab.set s.dev.motion.regs c { ch with lost := true } } } ∧
         (∀ b, b ≠ a → d.axis? b = s.dev.axis? b) ∧ reacts fREG_LOST d)))

/-- Table 3.5, R97, R98, R574; R146; R167; Table 4.10. Completes, under its premises on state and operands alone: standstillReached, qsTimeout, handoverBlendEnd,
switchDebounceExpiry, homeHsTimeExpiry, homeTimeout. -/
def Obligations.ServoReactionsProceed : Prop :=
  ∀ (s : State) (a : Nat) (ax : Axis), s.dev.axis? a = some ax → s.dev.EventRoom 1 →
    (let only (x : Axis) : Dev → Prop := fun d =>
       d = { s.dev with motion := { s.dev.motion with axes := d.motion.axes } } ∧ (∀ b, b ≠ a → d.axis? b = s.dev.axis? b) ∧ d.axis? a = some x
     let still := ∃ k, ax.now.sup.stillCnt = some k ∧ cyclesOf (ax.prm.nat pSTANDSTILL_TIME) (s.dev.period ax) ≤ k
     (ax.now.sup.state = 3 → still → Completes (.standstillReached a) s (only (ax.onWork (fun w => { w with sup := { w.sup with state := 4, qsCnt := none, stillCnt := none } })))) ∧
     (ax.now.sup.state = 3 → (∃ k, ax.now.sup.qsCnt = some k ∧ cyclesOf (ax.prm.nat pQS_TIMEOUT) (s.dev.period ax) ≤ k) → ¬still → Completes (.qsTimeout a) s (fun d =>
       d.Is { s.dev with motion := { s.dev.motion with axes := d.motion.axes } } ∧ (∀ b, b ≠ a → d.axis? b = s.dev.axis? b) ∧ d.Reports eQS_TIMEOUT (srcAxis a) [] ∧
       ∃ ax', d.axis? a = some ax' ∧ ax'.now.sup.state = 5 ∧ ax'.now.sup.fault = ax.now.sup.fault ∧ ax'.now.r.trq = 0 ∧ ax'.now.r.drive = false)) ∧
     (∀ b, ax.now.k.blend = some b → b.h ≤ b.k → ax.now.r.blending = false →
       Completes (.handoverBlendEnd a) s (only (ax.onWork (fun w => { w with k := { w.k with blend := none } })))) ∧
     (∀ w, w < 3 → (ax.switch w).src.isSome = true → (ax.switch w).raw ≠ (ax.switch w).active → ceilDiv ((ax.switch w).debounce * 1000) s.dev.tcyc ≤ (ax.switch w).runCycles →
       (w = 2 ∨ (ax.switch w).raw = false) →
       Completes (.switchDebounceExpiry false a w) s (only (ax.onSwitch w (fun sw => { sw with active := sw.raw })))) ∧
     (ax.home.state = 5 → (∃ k, ax.now.sup.hsCnt = some k ∧ cyclesOf (ax.prm.nat pHOME_HS_TIME) (s.dev.period ax) ≤ k) →
       Completes (.homeHsTimeExpiry a) s (only { ax with home := { ax.home with pressDone := true } })) ∧
     (ax.now.sup.mode = 5 → (ax.now.sup.state = 1 ∨ ax.now.sup.state = 2) → ax.home.searching = true →
       ax.prm.nat pHOME_TIMEOUT * 1000000 ≤ (s.dev.ctl.cycle - ax.home.began) * s.dev.tcyc → Completes (.homeTimeout false a) s (fun d =>
       d.Is { s.dev with motion := { s.dev.motion with axes := d.motion.axes } } ∧ (∀ b, b ≠ a → d.axis? b = s.dev.axis? b) ∧
       ∃ ax', d.axis? a = some ax' ∧ ax'.home = { ax.home with state := 9, cause := 3 } ∧ ax'.trqOvr = none ∧
         d.Reports fHOME_FAILED (srcAxis a) [BitVec.ofNat 8 (classOf ax.prm pREACT_code fHOME_FAILED), BitVec.ofNat 8 ax'.now.sup.state, 9, if ax.home.referenced then 1 else 0])))

/-- Tables 6.5 and 6.8, R177, R179, R184, R185, R190, R191, R193, R194, R198; the debounce and chatter of R146 and R147. `Stepper.setPoint` is the set-point of the axis's
plan (R103). Completes, under its premises on state and operands alone: stepUpdate, stallDeclared, holdDelayExpiry, stepFbLost, overrunLimit, switchChatter,
switchDebounceExpiry, homeTimeout. -/
def Obligations.StepperRowsAct : Prop :=
  ∀ (s : State) (a : Nat) (x : Stepper), s.dev.stepper? a = some x → s.dev.EventRoom 1 →
    (let one (d : Dev) : Prop := d.Is { s.dev with motion := { s.dev.motion with steppers := d.motion.steppers } } ∧ ∀ b, b ≠ a → d.stepper? b = s.dev.stepper? b
     let only (x' : Stepper) : Dev → Prop := fun d =>
       d = { s.dev with motion := { s.dev.motion with steppers := d.motion.steppers } } ∧ (∀ b, b ≠ a → d.stepper? b = s.dev.stepper? b) ∧ d.stepper? a = some x'
     let n := s.dev.ctl.cycle
     let faulted (y : Stepper) (code : Nat) (d : Dev) : Prop := one d ∧ ∃ x', d.stepper? a = some x' ∧ x'.state = (y.raise s.dev.tcyc n code (y.cls code)).state ∧
       x'.fault = (y.raise s.dev.tcyc n code (y.cls code)).fault ∧ d.Reports code (srcStepper a) [BitVec.ofNat 8 (y.cls code), BitVec.ofNat 8 x'.state]
     (s.dev.ctl.running = true → s.dev.ctl.gathered = true → s.dev.ctl.sealed = false → x.updated = false → x.blocked = false → x.inPhase n = true → Completes (.stepUpdate a) s (fun d =>
       one d ∧ ∃ x', d.stepper? a = some x' ∧ x'.updated = true ∧ x'.prm = x.prm ∧ (x'.enabled = true ↔ x'.state ≠ 0 ∧ x'.state ≠ 5) ∧
         (x.mode ≠ 5 → x.state = 1 → ∀ p, x.plan = some p → x.swPos.active = false → x.swNeg.active = false → x.fbFresh = false → x.prm.nat pST_STALL_EN ≠ 1 → x'.sp = x.setPoint s.dev.tcyc n))) ∧
     ((x.state = 1 ∨ x.state = 2) → x.prm.nat pST_STALL_EN = 1 → x.prm.nat pST_STALL_COUNT ≤ x.stallRun → x.stallDue = true →
       (x.mode = 5 → x.prm.nat pST_HOME_METHOD = 3 → x.home.state < 5 ∨ 7 < x.home.state) → Completes (.stallDeclared a) s (fun d => faulted { x with stallDue := false, stallCnt := incSat 16 x.stallCnt } fSTALL d ∧
         ∃ x', d.stepper? a = some x' ∧ x'.stallCnt = incSat 16 x.stallCnt ∧ x'.stallRun = x.stallRun)) ∧
     ((x.state = 1 ∨ x.state = 2) → x.prm.nat pST_STALL_EN = 1 → x.prm.nat pST_STALL_COUNT ≤ x.stallRun → x.stallDue = true → x.mode = 5 → x.prm.nat pST_HOME_METHOD = 3 → x.home.state = 5 → Completes (.stallDeclared a) s (fun d =>
       one d ∧ ∃ x', d.stepper? a = some x' ∧ x'.home.state = 6 ∧ x'.state = x.state ∧ x'.fault = x.fault ∧ x'.sp = { p := x.sp.p } ∧ x'.plan = none)) ∧
     (x.updated = true → x.state ≠ 0 → x.state ≠ 5 → (∃ k, x.restRun = some k ∧ cyclesOf (x.prm.nat pST_HOLD_DELAY) (x.period s.dev.tcyc) ≤ k) → x.sp.v = 0 → x.sp.a = 0 → (x.mode = 5 → x.home.searching = false) →
       Completes (.holdDelayExpiry a) s (only { x with holding := true, amp := x.prm.nat pST_I_HOLD })) ∧
     (16 ≤ x.missRun → x.prm.nat pST_STALL_EN = 1 → x.held.contains fSTEP_FB_LOST = false → Completes (.stepFbLost a) s (faulted x fSTEP_FB_LOST)) ∧
     (s.dev.ctl.sealed = true → x.stale = true → x.prm.nat pST_OVR_LIMIT ≤ x.staleRun → x.held.contains fSTEP_OVERRUN = false → Completes (.overrunLimit true a) s (faulted x fSTEP_OVERRUN)) ∧
     (∀ w, w < 3 → (x.switch w).src.isSome = true → (x.switch w).chatterLimit < (x.switch w).burst → (x.switch w).chatterCond = false →
       Completes (.switchChatter true a w) s (faulted x fSWITCH_CHATTER)) ∧
     (∀ w, w < 3 → (x.switch w).src.isSome = true → (x.switch w).raw ≠ (x.switch w).active → ceilDiv ((x.switch w).debounce * 1000) s.dev.tcyc ≤ (x.switch w).runCycles →
       (w = 2 ∨ (x.switch w).raw = false) → Completes (.switchDebounceExpiry true a w) s (only (x.onSwitch w (fun sw => { sw with active := sw.raw })))) ∧
     (x.mode = 5 → x.state = 1 → x.home.searching = true → x.prm.nat pST_HOME_TIMEOUT * 1000000 ≤ (n - x.home.began) * s.dev.tcyc → Completes (.homeTimeout true a) s (fun d => one d ∧ ∃ x', d.stepper? a = some x' ∧ x'.home.state = 9 ∧ x'.home.cause = 3 ∧
       x'.state = ({ x with home := { x.home with state := 9, cause := 3 } }.raise s.dev.tcyc n fSTEP_HOME_FAILED (x.cls fSTEP_HOME_FAILED)).state)))

/-! ## The loop engines (chapter 7) -/

/-- R217, with Table 7.8: the arithmetic operations, each as a whole bundle; operands are what the third bundle before made visible. Bits 10, 11 and 12 of ESTAT are Z, N
and V; operations 0x10 and 0x11 of class
ALU are CMP and CMP64. The accesses of a bundle are taken to be encodable: buses 1 to 3, pointers 0 to 3. Completes, under its
premises on state and operands alone: add, sub, adds, subs, min, max, clamp, add64, sub64. -/
def Obligations.EngineArithmeticResults : Prop :=
  (∀ (s : State) (e dst a b : Nat), s.dev.Ready e →
    Completes (.add e dst a b true) s (fun d => d = s.dev.Bundled e (fun g => [.d dst (g.reg a + g.reg b)])) ∧
    Completes (.sub e dst a b true) s (fun d => d = s.dev.Bundled e (fun g => [.d dst (g.reg a - g.reg b)])) ∧
    Completes (.adds e dst a b true) s (fun d => d = s.dev.Bundled e (fun g => [.d dst (BitVec.ofInt 32 (max (-2147483648) (min 2147483647 (g.sreg a + g.sreg b))))])) ∧
    Completes (.subs e dst a b true) s (fun d => d = s.dev.Bundled e (fun g => [.d dst (BitVec.ofInt 32 (max (-2147483648) (min 2147483647 (g.sreg a - g.sreg b))))])) ∧
    Completes (.min e dst a b true) s (fun d => d = s.dev.Bundled e (fun g => [.d dst (if g.sreg a ≤ g.sreg b then g.reg a else g.reg b)])) ∧
    Completes (.max e dst a b true) s (fun d => d = s.dev.Bundled e (fun g => [.d dst (if g.sreg a ≤ g.sreg b then g.reg b else g.reg a)])) ∧
    Completes (.clamp e dst a b true) s (fun d => d = s.dev.Bundled e (fun g => [.d dst (BitVec.ofInt 32 (min (max (g.sreg a) (-g.sreg b)) (g.sreg b)))])) ∧
    (dst % 2 = 0 → a % 2 = 0 → b % 2 = 0 →
      Completes (.add64 e dst a b true) s (fun d => d = s.dev.Bundled e (fun g =>
        [.d dst (BitVec.ofNat 32 ((g.pair a + g.pair b) % 2 ^ 64)), .d (dst + 1) (BitVec.ofNat 32 ((g.pair a + g.pair b) % 2 ^ 64 / 2 ^ 32))])) ∧
      Completes (.sub64 e dst a b true) s (fun d => d = s.dev.Bundled e (fun g =>
        [.d dst (BitVec.ofNat 32 ((g.pair a + 2 ^ 64 - g.pair b) % 2 ^ 64)), .d (dst + 1) (BitVec.ofNat 32 ((g.pair a + 2 ^ 64 - g.pair b) % 2 ^ 64 / 2 ^ 32))])))) ∧
  (∀ (g : Engine) (b : Bundle) (k : Nat), k = 10 ∨ k = 11 ∨ k = 12 → (∀ o, b.op = some o → o.ctl = false → o.op ≠ 0x10 ∧ o.op ≠ 0x11) → (∀ x ∈ b.accs, 1 ≤ x.bus ∧ x.bus ≤ 3 ∧ x.ptr < 4) →
    bit (g.issue b).estat k = bit g.arrived.estat k ∧ ∀ w ∈ (g.issue b).w1, ∀ (g' : Engine), bit (g'.apply w).estat k = bit g'.estat k)

/-- Table 7.8, R202, R206: the bitwise operations, the shifts by SH[4:0], SEL by condition SH[2:0], MOVI, RDS (the modifiers MX, MY and MC, numbers 12 to 14, are signed
14-bit values) and NOP, each as a
whole bundle. Completes, under its premises on state and operands alone: and, or, xor, shl, shra, shrl, sel, movi, rds, aluNop. -/
def Obligations.EngineLogicResults : Prop :=
  ∀ (s : State) (e dst a b sh imm : Nat), s.dev.Ready e →
    Completes (.and e dst a b true) s (fun d => d = s.dev.Bundled e (fun g => [.d dst (g.reg a &&& g.reg b)])) ∧
    Completes (.or e dst a b true) s (fun d => d = s.dev.Bundled e (fun g => [.d dst (g.reg a ||| g.reg b)])) ∧
    Completes (.xor e dst a b true) s (fun d => d = s.dev.Bundled e (fun g => [.d dst (g.reg a ^^^ g.reg b)])) ∧
    Completes (.shl e dst a sh true) s (fun d => d = s.dev.Bundled e (fun g => [.d dst (g.reg a <<< (sh % 32))])) ∧
    Completes (.shra e dst a sh true) s (fun d => d = s.dev.Bundled e (fun g => [.d dst ((g.reg a).sshiftRight (sh % 32))])) ∧
    Completes (.shrl e dst a sh true) s (fun d => d = s.dev.Bundled e (fun g => [.d dst (g.reg a >>> (sh % 32))])) ∧
    Completes (.sel e dst a b sh true) s (fun d => d = s.dev.Bundled e (fun g => [.d dst (if g.cond (sh % 8) then g.reg a else g.reg b)])) ∧
    Completes (.movi e dst imm true) s (fun d => d = s.dev.Bundled e (fun _ => [.d dst (BitVec.ofNat 32 imm)])) ∧
    Completes (.rds e dst sh true) s (fun d => d = s.dev.Bundled e (fun g => [.d dst (if 12 ≤ sh ∧ sh ≤ 14 then BitVec.ofInt 32 (wrapS 14 (g.spc sh)) else BitVec.ofNat 32 (g.spc sh))])) ∧
    Completes (.aluNop e true) s (fun d => d = s.dev.Bundled e (fun _ => []))

/-- Table 7.8, R201, R203, R206: the two compares; Z, N and V come from a − b. Completes, under its premises on state and operands alone: cmp, cmp64. -/
def Obligations.EngineCompares : Prop :=
  (∀ (s : State) (e a b : Nat), s.dev.Ready e →
    Completes (.cmp e a b true) s (fun d => d = s.dev.Bundled e (fun g =>
      [.flags (g.reg a = g.reg b) (decide ((g.reg a - g.reg b).toInt < 0)) (decide (g.sreg a - g.sreg b < -2147483648 ∨ 2147483647 < g.sreg a - g.sreg b))])) ∧
    (a % 2 = 0 → b % 2 = 0 →
      Completes (.cmp64 e a b true) s (fun d => d = s.dev.Bundled e (fun g =>
        [.flags (g.pair a = g.pair b) (decide (wrapS 64 (g.spair a - g.spair b) < 0)) (decide (g.spair a - g.spair b < -(2 : Int) ^ 63 ∨ (2 : Int) ^ 63 ≤ g.spair a - g.spair b))])))) ∧
  (∀ (g : Engine) (z n v : Bool) (k : Nat), g.special.length = 26 →
    bit (g.apply (.flags z n v)).estat k = (if k = 10 then z else if k = 11 then n else if k = 12 then v else bit g.estat k))

/-- Table 7.8, R202, R206, R214 to R216. A frozen accumulator (its AOV bit is set) keeps its value under AMOV. Completes, under its premises on state and operands alone:
rnd, rnd64, amov, aclr, wrs. -/
def Obligations.EngineAccumulatorWords : Prop :=
  ∀ (s : State) (e dst a sh : Nat), s.dev.Ready e →
    Completes (.rnd e dst a sh true) s (fun d => d = s.dev.Bundled e (fun g =>
      let x := rshHE (g.acc.getD (a % 8) 0) (sh % 64)
      .d dst (BitVec.ofInt 32 (satS 32 x)) :: (if satS 32 x = x then [] else [.sov]))) ∧
    (dst % 2 = 0 → Completes (.rnd64 e dst a sh true) s (fun d => d = s.dev.Bundled e (fun g =>
      let x := rshHE (g.acc.getD (a % 8) 0) (sh % 64)
      [.d dst (BitVec.ofNat 32 (lowBits 64 (satS 64 x))), .d (dst + 1) (BitVec.ofNat 32 (lowBits 64 (satS 64 x) / 2 ^ 32))] ++ (if satS 64 x = x then [] else [.sov])))) ∧
    (a % 2 = 0 → Completes (.amov e dst a true) s (fun d => d = s.dev.Bundled e (fun g =>
      if bit g.estat (dst % 8) then [] else [.acc (dst % 8) (g.spair a) false]))) ∧
    Completes (.aclr e dst true) s (fun d => d = s.dev.Bundled e (fun _ => [.aclr (dst % 8)])) ∧
    Completes (.wrs e sh a true) s (fun d => d = s.dev.Bundled e (fun g => [.special sh (g.reg a).toNat]))

/-- R212 to R214: one lane of each kind as a whole bundle, and two lanes of one accumulator, whose products meet in one exact sum. Completes, under its premises on state
and operands alone: mac, msu, mpy. -/
def Obligations.EngineMacResults : Prop :=
  ∀ (s : State) (e lane psh sign acc a b : Nat), s.dev.Ready e → lane < 4 → acc < 8 → a < 32 → b < 16 →
    (let l : Lane := { lane := lane, kind := 1, psh := psh, sign := sign, acc := acc, a := a, b := b }
     let res (x : Engine → Int) (g : Engine) : List Wr := if bit g.estat acc then [] else [.acc acc (satS 72 (x g)) (decide (satS 72 (x g) ≠ x g))]
     Completes (.mac e lane psh sign acc a b true) s (fun d => d = s.dev.Bundled e (res (fun g => g.acc.getD acc 0 + g.product l))) ∧
     Completes (.msu e lane psh sign acc a b true) s (fun d => d = s.dev.Bundled e (res (fun g => g.acc.getD acc 0 - g.product l))) ∧
     Completes (.mpy e lane psh sign acc a b true) s (fun d => d = s.dev.Bundled e (res (fun g => g.product l))) ∧
     ∀ lane2 a2 b2 : Nat, lane2 < 4 → lane2 ≠ lane → a2 < 32 → b2 < 16 →
       ∃ t, exec (.mac e lane psh sign acc a b false) s = .next t ∧
         Completes (.msu e lane2 psh sign acc a2 b2 true) t (fun d => d = s.dev.Bundled e (res (fun g => g.acc.getD acc 0 + g.product l - g.product { l with lane := lane2, a := a2, b := b2 }))))

/-- Table 7.9, R200, R201, R206, R207, R210, R224: `Engine.address` and `Engine.postModify` are the addressing of the meaning itself, applied to what the bundle reads.
Completes, under its premises on state and operands alone: memLoad, memStore. -/
def Obligations.EngineMemoryAccesses : Prop :=
  ∀ (s : State) (e bus : Nat) (wide : Bool) (reg amode ptr : Nat) (ofs : Int), s.dev.Ready e → 1 ≤ bus → bus ≤ 3 → amode ≤ 6 → reg < 32 → ptr < 4 → (wide = true → reg % 2 = 0) →
    (let x (st : Bool) : Access := { bus := bus, store := st, wide := wide, reg := reg, amode := amode, ptr := ptr, ofs := ofs }
     let moved (y : Access) (old new : Engine) : Engine := match old.arrived.postModify y with | some p => { new with special := new.special.set (4 * (bus - 1) + ptr) p } | none => new
     let inHandler := ∃ r, (s.dev.engine e).run = some r ∧ r.kind = 2
     let after (y : Access) (ws : Engine → List Wr) : Dev := s.dev.onEngine e (fun g => moved y g (g.stepped 1 (ws g.arrived)))
     Completes (.memLoad e bus wide reg amode ptr ofs true) s (fun d => d = after (x false) (fun g =>
       if wide then [.d reg (g.word bus (g.address (x false))), .d (reg + 1) (g.word bus (g.address (x false) + 1))] else [.d reg (g.word bus (g.address (x false)))])) ∧
     (bus ≤ 2 → ¬inHandler → Completes (.memStore e bus wide reg amode ptr ofs true) s (fun d => d = after (x true) (fun g =>
       if wide then [.mem bus (g.address (x true)) (g.reg reg), .mem bus (g.address (x true) + 1) (g.reg (reg + 1))] else [.mem bus (g.address (x true)) (g.reg reg)]))) ∧
     (bus ≤ 2 → inHandler → wide = false → Completes (.memStore e bus wide reg amode ptr ofs true) s (fun d => d = after (x true) (fun g =>
       if bus = 1 ∧ 0x1000 ≤ g.address (x true) % 8192 then [.mem bus (g.address (x true)) (g.reg reg)] else [.wcol]))))

/-- Table 7.8, R202, R206, R208, R218, R220, R221. `taken g c t` is `g` with, where `c` holds, a branch to `t` that two more bundles precede. Completes, under its
premises on state and operands alone: ctlNop, br, brc, loop, djnz1, trd, twait. -/
def Obligations.EngineControlWords : Prop :=
  ∀ (s : State) (e dst a b sh imm addr : Nat) (immSel : Bool), s.dev.Ready e →
    (let taken (g : Engine) (c : Bool) (t : Nat) : Engine := if c then { g with brNext := some t } else g
     let g0 := s.dev.engine e
     let asks (g : Engine) : List TabReq := g.reqs ++ [{ handle := (g.arrived.reg a).toNat, idx := (g.arrived.reg b).toNat, dst := dst }]
     Completes (.ctlNop e true) s (fun d => d = s.dev.Bundled e (fun _ => [])) ∧
     Completes (.br e addr true) s (fun d => d = s.dev.onEngine e (fun g => taken (g.stepped 1 []) true addr)) ∧
     Completes (.brc e sh addr true) s (fun d => d = s.dev.onEngine e (fun g => taken (g.stepped 1 []) (g.arrived.cond (sh % 8)) addr)) ∧
     Completes (.loop e immSel a imm addr true) s (fun d => d = s.dev.onEngine e (fun g =>
       let c := if immSel then imm % 65536 else (g.arrived.reg a).toNat % 65536
       taken (g.stepped 1 [.loopRegs c addr]) (c = 0) ((addr + 1) % 4096))) ∧
     Completes (.djnz1 e addr true) s (fun d => d = s.dev.onEngine e (fun g =>
       let c := (g.arrived.spc 22 + 65535) % 65536
       taken (g.stepped 1 [.special 22 c]) (c ≠ 0) addr)) ∧
     (dst % 2 = 0 → (g0.reqs.filter (fun r => r.got.isNone)).length < 4 → Completes (.trd e dst a b true) s (fun d => d = s.dev.onEngine e (fun g =>
       { g.stepped 1 [] with reqs := asks g, special := (g.stepped 1 []).special.set 25 (setBit g.arrived.estat 13),
                             run := g.run.map (fun r => { r with steps := r.steps + 1 + g.arrived.backSteps 1, reads := r.reads + 1 }) }))) ∧
     (dst % 2 = 0 → 4 ≤ (g0.reqs.filter (fun r => r.got.isNone)).length → Completes (.trd e dst a b true) s (fun d => d = s.dev.onEngine e (fun g =>
       { g with stall := some { op := some { ctl := true, op := 5, dst := dst, a := a, b := b } } }))) ∧
     ((∀ r ∈ g0.reqs, r.got.isSome) → (g0.reqs.map (fun r => r.dst)).Pairwise (fun x y => x ≠ y ∧ x ≠ y + 1 ∧ y ≠ x + 1) →
       Completes (.twait e true) s (fun d => d = s.dev.onEngine e (fun g =>
         let g' := g.stepped 1 (g.reqs.flatMap (fun r => [.d r.dst (BitVec.ofInt 32 (r.got.getD (0, 0)).1), .d (r.dst + 1) (BitVec.ofInt 32 (r.got.getD (0, 0)).2)]))
         { g' with reqs := [], special := g'.special.set 25 (clrBit g.arrived.estat 13) }))) ∧
     (∀ (g : Engine) (c le : Nat), g.special.length = 26 → (g.apply (.loopRegs c le)).spc 21 = c ∧ (g.apply (.loopRegs c le)).spc 23 = g.pcw % 4096 ∧ (g.apply (.loopRegs c le)).spc 24 = le) ∧
     ((∃ r ∈ g0.reqs, r.got = none) → Completes (.twait e true) s (fun d => d = s.dev.onEngine e (fun g => { g with stall := some { op := some { ctl := true, op := 6 } } }))))

/-- R204, R206, R222: what END does, for one word of each class; a trap of an axis computation. Pass 15 is the model's mark of a slot that trapped in this cycle.
Completes, under its premises on state and operands alone: mac, memStore, add, br, add64. -/
def Obligations.EngineWordsJoinOpenBundle : Prop :=
  ∀ (s : State) (e : Nat), (s.dev.engine e).run.isSome = true → (s.dev.engine e).stall = none →
    (∀ lane psh sign acc a b : Nat, Completes (.mac e lane psh sign acc a b false) s (fun d => d = s.dev.onEngine e (fun g =>
      { g with cur := { g.cur with lanes := g.cur.lanes ++ [{ lane := lane, kind := 1, psh := psh, sign := sign, acc := acc, a := a, b := b }] } }))) ∧
    (∀ (bus reg amode ptr : Nat) (wide : Bool) (ofs : Int), Completes (.memStore e bus wide reg amode ptr ofs false) s (fun d => d = s.dev.onEngine e (fun g =>
      { g with cur := { g.cur with accs := g.cur.accs ++ [{ bus := bus, store := true, wide := wide, reg := reg, amode := amode, ptr := ptr, ofs := ofs }] } }))) ∧
    (∀ dst a b : Nat, Completes (.add e dst a b false) s (fun d => d = s.dev.onEngine e (fun g =>
      { g with cur := if g.cur.op.isSome then { g.cur with bad := true } else { g.cur with op := some { ctl := false, op := 0x01, dst := dst, a := a, b := b } } }))) ∧
    (∀ addr : Nat, Completes (.br e addr false) s (fun d => d = s.dev.onEngine e (fun g =>
      { g with cur := if g.cur.op.isSome then { g.cur with bad := true } else { g.cur with op := some { ctl := true, op := 1, addr := addr } } }))) ∧
    (∀ (dst a b : Nat) (r : Run), (s.dev.engine e).run = some r → r.kind = 0 → s.dev.EventRoom 1 → (dst % 2 = 1 ∨ a % 2 = 1 ∨ b % 2 = 1) →
      Completes (.add64 e dst a b true) s (fun d =>
        d.Is (s.dev.onEngine e (fun g => { g.drain with run := none, cur := {}, stall := none, reqs := [], special := g.drain.special.set 25 (clrBit g.drain.estat 13),
                                                        slots := Tab.upd g.slots r.slot (fun x => { x with outs := x.outs ++ [{ words := [], commit := false, pass := 15 }] }) })) ∧
        d.Reports eENGINE_TRAP (srcEngine e) (leBytes 1 e ++ leBytes 2 (s.dev.engine e).pcw ++ leBytes 2 r.axis)))

/-- R206, for every write that a bundle can leave in flight: `ws1`, `ws2` and `ws3` are what three bundles in a row write, and the fourth reads the first's writes and neither of the two others'. -/
def Obligations.EngineWritesArriveInOrder : Prop :=
  ∀ (g : Engine) (n1 n2 n3 : Nat) (ws1 ws2 ws3 : List Wr),
    let g1 := g.stepped n1 ws1
    let g2 := g1.stepped n2 ws2
    let g3 := g2.stepped n3 ws3
    (∀ r, g1.arrived.reg r = (g1.applyAll g.w2).reg r) ∧
    (∀ r, g2.arrived.reg r = (g2.applyAll g.w1).reg r) ∧
    (∀ r, g3.arrived.reg r = (g3.applyAll ws1).reg r) ∧
    g3.w3 = ws1 ∧ g3.w2 = ws2 ∧ g3.w1 = ws3 ∧
    (∀ r v, r < g3.d.length → (g3.apply (.d r v)).reg r = v) ∧ (∀ r v q, q ≠ r → (g3.apply (.d r v)).reg q = g3.reg q) ∧
    (∀ a v, Tab.getD (g3.apply (.mem 1 a v)).xm (a % 8192) 0 = v) ∧ (∀ a v q, q ≠ a % 8192 → Tab.getD (g3.apply (.mem 1 a v)).xm q 0 = Tab.getD g3.xm q 0)

/-- R218, over the operation that every bundle's sequencing uses: special registers 21, 22, 23 and 24 are LC0, LC1, LS and LE. Completes, under its premises on state and
operands alone: loop, djnz1. -/
def Obligations.EngineHardwareLoop : Prop :=
  (∀ (g : Engine) (n : Nat),
    ((∀ t, g.brDue ≠ some t) → (g.pcw + n - 1) % 4096 = g.spc 24 → 1 < g.spc 21 → g.nextPc n = (g.spc 23, g.spc 21 - 1)) ∧
    ((∀ t, g.brDue ≠ some t) → (g.pcw + n - 1) % 4096 = g.spc 24 → g.spc 21 = 1 → g.nextPc n = ((g.spc 24 + 1) % 4096, 0)) ∧
    ((∀ t, g.brDue ≠ some t) → ((g.pcw + n - 1) % 4096 ≠ g.spc 24 ∨ g.spc 21 = 0) → g.nextPc n = ((g.pcw + n) % 4096, g.spc 21)) ∧
    (∀ t, g.brDue = some t → g.nextPc n = (t, if g.spc 23 ≤ t ∧ t ≤ g.spc 24 then g.spc 21 else 0))) ∧
  (∀ (s : State) (e a addr : Nat), s.dev.Ready e →
    Completes (.loop e true a 0 addr true) s (fun d => ∀ (n1 n2 : Nat) (ws1 ws2 : List Wr), (((d.engine e).stepped n1 ws1).stepped n2 ws2).pcw = (addr + 1) % 4096) ∧
    (let c := ((s.dev.engine e).arrived.spc 22 + 65535) % 65536
     Completes (.djnz1 e addr true) s (fun d => (d.engine e).w1 = [.special 22 c] ∧ (c ≠ 0 → (d.engine e).brNext = some addr) ∧ (c = 0 → (d.engine e).brNext = none))))

/-- R226, R228 and Table 7.12; where the entry address is that of kernel `k` and pass. `Dev.mayStart` is the order of R87 and R105. Completes, under its premises on state
and operands alone: slotStart. -/
def Obligations.EngineSlotStarts : Prop :=
  ∀ (s : State) (e slot pass : Nat) (sl : Slot) (ax : Axis), e < 18 → s.dev.engines.length = 18 → (s.dev.engine e).d.length = 32 → (s.dev.engine e).special.length = 26 → pass ≤ 2 → slot < 32 →
    (s.dev.engine e).run = none → Tab.find (s.dev.engine e).slots slot = some sl → s.dev.axis? sl.axis = some ax → s.dev.mayStart sl ax pass = true →
    Completes (.slotStart e slot pass) s (fun d =>
      d = { s.dev with engines := s.dev.engines.set e (d.engine e) } ∧
      (d.engine e).run = some { kind := 0, slot := slot, axis := sl.axis, kernel := ax.prm.nat pKERNEL_SEL, pass := pass } ∧
      (d.engine e).pcw = 0x020 * ax.prm.nat pKERNEL_SEL + (if pass = 1 then 0x08 else if pass = 2 then 0x10 else 0) ∧
      (d.engine e).reg 0 = BitVec.ofNat 32 slot ∧ (d.engine e).reg 1 = BitVec.ofNat 32 sl.axis ∧ (d.engine e).reg 2 = BitVec.ofNat 32 pass ∧
      (d.engine e).reg 3 = BitVec.ofNat 32 (s.dev.ctl.cycle % 2 ^ 32) ∧
      (d.engine e).spc 0 = 128 * slot + (if sl.bank then 64 else 0) ∧ (d.engine e).spc 1 = 128 * slot + (if sl.bank then 0 else 64) ∧
      (d.engine e).spc 4 = 128 * slot ∧ (d.engine e).spc 5 = 0x1000 + 64 * slot ∧ (d.engine e).spc 6 = 0x1800 + 64 * slot ∧ (d.engine e).spc 8 = 0 ∧
      (d.engine e).spc 21 = 0 ∧ (d.engine e).spc 22 = 0 ∧ (d.engine e).acc = List.replicate 8 0 ∧ (∀ n, n < 8 → (d.engine e).aov n = false) ∧
      (d.engine e).cur = {} ∧ (d.engine e).stall = none ∧ (d.engine e).reqs = [] ∧ (d.engine e).cache = [])

/-- R220 to R225, R229, R234, R236: the ends of runs. `DONE` issues its own bundle and drains the pipeline first. Completes, under its premises on state and operands
alone: done, preemptOverrun, kernelOverBudget, engineTrap, tableReadReturn. -/
def Obligations.EngineRunsEnd : Prop :=
  ∀ (s : State) (e : Nat) (r : Run), (s.dev.engine e).run = some r → s.dev.EventRoom 1 →
    (let g := s.dev.engine e
     let ended := ({ (g.issue { op := some { ctl := true, op := 7 } }).drain with cache := [], reqs := [], special := (g.issue { op := some { ctl := true, op := 7 } }).drain.special.set 25 (clrBit (g.issue { op := some { ctl := true, op := 7 } }).drain.estat 13) } : Engine)
     (∀ ns, r.kind = 1 → g.stall = none → g.cur = {} → Completes (.done e ns) s (fun d => d = s.dev.onEngine e (fun _ =>
       { (ended.measured { r with steps := r.steps + 1 + g.arrived.backSteps 1 } ns) with run := none }))) ∧
     (∀ ns, r.kind = 2 → g.stall = none → g.cur = {} → Completes (.done e ns) s (fun d => d = s.dev.onEngine e (fun _ =>
       { ended with run := none, saveValid := ended.saveValid || (ended.bgDeclared && !bit ended.estat 17) }))) ∧
     (∀ ns ax, r.kind = 0 → g.stall = none → g.cur = {} → s.dev.axis? r.axis = some ax → Completes (.done e ns) s (fun d =>
       d.Is { s.dev with engines := d.engines, motion := { s.dev.motion with axes := d.motion.axes } } ∧ d.engines = s.dev.engines.set e (d.engine e) ∧
       (∀ a, a ≠ r.axis → d.axis? a = s.dev.axis? a) ∧ (d.engine e).run = none ∧ (d.engine e).passes = g.passes + 1 ∧ (d.engine e).steps = g.steps + r.steps + 1 + g.arrived.backSteps 1)) ∧
     (r.kind = 2 → 96 ≤ r.steps → Completes (.preemptOverrun e) s (fun d =>
       d.Is (s.dev.onEngine e (fun g => { g.drain with run := none, cur := {}, stall := none, reqs := [], saveValid := false, special := g.drain.special.set 25 (clrBit g.drain.estat 13) })) ∧ d.Reports ePREEMPT_OVERRUN (srcEngine e) [])) ∧
     (r.kind = 0 → r.overBudget = false → (declOf g.version r.kernel r.pass).1 < r.steps → Completes (.kernelOverBudget e) s (fun d =>
       d.Is { (s.dev.onEngine e (fun g => { g with run := some { r with overBudget := true } })) with pace := { s.dev.pace with trigger := true } } ∧
       d.Reports eKERNEL_OVER_BUDGET (srcEngine e) (leBytes 1 r.kernel ++ leBytes 1 r.pass ++ leBytes 4 r.steps))) ∧
     (∀ ws, r.kind = 0 → wordsIllegal ws = true → Completes (.engineTrap e ws) s (fun d =>
       d.Is (s.dev.onEngine e (fun g => { g.drain with run := none, cur := {}, stall := none, reqs := [], special := g.drain.special.set 25 (clrBit g.drain.estat 13),
                                                        slots := Tab.upd g.slots r.slot (fun x => { x with outs := x.outs ++ [{ words := [], commit := false, pass := 15 }] }) })) ∧
       d.Reports eENGINE_TRAP (srcEngine e) (leBytes 1 e ++ leBytes 2 g.pcw ++ leBytes 2 r.axis))) ∧
     (∀ q tb rest, g.reqs = q :: rest → q.got = none → g.stall = none → s.dev.tableOf q.handle = some tb → Completes (.tableReadReturn e) s (fun d => d = s.dev.onEngine e (fun g =>
       { g with reqs := { q with got := some (tb.entries.getD (q.idx % tb.n) 0, tb.entries.getD ((q.idx + 1) % tb.n) 0) } :: rest, special := g.special.set 25 (if rest.any (fun x => x.got.isNone) then setBit g.estat 13 else clrBit g.estat 13) }))))

/-! ## Pace, Seeing and migration (chapter 8) -/

/-- R15, R236, R242, R243, R255, R258. Completes, under its premises on state and operands alone: pacePlanStart, pacePlanComplete, planPeriodExpiry, marginLowExit,
seeingMismatch. -/
def Obligations.PacePlansAreBuilt : Prop :=
  ∀ (s : State) (m e : Nat),
    (s.dev.ctl.running = true → s.dev.pace.trigger = true → s.dev.pace.building = none → s.dev.pace.done = none → s.dev.ctl.cycle + planLead s.dev.tcyc ≤ m →
      Completes (.pacePlanStart m) s (fun d => d = { s.dev with pace := { s.dev.pace with building := some m, trigger := false, lateServed := s.dev.pace.latePending } })) ∧
    (s.dev.ctl.running = true → s.dev.pace.building = some m → s.dev.ctl.cycle < m → s.dev.planAdmitted (s.dev.makePlan m).1 (s.dev.makePlan m).2 = false →
      Completes .pacePlanComplete s (fun d => d.Is { s.dev with pace := { s.dev.pace with building := none, trigger := true, lateServed := false } })) ∧
    (s.dev.ctl.running = true → s.dev.pace.building = some m → s.dev.ctl.cycle < m → s.dev.planAdmitted (s.dev.makePlan m).1 (s.dev.makePlan m).2 = true → Completes .pacePlanComplete s (fun d =>
      d.Is { s.dev with pace := d.pace, tru := { s.dev.tru with stops := d.tru.stops } } ∧ d.pace.building = none ∧ d.pace.carry = [] ∧ d.pace.plan = s.dev.pace.plan ∧
      (∃ p, d.pace.done = some p ∧ p.cycle = m ∧ p.seq = incWrap 32 s.dev.pace.plan.seq ∧ p.carries = s.dev.pace.carry) ∧
      (s.dev.pace.marginLow = true → d.pace.marginLow = true ∧ d.pace.marginEntries = s.dev.pace.marginEntries) ∧
      (s.dev.pace.marginLow = false → d.pace.marginLow = true → d.pace.marginEntries = incSat 16 s.dev.pace.marginEntries ∧ d.Reports eMARGIN_LOW_ENTER srcPac []))) ∧
    (s.dev.ctl.running = true → Completes .planPeriodExpiry s (fun d => d = { s.dev with pace := { s.dev.pace with trigger := true } })) ∧
    (s.dev.pace.marginLow = true → s.dev.meetsCorner = true → Completes .marginLowExit s (fun d =>
      d.Is { s.dev with pace := { s.dev.pace with marginLow := false } } ∧ d.Reports eMARGIN_LOW_EXIT srcPac [])) ∧
    (1000 ≤ (s.dev.engine e).mismPasses → (s.dev.engine e).mismatch = false → Completes (.seeingMismatch e) s (fun d =>
      d.Is (s.dev.onEngine e (fun g => { g with mismatch := true })) ∧ d.Reports eSEEING_MISMATCH srcPac (leBytes 1 e)))

/-- R238, R239, R246 to R248, R565: temperatures are in 1/16 degree, so that 5 degrees are 80. Completes, under its premises on state and operands alone: tempSensorRead,
ageingUpdate, avsAdjust, avsReadback. -/
def Obligations.PaceMeasurementsAct : Prop :=
  ∀ (s : State) (ts : List Int) (mv since opsec : Nat),
    (let warn := Params.val s.dev.ctl.prm pTEMP_WARN * 16
     let lim := Params.val s.dev.ctl.prm pTHERM_LIMIT * 16
     let t (i : Nat) : Int := ts.getD i 0
     let pace (p : Pace) (d : Dev) : Prop := d.Is { s.dev with pace := p }
     Completes (.tempSensorRead ts) s (fun d => pace { s.dev.pace with temps := d.pace.temps, warned := d.pace.warned, thermN := d.pace.thermN } d ∧
       (∀ i, i < 8 → d.pace.temps.getD i 0 = t i) ∧
       (∀ i, i < 8 → s.dev.pace.warned.getD i false = false → warn ≤ t i → d.Reports eTEMP_WARN srcPac (leBytes 1 i ++ leBytes 2 (lowBits 16 (t i)))) ∧
       (∀ i, i < 8 → lim ≤ t i → d.pace.thermN = true) ∧ ((∀ i, i < 8 → t i ≤ lim - 80) → d.pace.thermN = false) ∧
       ((∀ i, i < 8 → t i < lim) → (∃ i, i < 8 ∧ lim - 80 < t i) → d.pace.thermN = s.dev.pace.thermN)) ∧
     (since + 3600 ≤ opsec → Completes (.ageingUpdate since opsec) s (fun d =>
       d.Is { s.dev with pace := { s.dev.pace with vFloor := d.pace.vFloor }, engines := s.dev.engines.map (fun (g : Engine) => { g with ageDrift := g.drift, seeSum := 0, refSum := 0 }) } ∧
       700 ≤ d.pace.vFloor ∧ (∀ g ∈ s.dev.engines, g.refSum ≠ 0 → g.drift = toFix 16 15 (1 - (g.seeSum : Rat) / g.refSum)) ∧
       (∀ e, e < s.dev.engines.length → ageEol (s.dev.engine e).drift = true → floorFor e (s.dev.engine e).drift ≤ d.pace.vFloor ∧ d.Reports eAGEING_LIMIT srcPac (leBytes 1 e)) ∧
       (∀ e, e < s.dev.engines.length → f32ToRat (s.dev.prm pAGE_WARN) ≤ fix 15 (s.dev.engine e).drift → d.Reports eAGEING_WARN srcPac (leBytes 1 e)))) ∧
     (s.dev.pace.avsHold = false → s.dev.pace.avsFault = false →
       (∀ again, Completes (.avsAdjust true again) s (fun d => pace { s.dev.pace with vddTarget := d.pace.vddTarget } d ∧
         (s.dev.prm pVOLT_POLICY = 0 → d.pace.vddTarget = max s.dev.pace.vFloor (min 860 (s.dev.prm pVOLT_FIXED))) ∧
         (s.dev.prm pVOLT_POLICY ≠ 0 → s.dev.pace.marginLow = true → d.pace.vddTarget = min 860 (s.dev.pace.vddTarget + 5)) ∧
         (s.dev.prm pVOLT_POLICY ≠ 0 → s.dev.pace.vddTarget ≤ 860 → d.pace.vddTarget ≤ s.dev.pace.vddTarget + 5 ∧ s.dev.pace.vddTarget ≤ d.pace.vddTarget + 5))) ∧
       Completes (.avsAdjust false false) s (fun d =>
         d.Is { s.dev with pace := { s.dev.pace with avsFault := true, avsLasting := incSat 16 s.dev.pace.avsLasting }, ctl := { s.dev.ctl with prm := d.ctl.prm } } ∧
         d.prm pVOLT_POLICY = 0 ∧ d.prm pVOLT_FIXED = s.dev.pace.vddTarget ∧ d.Reports eAVS_FAULT srcPac [])) ∧
     (s.dev.pace.avsFault = false → ∀ again, Completes (.avsReadback mv true again) s (fun d => pace { s.dev.pace with vddRead := mv } d ∧
       ((mv + 10 < s.dev.pace.vddTarget ∨ s.dev.pace.vddTarget + 10 < mv) → d.Reports eAVS_MISMATCH srcPac (leBytes 2 s.dev.pace.vddTarget ++ leBytes 2 mv)))))

/-! ## Ngudra: ring start, joins, acyclic traffic and the return of frames (chapters 9 and 10) -/

/-- R298 to R300. The key of a head is (CLAIM_PRIORITY, serial number). Completes, under its premises on state and operands alone: listenTimeExpiry, claimInterval, claim,
claimTimeout. -/
def Obligations.RingContention : Prop :=
  ∀ (s : State) (i : Nat) (f : List Byte), i ∈ s.dev.segNos →
    (let st (d : Dev) (j : Nat) : Nat := (d.ring.seg j).state
     let n := s.dev
     let own := (n.prm pCLAIM_PRIORITY, Config.devSerial)
     let key := (pay f 44 1, pay f 48 8)
     let isClaim := st n i = 2 ∧ fcsOk f = true ∧ frameKind f = 3 ∧ service f = 0x10 ∧ hdr f 1 1 = i
     let others (k : Nat) (d : Dev) : Prop := ∀ j, ¬(j ∈ n.segNos ∧ st n j = k) → d.ring.seg j = n.ring.seg j
     (n.ring.role = 1 → st n i = 1 → Completes .listenTimeExpiry s (fun d =>
       d.RingOnly { n with ring := { n.ring with role := 2, claimRound := 0, lowerKey := false } } ∧ others 1 d ∧
       d.ring.seg i = { n.ring.seg i with state := 2, claimRun := 0, claimBack := false, sent := [] })) ∧
     (n.ring.role = 2 ∨ n.ring.role = 3 → st n i = 2 → Completes .claimInterval s (fun d =>
       d.RingOnly { n with ring := { n.ring with claimRound := incWrap 8 n.ring.claimRound } } ∧ others 2 d ∧ d.si = n.si ∧ d.host = n.host ∧
       d.Sent i 0x10 0xFF (leBytes 1 own.1 ++ leBytes 1 (incWrap 8 n.ring.claimRound) ++ leBytes 1 n.segMask ++ [0] ++ leBytes 8 own.2))) ∧
     (isClaim → key = own → n.ring.role = 2 → ∀ g, (n.ring.seg i).outstanding 0x10 f = some g →
       (n.ring.lowerKey = false → 2 ≤ (n.ring.seg i).claimRun → (∀ j ∈ n.segNos, j ≠ i → st n j = 2 → 3 ≤ (n.ring.seg j).claimRun) →
         Completes (.claim i f) s (fun d => d.RingOnly { n with ring := { n.ring with role := 3 } } ∧ ∀ j ∈ n.segNos, st n j = 2 → st d j = 3)) ∧
       ((n.ring.seg i).claimRun < 2 → Completes (.claim i f) s (fun d =>
         d.Is (n.onSeg i (fun x => { x with sent := x.sent.erase g, claimRun := x.claimRun + 1, claimBack := true }))))) ∧
     (isClaim → n.ring.role = 2 → (key.1 < own.1 ∨ (key.1 = own.1 ∧ key.2 < own.2)) → n.EventRoom 1 → Completes (.claim i f) s (fun d =>
       d.RingOnly { n with ring := { n.ring with role := 4, lowerKey := true } } ∧ (∀ j ∈ n.segNos, (st n j = 1 ∨ st n j = 2) → st d j = 10) ∧
       (n.prm pSTANDBY_EN ≠ 1 → d.Reports eFOLLOWER_PASSIVE srcDevice []))) ∧
     (isClaim → (own.1 < key.1 ∨ (own.1 = key.1 ∧ own.2 < key.2)) → Completes (.claim i f) s (fun d => d.Is (n.onSeg i (fun x => { x with fwd := forwarded f id })))) ∧
     (n.ring.role = 2 → n.ring.lowerKey = false → st n i = 2 → (n.ring.seg i).claimBack = true → n.EventRoom 8 → Completes .claimTimeout s (fun d =>
       d.RingOnly { n with ring := { n.ring with role := 3 } } ∧ st d i = 3 ∧
       ∀ j ∈ n.segNos, st n j = 2 → (n.ring.seg j).claimBack = false → st d j = 0 ∧ (d.ring.seg j).retry = true ∧ d.Reports eRING_OPEN (srcSeg j) [])) ∧
     (n.ring.role = 3 → (n.ring.seg i).retry = true → n.EventRoom 8 →
       let calm := n.ctl.running = true ∨ ∀ j ∈ n.segNos, st n j = 5 → (n.ring.seg j).cfgPos ≠ 0
       (st n i = 0 → Completes .claimTimeout s (fun d => (calm → d.RingOnly n) ∧ st d i = 2)) ∧
       (st n i = 2 → Completes .claimTimeout s (fun d => (calm → d.RingOnly n) ∧ st d i = 0 ∧ d.Reports eRING_OPEN (srcSeg i) []))))

/-- Table 10.4, R301 to R305. Completes, under its premises on state and operands alone: enum, delay, measureFrameLost, config, start, syncTimeout. -/
def Obligations.RingBringUp : Prop :=
  ∀ (s : State) (i : Nat) (f g : List Byte) (ps : Nat),
    (let n := s.dev
     let x := n.ring.seg i
     let same (d : Dev) : Prop := ∀ j, j ≠ i → (d.ring.seg j).state = (n.ring.seg j).state
     let apart := n.ctl.running = true ∨ ∃ j ∈ n.segNos, j ≠ i ∧ ((n.ring.seg j).state = 3 ∨ (n.ring.seg j).state = 4)
     let calm := apart ∨ ∀ j ∈ n.segNos, j ≠ i → (n.ring.seg j).state = 5 → (n.ring.seg j).cfgPos ≠ 0
     let down (code : Nat) (args : List Byte) (d : Dev) : Prop := (calm → d.RingOnly n ∧ same d) ∧ (d.ring.seg i).state = 0 ∧ (d.ring.seg i).sent = [] ∧ d.Reports code (srcSeg i) args
     let only (d : Dev) : Prop := d.Is { n with ring := { n.ring with segs := d.ring.segs } } ∧ ∀ j, j ≠ i → d.ring.seg j = n.ring.seg j
     n.EventRoom 8 →
     (x.state = 3 → x.outstanding 0x11 f = some g → fcsOk f = true →
       (n.enumBad i f = 0 → Completes (.enum i f) s (fun d => d.RingOnly { n with ring := { n.ring with standbyPresent := n.ring.map.standby } } ∧ same d ∧
         (d.ring.seg i).state = 4 ∧ (d.ring.seg i).devs = frameHop f ∧
         d.Sent i 0x12 0xFF (leBytes 1 1 ++ leBytes 1 (frameHop f) ++ leBytes 2 (incWrap 16 x.measId)))) ∧
       (n.enumBad i f ≠ 0 → Completes (.enum i f) s (down eRING_MISMATCH (leBytes 2 (n.enumBad i f))))) ∧
     (x.state = 4 → x.outstanding 0x12 f = some g → fcsOk f = true →
       (pay f 44 1 = 1 → Completes (.delay i ps f) s (fun d => only d ∧ (d.ring.seg i).lastMeas = some ((ps : Int), x.measId) ∧ (d.ring.seg i).losses = 0 ∧
         d.Sent i 0x12 0xFF (leBytes 1 2 ++ leBytes 1 x.devs ++ leBytes 2 x.measId ++ zeroBytes (8 * x.devs)))) ∧
       (∀ m, pay f 44 1 ≠ 1 → x.lastMeas = some m → x.pairs + 1 < 64 → Completes (.delay i ps f) s (fun d => only d ∧ (d.ring.seg i).pairs = x.pairs + 1 ∧
         (d.ring.seg i).rtSum = x.rtSum + m.1 ∧ (d.ring.seg i).t0Sum = x.t0Sum + ps ∧
         d.Sent i 0x12 0xFF (leBytes 1 1 ++ leBytes 1 x.devs ++ leBytes 2 (incWrap 16 x.measId)))) ∧
       (∀ m, pay f 44 1 ≠ 1 → x.lastMeas = some m → 64 ≤ x.pairs + 1 → x.reinit = false → i ∈ n.segNos → Completes (.delay i ps f) s (fun d =>
         (apart → d.RingOnly n ∧ same d ∧ (d.ring.seg i).state = 5) ∧
         (¬apart → (d.RingOnly n ∧ same d ∧ (d.ring.seg i).state = 5 ∧ d.cycleFits n.ctl.prm = true) ∨
           ((d.ring.seg i).state = 0 ∧ d.ctl.prm = cycleBack n.ctl.prmBefore n.ctl.prm ∧ d.Reports eRING_TOO_LONG (srcSeg i) []))))) ∧
     (x.state = 4 → x.sent.find? (fun g => service g = 0x12) = some g →
       (pay g 44 1 = 1 → x.losses + 1 < 16 → Completes (.measureFrameLost i) s (fun d => only d ∧ (d.ring.seg i).losses = x.losses + 1 ∧ (d.ring.seg i).state = 4)) ∧
       (pay g 44 1 = 1 → 16 ≤ x.losses + 1 → Completes (.measureFrameLost i) s (down eRING_OPEN [])) ∧
       (pay g 44 1 ≠ 1 → Completes (.measureFrameLost i) s (fun d => only d ∧ (d.ring.seg i).pairs = x.pairs ∧
         d.Sent i 0x12 0xFF (leBytes 1 1 ++ leBytes 1 x.devs ++ leBytes 2 (incWrap 16 x.measId))))) ∧
     (x.state = 5 → x.outstanding 0x13 f = some g →
       (fcsOk f = true → pay f 70 1 = 1 → Completes (.config i f) s (fun d => only d ∧ ((d.ring.seg i).node x.cfgPos).state = 1 ∧ (d.ring.seg i).cfgPos = x.cfgPos + 1 ∧
         (x.cfgPos + 1 ∈ n.positions i → d.Sent i 0x13 (x.cfgPos + 1) (d.configOf i (x.cfgPos + 1))))) ∧
       ((fcsOk f = false ∨ pay f 70 1 = 0) → x.cfgTries < 16 → Completes (.config i f) s (fun d => only d ∧ (d.ring.seg i).cfgPos = x.cfgPos ∧ (d.ring.seg i).cfgTries = x.cfgTries + 1)) ∧
       ((fcsOk f = true ∧ 1 < pay f 70 1) ∨ ((fcsOk f = false ∨ pay f 70 1 = 0) ∧ 16 ≤ x.cfgTries) → Completes (.config i f) s (down eNODE_CONFIG_FAILED []))) ∧
     (n.ring.role = 3 → n.ctl.running = false → i ∈ n.segNos → (∀ j ∈ n.segNos, n.configured j = true) → Completes .start s (fun d =>
       d.ctl.running = true ∧ d.ctl.first = true ∧ d.ctl.cycle = n.ring.highCycle ∧ d.RingOnly { n with ctl := d.ctl } ∧
       ∀ j ∈ n.segNos, (d.ring.seg j).state = 6 ∧ (d.ring.seg j).firstCycle = n.ring.highCycle + 1 ∧ d.Sent j 0x14 0xFF (leBytes 8 (n.ring.highCycle + 1)))) ∧
     (x.state = 6 → Completes (.syncTimeout i) s (fun d => down eSYNC_FAILED ((((n.positions i).filter (fun p => (x.node p).state ≠ 2)).take 12).flatMap (fun p => leBytes 2 p)) d)))

/-- R321 to R323. Completes, under its premises on state and operands alone: joinPollPeriodExpiry, joinPoll, joinGrant, reinitNoticeEnd. -/
def Obligations.RingJoins : Prop :=
  ∀ (s : State) (i ringNs pos : Nat) (f g id : List Byte), s.dev.EventRoom 1 →
    (let n := s.dev
     let x := n.ring.seg i
     (n.ring.role = 3 → i ∈ n.segNos → x.state = 7 → Completes .joinPollPeriodExpiry s (fun d => d.Is { n with ring := { n.ring with segs := d.ring.segs } } ∧
       (∀ j, ¬(j ∈ n.segNos ∧ (n.ring.seg j).state = 7) → d.ring.seg j = n.ring.seg j) ∧ d.Queued i 0x15 0xFF (zeroBytes 44))) ∧
     (x.outstanding 0x15 f = some g → fcsOk f = true → (payBytes f 48 40).all (fun b => b = 0) = false → Completes (.joinPoll i f) s (fun d =>
       d.Is ((n.onward i false f).onSeg i (fun y => { y with sent := y.sent.erase g, joinIdent := some (pay f 80 1, payBytes f 48 32) })))) ∧
     (x.joinIdent = some (pos, id) → x.state = 7 → n.ring.role = 3 → n.joinCause i pos ringNs id ≠ 0 → Completes (.joinGrant i ringNs) s (fun d =>
       d.Is (n.onSeg i (fun y => { y with joinIdent := none })) ∧ d.Reports eJOIN_REFUSED (srcSeg i) (leBytes 1 (n.joinCause i pos ringNs id)))) ∧
     (x.joinIdent = some (pos, id) → x.state = 7 → n.ring.role = 3 → n.joinCause i pos ringNs id = 0 → Completes (.joinGrant i ringNs) s (fun d =>
       d.Is { n with ring := { n.ring with segs := d.ring.segs, map := { n.ring.map with entries := d.ring.map.entries } }, ctl := n.layout.ctl } ∧
       (∀ j, j ≠ i → d.ring.seg j = n.ring.seg j) ∧ (d.ring.seg i).joinCnt = incSat 16 x.joinCnt ∧ (d.ring.seg i).joinIdent = none ∧
       ((d.ring.seg i).node pos).state = 1 ∧ ((d.ring.seg i).node pos).joined = true ∧ ((d.ring.seg i).node pos).ident = id ∧
       d.Queued i 0x16 pos (d.configOf i pos))) ∧
     (x.state = 9 → x.reinitLeft = some 0 → n.ring.mapPending = none → n.outOfsOk i = true → Completes (.reinitNoticeEnd i) s (fun d =>
       d.RingOnly { n with ctl := d.ctl } ∧ (∀ j, j ≠ i → d.ring.seg j = n.ring.seg j) ∧ (d.ring.seg i).state = 3 ∧ (d.ring.seg i).launched = [] ∧
       d.Sent i 0x11 0xFF ([96, 0, 0, 0] ++ zeroBytes (32 * 96)))))

/-- R50, R287, R317, R320, R418. Completes, under its premises on state and operands alone: acyclicFrameLaunch, linkTest, mailboxFrameReturn, mailboxTimeout,
linkStateChange. -/
def Obligations.RingAcyclicTraffic : Prop :=
  ∀ (s : State) (i ofs : Nat) (f g : List Byte) (m : MailReq) (o : OpenOp), s.dev.EventRoom 1 →
    (let n := s.dev
     let x := n.ring.seg i
     let fits := n.quietOpen i ≤ ofs ∧ ofs + returnNs x (n.ring.map.desc i).length g.length < n.quietClose
     let rest (d : Dev) : Prop := d.Is { n with ring := { n.ring with segs := d.ring.segs }, host := d.host } ∧ ∀ j, j ≠ i → d.ring.seg j = n.ring.seg j
     let answered (st : Nat) (d : Dev) : Prop := rest d ∧ o ∉ d.host.openOps ∧ ((n.host.pair o.req.h.pair).active = true → bit o.req.h.flags 1 = false → d.Answers o.req st)
     (∀ r, n.ctl.running = true → n.ctl.first = false → n.ring.role = 3 → x.queue = g :: r →
       (fits → Completes (.acyclicFrameLaunch i ofs) s (fun d =>
         d = { n with tu := n.tu.reach (n.mer n.ctl.cycle + ofs), ring := d.ring } ∧ d.ring = { n.ring with segs := d.ring.segs } ∧ (∀ j, j ≠ i → d.ring.seg j = n.ring.seg j) ∧
         (d.ring.seg i).queue = r ∧ (service g = 0x18 → (d.ring.seg i).sent = x.sent) ∧ (service g ≠ 0x18 → (d.ring.seg i).sent.length = x.sent.length + 1))) ∧
       (¬fits → Completes (.acyclicFrameLaunch i ofs) s (fun d => d = n))) ∧
     (x.outstanding 0x17 f = some g →
       (fcsOk f = true → Completes (.linkTest i f) s (fun d => d.Is { n with ring := { n.ring with segs := d.ring.segs } } ∧ (∀ j, j ≠ i → d.ring.seg j = n.ring.seg j) ∧
         (d.ring.seg i).linkTransient = incSat 32 x.linkTransient ∧ (d.ring.seg i).linkLasting = x.linkLasting)) ∧
       (fcsOk f = false → Completes (.linkTest i f) s (fun d => d.Is { n with ring := { n.ring with segs := d.ring.segs } } ∧ (∀ j, j ≠ i → d.ring.seg j = n.ring.seg j) ∧
         (d.ring.seg i).linkLasting = incSat 16 x.linkLasting ∧ d.Reports eLINK_LASTING (srcSeg i) []))) ∧
     (x.outstanding 0x01 f = some g → x.mail = some m →
       (m.sent = false → Completes (.mailboxFrameReturn i f) s (fun d => rest d ∧ d.host = n.host ∧ (d.ring.seg i).mail = some { m with sent := true } ∧ (d.ring.seg i).seq = incWrap 16 x.seq)) ∧
       (m.sent = true → fcsOk f = true → pay f 48 2 = m.seq → (pay f 50 1 = 1 ∨ pay f 50 1 = 3) → n.mailOp m = some o → Completes (.mailboxFrameReturn i f) s (answered 0)) ∧
       (m.sent = true → pay f 50 1 ≠ 1 → pay f 50 1 ≠ 3 → Completes (.mailboxFrameReturn i f) s (fun d => rest d ∧ d.host = n.host ∧ (d.ring.seg i).mail = some m))) ∧
     (x.mail = some m → n.mailOp m = some o → Completes (.mailboxTimeout i) s (answered 0x0603)) ∧
     (∀ sideB up, n.power.sdLost = false → (4 ≤ i → n.power.segb = true) → Completes (.linkStateChange false i sideB up) s (fun d =>
       d = n.onSeg i (fun y => if sideB then { y with upB := up } else { y with upA := up }))) ∧
     (∀ sideB up, n.power.sdLost = false → n.power.plant = true → Completes (.linkStateChange true i sideB up) s (fun d =>
       d = { n with tu := { n.tu with ports := n.tu.ports.modify i (fun p => { p with up := up }) } })) ∧
     (n.power.sdLost = true → ∀ plant sideB, Completes (.linkStateChange plant i sideB true) s (fun d => d = n)))

/-- R294, R310, R313, R314, R319, R320, R330, R331. Completes, under its premises on state and operands alone: cycleFrameReturn, correctionFrameReturn,
frameReturnDeadline. -/
def Obligations.RingFrameReturns : Prop :=
  ∀ (s : State) (i : Nat) (f : List Byte), s.dev.ring.role = 3 → s.dev.ctl.running = true →
    (let n := s.dev.onward i false f
     let x := n.ring.seg i
     let foreign := validCycleFrame f i = true ∧ frameSource f ≠ n.prm pHEAD_MAC
     (x.launched ≠ [] → (x.state = 6 ∨ x.state = 7 ∨ x.state = 8 ∨ x.state = 9) →
       (¬foreign → x.judged = false → frameAccepted x.launched f x.devs = true → Completes (.cycleFrameReturn i false f) s (fun d =>
         (d.ring.seg i).accepted = true ∧ (d.ring.seg i).judged = true ∧ (d.ring.seg i).returned = true ∧ (d.ring.seg i).discardedCnt = x.discardedCnt ∧
         d.Is { n with ring := { n.ring with segs := d.ring.segs, stats := (n.ring.judgeSlots i f n.ctl.cycle).stats }, si := d.si, host := d.host } ∧
         ∀ j, j ≠ i → d.ring.seg j = n.ring.seg j)) ∧
       (¬foreign → x.judged = false → x.state ≠ 8 → frameHop f ≠ x.devs → fcsOk f = true → Completes (.cycleFrameReturn i false f) s (fun d =>
         d.Is { n with ring := { n.ring with segs := d.ring.segs, stats := (n.ring.missSlots i true).stats } } ∧ (∀ j, j ≠ i → d.ring.seg j = n.ring.seg j) ∧
         d.ring.seg i = { x with discardedCnt := incSat 32 x.discardedCnt, judged := true })) ∧
       (x.state = 7 → n.EventRoom 1 → Completes (.cycleFrameReturn i true f) s (fun d =>
         (d.ring.seg i).state = 8 ∧ (d.ring.seg i).breakCnt = incSat 16 x.breakCnt ∧ (d.ring.seg i).wrapPos = frameHop f ∧ d.Reports eRING_BREAK (srcSeg i) (leBytes 2 (frameHop f)))) ∧
       (foreign → n.ring.deposed = false → n.EventRoom 1 → Completes (.cycleFrameReturn i false f) s (fun d =>
         d.Is { n with ring := { n.ring with deposed := true } } ∧ d.Reports eLEADER_DEPOSED srcDevice [])) ∧
       (foreign → n.ring.deposed = true → Completes (.cycleFrameReturn i false f) s (fun d => d.Is n))) ∧
     (x.corrLaunched ≠ [] →
       (frameAccepted x.corrLaunched f x.devs = true → Completes (.correctionFrameReturn i false f) s (fun d => d = n.onSeg i (fun y => { y with corrLaunched := [] }))) ∧
       (frameAccepted x.corrLaunched f x.devs = false → Completes (.correctionFrameReturn i false f) s (fun d =>
         d = n.onSeg i (fun y => { y with corrLaunched := [], discardedCnt := incSat 32 y.discardedCnt })))) ∧
     (n.ctl.first = false → n.ctl.gathered = false → n.ring.map.configured i = true → x.launched ≠ [] → x.returned = false → n.EventRoom 1 →
       Completes (.frameReturnDeadline i) s (fun d =>
         (d.ring.seg i).returned = true ∧ (d.ring.seg i).judged = true ∧ (d.ring.seg i).silentRun = x.silentRun + 1 ∧
         (x.judged = false → d.ring.stats = (n.ring.missSlots i true).stats) ∧ (x.judged = true → d.ring.stats = n.ring.stats) ∧
         (∀ j, j ≠ i → d.ring.seg j = n.ring.seg j) ∧ d.Is { n with ring := { n.ring with segs := d.ring.segs, stats := d.ring.stats }, host := d.host } ∧
         (x.state = 7 → 4 ≤ x.silentRun + 1 → (d.ring.seg i).state = 8 ∧ d.Reports eRING_BREAK (srcSeg i) (leBytes 2 0)) ∧
         ((x.state ≠ 7 ∨ x.silentRun + 1 < 4) → (d.ring.seg i).state = x.state))))

/-! ## Followers, the standby and takeover (chapter 10) -/

/-- R298, R300, R301, R325, R340. Completes, under its premises on state and operands alone: followerFrameReceive, leaderAlive. -/
def Obligations.FollowersForward : Prop :=
  ∀ (s : State) (i : Nat) (f : List Byte),
    (let n := s.dev
     let x := n.ring.seg i
     (x.state = 1 → n.ring.role ≠ 3 → n.ring.role ≠ 0 → i ∈ n.segNos → validCycleFrame f i = true → Completes (.followerFrameReceive i f) s (fun d =>
       d.RingOnly { n with ring := { n.ring with role := 4 } } ∧ (∀ j ∈ n.segNos, ((n.ring.seg j).state = 1 ∨ (n.ring.seg j).state = 2) → (d.ring.seg j).state = 10) ∧
       (d.ring.seg i).fwd = forwarded f id)) ∧
     (x.state = 10 → n.ring.role = 4 → validCycleFrame f i = true → Completes (.followerFrameReceive i f) s (fun d =>
       d.Is { n with tu := d.tu, ring := { n.ring with segs := d.ring.segs, frameSeen := true, leaderCycle := d.ring.leaderCycle } } ∧ (∀ j, j ≠ i → d.ring.seg j = n.ring.seg j) ∧
       d.ring.seg i = { x with fwd := forwarded f id } ∧ d.tu.merN0 = d.ring.leaderCycle)) ∧
     (x.state = 10 → (n.ring.role = 4 ∨ n.ring.role = 5) → fcsOk f = true → hdr f 0 1 = 1 → hdr f 1 1 = i → frameKind f = 3 → service f = 0x11 →
       Completes (.followerFrameReceive i f) s (fun d => (d.ring.seg i).cfgPos = frameHop f + 1 ∧ (d.ring.seg i).state = 10 ∧ (∀ j, j ≠ i → d.ring.seg j = n.ring.seg j) ∧
         (d.ring.seg i).fwd = forwarded f (fun b => putBytes b (62 + 32 * frameHop f) ownIdentity))) ∧
     (fcsOk f = true → frameKind f = 3 → service f = 0x19 → hdr f 1 1 = i → Completes (.leaderAlive i f) s (fun d =>
       (n.ring.role = 5 → d = { n with ring := { n.ring with aliveSeen := true } }) ∧ (n.ring.role ≠ 5 → d = n))))

/-- Table 10.7, R327, R328. Twin states: 1 FILLING, 2 VERIFYING, 3 READY. Completes, under its premises on state and operands alone: twin, standbyPlateSeal. -/
def Obligations.StandbyTracks : Prop :=
  ∀ (s : State) (f : List Byte),
    (let n := s.dev
     let k := pay f 44 8
     let gen := pay f 52 4
     let ofs := pay f 60 4
     let len := pay f 58 2
     (n.ring.role = 5 → fcsOk f = true → frameKind f = 3 → service f = 0x18 → hdr f 1 1 = n.twinSeg → n.ctl.cycle < k → pay f 56 2 = 0 → Completes (.twin f) s (fun d =>
       d.ctl.cycle = k ∧ d.ctl.gathered = true ∧ d.ctl.sealed = false ∧ d.ring.twinSeen = true ∧ d.ring.role = 5 ∧
       (n.ring.twin = 1 → d.ring.imageGen = gen ∧
         (((ofs = 0 ∨ (n.ring.refDone = true ∧ gen = n.ring.imageGen ∧ ofs = n.ring.refOfs)) ∧ Config.twinLen ≤ ofs + len) → d.ring.twin = 2) ∧
         (¬((ofs = 0 ∨ (n.ring.refDone = true ∧ gen = n.ring.imageGen ∧ ofs = n.ring.refOfs)) ∧ Config.twinLen ≤ ofs + len) → d.ring.twin = 1)) ∧
       ((n.ring.twin = 2 ∨ n.ring.twin = 3) → gen ≠ n.ring.imageGen → d.ring.twin = 1 ∧ d.ring.imageGen = gen))) ∧
     ((n.ring.role ≠ 5 ∨ k ≤ n.ctl.cycle) → Completes (.twin f) s (fun d => d = n)) ∧
     (n.ring.role = 5 → n.ctl.gathered = true → n.ctl.sealed = false → Completes .standbyPlateSeal s (fun d =>
       d.ctl.published = n.ctl.cycle ∧ d.ctl.sealed = true ∧ d.ctl.cycle = n.ctl.cycle ∧ d.ctl.running = false ∧ d.ring.role = 5)) ∧
     (n.ring.role ≠ 5 → Completes .standbyPlateSeal s (fun d => d = n)) ∧
     (n.ring.role = 5 → n.ctl.sealed = true → n.ring.silent = 0 → n.ring.leaderCycle ≤ n.ctl.cycle + 1 → Completes .standbyPlateSeal s (fun d => d = n)))

/-- Table 10.8, R329; twin state 3 is READY. Completes, under its premises on state and operands alone: silenceCheck, takeover. -/
def Obligations.SilenceAndTakeover : Prop :=
  ∀ (s : State),
    (let n := s.dev
     let m := n.prm pMISS_TAKEOVER
     (n.ring.role = 5 → (n.ring.frameSeen = true ∨ n.ring.aliveSeen = true) → Completes .silenceCheck s (fun d =>
       d.Is { n with ring := { n.ring with silent := 0, frameSeen := false, aliveSeen := false } })) ∧
     (n.ring.role = 5 → n.ring.frameSeen = false → n.ring.aliveSeen = false → n.EventRoom 1 → Completes .silenceCheck s (fun d =>
       d.Is { n with ring := { n.ring with silent := n.ring.silent + 1, stats := d.ring.stats } } ∧
       (n.ring.silent + 1 = m → n.ring.twin ≠ 3 → d.Reports eTAKEOVER_REFUSED srcDevice []))) ∧
     (n.ring.role = 5 → n.ring.twin = 3 → 1 ≤ m → m ≤ n.ring.silent → Completes .takeover s (fun d =>
       d.ring.role = 3 ∧ d.ring.tookOver = true ∧ d.ring.standbyPresent = false ∧ d.ring.takeoverCnt = incSat 16 n.ring.takeoverCnt ∧ d.ring.takeoverLeft = 15 ∧
       d.ctl.running = true ∧ d.ctl.cycle = n.ring.leaderCycle + m + 1 ∧ d.ctl.published = n.ring.leaderCycle + m ∧
       (∀ j, (n.ring.seg j).state = 10 → (d.ring.seg j).state = 7) ∧ (∀ a ax, d.axis? a = some ax → ax.stale = true ∧ ax.out.stale = true ∧ ax.out.age = m) ∧
       d.Reports eTAKEOVER srcDevice [])) ∧
     ((n.ring.role ≠ 5 ∨ n.ring.twin ≠ 3 ∨ n.ring.silent < m) → Completes .takeover s (fun d => d = n)))

/-! ## The Time Unit (chapter 11) -/

/-- Table 11.1, R342, R343, R356. TB_STATE: 0 FREE, 1 ACQUIRE, 2 LOCKED, 3 HOLDOVER; offsets in picoseconds. Completes, under its premises on state and operands alone:
ppsInEdge, tbSourceLost, holdoverExpiry, ppsOutPulse. -/
def Obligations.DisciplineStates : Prop :=
  ∀ (s : State) (q : Int) (falling : Bool), s.dev.EventRoom 1 →
    (let n := s.dev
     let t := n.tu
     let o : Int := wrapMod 1000000000000 (t.tbOf q * 1000 / 65536 - Params.val t.prm pPPS_IN_DELAY)
     let limit := 1000 * Params.val t.prm pTB_STEP_LIMIT
     let band := 1000 * Params.val t.prm pLOCK_BAND
     let tuOnly (d : Dev) : Prop := d.Is { n with tu := d.tu } ∧ d.tu.ofs = t.ofs ∧ d.tu.prm = t.prm ∧ d.tu.touts = t.touts ∧ d.tu.tcaps = t.tcaps ∧ d.tu.ports = t.ports
     (falling ≠ decide (Params.nat t.prm pPPS_IN_EDGE = 1) → Completes (.ppsInEdge q falling) s (fun d => d.Is { n with tu := t.reachQ q })) ∧
     (falling = decide (Params.nat t.prm pPPS_IN_EDGE = 1) →
       (t.ppsLocked = true → (100000000 < o ∨ o < -100000000) → Completes (.ppsInEdge q falling) s (fun d => tuOnly d ∧ d.tu.ppsReject = incSat 32 t.ppsReject ∧ d.tu.state = t.state)) ∧
       ((t.ppsLocked = false ∨ (-100000000 ≤ o ∧ o ≤ 100000000)) → t.source ≠ 2 → Completes (.ppsInEdge q falling) s (fun d => d.Is { n with tu := { t.reachQ q with ppsPresent := true } })) ∧
       ((t.ppsLocked = false ∨ (-100000000 ≤ o ∧ o ≤ 100000000)) → t.source = 2 →
         (t.state = 1 → (limit < o ∨ o < -limit) → Completes (.ppsInEdge q falling) s (fun d => tuOnly d ∧ d.tu.state = 1 ∧ d.tu.servoStep = some (-o) ∧ d.tu.sum = 0 ∧ d.tu.lastOffset = o)) ∧
         (t.state = 1 → -limit ≤ o → o ≤ limit → -band ≤ o → o ≤ band → 15 ≤ t.inRun → Completes (.ppsInEdge q falling) s (fun d =>
           tuOnly d ∧ d.tu.state = 2 ∧ d.tu.ppsLocked = true ∧ d.tu.lastOffset = o ∧ d.Reports eTIME_LOCKED srcTu [])) ∧
         (t.state = 2 → (limit < o ∨ o < -limit) → 2 ≤ t.outRun → Completes (.ppsInEdge q falling) s (fun d =>
           tuOnly d ∧ d.tu.state = 1 ∧ d.tu.servoStep = some (-o) ∧ d.tu.lastOffset = o ∧ d.Reports eTIME_UNLOCKED srcTu [])) ∧
         (t.state = 2 → -limit ≤ o → o ≤ limit → Completes (.ppsInEdge q falling) s (fun d => tuOnly d ∧ d.tu.state = 2 ∧ d.tu.servoStep = t.servoStep ∧ d.tu.lastOffset = o)) ∧
         (t.state = 3 → Completes (.ppsInEdge q falling) s (fun d => tuOnly d ∧ d.tu.state = 1 ∧ d.tu.lastOffset = o)))) ∧
     (t.source ≠ 0 →
       (t.state = 2 → t.rates ≠ [] → Completes .tbSourceLost s (fun d => tuOnly d ∧ d.tu.state = 3 ∧ d.tu.target = t.rates.foldl (· + ·) 0 / (t.rates.length : Rat) ∧
         d.Reports eTIME_HOLDOVER srcTu [])) ∧
       (t.state = 1 → Completes .tbSourceLost s (fun d => tuOnly d ∧ d.tu.state = 0 ∧ d.tu.target = t.trim ∧ d.Reports eTIME_FREE srcTu []))) ∧
     (t.state = 3 → Completes .holdoverExpiry s (fun d => d.Is { n with tu := { t with state := 0, target := t.trim, inRun := 0, outRun := 0 } } ∧ d.Reports eTIME_FREE srcTu [])) ∧
     Completes .ppsOutPulse s (fun d => ∃ r sec : Int, d = { n with tu := { t.reachQ r with ppsRise := some r, ppsFall := r + 4 * Params.val t.prm pPPS_WIDTH } } ∧
       t.now < r ∧ t.ppsFall < r ∧ t.ppsAfter < r ∧ sec * 65536000000000 ≤ t.tbOf r ∧ t.tbOf r < sec * 65536000000000 + 16384))

/-- R350, R351, R353 to R355; instants in quarter nanoseconds, so that 8 ns are 32. Completes, under its premises on state and operands alone: toutEdge, toutPulseEnd,
captureEdge. -/
def Obligations.TimedOutputsAndCaptures : Prop :=
  ∀ (s : State) (i : Nat) (q : Int) (falling : Bool) (held : Nat),
    (let n := s.dev
     let o := n.tu.touts.getD i {}
     let c := n.tu.tcaps.getD i {}
     let t := n.tu.reachQ q
     let outs (r : Int) (x : Tout) (d : Dev) : Prop := d.Is { n with tu := { n.tu.reachQ r with touts := d.tu.touts } } ∧ (∀ j, j ≠ i → d.tu.touts.getD j {} = n.tu.touts.getD j {}) ∧ d.tu.touts.getD i {} = x
     let caps (x : Tcap) (d : Dev) : Prop := d.Is { n with tu := { t with tcaps := d.tu.tcaps } } ∧ (∀ j, j ≠ i → d.tu.tcaps.getD j {} = n.tu.tcaps.getD j {}) ∧ d.tu.tcaps.getD i {} = x
     let near := ∃ l, c.last = some l ∧ q - l < 32
     let wanted := Params.nat c.prm pCAP_EDGE = 2 ∨ (Params.nat c.prm pCAP_EDGE = 1 ∧ falling = true) ∨ (Params.nat c.prm pCAP_EDGE = 0 ∧ falling = false)
     let counts := ¬near ∧ c.skip ≠ some falling ∧ wanted ∧ Params.nat c.prm pCAP_FILTER ≤ held
     (∀ e rest, o.edges = e :: rest →
       (∀ b, e.level = some b → o.pulseEnd = none → Completes (.toutEdge i) s (outs e.time { o with edges := rest, active := b })) ∧
       (∀ b r, e.level = some b → o.pulseEnd = some r → Completes (.toutEdge i) s (outs e.time { o with edges := rest })) ∧
       (e.level = none → e.late = false → o.mode ≠ 3 → o.mode ≠ 4 → Completes (.toutEdge i) s
         (outs e.time { o with edges := rest, active := true, lastK := some e.k, pulseEnd := some (e.time + 4 * Params.val o.prm pTOUT_WIDTH) })) ∧
       (e.level = none → e.late = false → o.mode = 3 → Completes (.toutEdge i) s (fun d =>
         ∃ e', outs e.time { o with edges := [e'], active := true, lastK := some e.k, pulseEnd := some (e.time + 4 * Params.val o.prm pTOUT_WIDTH) } d ∧
           e'.k = e.k + 1 ∧ e'.level = none ∧ e'.time = n.tu.edgeAt o (o.startQ + (e.k + 1) * Params.val o.prm pTOUT_PERIOD))) ∧
       (e.level = none → e.late = true → n.EventRoom 1 → Completes (.toutEdge i) s (fun d => ∃ x, outs e.time x d ∧ x.active = true ∧
         x.pulseEnd = some (e.time + 4 * Params.val o.prm pTOUT_WIDTH) ∧ x.lateCnt = incSat 32 o.lateCnt ∧ d.Reports eTOUT_LATE (srcTout i) []))) ∧
     (∀ r, o.pulseEnd = some r → o.mode ≠ 1 → Completes (.toutPulseEnd i) s (outs r { o with active := false, pulseEnd := none })) ∧
     (i < n.tu.tcaps.length →
       (near → c.skip ≠ some falling → Completes (.captureEdge i q falling held) s (caps { c with dense := incSat 32 c.dense, skip := some (!falling), last := some q })) ∧
       (c.skip = some falling → Completes (.captureEdge i q falling held) s (caps { c with skip := none, last := some q })) ∧
       (¬near → c.skip ≠ some falling → (¬wanted ∨ held < Params.nat c.prm pCAP_FILTER) → Completes (.captureEdge i q falling held) s (caps { c with last := some q, skip := none })) ∧
       (counts → Params.nat c.prm pCAP_HOST ≠ 1 → Completes (.captureEdge i q falling held) s (caps { c with last := some q, skip := none, waiting := c.waiting ++ [(q, falling)] })) ∧
       (counts → Params.nat c.prm pCAP_HOST = 1 → c.fifo.length < 256 → Completes (.captureEdge i q falling held) s (fun d => ∃ e : List Byte,
         caps { c with last := some q, skip := none, waiting := c.waiting ++ [(q, falling)], fifo := c.fifo ++ [e], ovfPend := false, steppedPend := false } d ∧
         e = n.tu.stampBytes q ++ leBytes 4 ((q % 4).toNat + flag falling 2 + flag c.ovfPend 3 + flag c.steppedPend 4 + i % 16 * 256 + n.ctl.cycle % 65536 * 65536))) ∧
       (counts → Params.nat c.prm pCAP_HOST = 1 → 256 ≤ c.fifo.length → Completes (.captureEdge i q falling held) s
         (caps { c with last := some q, skip := none, waiting := c.waiting ++ [(q, falling)], ovfPend := true, overflow := incSat 16 c.overflow }))))

/-- Table 11.2, R345 to R347. Port states: 4 LISTENING, 6 MASTER, 8 UNCALIBRATED, 9 SLAVE. Completes, under its premises on state and operands alone: ptpMessageReceive,
ptpMessageTransmit, announceReceiptTimeout, igmpQueryReceive. -/
def Obligations.PlantPortsServePtp : Prop :=
  ∀ (s : State) (i : Nat) (q : Int) (f : List Byte) (m : PtpMsg) (k : PtpKind),
    (let n := s.dev
     let t := n.tu.reachQ q
     let p := n.tu.ports.getD i {}
     let rx : Int := n.tu.tbOf q * 1000 / 65536 + Params.val p.prm pPLT_RX_DELAY
     let tx : Int := n.tu.tbOf q * 1000 / 65536 + Params.val p.prm pPLT_TX_DELAY
     let port (u : Tu) (x : PlantPort) (d : Dev) : Prop := d.Is { n with tu := { u with ports := d.tu.ports } } ∧ (∀ j, j ≠ i → d.tu.ports.getD j {} = n.tu.ports.getD j {}) ∧ d.tu.ports.getD i {} = x
     n.power.plant = true → i < 2 → i < n.tu.ports.length →
     (ptpFrame f = none → Completes (.ptpMessageReceive i q f) s (fun d => d.Is { n with tu := t })) ∧
     (ptpFrame f = some none → Completes (.ptpMessageReceive i q f) s (port t { p with discard := incSat 32 p.discard })) ∧
     (ptpFrame f = some (some m) → (n.tu.ptpSupported m = false ∨ p.state = 0) → Completes (.ptpMessageReceive i q f) s (port t { p with discard := incSat 32 p.discard })) ∧
     (ptpFrame f = some (some m) → n.tu.ptpSupported m = true → (p.state = 8 ∨ p.state = 9) → m.kind = .sync → m.twoStep = false → n.tu.source = 1 → p.best.map (fun b => b.source) = some m.source → ∀ mp, p.meanPath = some mp →
       Completes (.ptpMessageReceive i q f) s (fun d => d.Is { n with tu := d.tu } ∧ (d.tu.ports.getD i {}).state = 9 ∧ d.tu.ofs = n.tu.ofs ∧
         d.tu.lastOffset = rx - m.stamp - m.correction - mp - Params.val p.prm pDELAY_ASYM)) ∧
     (ptpFrame f = some (some m) → n.tu.ptpSupported m = true → p.state = 6 → m.kind = .delayReq → Completes (.ptpMessageReceive i q f) s (fun d => ∃ a, port t { p with answers := p.answers ++ [a] } d ∧
       a.kind = .delayResp ∧ a.seq = m.seq ∧ a.requester = m.source ∧ a.stamp = rx ∧ a.correction = m.correction)) ∧
     (k = .sync → p.state = 6 → Completes (.ptpMessageTransmit i q k) s (fun d => ∃ a, port t { p with txSeq := (p.txSeq + 1) % 65536, syncT2 := tx, lastSent := some a, sent := n.tu.ptpBytes i a } d ∧
       a.kind = .sync ∧ a.seq = p.txSeq ∧ (Params.nat n.tu.prm pPTP_STEPS = 2 → a.twoStep = true) ∧ (Params.nat n.tu.prm pPTP_STEPS ≠ 2 → a.twoStep = false ∧ a.stamp = tx))) ∧
     (n.tu.portUsed i = true → Params.nat n.tu.prm pPTP_ROLE = 0 → n.tu.source ≠ 1 → Completes (.announceReceiptTimeout i) s (port n.tu { p with best := none, state := 4 })) ∧
     (n.tu.portUsed i = true → Params.nat n.tu.prm pPTP_ROLE ≠ 0 → n.tu.source ≠ 1 → (n.tu.ports.getD (1 - i) {}).best = none →
       Completes (.announceReceiptTimeout i) s (port n.tu { p with best := none, state := 6 })) ∧
     (n.tu.portUsed i = true → Params.nat n.tu.prm pPTP_ROLE ≠ 0 → n.tu.source ≠ 1 → Completes (.announceReceiptTimeout i) s (fun d =>
       d.Is { n with tu := { n.tu with ports := d.tu.ports, gm := d.tu.gm, gmClass := d.tu.gmClass, stepsRemoved := d.tu.stepsRemoved } } ∧ d.tu.ports.getD i {} = { p with best := none, state := 6 })) ∧
     (p.state ≠ 0 → Completes (.igmpQueryReceive i) s (port n.tu { p with igmp := n.tu.groups }))) ∧
    (s.dev.power.plant = false → Completes (.ptpMessageReceive i q f) s (fun d => d = s.dev) ∧ Completes (.ptpMessageTransmit i q k) s (fun d => d = s.dev) ∧
      Completes (.announceReceiptTimeout i) s (fun d => d = s.dev) ∧ Completes (.igmpQueryReceive i) s (fun d => d = s.dev))

/-! ## The Safety Island (chapter 16) -/

/-- Tables 16.3 and 16.4, R469 to R471, R473, R474. Function states: 0 PERMIT, 1 DEMAND, 2 AWAIT_RESET, 3 PAIR_FAULT. Completes, under its premises on state and operands
alone: safeInputChange, testPulse, discrepancyTimeout, twoHandSync, resetInputPulse. -/
def Obligations.SafeInputsAndFunctions : Prop :=
  ∀ (s : State) (c : SiConf) (k : Nat), s.dev.si.conf = some c → s.dev.si.held = false → s.dev.EventRoom (16 * (c.funcs.length + 1)) →
    (let n := s.dev
     let x := n.si
     let siOnly (d : Dev) : Prop := d.Is { n with si := d.si } ∧ d.si.conf = x.conf ∧ d.si.state = x.state ∧ d.si.conns = x.conns ∧ d.si.outLatch = x.outLatch
     let faulted (cause : Nat) (d : Dev) : Prop := siOnly d ∧ k ∈ d.si.pairFault ∧ d.si.level = x.level ∧ d.Reports eSAFE_PAIR_FAULT srcSi (leBytes 1 k ++ leBytes 1 cause)
     (∀ ch high, ch < 32 → Completes (.safeInputChange ch high) s (fun d => siOnly d ∧ d.si.level = (if high then setBit x.level ch else clrBit x.level ch) ∧
       d.si.outs = d.si.outMask ∧ d.si.fb = d.si.outs ∧ (∀ j, j ≠ ch / 2 → (j ∈ d.si.pairFault ↔ j ∈ x.pairFault)) ∧
       (ch / 2 ∈ d.si.pairFault ↔ ch / 2 ∈ x.pairFault ∧ d.si.off c (ch / 2) = false))) ∧
     (∀ tp highs, k < 16 → (c.pair k).contact ≠ 0 → k ∉ x.pairFault →
       ((c.pair k).tpA = tp → bit highs (2 * k) = true → Completes (.testPulse tp highs) s (faulted 2)) ∧
       ((c.pair k).tpB = tp → bit highs (2 * k + 1) = true → ((c.pair k).tpA ≠ tp ∨ bit highs (2 * k) = false) → Completes (.testPulse tp highs) s (faulted 3))) ∧
     (∀ tp, Completes (.testPulse tp 0) s (fun d => d.Is n)) ∧
     ((c.pair k).contact ≠ 0 → x.permit c k false ≠ x.permit c k true → k ∉ x.pairFault → Completes (.discrepancyTimeout k) s (fun d =>
       faulted 1 d ∧ d.si.pairFault = x.pairFault ++ [k] ∧ d.si.pairFaultCnt = incSat 16 x.pairFaultCnt)) ∧
     (((c.pair k).contact = 0 ∨ x.permit c k false = x.permit c k true ∨ k ∈ x.pairFault) → Completes (.discrepancyTimeout k) s (fun d => d.Is n)) ∧
     (∀ f st, c.funcs[k]? = some f → x.funcs[k]? = some st → x.state = 2 → f.type = 3 → st.state = 1 → st.late = false → Completes (.twoHandSync k) s (fun d =>
       d.Is { n with si := { x with funcs := x.funcs.set k { st with late := true, released := false } } } ∧ d.Reports eTWO_HAND_SYNC srcSi (leBytes 1 k))) ∧
     (∀ ms, (ms < 100 ∨ 5000 < ms) → Completes (.resetInputPulse k ms) s (fun d => d.Is n)) ∧
     (∀ ms i f st, 100 ≤ ms → ms ≤ 5000 → (∃ r ∈ c.funcs, r.type = 5 ∧ r.src = k) → x.state = 2 → c.funcs[i]? = some f → x.funcs[i]? = some st →
       (f.mode = 2 → f.resetPair = k → st.state = 2 → x.atDemand c f = false → x.inFault f = false → Completes (.resetInputPulse k ms) s (fun d =>
         siOnly d ∧ d.si.funcs[i]? = some { st with state := 0 } ∧ d.Reports eSAFE_RELEASE srcSi (leBytes 1 i))) ∧
       ((f.mode ≠ 2 ∨ f.resetPair ≠ k ∨ st.state ≠ 2 ∨ x.atDemand c f = true ∨ x.inFault f = true) → Completes (.resetInputPulse k ms) s (fun d =>
         siOnly d ∧ d.si.funcs[i]? = some st))))

/-- Table 16.4, R466, R467, R473, R476, R478, R483. Completes, under its premises on state and operands alone: siCycle. -/
def Obligations.SafeCycleEvaluates : Prop :=
  ∀ (s : State) (c : SiConf), s.dev.si.conf = some c → s.dev.si.held = false → s.dev.si.wdExpired = false → s.dev.EventRoom c.funcs.length →
    (let n := s.dev
     let x := n.si
     Completes .siCycle s (fun d => d.Is { n with si := d.si } ∧ d.si.state = x.state ∧ d.si.conf = x.conf ∧ d.si.level = x.level ∧ d.si.pairFault = x.pairFault ∧
       d.si.written = true ∧ d.si.outs = d.si.outMask ∧ (x.state ≠ 2 → d.si.outs = 0 ∧ ∀ e ∈ d.si.posted, e.2.1 = 0) ∧
       (∀ e ∈ d.si.posted, (x.conn e.1).state ≠ 2 → e.2.1 = 0) ∧
       (∀ y ∈ c.conns, (d.si.conn (64 * y.seg + y.pos)).state = (x.conn (64 * y.seg + y.pos)).state ∧
         (d.si.conn (64 * y.seg + y.pos)).txSeq = ((x.conn (64 * y.seg + y.pos)).txSeq + 1) % 65536 ∧
         (d.si.conn (64 * y.seg + y.pos)).soData = (Tab.getD d.si.posted (64 * y.seg + y.pos) (0, 0)).1 + 256 * (Tab.getD d.si.posted (64 * y.seg + y.pos) (0, 0)).2) ∧
       (x.state ≠ 2 → d.si.funcs = x.funcs) ∧
       ∀ i f st, x.state = 2 → c.funcs[i]? = some f → x.funcs[i]? = some st → f.type ≠ 5 → ∃ st', d.si.funcs[i]? = some st' ∧
         (x.inFault f = true → st'.state = (if st.state ≤ 2 then 3 else st.state)) ∧
         (x.inFault f = false → st.state = 0 → x.atDemand c f = true → st'.state = 1 ∧ d.Reports eSAFE_DEMAND srcSi (leBytes 1 i ++ leBytes 2 f.groups)) ∧
         (x.inFault f = false → st.state = 0 → x.atDemand c f = false → st'.state = 0) ∧
         (x.inFault f = false → st.state = 1 → x.permitOk c f (x.hands c f st) = true → (f.mode = 0 → st'.state = 0 ∧ d.Reports eSAFE_RELEASE srcSi (leBytes 1 i)) ∧ (f.mode ≠ 0 → st'.state = 2)) ∧
         (x.inFault f = false → st.state = 1 → x.permitOk c f (x.hands c f st) = false → st'.state = 1) ∧
         (x.inFault f = false → st.state = 2 → st'.state = (if x.atDemand c f then 1 else 2)) ∧
         (x.inFault f = false → st.state = 3 → st'.state = 1)))

/-- Table 16.7, R481, R483 to R485. Connection states: 1 STARTING, 2 ACTIVE, 3 FAILED. Completes, under its premises on state and operands alone: connWatchdogExpiry,
connStartTimeout, stoFbFault, slsViolation. -/
def Obligations.SafeConnectionsFail : Prop :=
  ∀ (s : State) (c : SiConf) (x : SiConn) (m ch : Nat), s.dev.si.conf = some c → s.dev.si.held = false → s.dev.si.entry m = some x → s.dev.EventRoom 1 →
    (let n := s.dev
     let k := n.si.conn m
     let siOnly (d : Dev) : Prop := d.Is { n with si := d.si } ∧ d.si.conf = n.si.conf ∧ d.si.state = n.si.state ∧ d.si.funcs = n.si.funcs ∧ d.si.outs = d.si.outMask
     let others (d : Dev) : Prop := ∀ j, j ≠ m → d.si.conn j = n.si.conn j
     (k.state = 2 → Completes (.connWatchdogExpiry m) s (fun d => siOnly d ∧ others d ∧ d.si.conn m = { k with state := 3, timeout := incSat 16 k.timeout } ∧
       (Tab.getD d.si.posted m (0, 0)).1 = 0 ∧ d.Reports eCONN_TIMEOUT (srcConn m) (leBytes 4 x.id ++ leBytes 1 2))) ∧
     (k.state ≠ 2 → Completes (.connWatchdogExpiry m) s (fun d => d.Is n)) ∧
     (k.state = 1 → Completes (.connStartTimeout m) s (fun d => siOnly d ∧ others d ∧ d.si.conn m = { k with state := 3 } ∧ (Tab.getD d.si.posted m (0, 0)).1 = 0 ∧
       d.Reports eCONN_TIMEOUT (srcConn m) (leBytes 4 x.id ++ leBytes 1 1))) ∧
     (k.state ≠ 1 → Completes (.connStartTimeout m) s (fun d => d.Is n)) ∧
     (bit (n.si.tqEn c m) ch = false → bit k.siData ch = false → (∃ e ∈ c.maps, e.conn = m ∧ e.chan = ch) → Completes (.stoFbFault m ch) s (fun d =>
       siOnly d ∧ d.si.conns = n.si.conns ∧ d.si.outLatch = n.si.outLatch ||| x.fbOuts ∧ (∀ i, i < 4 → bit x.fbOuts i = true → bit d.si.outs i = false) ∧
       d.si.stoFbCnt = incSat 16 n.si.stoFbCnt ∧ d.Reports eSTO_FB_FAULT (srcConn m) (leBytes 4 x.id ++ leBytes 1 ch))) ∧
     (bit (n.si.slsReq c m) ch = true → bit k.siData (8 + ch) = false → bit k.sls ch = false → Completes (.slsViolation m ch) s (fun d =>
       siOnly d ∧ others d ∧ d.si.conn m = { k with sls := setBit k.sls ch } ∧ bit (Tab.getD d.si.posted m (0, 0)).1 ch = false ∧
       d.si.slsCnt = incSat 16 n.si.slsCnt ∧ d.Reports eSLS_VIOLATION (srcConn m) (leBytes 4 x.id ++ leBytes 1 ch))) ∧
     ((bit (n.si.slsReq c m) ch = false ∨ bit k.siData (8 + ch) = true ∨ bit k.sls ch = true) → Completes (.slsViolation m ch) s (fun d => d.Is n)))

/-- Tables 16.1 and 16.2, R466 to R468, R472, R492. States: 0 NOCONFIG, 1 SAFE, 2 RUN, 3 FAULT. Completes, under its premises on state and operands alone: siFault,
siWatchdogExpiry, safeOutOffPulse, safeFbMismatch, vddSafeWindow, siStartUpTest, siRestartDone. -/
def Obligations.SafeFaultsAndRestarts : Prop :=
  ∀ (s : State) (v : Nat), s.dev.EventRoom 1 →
    (let n := s.dev
     let x := n.si
     let dead (d : Dev) : Prop := d.Is { n with si := d.si } ∧ d.si.outs = 0 ∧ ∀ e ∈ d.si.posted, e.2.1 = 0
     let faults (cause : Nat) (d : Dev) : Prop := dead d ∧ d.si.state = 3 ∧ d.si.cause = cause ∧ d.Reports eSI_FAULT srcSi (leBytes 1 cause)
     (x.held = false → x.state ≠ 3 →
       (1 ≤ v → v ≤ 3 → Completes (.siFault v) s (faults v)) ∧
       Completes .siWatchdogExpiry s (fun d => faults 5 d ∧ d.si.wdExpired = true ∧ ∀ k, d.si.launchMsg k = zeroBytes 20) ∧
       (∀ c, x.conf = some c → x.outs &&& c.outTest &&& v ≠ 0 → Completes (.safeOutOffPulse v) s (faults 9)) ∧
       (v % 16 ≠ x.outs → Completes (.safeFbMismatch v) s (fun d => faults 8 d ∧ d.si.fb = v % 16))) ∧
     ((v = 0 ∨ 3 < v) → Completes (.siFault v) s (fun d => d.Is n)) ∧
     (∀ c, x.conf = some c → x.outs &&& c.outTest &&& v = 0 → Completes (.safeOutOffPulse v) s (fun d => d.Is n)) ∧
     (v % 16 = x.outs → Completes (.safeFbMismatch v) s (fun d => d.Is n)) ∧
     Completes .vddSafeWindow s (fun d => d = { n with si := d.si } ∧ d.si.held = true ∧ d.si.state = 0 ∧ d.si.conf = none ∧ d.si.outs = 0 ∧ d.si.posted = [] ∧
       d.si.resets = x.resets ∧ d.si.demands = x.demands) ∧
     (x.state = 0 → x.restarting = false → n.host.mgtReady = true → n.boot.recovery = false →
       Completes (.siStartUpTest false) s (fun d => d.Is { n with si := d.si } ∧ d.si.state = 3 ∧ d.Reports eSI_FAULT srcSi (leBytes 1 x.cause)) ∧
       (∀ c, siStored n.flash = some c → Completes (.siStartUpTest true) s (fun d => dead d ∧ d.si.state = 1 ∧ d.si.conf = some c ∧ d.si.held = false)) ∧
       (siStored n.flash = none → Completes (.siStartUpTest true) s (fun d => d.Is { n with si := d.si } ∧ d.si.state = 0 ∧ d.si.conf = x.conf ∧ d.si.held = false))) ∧
     (x.restarting = true → x.state = 0 → Completes .siRestartDone s (fun d => d.si.restarting = false ∧ d.si.held = false ∧
       (∀ c, siStored n.flash = some c → d.si.state = 1 ∧ d.si.conf = some c ∧ d.si.outs = 0) ∧ (siStored n.flash = none → d.si.state = 0))) ∧
     (x.restarting = false → Completes .siRestartDone s (fun d => d.Is n)))

/-! ## The Chronograph and the Plate streams (chapters 12 and 14) -/

/-- R398, R427, R428, R434 to R436, R441, R443. States: 1 WAIT, 2 POST, 3 HOLDOFF, 4 STREAMING. Completes, under its premises on state and operands alone: chrSample,
chrHoldoffExpiry, chrAutoTimeout, chrStreamFlush, streamRecordWrite. -/
def Obligations.ChronographSamples : Prop :=
  ∀ (s : State) (k : ChrConf), s.dev.chr.conf = some k →
    (let n := s.dev
     let c := n.chr
     let p := n.ctl.published
     let boundary := p / k.div % k.interval = k.interval - 1
     let chrOnly (d : Dev) : Prop := d.Is { n with chr := d.chr } ∧ d.chr.conf = c.conf
     (c.state ≠ 0 → p ≠ 0 → c.lastPlate ≠ p → n.power.trace = true →
       (p % k.div ≠ k.phase → Completes .chrSample s (fun d => d.Is n)) ∧
       (p % k.div = k.phase → k.mask = 0 → c.force = none → c.state ≠ 2 → Completes .chrSample s (fun d =>
         chrOnly d ∧ d.chr.state = c.state ∧ d.chr.lastPlate = p ∧ d.chr.triggers = c.triggers ∧ d.chr.stored = c.stored ∧
         (¬boundary → d.chr.cur = c.cur ∧ d.chr.fifo = c.fifo ∧ ∃ b, d.chr.build = some b ∧ b.cycle = p ∧ b.count = (match c.build with | some b0 => b0.count + 1 | none => 1)) ∧
         (∀ x, boundary → c.state = 1 → c.cur = some x → d.chr.build = none ∧ ∃ f, d.chr.cur = some { x with pre := (x.pre ++ [f]).drop (x.pre.length + 1 - k.pre) } ∧ f.cycle = p))) ∧
       (∀ x, p % k.div = k.phase → boundary → c.state = 2 → c.cur = some x →
         (x.post.length + 1 < k.post → Completes .chrSample s (fun d => chrOnly d ∧ d.chr.state = 2 ∧ ∃ f, d.chr.cur = some { x with post := x.post ++ [f] } ∧ f.cycle = p)) ∧
         (k.post ≤ x.post.length + 1 → c.mode = 0 → Completes .chrSample s (fun d => chrOnly d ∧ d.chr.state = 0 ∧ d.chr.cur = none ∧ d.chr.captures = incSat 32 c.captures ∧
           d.chr.last = x.num ∧ d.chr.stored.length = c.stored.length + 1 ∧ d.Reports eCHR_CAPTURE_DONE srcChr [])))) ∧
     ((p = 0 ∨ c.state = 0 ∨ c.lastPlate = p ∨ n.power.trace = false) → Completes .chrSample s (fun d => d.Is n)) ∧
     (c.state = 3 → k.holdoff ≤ c.holdCnt → Completes .chrHoldoffExpiry s (fun d => d = { n with chr := d.chr } ∧ d.chr.state = 1 ∧ d.chr.capture = (c.capture + 1) % 65536 ∧
       ∃ x, d.chr.cur = some x ∧ x.num = (c.capture + 1) % 65536 ∧ x.pre = [] ∧ x.post = [] ∧ x.trig = none)) ∧
     ((c.state ≠ 3 ∨ c.holdCnt < k.holdoff) → Completes .chrHoldoffExpiry s (fun d => d = n)) ∧
     (∀ x, c.state = 1 → c.mode = 2 → k.autoTimeout ≤ c.autoCnt → c.cur = some x → 1 < k.post → x.post = [] → Completes .chrAutoTimeout s (fun d =>
       chrOnly d ∧ d.chr.state = 2 ∧ d.chr.forced = incSat 32 c.forced ∧ ∃ y t, d.chr.cur = some y ∧ y.trig = some t ∧ t.cond = 5 ∧ t.forced = true ∧ t.auto = true ∧ t.cycle = c.lastPlate)) ∧
     ((c.state ≠ 1 ∨ c.mode ≠ 2 ∨ c.autoCnt < k.autoTimeout) → Completes .chrAutoTimeout s (fun d => d.Is n)) ∧
     (∀ up b c', c.record = some (b, c') → c.due up = true → (n.host.pair k.pair).active = true → ceilDiv b.length 64 ≤ (n.host.pair k.pair).freeReply → Completes (.chrStreamFlush up) s (fun d =>
       d = { n with chr := c', host := d.host, hostMem := d.hostMem } ∧ c'.state = c.state ∧ (∃ j, c'.fifo = c.fifo.drop j ∧ (b.drop 4).take 4 = leBytes 4 ((c.fifo.take j).map (·.lost)).sum) ∧
       (d.host.pair k.pair).rqTail = ((n.host.pair k.pair).rqTail + ceilDiv b.length 64) % (n.host.pair k.pair).rqSlots)) ∧
     (∀ up, (c.due up = false ∨ (n.host.pair k.pair).active = false) → Completes (.chrStreamFlush up) s (fun d => d = n)) ∧
     (∀ i st r rs, Tab.find n.host.streams i = some st → st.halves = r :: rs →
       ((n.host.pair st.pair).active = true → ceilDiv r.length 64 ≤ (n.host.pair st.pair).freeReply → Completes (.streamRecordWrite i) s (fun d =>
         d = { n with host := d.host, hostMem := d.hostMem } ∧ Tab.find d.host.streams i = some { st with halves := rs, skipped := 0 } ∧
         (∀ j, j ≠ i → Tab.find d.host.streams j = Tab.find n.host.streams j) ∧ ∀ j, j ≠ st.pair → d.host.pair j = n.host.pair j)) ∧
       (((n.host.pair st.pair).active = false ∨ (n.host.pair st.pair).freeReply < ceilDiv r.length 64) → Completes (.streamRecordWrite i) s (fun d => d = n))))

/-! ## The Logbook (chapter 15) -/

/-- R445, R448, R452, R457 to R459, R461, R463, R549. Completes, under its premises on state and operands alone: eventIngress, logWrite, logPersist, logEraseDone,
persistRecordTimer. -/
def Obligations.LogbookKeepsEvents : Prop :=
  ∀ (s : State),
    (let n := s.dev
     let l := n.log
     let own (d : Dev) (code : Nat) : Prop := ∃ e ∈ d.router.toHost, e.ev.code = code ∧ e.ev.src = srcLog
     (∀ e r, n.router.toLog = e :: r →
       (l.fifo.length + 2 ≤ 256 → Completes .eventIngress s (fun d =>
         d = { n with router := { n.router with toLog := r }, log := { l with fifo := l.fifo ++ [LogEntry.ev e], peak := max l.peak (l.fifo.length + 1) } })) ∧
       (254 < l.fifo.length → Completes .eventIngress s (fun d => d.Is { n with log := d.log } ∧ d.log.fifoDropped = incSat 32 l.fifoDropped ∧ d.log.recs = l.recs ∧
         (∀ k f z, l.fifo.getLast? = some (LogEntry.lost k f z) → d.log.fifo = l.fifo.dropLast ++ [LogEntry.lost (min 0xFFFF (k + 1)) f (e.cycle % 2 ^ 32)])))) ∧
     (n.router.toLog = [] → Completes .eventIngress s (fun d => d = n)) ∧
     (∀ e r, l.clearPending = 0 → l.fifo = LogEntry.ev e :: r → Completes .logWrite s (fun d => d.Is { n with log := d.log, flash := d.flash, boot := d.boot } ∧ d.log.fifo = r ∧
       (d.log.resUnsafe = l.resUnsafe →
         d.log.next = (l.next + (e.records l.next).length) % 2 ^ 32 ∧ d.log.recs = ringKept l.recs (e.records l.next) ++ e.records l.next) ∧
       (d.log.resUnsafe ≠ l.resUnsafe → own d ePERSIST_FAULT))) ∧
     (0 < l.clearPending → Completes .logWrite s (fun d => d.Is { n with log := d.log, flash := d.flash, boot := d.boot } ∧ d.log.clearPending = l.clearPending - 1 ∧ d.log.erasing = true ∧
       d.log.clearCount = incSat 16 l.clearCount ∧ d.log.fifo = l.fifo ∧ own d eCLEARED ∧ (d.log.resUnsafe = l.resUnsafe → d.log.persistFault = l.persistFault → d.log.recs.length = 1))) ∧
     (l.clearPending = 0 → l.fifo = [] → l.needsRes = false → Completes .logWrite s (fun d => d = n)) ∧
     (l.persistFault = false → l.waiting ≠ [] →
       (∀ again, Completes (.logPersist true again) s (fun d => d = { n with log := d.log, flash := d.flash } ∧ d.log.waiting = l.waiting.drop (128 - l.slot) ∧ d.log.recs = l.recs ∧
         d.log.slot = (l.slot + (l.waiting.take (128 - l.slot)).length) % 128 ∧ d.flash = (l.persist n.flash).2)) ∧
       Completes (.logPersist false true) s (fun d => d.Is { n with log := d.log, flash := d.flash, boot := d.boot } ∧ d.log.waiting = l.waiting.drop (128 - l.slot) ∧
         d.log.persistTransient = incSat 32 l.persistTransient ∧ d.log.persistFault = false) ∧
       Completes (.logPersist false false) s (fun d => d.Is { n with log := d.log, flash := d.flash, boot := d.boot } ∧ d.log.persistFault = true ∧
         d.log.persistLasting = incSat 16 l.persistLasting ∧ own d ePERSIST_FAULT)) ∧
     ((l.persistFault = true ∨ l.waiting = []) → ∀ ok again, Completes (.logPersist ok again) s (fun d => d = n)) ∧
     (l.erasing = true → l.clearPending = 0 → Completes .logEraseDone s (fun d => d.log.erasing = false ∧ d.log.recs = l.recs ∧ d.Is { n with log := d.log, flash := d.flash, host := d.host, boot := d.boot } ∧
       ∀ o ∈ d.host.openOps, o.req.op ≠ 0x7011)) ∧
     ((l.erasing = false ∨ 0 < l.clearPending) → Completes .logEraseDone s (fun d => d = n)) ∧
     (∀ opsec again, n.host.mgtReady = true →
       Completes (.persistRecordTimer opsec true again) s (fun d => d.Is { n with log := { l with recFault := false }, flash := d.flash, boot := { n.boot with opsec := d.boot.opsec, wseq := d.boot.wseq } } ∧
         d.boot.opsec = max n.boot.opsec (min opsec (2 ^ 40 - 1)) ∧ d.boot.wseq = (n.boot.wseq + 1) % 2 ^ 32) ∧
       Completes (.persistRecordTimer opsec false false) s (fun d => d.Is { n with log := { l with recFault := true }, boot := d.boot } ∧
         d.boot.flashLasting = incSat 16 n.boot.flashLasting ∧ d.boot.wseq = n.boot.wseq)) ∧
     (∀ opsec ok again, n.host.mgtReady = false → Completes (.persistRecordTimer opsec ok again) s (fun d => d = n)))

/-! ## The Test and Repair Unit (chapter 17) -/

/-- Tables 17.1 and 17.2, R498, R499, R501 to R503, R505, R507, R508, R516. Verdicts: 0 PASS, 1 PASS_TRANSIENT, 3 FAIL, 4 INCOMPLETE. Completes, under its premises on
state and operands alone: scheduledTestStart, bistBurst, logicBistDone, testEarlyStop, memoryBistDone, engineReloadDone. -/
def Obligations.SelfTestsRun : Prop :=
  ∀ (s : State),
    (let n := s.dev
     let t := n.tru
     let on (i : Nat) : Prop := bit (fieldLE t.sched 0 1) i = true
     let result (d : Dev) (block verdict : Nat) : Prop := ∃ r, d.tru.results = (r :: t.results).take 8 ∧ fieldLE r 0 1 = block % 256 ∧ fieldLE r 2 1 = verdict ∧ d.Reports eSELFTEST_RESULT srcTru (r.take 24)
     let started (block kind : Nat) (d : Dev) : Prop := d.tru.runs = incSat 32 t.runs ∧ d.Reports eSELFTEST_START srcTru (leBytes 1 block ++ leBytes 1 kind)
     (n.host.mgtReady = true → n.boot.recovery = false →
       (∀ e, t.dueEngine = some e → on 0 → n.tempHold = false → n.engineTestable e = true → Completes (.scheduledTestStart 0) s (fun d =>
         d.Is { n with tru := d.tru, pace := { n.pace with testAsk := some e, trigger := true } } ∧ started e (if e ≤ 0x11 then 2 else 0) d ∧ ∃ l, d.tru.logic = some l ∧ l.block = e ∧ l.begun = false ∧ l.progress = 0)) ∧
       (∀ i, n.dueOther = some i → on 0 → n.tempHold = false → t.logic = none → Completes (.scheduledTestStart 1) s (fun d =>
         d.Is { n with tru := d.tru } ∧ ∃ l, d.tru.logic = some l ∧ l.block = otherBlocks.getD i 0 ∧ l.begun = true ∧ l.progress = 0 ∧ l.start = n.ctl.cycle)) ∧
       (∀ b, t.dueBank = some b → on 1 → t.mem = none → t.engineTest = false → t.asked = [] → Completes (.scheduledTestStart 2) s (fun d =>
         d.Is { n with tru := d.tru } ∧ started (poolOf b) 1 d ∧ ∃ m, d.tru.mem = some m ∧ m.bank = b ∧ m.left = [] ∧ m.doneBanks = 0)) ∧
       (on 3 → n.tempHold = false → t.logic = none → Completes (.scheduledTestStart 3) s (fun d =>
         d.Is { n with tru := d.tru } ∧ d.tru.nextRouter = (t.nextRouter + 1) % 24 ∧ ∃ l, d.tru.logic = some l ∧ l.block = 0x40 + t.nextRouter ∧ l.begun = true))) ∧
     (∀ k, k ≠ 2 → n.tempHold = true → Completes (.scheduledTestStart k) s (fun d => d.Is n)) ∧
     (∀ k, n.host.mgtReady = false → Completes (.scheduledTestStart k) s (fun d => d.Is n)) ∧
     (∀ l w, t.logic = some l → t.stops = [] → blockMethod l.block = 1 →
       (¬(meetsBurst l.block = true ∧ n.burstHeld = true) → Completes (.bistBurst w) s (fun d => d.Is { n with tru := d.tru } ∧ (∃ l', d.tru.logic = some l' ∧ l'.block = l.block ∧
         l'.progress = min (blockPatterns l.block) (l.progress + burstPatterns l.block)) ∧ d.tru.waits = (if w = 0 then t.waits else incSat 32 t.waits) ∧ d.tru.waitMax = max t.waitMax (min 0xFFFF w))) ∧
       (meetsBurst l.block = true → n.burstHeld = true → Completes (.bistBurst w) s (fun d => d.Is n))) ∧
     (∀ l first again, t.logic = some l → t.stops = [] → l.begun = true → (blockMethod l.block = 1 → blockPatterns l.block ≤ l.progress) → Completes (.logicBistDone first again) s (fun d =>
       d.tru.logic = none ∧ result d l.block (if first then 0 else if again then 1 else 3) ∧
       (first = true → d.tru.fails = t.fails ∧ d.tru.transient = t.transient) ∧ (first = false → again = true → d.tru.fails = t.fails ∧ d.tru.transient = incSat 32 t.transient) ∧
       (first = false → again = false → d.tru.fails = incSat 16 t.fails) ∧
       (l.block ≤ 0x11 → (first = true ∨ again = true) → d.tru.reload = t.reload ++ [l.block] ∧ d.tru.fencedEngines = t.fencedEngines) ∧
       (l.block ≤ 0x11 → first = false → again = false → l.block < n.engines.length → (n.engine l.block).role ≠ 4 → (d.engine l.block).role = 4 ∧ l.block ∈ d.tru.fencedEngines) ∧
       (blockMethod l.block = 1 → first = false → again = false → d.tru.suspect = true) ∧
       (blockMethod l.block = 2 → first = false → again = false → d.tru.removedCores = t.removedCores ++ [l.block - 0x30]))) ∧
     (∀ l c, t.logic = some l → l.begun = true → (c, false) ∈ t.stops → (c, true) ∉ t.stops → Completes (.testEarlyStop c) s (fun d =>
       d.tru.logic = none ∧ d.tru.incomplete = incSat 32 t.incomplete ∧ result d l.block 4 ∧ d.tru.fencedEngines = t.fencedEngines ∧ ∀ x ∈ d.tru.stops, x.2 = true)) ∧
     (∀ m c, t.mem = some m → c ≠ 5 → (c, false) ∉ t.stops → (c, true) ∈ t.stops → Completes (.testEarlyStop c) s (fun d =>
       d.tru.mem = none ∧ d.tru.logic = t.logic ∧ d.tru.incomplete = incSat 32 t.incomplete ∧ result d m.block 4 ∧ ∀ x ∈ d.tru.stops, x.2 = false)) ∧
     (∀ c, c ≠ 5 → t.stops = [] → Completes (.testEarlyStop c) s (fun d => d.Is n)) ∧
     (∀ m tr, t.mem = some m → t.stops = [] → t.asked = [] →
       (m.left = [] → m.verdict < 4 → Completes (.memoryBistDone [] tr) s (fun d => d.tru.mem = none ∧ result d m.block (max m.verdict (if tr then 1 else 0)) ∧
         d.tru.transient = (if tr then incSat 32 t.transient else t.transient) ∧ d.tru.fails = t.fails)) ∧
       (∀ b r, m.left = b :: r → t.degraded = [] → Completes (.memoryBistDone [] tr) s (fun d => d.Is { n with tru := d.tru } ∧
         d.tru.mem = some { m with bank := b, left := r, doneBanks := m.doneBanks + 1, verdict := max m.verdict (if tr then 1 else 0) })) ∧
       (∀ ls, ls ≠ [] → t.repairAll m.bank ls = none → Completes (.memoryBistDone ls false) s (fun d => m.bank ∈ d.tru.failedBanks ∧ d.tru.fails = incSat 16 t.fails)) ∧
       (∀ ls t' es, ls ≠ [] → t.repairAll m.bank ls = some (t', es) → Completes (.memoryBistDone ls false) s (fun d => d.tru.soft = t'.soft ∧ d.tru.failedBanks = t.failedBanks))) ∧
     (∀ e, e ∉ t.reload → Completes (.engineReloadDone e) s (fun d => d.Is n)) ∧
     (∀ e, e ∈ t.reload → n.boot.live = none → (n.engine e).role = 3 → Completes (.engineReloadDone e) s (fun d =>
       d.Is { n with tru := { t with reload := t.reload.filter (· ≠ e) }, pace := { n.pace with returnAsk := some e, trigger := true },
                     engines := (n.onEngine e (fun g => g.load g.version)).engines })))

/-- Table 17.4, R11, R12, R507, R512 to R515. Completes, under its premises on state and operands alone: scrubRead, poisonRead, fabricBlockTransfer, linkReturn. -/
def Obligations.FaultsAreContained : Prop :=
  ∀ (s : State) (a i hop : Nat) (data data2 : List Byte) (crc crc2 : Nat),
    (let n := s.dev
     let t := n.tru
     let truOnly (t' : Tru) (d : Dev) : Prop := d.Is { n with tru := t' }
     let moved (t' : Tru) : Tru := if 48 * 1048576 ≤ t.scrubAddr + 8 then { t' with scrubAddr := 0, scrubPasses := incWrap 32 t.scrubPasses } else { t' with scrubAddr := t.scrubAddr + 8 }
     (n.host.mgtReady = true → bit (fieldLE t.sched 0 1) 2 = true → t.asked = [] →
       (∀ b ag, Completes (.scrubRead b ag true) s (truOnly (moved t))) ∧ (∀ ag ch, Completes (.scrubRead 0 ag ch) s (truOnly (moved t))) ∧
       (∀ b, b ≠ 0 → Completes (.scrubRead b true false) s (truOnly (moved { t with eccCorrected := incSat 32 t.eccCorrected }))) ∧
       Completes (.scrubRead 1 false false) s (fun d => d.Is { n with tru := d.tru } ∧ d.tru.eccLasting = incSat 16 t.eccLasting ∧ d.tru.poisoned = t.poisoned ∧
         (t.untested (t.scrubAddr / 65536) = false → d.tru.asked = [(t.scrubAddr / 65536, t.scrubAddr % 65536 / 256)] ∧ d.tru.soft = t.soft ∧
           (t.mem = none → t.engineTest = false → ∃ m, d.tru.mem = some m ∧ m.bank = t.scrubAddr / 65536 ∧ m.left = []))) ∧
       (∀ b, 2 ≤ b → Completes (.scrubRead b false false) s (fun d => d.Is { n with tru := d.tru } ∧ t.scrubAddr ∈ d.tru.poisoned ∧ d.tru.eccUncorrectable = incSat 16 t.eccUncorrectable ∧
         d.Reports eMEM_UNCORRECTABLE srcTru (leBytes 4 t.scrubAddr)))) ∧
     (∀ b ag ch, bit (fieldLE t.sched 0 1) 2 = false → Completes (.scrubRead b ag ch) s (fun d => d.Is n)) ∧
     (∀ k, a ∉ t.poisoned → Completes (.poisonRead a k i) s (fun d => d.Is n)) ∧
     (a ∈ t.poisoned →
       (∀ e sl, Tab.find n.pace.plan.place i = some (e, sl) → Completes (.poisonRead a 0 i) s (fun d => d.Is { n with engines := d.engines } ∧
         (∀ r, (n.engine e).run = some r → r.kind = 0 → r.slot = sl → (d.engine e).run = none) ∧ d.Reports ePOISON_READ srcTru (leBytes 4 a ++ leBytes 2 (srcAxis i)))) ∧
       Completes (.poisonRead a 1 i) s (fun d => d.Is (n.onStepper i (fun x => { x with blocked := true })) ∧ d.Reports ePOISON_READ srcTru (leBytes 4 a ++ leBytes 2 (srcStepper i))) ∧
       Completes (.poisonRead a 2 i) s (fun d => d.Is (n.onAxis i (fun x => { x with blocked := true }))) ∧
       Completes (.poisonRead a 3 i) s (fun d => d.Is { n with host := { n.host with poisoned := true } }) ∧
       (∀ x, n.host.staged[i]? = some x → Completes (.poisonRead a 4 i) s (fun d => d.Is { n with host := d.host } ∧ x ∉ d.host.staged ∧
         ((n.host.pair x.req.h.pair).active = true → d.Answers x.req 0x0601))) ∧
       (∀ o, n.host.openOps[i]? = some o → Completes (.poisonRead a 5 i) s (fun d => d.Is { n with host := d.host } ∧ o ∉ d.host.openOps ∧
         ((n.host.pair o.req.h.pair).active = true → d.Answers o.req 0x0601))) ∧
       Completes (.poisonRead a 6 i) s (fun d => d.Is { n with log := { n.log with bad := n.log.bad ++ [i] } }) ∧
       Completes (.poisonRead a 7 i) s (fun d => d.Is { n with chr := { n.chr with poison := n.chr.poison ++ [i] } })) ∧
     (∀ l ∈ t.route a i, l ∉ t.fencedLinks) ∧
     ((t.route a i)[hop]? = none → a < 24 → Completes (.fabricBlockTransfer ⟨a, i, hop⟩ data crc data2 crc2) s (truOnly t)) ∧
     (∀ l, a < 24 → (t.route a i)[hop]? = some l → l < 38 →
       (crc16 data = crc → Completes (.fabricBlockTransfer ⟨a, i, hop⟩ data crc data2 crc2) s (truOnly t)) ∧
       (crc16 data ≠ crc → crc16 data2 = crc2 → Completes (.fabricBlockTransfer ⟨a, i, hop⟩ data crc data2 crc2) s (truOnly { t with fabricTransient := incSat 32 t.fabricTransient })) ∧
       (crc16 data ≠ crc → crc16 data2 ≠ crc2 → Completes (.fabricBlockTransfer ⟨a, i, hop⟩ data crc data2 crc2) s (fun d => d.Is { n with tru := d.tru } ∧
         d.tru.fabricLasting = incSat 16 t.fabricLasting ∧
         (meshConnected (l :: t.fencedLinks) = true → d.tru.fencedLinks = t.fencedLinks ++ [l] ∧ d.Reports ePATH_FENCED srcTru (leBytes 1 l)) ∧
         (meshConnected (l :: t.fencedLinks) = false → d.tru.fencedLinks = t.fencedLinks ∧ d.tru.critical = true ∧ d.Reports eFABRIC_CRITICAL srcTru (leBytes 1 l))))) ∧
     (i < 18 → i < n.engines.length → (n.engine i).role ≠ 4 → crc16 data ≠ crc →
       (crc16 data2 = crc2 → Completes (.fabricBlockTransfer ⟨24 + i, a, hop⟩ data crc data2 crc2) s (truOnly { t with fabricTransient := incSat 32 t.fabricTransient })) ∧
       (crc16 data2 ≠ crc2 → t.logic = none → Completes (.fabricBlockTransfer ⟨24 + i, a, hop⟩ data crc data2 crc2) s (fun d => (d.engine i).role = 4 ∧ i ∈ d.tru.fencedEngines ∧
         d.tru.fabricLasting = incSat 16 t.fabricLasting ∧ d.pace.trigger = true ∧ (i ∉ t.fencedEngines → d.Reports eENGINE_FENCED srcTru (leBytes 1 i))))) ∧
     (i ∈ t.fencedLinks → (linkEnds i).1 ∈ t.passed → (linkEnds i).2 ∈ t.passed → bit (fieldLE t.sched 0 1) 3 = true → Completes (.linkReturn i true) s (fun d =>
       d = { n with tru := { t with fencedLinks := t.fencedLinks.filter (· ≠ i) } })) ∧
     ((i ∉ t.fencedLinks ∨ (linkEnds i).1 ∉ t.passed ∨ (linkEnds i).2 ∉ t.passed ∨ bit (fieldLE t.sched 0 1) 3 = false) → Completes (.linkReturn i true) s (fun d => d = n)) ∧
     Completes (.linkReturn i false) s (fun d => d = n))

/-! ## The Host Interface Unit (chapter 12) -/

/-- R366 to R369, R562. Completes, under its premises on state and operands alone: ownClaim, ownHeartbeat, ownRelease, ownerLeaseExpiry, hostReset, peRefclkLoss. -/
def Obligations.OwnershipMoves : Prop :=
  ∀ (s : State),
    (let n := s.dev
     let h := n.host
     let ended (cause : Nat) (d : Dev) : Prop := d.host.owned = false ∧ d.host.token = 0 ∧ d.host.lastCause = cause ∧ d.host.staged = [] ∧ d.host.fetched = [] ∧ d.host.batches = [] ∧
       d.host.pin = none ∧ d.host.streams = [] ∧ d.host.openOps = [] ∧ (∀ p ∈ d.host.pairs, p.active = false ∧ p.awaiting = [] ∧ p.out = []) ∧
       d.host.pairs.map (fun p => (p.cqBase, p.rqBase, p.qsize, p.qctrl, p.irqMod)) = h.pairs.map (fun p => (p.cqBase, p.rqBase, p.qsize, p.qctrl, p.irqMod))
     let lost (cause : Nat) (d : Dev) : Prop := ended cause d ∧ d.host.ownerLost = true ∧ d.host.ownerLossCnt = incSat 16 h.ownerLossCnt ∧
       d.host.lossStop = (if h.lossAction = 0 then h.lossStop else some (h.lossAction, n.openMeridian)) ∧ d.Reports eOWNER_LOST (srcPair 0) (leBytes 1 cause)
     (h.linkUp = true → h.owned = false → ∀ nonce, nonce ≠ 0 → Completes (.ownClaim nonce) s (fun d =>
       d.Is { n with host := { h with owned := true, epoch := incWrap 32 h.epoch, nonce := nonce, token := d.host.token, tokens := d.host.tokens, leaseFrom := n.tu.rc } } ∧
       0 < d.host.token ∧ d.host.token < 2 ^ 32 ∧ (h.tokens.length ≤ 65535 → d.host.token ∉ h.tokens) ∧ d.Reports eOWNER_CLAIMED (srcPair 0) [])) ∧
     (∀ nonce, h.owned = true ∨ nonce = 0 → Completes (.ownClaim nonce) s (fun d => d.Is n)) ∧
     (h.linkUp = true → h.owned = true → Completes (.ownHeartbeat h.token) s (fun d => d = { n with host := { h with leaseFrom := n.tu.rc } })) ∧
     (∀ v, v ≠ h.token ∨ h.owned = false → Completes (.ownHeartbeat v) s (fun d => d = n) ∧ Completes (.ownRelease v) s (fun d => d.Is n)) ∧
     (h.linkUp = true → h.owned = true → Completes (.ownRelease h.token) s (fun d =>
       d.Is { n with host := d.host, chr := d.chr } ∧ ended 1 d ∧ d.host.ownerLost = h.ownerLost ∧ d.host.lossStop = h.lossStop ∧ d.Reports eOWNER_RELEASED (srcPair 0) [1])) ∧
     (h.owned = true →
       Completes .ownerLeaseExpiry s (fun d => d.Is { n with host := d.host, chr := d.chr, tu := d.tu } ∧ lost 2 d ∧ h.leaseFrom / 65536 + h.lease * 1000000 ≤ d.tu.rcNs) ∧
       Completes .hostReset s (fun d => d.Is { n with host := d.host, chr := d.chr } ∧ lost 3 d ∧ d.host.linkUp = h.linkUp) ∧
       Completes .peRefclkLoss s (fun d => d.Is { n with host := d.host, chr := d.chr, power := { n.power with peLost := true } } ∧ lost 3 d ∧ d.host.linkUp = false)) ∧
     (h.owned = false →
       Completes .ownerLeaseExpiry s (fun d => d.Is n) ∧
       Completes .hostReset s (fun d => d.Is { n with host := { h with msix := [], pba := 0, halfRead := none, halfWrite := none } }) ∧
       Completes .peRefclkLoss s (fun d =>
         d.Is { n with host := { h with msix := [], pba := 0, halfRead := none, halfWrite := none, linkUp := false }, power := { n.power with peLost := true } })))

/-- R7, R362 to R364, R388, R393 to R395. Completes, under its premises on state and operands alone: plateLatestRead, pinRequest, pinRelease, pinExpiry, registerRead,
registerWrite, ownClaim, ownRelease, bar2Write. -/
def Obligations.PlateWindowAndRegisters : Prop :=
  ∀ (s : State),
    (let n := s.dev
     let h := n.host
     let gets (h' : Hif) (d : Dev) : Prop := d = { n with host := h' }
     let none' (c : Instr) : Prop := ∃ t, exec c s = .next t ∧ t.pending = s.pending ∧ t.dev.Is n
     (h.linkUp = true →
       Completes .plateLatestRead s (gets { h with latchLatest := n.ctl.latest, plateCycle := n.ctl.published, lastRead := n.ctl.latest }) ∧
       (∀ v, bit v 2 = true →
         (h.pinCycle ≠ 0 → n.plateSeal (v % 4) = h.pinCycle → Completes (.pinRequest v) s (gets { h with pin := some (v % 4, h.pinCycle), pinOutcome := 1 })) ∧
         (h.pinCycle = 0 ∨ n.plateSeal (v % 4) ≠ h.pinCycle → Completes (.pinRequest v) s (gets { h with pinOutcome := 2 }))) ∧
       (∀ v, bit v 2 = false → Completes (.pinRelease v) s (gets { h with pin := none, pinOutcome := 0 }))) ∧
     (∀ b c, h.pin = some (b, c) → Completes .pinExpiry s (fun d => d.Is { n with host := { h with pin := none, pinOutcome := 3, pinExpired := incSat 16 h.pinExpired } } ∧
       d.Reports ePIN_EXPIRED (srcPair 0) [])) ∧
     (h.pin = none → Completes .pinExpiry s (fun d => d.Is n)) ∧
     (h.linkUp = true →
       (∀ o k v, (k ≠ 4 ∧ k ≠ 8) ∨ o % 4 ≠ 0 ∨ (k = 8 ∧ (o % 8 ≠ 0 ∨ wideReg o = false)) →
         Completes (.registerRead o k) s (gets { h with accessErr := true, lastRead := 0xFFFFFFFF }) ∧
         Completes (.registerWrite o k v) s (fun d => d.Is { n with host := { h with accessErr := true } })) ∧
       (∀ o v, 0x000308 ≤ o → o < 0x010000 → o % 4 = 0 → Completes (.registerRead o 4) s (gets { h with lastRead := 0 }) ∧ none' (.registerWrite o 4 v)) ∧
       (∀ o, wideReg o = true → o % 8 = 0 →
         Completes (.registerRead o 8) s (gets { h with lastRead := n.reg64 o }) ∧
         Completes (.registerRead o 4) s (gets { h with lastRead := n.reg64 o % 2 ^ 32, halfRead := some (o + 4, n.reg64 o / 2 ^ 32) }) ∧
         (∀ x, h.halfRead = some (o + 4, x) → Completes (.registerRead (o + 4) 4) s (gets { h with lastRead := x, halfRead := none }))) ∧
       Completes (.registerRead 0x000104 4) s (gets { h with lastRead := h.token }) ∧
       (∀ v, v < 2 ^ 32 →
         exec (.registerWrite 0x000108 4 v) s = exec (.ownClaim v) s ∧ exec (.registerWrite 0x000110 4 v) s = exec (.ownRelease v) s ∧
         Completes (.registerWrite 0x000210 4 v) s (fun d => d.Is { n with host := { h with halfWrite := some (0x000210, v) } }) ∧
         (∀ x, h.halfWrite = some (0x000210, x) → Completes (.registerWrite 0x000214 4 v) s (fun d => d.Is { n with host := { h with halfWrite := none, pinCycle := x + 2 ^ 32 * v } })) ∧
         Completes (.registerWrite 0x000300 4 v) s (fun d => d.Is { n with host := { h with eventPair := v % 32 } }) ∧
         Completes (.registerWrite 0x000010 4 v) s (fun d =>
           d.Is { n with host := { h with accessErr := h.accessErr && !bit v 5, ownerLost := h.ownerLost && !bit v 6 } })) ∧
       (∀ o b, Completes (.bar2Write o b) s (gets { h with accessErr := true }))) ∧
     (h.linkUp = false → ∀ a v k b,
       none' (.ownClaim v) ∧ none' (.ownHeartbeat v) ∧ none' (.ownRelease v) ∧ none' .plateLatestRead ∧ none' (.pinRequest v) ∧ none' (.pinRelease v) ∧ none' (.queueEnable a v) ∧
       none' (.cqTailDoorbell a v) ∧ none' (.rqHeadDoorbell a v) ∧ none' (.registerRead a k) ∧ none' (.registerWrite a k v) ∧ none' (.bar2Write a b) ∧ none' (.replyPost a) ∧
       none' (.commandFetch a b)))

/-- R371, R372, R374, R379, R381, R382, R384. Completes, under its premises on state and operands alone: queueEnable, cqTailDoorbell, rqHeadDoorbell, replyPost,
hostEventPost, irqModerationTimeout, hostDmaError. -/
def Obligations.RingsAndInterrupts : Prop :=
  ∀ (s : State) (i : Nat), i < 32 → s.dev.host.pairs.length = 32 →
    (let n := s.dev
     let h := n.host
     let p := h.pair i
     let puts (m : Hif) (f : Pair → Pair) (d : Dev) : Prop := d = { n with host := m.onPair i f }
     let vec := bits p.qctrl 13 8
     let masked := bit (h.msixWord (4 * vec + 3)) 0
     let signalled (d : Dev) : Prop := (masked = false → d.host.raised = Tab.set h.raised vec (Tab.getD h.raised vec 0 + 1) ∧ d.host.pba = h.pba) ∧
       (masked = true → bit d.host.pba vec = true ∧ d.host.raised = h.raised)
     (h.linkUp = true →
       (∀ v, bit v 0 = true →
         (p.enable = true → p.active = true → Completes (.queueEnable i v) s (puts h (fun p => { p with qctrl := v % 8 + 256 * bits v 14 8 }))) ∧
         (p.enable = false ∨ p.active = false → Completes (.queueEnable i v) s (puts h (fun p =>
           { p with qctrl := v % 8 + 256 * bits v 14 8, active := true, cqHead := 0, rqTail := 0, cqTailLast := 0, rqHeadLast := 0, phase := true, qseq := 0, unsignalled := 0 })))) ∧
       (∀ v, bit v 0 = false → Completes (.queueEnable i v) s (fun d => d = n)) ∧
       (∀ v, p.resizing = false → p.active = true →
         Completes (.cqTailDoorbell i v) s (puts { h with passed := [] } (fun p => { p with cqTailLast := v % 2 ^ (p.qsize % 32) })) ∧
         Completes (.rqHeadDoorbell i v) s (puts { h with passed := [] } (fun p => { p with rqHeadLast := v % 2 ^ (p.qsize / 256 % 32) }))) ∧
       (∀ v, p.resizing = true →
         Completes (.cqTailDoorbell i v) s (puts { h with passed := [] } (fun p => { p with dbLost := true })) ∧
         Completes (.rqHeadDoorbell i v) s (puts { h with passed := [] } (fun p => { p with dbLost := true }))) ∧
       (∀ o os, p.active = true → p.out = o :: os → o.hold ≤ n.ctl.published → h.mgtRestart = false → p.room o = true → o.op ≠ 0x0006 → o.quiet = false →
         Completes (.replyPost i) s (fun d =>
           (let k := ceilDiv o.bytes.length 64
            let q := d.host.pair i
            d = { n with host := d.host, hostMem := d.hostMem } ∧ q.out = os ∧ q.rqTail = (p.rqTail + k) % p.rqSlots ∧ q.qseq = incWrap 32 p.qseq ∧ q.reserved = p.reserved - o.res ∧
              q.phase = (if p.rqSlots ≤ p.rqTail + k then !p.phase else p.phase) ∧ d.hostMem = slotWrite p.rqBase p.rqSlots k (p.stamped o.bytes) p.rqTail n.hostMem ∧
              (∀ j, j ≠ i → d.host.pair j = h.pair j) ∧ (bit p.qctrl 14 = true → o.irq = true → signalled d ∧ q.unsignalled = 0)))) ∧
       (∀ o, p.active = true → p.out = [o] → o.hold ≤ n.ctl.published → h.mgtRestart = false → p.room o = false → Completes (.replyPost i) s (fun d => d = n)) ∧
       (p.active = false ∨ p.out = [] → Completes (.replyPost i) s (fun d => d = n))) ∧
     (∀ e es, n.router.toHost = e :: es → h.eventPair = i →
       (p.active = true → bit p.qctrl 2 = false → 1 ≤ p.spare → Completes .hostEventPost s (fun d =>
         (let q := d.host.pair i
          d.Is { n with host := d.host, hostMem := d.hostMem } ∧ d.router.toHost = es ∧ q.rqTail = (p.rqTail + 1) % p.rqSlots ∧ q.qseq = incWrap 32 p.qseq ∧ d.host.evDropped = false ∧
            d.hostMem = slotWrite p.rqBase p.rqSlots 1 (p.stamped (e.bytes h.evDropped)) p.rqTail n.hostMem ∧ d.host.eventsDropped = h.eventsDropped))) ∧
       (p.active = false ∨ bit p.qctrl 2 = true ∨ p.spare = 0 → Completes .hostEventPost s (fun d =>
         d.Is { n with host := { h with eventsDropped := incSat 32 h.eventsDropped, evDropped := true } } ∧ ∃ x, d.router.toHost = es ++ x))) ∧
     (n.router.toHost = [] → Completes .hostEventPost s (fun d => d.Is n)) ∧
     (p.irqMod / 65536 ≠ 0 → 0 < p.unsignalled → bit p.qctrl 14 = true → Completes (.irqModerationTimeout i) s (fun d =>
       d = { n with host := d.host } ∧ signalled d ∧ d.host.pairs = (h.onPair i (fun p => { p with unsignalled := 0 })).pairs)) ∧
     (p.irqMod / 65536 = 0 ∨ p.unsignalled = 0 ∨ bit p.qctrl 14 = false → Completes (.irqModerationTimeout i) s (fun d => d = n)) ∧
     (p.active = true → Completes (.hostDmaError i false) s (fun d => d.Is { n with host := { h with pairs := d.host.pairs }, chr := d.chr } ∧
       (let q := d.host.pair i
        q.active = false ∧ q.dmaErr = true ∧ q.out = [] ∧ ((∀ o ∈ p.out, o.op ≠ 0x0006) → ∀ j, j ≠ i → d.host.pair j = h.pair j) ∧ d.Reports eQUEUE_DMA_FAULT (srcPair i) []))) ∧
     (∀ again, again = true ∨ p.active = false → Completes (.hostDmaError i again) s (fun d => d.Is n)))

/-- R26 to R28, R66, R374, R375, R377, R378, R388, R403. The checks in full are `Hif.headCheck`, `Dev.admits` and the opcodes' own. Completes, under its premises on state
and operands alone: commandFetch, commandAdmission. -/
def Obligations.CommandsFetchedAndAdmitted : Prop :=
  ∀ (s : State),
    (let n := s.dev
     let h := n.host
     (∀ i b, h.linkUp = true → h.turn ≠ some i → Completes (.commandFetch i b) s (fun d => d.Is n)) ∧
     (∀ i b, h.linkUp = true → h.turn = some i →
       (let plen := fieldLE b 18 2
        let q := Machine.headOf i b
        let p := h.pair i
        let st := h.headCheck q plen (fieldLE b 28 4)
        let k := ceilDiv (32 + plen) 64
        let whole := 64 * k ≤ b.length ∧ p.blocked q plen = false
        (¬whole → Completes (.commandFetch i b) s (fun d => d.Is { n with host := { h with rr := i, passed := i :: h.passed } })) ∧
        (whole → st ≠ 0 → Completes (.commandFetch i b) s (fun d => d.Answers q st ∧ (d.host.pair i).slotErr = true ∧ (d.host.pair i).cqHead = (p.cqHead + k) % p.cqSlots ∧
          d.host.fetched = h.fetched ∧ d.host.rr = i)) ∧
        (whole → st = 0 → reserveOf q ≤ p.rqSlots - 1 → q.op ≠ 0x2100 →
          (h.mgtRestart = true → Completes (.commandFetch i b) s (fun d => d.Answers q 0x0201 ∧ d.host.fetched = h.fetched ∧ (q.h.batch = 0 → d.host.staged = h.staged))) ∧
          (h.mgtRestart = false → Completes (.commandFetch i b) s (fun d => d.Is { n with host := d.host } ∧ d.host.fetched = h.fetched ++ [{ req := q, res := reserveOf q }] ∧
            d.host.staged = h.staged ∧ (d.host.pair i).cqHead = (p.cqHead + k) % p.cqSlots ∧ (d.host.pair i).reserved = p.reserved + reserveOf q))) ∧
        (whole → st = 0 → q.op = 0x2100 → plenOk 0x2100 q.pay = true → [0, 1, 2, 5].contains q.h.kind = true → targetOk q.h.kind q.h.index = true → (n.estopCheck q).status = 0 →
          h.recovery = false → n.ring.role ≠ 5 → n.ctl.running = true →
          Completes (.commandFetch i b) s (fun d => d.Is { n with host := d.host } ∧ d.host.staged = h.staged ++ [{ req := q, meridian := n.openMeridian, res := 0 }] ∧
            d.host.fetched = h.fetched)))) ∧
     (h.fetched = [] ∨ h.mgtRestart = true → Completes .commandAdmission s (fun d => d.Is n)) ∧
     (∀ f fs, h.fetched = f :: fs → h.mgtRestart = false → (h.pair f.req.h.pair).active = true →
       (let q := f.req
        let e : Dev := { n with host := { h with fetched := fs } }
        let r := (e.admits q (e.gateCheck q) (e.roomCheck q h.stagingUsed)).2
        let id := q.h.batch
        let eff := q.h.effective
        let kindM := ∃ o, opDesc q.op = some o ∧ immediateOp o.eff = false
        let open' := h.staged.filter (fun x => x.member id eff 0)
        let takesIn := (match h.batch? id eff with | some b => b.failed = false ∧ b.count < 256 | none => (h.batches.filter (fun b => !b.failed)).length < 64)
        (id = 0 → r.status ≠ 0 → Completes .commandAdmission s (fun d => d.Answers q r.status ∧ d.host.fetched = fs ∧ d.host.staged = h.staged)) ∧
        (kindM → id = 0 → r.status = 0 → n.ctl.running = true → Completes .commandAdmission s (fun d => d.host.fetched = fs ∧
          ∃ m, d.host.staged = h.staged ++ [{ req := q, meridian := m, res := f.res }] ∧ (eff ≠ 0 → m = eff) ∧ (eff = 0 → n.openMeridian ≤ m))) ∧
        (kindM → id ≠ 0 → r.status = 0 → takesIn → bit q.h.flags 0 = false → Completes .commandAdmission s (fun d => d.host.fetched = fs ∧
          d.host.staged = h.staged ++ [{ req := q, meridian := 0, res := f.res }])) ∧
        (kindM → id ≠ 0 → r.status = 0 → takesIn → bit q.h.flags 0 = true → n.ctl.running = true → Completes .commandAdmission s (fun d => d.host.fetched = fs ∧
          ∃ m, d.host.staged = h.staged.filter (fun x => !x.member id eff 0) ++ (open' ++ [({ req := q, meridian := 0, res := f.res } : Staged)]).map (fun (x : Staged) => { x with meridian := m }) ∧
            (eff ≠ 0 → m = eff) ∧ (eff = 0 → n.openMeridian ≤ m))) ∧
        (eff ≠ immediate → id ≠ 0 → r.status ≠ 0 → Completes .commandAdmission s (fun d => d.Answers q r.status ∧ d.host.fetched = fs ∧
          d.host.staged = h.staged.filter (fun x => !x.member id eff 0))) ∧
        (eff = immediate → r.status ≠ 0 → Completes .commandAdmission s (fun d => d.Answers q r.status ∧ d.host.fetched = fs ∧ d.host.staged = h.staged)))))

/-! ## The commands of the host (chapter 13) -/

/-- R377, R380, R390, R403, R409, R462: a rejection, for every host command. -/
def Obligations.HostCommandsRejected : Prop :=
  ∀ (s : State) (op : Nat) (c : CmdHead → List Byte → Instr), HostRow op c → ∀ (h : CmdHead) (pay : List Byte), (s.dev.host.pair h.pair).active = true →
    (let n := s.dev
     let q : HostReq := { op := op, h := h, pay := pay }
     let st := ((n.joins q).admits q 0 0).2.status
     (n.headOf q ≠ 0 → Completes (c h pay) s (fun d => d.Answers q (n.headOf q) ∧ d.Past n)) ∧
     (4064 < pay.length → Completes (c h pay) s (fun d => d.Answers q 0x0103 ∧ d.Past n)) ∧
     (pay.length ≤ 4064 → 16 ≤ h.flags → Completes (c h pay) s (fun d => d.Answers q 0x0104 ∧ d.Past n)) ∧
     (pay.length ≤ 4064 → h.flags < 16 → (n.host.owned = false ∨ h.auth ≠ n.host.token) → Completes (c h pay) s (fun d => d.Answers q 0x0401 ∧ d.Past n)) ∧
     (n.headOf q = 0 → st ≠ 0 → Completes (c h pay) s (fun d => d.Answers q st ∧
       d.Past { n with host := { n.host with nonceLog := d.host.nonceLog, nonceSafe := d.host.nonceSafe }, log := d.log } ∧
       (op ≠ 0x7011 → d.log = n.log ∧ d.host.nonceLog = n.host.nonceLog) ∧ (op ≠ 0x8011 → op ≠ 0xA010 → d.host.nonceSafe = n.host.nonceSafe))))

/-- R370, R385, R391, R397, R409, R411. Completes, under its premises on state and operands alone: setOwnership, queueResize, streamStart, streamStop, clearCounters,
bulkOpen, bulkWrite, bulkClose, abort. -/
def Obligations.ManagementCommandsAct : Prop :=
  ∀ (s : State) (h : CmdHead) (pay : List Byte), s.dev.host.pairs.length = 32 →
    (let n := s.dev
     let q (op : Nat) : HostReq := { op := op, h := h, pay := pay }
     let f (o k : Nat) : Nat := fieldLE pay o k
     let i := h.index
     (n.accepts (q 0x0004) → Completes (.setOwnership h pay) s (fun d => d.After { n with host := { n.host with lease := f 0 4, lossAction := f 4 1 } } (q 0x0004))) ∧
     (n.accepts (q 0x0006) → Completes (.queueResize h pay) s (fun d => d.After n (q 0x0006) ∧
       (let p := d.host.pair i
        p.cqBase = f 0 8 ∧ p.rqBase = f 8 8 ∧ p.qsize = f 16 4 ∧ p.cqHead = 0 ∧ p.rqTail = 0 ∧ p.cqTailLast = 0 ∧ p.rqHeadLast = 0 ∧ p.phase = true ∧
          p.active = (n.host.pair i).active))) ∧
     (n.accepts (q 0x0007) →
       (let st : Stream := { pair := f 0 1, period := f 2 2, phase := f 4 2, regions := (List.range (f 1 1)).map (fun j => (f (8 + 8 * j) 4, f (12 + 8 * j) 4)) }
        Completes (.streamStart h pay) s (fun d => d.After { n with host := { n.host with streams := Tab.set n.host.streams i st } } (q 0x0007)))) ∧
     (n.accepts (q 0x0008) → Completes (.streamStop h pay) s (fun d => d.After { n with host := { n.host with streams := d.host.streams } } (q 0x0008) ∧
       Tab.find d.host.streams i = none ∧ ∀ j, j ≠ i → Tab.find d.host.streams j = Tab.find n.host.streams j)) ∧
     (n.accepts (q 0x0009) → n.ctl.preCleared.contains (h.kind, i) = true → Completes (.clearCounters h pay) s (fun d => d.After n (q 0x0009))) ∧
     (n.accepts (q 0x0009) → n.ctl.preCleared.contains (h.kind, i) = false →
       (h.kind = 0 → Completes (.clearCounters h pay) s (fun d => d.After n.clearDevice1.clearDevice2 (q 0x0009) ∧ d.host.ownerLossCnt = 0 ∧ d.host.eventsDropped = 0 ∧ d.log.lostRecords = 0 ∧
         d.si.demands = 0 ∧ d.tru.fails = 0 ∧ d.boot.boots = 0 ∧ d.chr.triggers = 0)) ∧
       (h.kind = 1 → Completes (.clearCounters h pay) s (fun d => d.After { n with motion := { n.motion with axes := d.motion.axes } } (q 0x0009) ∧ (∀ b, b ≠ i → d.axis b = n.axis b) ∧
         (let a := d.axis i
          a.overrunCnt = 0 ∧ a.retractCnt = 0 ∧ a.fbMissCnt = 0 ∧ a.cmdAge = 0 ∧ a.fbAge = 0 ∧ a.now.sup.retractRun = 0 ∧ a.now.sup.fbMissRun = 0 ∧ a.now.sup.state = (n.axis i).now.sup.state))) ∧
       (h.kind = 12 → Completes (.clearCounters h pay) s (fun d => d.After (n.onEngine i (fun g => { g with migrations := 0, lateCnt := 0 })) (q 0x0009))) ∧
       (h.kind = 5 → Completes (.clearCounters h pay) s (fun d =>
         d.After (n.onSeg i (fun g => { g with discardedCnt := 0, linkTransient := 0, linkLasting := 0, breakCnt := 0, joinCnt := 0 })) (q 0x0009)))) ∧
     (n.accepts (q 0x0020) → Completes (.bulkOpen h pay) s (fun d => d.Past n ∧ ∃ k, 1 ≤ k ∧ k ≤ 16 ∧ Tab.find n.host.bulks k = none ∧ (∀ j, 1 ≤ j → j < k → Tab.find n.host.bulks j ≠ none) ∧
       d.host.bulks = Tab.set n.host.bulks k { len := f 0 4 } ∧ d.Gives (q 0x0020) { pay := leBytes 2 k } n.ctl.cycle)) ∧
     (n.accepts (q 0x0021) → Completes (.bulkWrite h pay) s (fun d => d.After n (q 0x0021) ∧
       Tab.find d.host.bulks i = (Tab.find n.host.bulks i).map (fun b => { b with data := Memory.writeList 0 b.data (f 0 4) (pay.drop 8) }) ∧
       ∀ j, j ≠ i → Tab.find d.host.bulks j = Tab.find n.host.bulks j)) ∧
     (n.accepts (q 0x0022) → Completes (.bulkClose h pay) s (fun d => d.After n (q 0x0022) ∧ Tab.find d.host.bulks i = none ∧ ∀ j, j ≠ i → Tab.find d.host.bulks j = Tab.find n.host.bulks j)) ∧
     (n.accepts (q 0x0005) → n.host.openOps = [] →
       (n.abortSees (q 0x0005) = .done → Completes (.abort h pay) s (fun d => d.Past n ∧ d.Gives (q 0x0005) { note := 1 } n.ctl.cycle)) ∧
       (∀ t x, n.abortSees (q 0x0005) = .live t → n.host.fetched = [] → n.host.staged.find? (fun y => y.req.h.pair = i && y.req.h.tag = f 0 2) = some x →
         x.req.h.batch = 0 → n.ctl.cycle < x.meridian → (n.host.pair i).active = true →
         Completes (.abort h pay) s (fun d => d.Answers x.req 0x0501 ∧
           d.After { n with host := { n.host with staged := n.host.staged.filter (fun y => !(y.req.h.pair = i && y.req.h.tag = f 0 2)) } } (q 0x0005)))))

/-- R307, R355, R404, R408, R410, R439, R456, R495, R518, R550. `Dev.seen` is what queries see. Completes, under its premises on state and operands alone: mgmtGetParams,
axisGetParams, orreryGetParams, netGetParams, timeGetParams, getInfo, paceStatus, axisStatus, stepStatus, segStatus, collimation, timeStatus, ioStatus, chrStatus,
logStatus, safeStatus, stStatus, imageStatus, chrRead, logRead, captureRead. -/
def Obligations.QueriesAnswer : Prop :=
  ∀ (s : State) (h : CmdHead) (pay : List Byte),
    (let n := s.dev
     let v := n.seen
     let q (op : Nat) : HostReq := { op := op, h := h, pay := pay }
     let f (o k : Nat) : Nat := fieldLE pay o k
     let i := h.index
     let tells (op len : Nat) (xs : List (Nat × Nat × Nat)) (d : Dev) : Prop := d.Tells (q op) len ((0, 8, n.ctl.published) :: xs) ∧ d.Past n
     let gets (op : Nat) (c : Instr) : Prop := n.accepts (q op) → ∀ (p : Params) (en : PEnt) (x : ParamDesc), v.params op h.kind i = some p → entriesOf pay = [en] → f 2 6 = 0 →
       paramFor op h.kind en.id = some x → en.clean op h.kind true = true → isReact en.id = false → en.sub = 0 →
       ∃ t, exec c s = .next t ∧ t.pending = s.pending ∧ t.dev.Past n ∧
         t.dev.Gives (q op) { pay := leBytes 8 n.ctl.published ++ leBytes 2 en.id ++ leBytes 2 0 ++ zeroBytes 4 ++ x.fmt.write (p.valueOf h.kind i en.id 0) } n.ctl.cycle
     gets 0x0002 (.mgmtGetParams h pay) ∧ gets 0x1002 (.axisGetParams h pay) ∧ gets 0x3002 (.orreryGetParams h pay) ∧ gets 0x4002 (.netGetParams h pay) ∧ gets 0x5002 (.timeGetParams h pay) ∧
     (n.accepts (q 0x0003) → Completes (.getInfo h pay) s (tells 0x0003 56 [(8, 4, n.reg32 0x000000), (12, 4, n.reg32 0x000004), (32, 1, v.boot.bank), (40, 8, Config.devSerial), (48, 4, v.host.epoch)])) ∧
     (n.accepts (q 0x0010) → Completes (.paceStatus h pay) s (tells 0x0010 616 [(8, 4, v.pace.plan.seq), (12, 2, v.pace.vddTarget), (14, 2, v.pace.vddRead), (16, 8, v.pace.plan.cycle)])) ∧
     (∀ ax, n.accepts (q 0x1040) → Tab.find v.motion.axes i = some ax → Completes (.axisStatus h pay) s (tells 0x1040 48 [(8, 1, ax.home.state), (12, 2, ax.swPos.chatter), (20, 1, ax.engine)])) ∧
     (∀ x, n.accepts (q 0x1041) → Tab.find v.motion.steppers i = some x →
       Completes (.stepStatus h pay) s (tells 0x1041 48 [(8, 4, x.planLag), (12, 4, x.overrunCnt), (16, 4, x.fbMissCnt), (20, 4, x.resSwitchCnt), (25, 1, x.home.state)])) ∧
     (n.accepts (q 0x4020) → Completes (.segStatus h pay) s (tells 0x4020 48 [(8, 1, (v.ring.seg i).state), (9, 1, (v.ring.seg i).linkMode), (11, 1, (v.ring.seg i).wrapPos), (12, 4, (v.ring.seg i).tRing)])) ∧
     (n.accepts (q 0x4021) → Completes (.collimation h pay) s (fun d => d.Past n ∧
       d.Gives (q 0x4021) { pay := leBytes 8 n.ctl.published ++ ((List.range 96).map (fun p => ((v.ring.seg i).node (p + 1)).col.bytes)).flatten } n.ctl.cycle)) ∧
     (n.accepts (q 0x5020) → Completes (.timeStatus h pay) s (tells 0x5020 96 [(8, 1, v.tu.state), (12, 2, v.tu.steps), (40, 8, v.tu.merN0), (48, 8, v.tu.merRC0)])) ∧
     (n.accepts (q 0x5022) →
       (h.kind = 8 → Completes (.ioStatus h pay) s (tells 0x5022 32 [(8, 4, (v.tu.touts.getD i {}).lateCnt), (12, 4, (v.tu.touts.getD i {}).dropCnt)])) ∧
       (h.kind = 9 → Completes (.ioStatus h pay) s (tells 0x5022 32 [(8, 4, (v.tu.tcaps.getD i {}).intDrop), (18, 2, (v.tu.tcaps.getD i {}).fifo.length)])) ∧
       (h.kind = 13 → Completes (.ioStatus h pay) s (tells 0x5022 32 [(8, 4, (v.tu.ports.getD i {}).discard), (12, 1, (v.tu.ports.getD i {}).state)]))) ∧
     (n.accepts (q 0x6006) → Completes (.chrStatus h pay) s (tells 0x6006 64 [(8, 1, v.chr.state), (9, 1, v.chr.mode), (14, 2, v.chr.stored.length)])) ∧
     (n.accepts (q 0x7002) → Completes (.logStatus h pay) s (tells 0x7002 64 [(16, 4, v.log.persistSeq), (20, 2, v.log.fifo.length), (22, 2, v.log.peak), (32, 8, v.boot.opsec), (40, 4, v.boot.pwr)])) ∧
     (n.accepts (q 0x8001) →
       (h.kind = 0 → Completes (.safeStatus h pay) s (tells 0x8001 64 [(8, 1, v.si.state), (9, 1, v.si.cause), (16, 4, v.si.level)])) ∧
       (h.kind = 14 → (v.si.entry i).isSome = true → Completes (.safeStatus h pay) s (tells 0x8001 32 [(8, 1, (v.si.conn i).state), (24, 2, (v.si.conn i).crcErr)]))) ∧
     (n.accepts (q 0x9002) → Completes (.stStatus h pay) s (tells 0x9002 432 [(10, 1, (v.tru.logic.map (fun l => l.block)).getD 0xFF), (40, 2, v.tru.soft.length), (42, 2, v.tru.fused.length)])) ∧
     (n.accepts (q 0xA005) → Completes (.imageStatus h pay) s (tells 0xA005 128 [(8, 1, v.boot.bank), (9, 1, v.boot.cause), (12, 4, v.boot.longMs)])) ∧
     (∀ x, n.accepts (q 0x6005) → n.chr.find (f 0 2) = some x → Completes (.chrRead h pay) s (fun d => d.Past n ∧
       (let b := (x.image.drop (f 4 4)).take (f 8 2)
        d.Gives (q 0x6005) { note := if f 4 4 + b.length < x.image.length then 0x0030 else 0, pay := leBytes 8 n.ctl.published ++ leBytes 2 b.length ++ zeroBytes 6 ++ b } n.ctl.cycle))) ∧
     (n.accepts (q 0x7001) → Completes (.logRead h pay) s (fun d => d.Past { n with log := { n.log with readRace := d.log.readRace } } ∧
       (let r := n.log.read (f 0 4) (f 4 2)
        d.Gives (q 0x7001) { note := if r.2.2.1 then 0x0030 else 0, pay := leBytes 2 r.1.length ++ zeroBytes 2 ++ leBytes 4 r.2.1 ++ r.1.flatten } n.ctl.cycle ∧ (r.2.2.2 = false → d.log = n.log)))) ∧
     (n.accepts (q 0x5021) → n.tu.tcaps.length = 16 → Completes (.captureRead h pay) s (fun d =>
       (let l := (n.tu.tcaps.getD i {}).fifo
        let b := l.take (f 0 2)
        d.Past { n with tu := { n.tu with tcaps := d.tu.tcaps } } ∧ (∀ j, j ≠ i → d.tu.tcaps.getD j {} = n.tu.tcaps.getD j {}) ∧
          d.tu.tcaps.getD i {} = { n.tu.tcaps.getD i {} with fifo := l.drop (f 0 2) } ∧
          d.Gives (q 0x5021) { note := if (l.drop (f 0 2)).isEmpty then 0 else 0x0030, pay := leBytes 2 b.length ++ zeroBytes 6 ++ b.flatten } n.ctl.cycle))))

/-- R83, R98, R99, R146, R156, R195, R407, R412. Servo states 0 OFF, 1 OK, 2 FE_TIMING, 3 QUICKSTOP, 4 HALTED, 5 TORQUE_OFF; stepper states 0 OFF, 1 READY, 5 TORQUE_OFF.
Completes, under its premises on state and operands alone: axisSetParams, orrerySetParams, mgmtSetParams, timeSetParams, netSetParams, axisAdd, axisRemove, axisEnable,
axisDisable, faultClear, tableLoad, bindSwitch, setPosition. -/
def Obligations.AxisAndParameterCommandsAct : Prop :=
  ∀ (s : State) (h : CmdHead) (pay : List Byte),
    (let n := s.dev
     let q (op : Nat) : HostReq := { op := op, h := h, pay := pay }
     let f (o k : Nat) : Nat := fieldLE pay o k
     let i := h.index
     let servo (d : Dev) : Dev := { n with motion := { n.motion with axes := d.motion.axes, orrs := d.motion.orrs, eph := d.motion.eph } }
     let ahead := n.origin < (n.axis i).spCycle
     let step (d : Dev) : Dev := { n with motion := { n.motion with steppers := d.motion.steppers } }
     let others (d : Dev) : Prop := ∀ b, b ≠ i → d.axis? b = n.axis? b
     let others' (d : Dev) : Prop := ∀ b, b ≠ i → d.stepper? b = n.stepper? b
     let st (d : Dev) : Nat := (d.axis i).now.sup.state
     (∀ op en x, entriesOf pay = [en] → paramFor op h.kind en.id = some x → instantly op h.kind en = true → n.accepts (q op) →
       (let key := entKey h.kind i en.id en.sub
        let val := x.fmt.read en.value
        (op = 0x1001 → h.kind = 1 → Completes (.axisSetParams h pay) s (fun d => d.Answers (q op) 0 ∧ d.Past { servo d with pace := { n.pace with trigger := d.pace.trigger } } ∧ Tab.find (d.axis i).prm key = some val)) ∧
        (op = 0x1001 → h.kind = 2 → Completes (.axisSetParams h pay) s (fun d => d.Answers (q op) 0 ∧ d.Past (step d) ∧ others' d ∧ ∃ a, d.stepper? i = some a ∧ Tab.find a.prm key = some val)) ∧
        (op = 0x3001 → h.kind = 3 → Completes (.orrerySetParams h pay) s (fun d => d.Answers (q op) 0 ∧ d.Past (servo d) ∧ Tab.find (d.orr i).prm key = some val)) ∧
        (op = 0x0001 → Completes (.mgmtSetParams h pay) s (fun d => d.Answers (q op) 0 ∧
          d.Past { n with ctl := d.ctl, pace := d.pace, motion := { n.motion with eph := d.motion.eph } } ∧ Tab.find d.ctl.prm key = some val)) ∧
        (op = 0x5001 → h.kind = 9 → n.tu.tcaps.length = 16 → Completes (.timeSetParams h pay) s (fun d => d.Answers (q op) 0 ∧ d.Past { n with tu := { n.tu with tcaps := d.tu.tcaps } } ∧
          Tab.find (d.tu.tcaps.getD i {}).prm key = some val ∧ ∀ j, j ≠ i → d.tu.tcaps.getD j {} = n.tu.tcaps.getD j {})))) ∧
     (∀ en x, entriesOf pay = [en] → paramFor 0x4001 h.kind en.id = some x → x.eff = .ringStart → n.accepts (q 0x4001) →
       Completes (.netSetParams h pay) s (fun d => d.Gives (q 0x4001) { note := 2, pay := [0xFF, 0xFF, 0, 0, 0, 0, 0, 0] } n.ctl.cycle ∧
         d.Past { n with ctl := { n.ctl with stored := d.ctl.stored }, motion := { n.motion with eph := d.motion.eph } } ∧
         Tab.find d.ctl.stored (entKey h.kind i en.id en.sub) = some (x.fmt.read en.value))) ∧
     (n.accepts (q 0x1010) →
       (h.kind = 1 → Completes (.axisAdd h pay) s (fun d => d.Answers (q 0x1010) 0 ∧ others d ∧ st d = 0 ∧ d.axis? i = some { prm := n.addParams (q 0x1010), lastCmd := n.ctl.cycle, lastBatch := h.batch } ∧
         d.Past { servo d with ctl := { n.ctl with layoutGen := d.ctl.layoutGen, layoutChg := d.ctl.layoutChg }, pace := { n.pace with trigger := true } })) ∧
       (h.kind = 2 → Completes (.axisAdd h pay) s (fun d => d.Answers (q 0x1010) 0 ∧ others' d ∧ d.stepper? i = some { prm := n.addParams (q 0x1010), lastCmd := n.ctl.cycle, lastBatch := h.batch } ∧
         d.Past { step d with ctl := { n.ctl with layoutGen := d.ctl.layoutGen, layoutChg := d.ctl.layoutChg }, power := { n.power with step := true } }))) ∧
     (n.accepts (q 0x1011) →
       (h.kind = 1 → Completes (.axisRemove h pay) s (fun d => d.Answers (q 0x1011) 0 ∧ others d ∧ d.axis? i = none ∧ (∀ e, ∀ x ∈ (d.engine e).slots, x.2.axis ≠ i) ∧
         d.Past { n with motion := { n.motion with axes := d.motion.axes, eph := d.motion.eph }, engines := d.engines, pace := d.pace,
                         ctl := { n.ctl with layoutGen := d.ctl.layoutGen, layoutChg := d.ctl.layoutChg } })) ∧
       (h.kind = 2 → Completes (.axisRemove h pay) s (fun d => d.Answers (q 0x1011) 0 ∧ others' d ∧ d.stepper? i = none ∧
         d.Past { step d with ctl := { n.ctl with layoutGen := d.ctl.layoutGen, layoutChg := d.ctl.layoutChg }, pace := { n.pace with done := d.pace.done, carry := d.pace.carry } }))) ∧
     (n.accepts (q 0x1012) →
       (h.kind = 1 → Completes (.axisEnable h pay) s (fun d => d.Answers (q 0x1012) 0 ∧ others d ∧ (st d = 1 ∨ (ahead ∧ (st d = 3 ∨ st d = 5))) ∧ (d.axis i).fol = none ∧
         ((n.axis i).now.sup.mode ≠ 7 → (d.axis i).plan = none) ∧ d.Past (servo d))) ∧
       (h.kind = 2 → Completes (.axisEnable h pay) s (fun d => d.Answers (q 0x1012) 0 ∧ others' d ∧ d.Past (step d) ∧ ∃ a, d.stepper? i = some a ∧ a.state = 1 ∧ a.enabled = true))) ∧
     (n.accepts (q 0x1013) →
       (h.kind = 1 → Completes (.axisDisable h pay) s (fun d => d.Answers (q 0x1013) 0 ∧ d.Past (servo d) ∧ ((n.axis i).fol = none → others d) ∧
         st d = (if st n = 1 ∨ st n = 2 then 0 else if st n = 3 ∨ st n = 4 then 5 else st n) ∧ (st n = 1 → (d.axis i).now.sup.mode = 7 ∧ (d.axis i).plan = none ∧ (d.axis i).fol = none))) ∧
       (h.kind = 2 → Completes (.axisDisable h pay) s (fun d => d.Answers (q 0x1013) 0 ∧ others' d ∧ d.Past (step d) ∧
         ∀ a, n.stepper? i = some a → a.state = 1 → ∃ b, d.stepper? i = some b ∧ b.state = 0 ∧ b.mode = 7 ∧ b.enabled = false))) ∧
     (n.accepts (q 0x1014) →
       (h.kind = 1 → Completes (.faultClear h pay) s (fun d => d.Answers (q 0x1014) 0 ∧ others d ∧ d.Past { servo d with pace := d.pace } ∧
         (((d.axis i).now.sup.fault = 0 ∧ st d = (if st n = 4 then 1 else 0)) ∨ (ahead ∧ st n = 4 ∧ (st d = 3 ∨ st d = 5))) ∧ ((n.axis i).shed = false → d.pace = n.pace))) ∧
       (h.kind = 2 → Completes (.faultClear h pay) s (fun d => d.Answers (q 0x1014) 0 ∧ others' d ∧ d.Past (step d) ∧ ∀ a, n.stepper? i = some a →
         ∃ b, d.stepper? i = some b ∧ b.fault = 0 ∧ b.state = (if a.state = 5 then 0 else 1)))) ∧
     (∀ b, n.accepts (q 0x1020) → f 4 2 ≠ 0 → Tab.find n.host.bulks (f 0 2) = some b → Completes (.tableLoad h pay) s (fun d => d.Answers (q 0x1020) 0 ∧ others d ∧ d.Past (servo d) ∧
       Tab.find d.host.bulks (f 0 2) = none ∧
       (d.axis i).table (f 2 1) = some { n := f 4 2, period := f 8 8, entries := (List.range (f 4 2)).map (fun k => fieldLES (b.bytes (2 * f 4 2)) (2 * k) 2) })) ∧
     (n.accepts (q 0x1030) →
       (h.kind = 1 → Completes (.bindSwitch h pay) s (fun d => d.Answers (q 0x1030) 0 ∧ others d ∧ d.Past (servo d) ∧ (d.axis i).switch (f 0 1) = n.switchOf pay (decide (f 0 1 ≠ 2)) ((n.axis i).switch (f 0 1)) ∧
         ∀ w, w ≤ 2 → w ≠ f 0 1 → (d.axis i).switch w = (n.axis i).switch w)) ∧
       (h.kind = 2 → Completes (.bindSwitch h pay) s (fun d => d.Answers (q 0x1030) 0 ∧ others' d ∧ d.Past (step d) ∧ ∀ a, n.stepper? i = some a →
         ∃ b, d.stepper? i = some b ∧ b.switch (f 0 1) = n.switchOf pay (decide (f 0 1 ≠ 2)) (a.switch (f 0 1))))) ∧
     (n.accepts (q 0x1050) → Completes (.setPosition h pay) s (fun d => d.Answers (q 0x1050) 0 ∧ others' d ∧ d.Past (step d) ∧
       d.stepper? i = (n.stepper? i).map (fun a => { a with posOffset := fieldLES pay 0 8 - a.sp.p, lost := false, referenced := true, lastCmd := n.ctl.cycle, lastBatch := h.batch }))))

/-- R124, R137, R138, R162, R164, R291, R415, R416, R573. Modes: 0 POS, 1 VEL, 2 TRQ, 3 GEAR, 4 CAM, 5 HOME, 6 HOLD, 7 STOP; Orrery states 0 OFF, 1 STOPPED, 2 RUNNING, 3
STOPPING. Completes, under its premises on state and operands alone: mode, estop, processWrite, orrConfigure, orrRemove, orrSpeed, orrStop, camLoad, camDelete, regRemove. -/
def Obligations.MotionCommandsAct : Prop :=
  ∀ (s : State) (h : CmdHead) (pay : List Byte),
    (let n := s.dev
     let q (op : Nat) : HostReq := { op := op, h := h, pay := pay }
     let f (o k : Nat) : Nat := fieldLE pay o k
     let i := h.index
     let m := f 0 1
     let servo (d : Dev) : Dev := { n with motion := { n.motion with axes := d.motion.axes, orrs := d.motion.orrs, eph := d.motion.eph } }
     let ahead := n.origin < (n.axis i).spCycle
     let step (d : Dev) : Dev := { n with motion := { n.motion with steppers := d.motion.steppers } }
     let others' (d : Dev) : Prop := ∀ b, b ≠ i → d.stepper? b = n.stepper? b
     let orr (d : Dev) : Prop := ∀ j, j ≠ i → d.orr j = n.orr j
     let st (d : Dev) (a : Nat) : Nat := (d.axis a).now.sup.state
     (n.accepts (q 0x2001) →
       (h.kind = 1 → m ≠ 5 → Completes (.mode h pay) s (fun d => d.Answers (q 0x2001) 0 ∧ d.Past (servo d) ∧ (((d.axis i).now.sup.mode = m ∧ st d i = st n i) ∨ (ahead ∧ (st d i = 3 ∨ st d i = 5))) ∧
         (st n i ≠ 0 → m ≠ 3 → m ≠ 4 → (d.axis i).fol = none) ∧ (st n i ≠ 0 → m = 1 → (d.axis i).velTgt = (n.axis i).boundVel (fieldLES pay 8 8)))) ∧
       (h.kind = 1 → m = 5 → st n i ≠ 0 → (n.axis i).stored = [] → (n.axis i).prm.nat pHOME_METHOD ≠ 4 → Completes (.mode h pay) s (fun d => d.Owes (q 0x2001) ∧ d.Past (servo d) ∧
         ((d.axis i).now.sup.mode = 5 ∨ (ahead ∧ (st d i = 3 ∨ st d i = 5))) ∧ (d.axis i).home.state ≠ 0 ∧ (d.axis i).home.referenced = false)) ∧
       (h.kind = 2 → m ≠ 5 → Completes (.mode h pay) s (fun d => d.Answers (q 0x2001) 0 ∧ others' d ∧ d.Past (step d) ∧ ∃ a, d.stepper? i = some a ∧ a.mode = m))) ∧
     (n.accepts (q 0x2100) →
       (h.kind = 1 → Completes (.estop h pay) s (fun d => d.Answers (q 0x2100) 0 ∧ d.Past (servo d) ∧
         (m = 3 → st d i = 0 ∨ st d i = 5) ∧
         (m = 2 → st d i = (if st n i = 1 ∨ st n i = 2 then 3 else st n i) ∨ (ahead ∧ st d i = 5)))) ∧
       (h.kind = 2 → Completes (.estop h pay) s (fun d => d.Answers (q 0x2100) 0 ∧ others' d ∧ d.Past (step d) ∧
         ∀ a, n.stepper? i = some a → ∃ b, d.stepper? i = some b ∧ (m = 3 → b.state = 0 ∨ b.state = 5) ∧ (m = 2 → b.state = (if a.state = 1 then 2 else a.state)))) ∧
       (h.kind = 0 → Completes (.estop h pay) s (fun d => d.Answers (q 0x2100) 0 ∧
         d.Past { n with motion := { n.motion with axes := d.motion.axes, orrs := d.motion.orrs, steppers := d.motion.steppers, eph := d.motion.eph } } ∧
         (m = 3 → (∀ a, st d a = 0 ∨ st d a = 5) ∧ ∀ a x, d.stepper? a = some x → x.state = 0 ∨ x.state = 5) ∧
         (m = 2 → (∀ a, st d a ≠ 1 ∧ st d a ≠ 2) ∧ ∀ a x, d.stepper? a = some x → x.state ≠ 1))) ∧
       (h.kind = 5 → Completes (.estop h pay) s (fun d => d.Answers (q 0x2100) 0 ∧
         d.Past { n with motion := { n.motion with axes := d.motion.axes, orrs := d.motion.orrs, steppers := d.motion.steppers, eph := d.motion.eph } } ∧
         (∀ e ∈ n.ring.map.entries, e.2.seg = i → e.2.kind = 0 → (m = 3 → st d e.2.target = 0 ∨ st d e.2.target = 5) ∧ (m = 2 → st d e.2.target ≠ 1 ∧ st d e.2.target ≠ 2)) ∧
         ∀ e ∈ n.ring.map.entries, e.2.seg = i → e.2.kind = 1 → ∀ x, d.stepper? e.2.target = some x → (m = 3 → x.state = 0 ∨ x.state = 5) ∧ (m = 2 → x.state ≠ 1)))) ∧
     (n.accepts (q 0x2200) → Completes (.processWrite h pay) s (fun d => d.After { n with image := setBits n.image (f 0 4) (pay.drop 8) (f 4 2) } (q 0x2200))) ∧
     (n.accepts (q 0x3010) → Completes (.orrConfigure h pay) s (fun d => d.Answers (q 0x3010) 0 ∧ d.Past { n with motion := { n.motion with orrs := d.motion.orrs } } ∧ orr d ∧
       (let a := n.orr i
        let b := d.orr i
        b.prm = a.prm ∧ b.state = (if a.prm.nat pORR_SRC = 1 then 2 else 1) ∧ b.theta = a.prm.val pORR_THETA0 ∧ b.omega = 0 ∧ b.plan = none))) ∧
     (n.accepts (q 0x3011) → Completes (.orrRemove h pay) s (fun d => d.Answers (q 0x3011) 0 ∧ d.Past { n with motion := { n.motion with orrs := d.motion.orrs, eph := d.motion.eph } } ∧ orr d ∧
       (d.orr i).state = 0 ∧ (d.orr i).prm = (n.orr i).prm)) ∧
     (n.accepts (q 0x3012) → Completes (.orrSpeed h pay) s (fun d => d.Answers (q 0x3012) 0 ∧ d.Past (servo d) ∧ orr d ∧ (d.orr i).state = 2 ∧
       (d.orr i).tgt = max (-(n.orr i).vmax) (min (n.orr i).vmax (fieldLES pay 0 8)))) ∧
     (n.accepts (q 0x3013) → Completes (.orrStop h pay) s (fun d => d.Answers (q 0x3013) 0 ∧ d.Past (servo d) ∧ orr d ∧ (d.orr i).tgt = 0 ∧
       (d.orr i).state = (if (n.orr i).state = 2 then 3 else (n.orr i).state))) ∧
     (∀ b, n.accepts (q 0x3020) → Tab.find n.host.bulks (f 0 2) = some b →
       (let c := camOfLoad (q 0x3020) (b.bytes (16 * f 4 4))
        let cams (d : Dev) : Prop := d.Past { n with motion := { n.motion with cams := d.motion.cams } } ∧ Tab.find d.host.bulks (f 0 2) = none ∧
          ∀ j, j ≠ i → Tab.find d.motion.cams j = Tab.find n.motion.cams j
        (n.camUsers i = [] → Completes (.camLoad h pay) s (fun d => d.Answers (q 0x3020) 0 ∧ cams d ∧ ∃ x, Tab.find d.motion.cams i = some x ∧ x.cur = c ∧ x.next = none)) ∧
        (∀ y, n.camUsers i ≠ [] → Tab.find n.motion.cams i = some y → Completes (.camLoad h pay) s (fun d => d.Owes (q 0x3020) ∧ cams d ∧
          ∃ x, Tab.find d.motion.cams i = some x ∧ x.cur = y.cur ∧ x.next = some c)))) ∧
     (n.accepts (q 0x3021) → Completes (.camDelete h pay) s (fun d => d.After { n with motion := { n.motion with cams := d.motion.cams } } (q 0x3021) ∧ Tab.find d.motion.cams i = none ∧
       ∀ j, j ≠ i → Tab.find d.motion.cams j = Tab.find n.motion.cams j)) ∧
     (∀ c, n.accepts (q 0x3030) → Tab.find n.motion.regs i = some c → Completes (.regRemove h pay) s (fun d => d.Answers (q 0x3030) 0 ∧
       d.Past { n with motion := { n.motion with regs := d.motion.regs, regPre := d.motion.regPre, axes := d.motion.axes }, image := Memory.clear n.image (c.prm.nat pREG_PUB / 8) 32 } ∧
       Tab.find d.motion.regs i = none ∧ (c.lost = false → d.motion.axes = n.motion.axes))))

/-- R289, R344, R418, R436, R437, R453, R462, R482, R490 to R492, R511, R516, R517, R540 to R542. `Dev.freeVal` modulo 3 is 2 where a flash access fails lastingly (log
37). Completes, under its premises on state and operands alone: mapLoad, mapPatch, ringStart, mailbox, timeSet, chrConfig, chrArm, chrDisarm, chrForce, logMark,
logChallenge, logClear, safeChallenge, safeReset, safeConfig, stRun, stSchedule, repairCommit, imageOpen, imageWrite, imageVerify, imageActivate, safActivate. -/
def Obligations.DeviceCommandsAct : Prop :=
  ∀ (s : State) (h : CmdHead) (pay : List Byte),
    (let n := s.dev
     let q (op : Nat) : HostReq := { op := op, h := h, pay := pay }
     let f (o k : Nat) : Nat := fieldLE pay o k
     let i := h.index
     let ok (op : Nat) (d : Dev) : Prop := d.Answers (q op) 0
     let bank := i / 256 % 2
     let idx := i % 256
     let flash (op : Nat) (d : Dev) (P : Prop) : Prop :=
       d.Past { n with flash := d.flash, boot := d.boot, tru := d.tru } ∧ (n.freeVal % 3 ≠ 2 → P) ∧ (n.freeVal % 3 = 2 → d.Answers (q op) 0x0602 ∧ d.flash = n.flash ∧ d.tru = n.tru)
     (∀ b, n.accepts (q 0x4010) → Tab.find n.host.bulks (f 0 2) = some b →
       (let m := mapOfLoad pay (b.bytes (16 * f 2 2))
        (n.ring.map.lightChange m = true → Completes (.mapLoad h pay) s (fun d => ok 0x4010 d ∧ d.Past { n with ring := { n.ring with map := m, mapPending := none }, ctl := d.ctl } ∧
          (m = n.ring.map → d.ctl.layoutGen = n.ctl.layoutGen))) ∧
        (n.ring.map.lightChange m = false → Completes (.mapLoad h pay) s (fun d => d.Gives (q 0x4010) { note := 2 } n.ctl.cycle ∧ d.Past { n with ring := { n.ring with mapPending := some m } })))) ∧
     (n.accepts (q 0x4011) →
       (let patched : FrameMap := { n.ring.map with entries := Tab.upd n.ring.map.entries (f 0 2) (fun (e : MapEntry) => { e with forceCount := bit (f 2 1) 0, holdMax := f 3 1, target := f 4 4 }) }
        Completes (.mapPatch h pay) s (fun d => ok 0x4011 d ∧
       d.Past { n with ring := { n.ring with map := patched },
                       ctl := { n.ctl with layoutGen := d.ctl.layoutGen, layoutChg := d.ctl.layoutChg } }))) ∧
     (n.accepts (q 0x4012) →
       (h.kind = 0 → Completes (.ringStart h pay) s (fun d => d.ctl.running = false ∧ d.host.staged = [] ∧ d.ring.role = 1 ∧ (∀ j, j < 8 → (d.ring.seg j).state = 0 ∨ (d.ring.seg j).state = 1) ∧
         ((∃ j ∈ d.segNos, (d.ring.seg j).state = 1) → d.Owes (q 0x4012)) ∧ d.tu = n.tu ∧ d.image = n.image ∧ d.motion = n.motion.recount ∧ d.boot = n.boot)) ∧
       (h.kind = 5 → (n.ring.seg i).state = 7 ∨ (n.ring.seg i).state = 8 → Completes (.ringStart h pay) s (fun d => (d.ring.seg i).state = 9 ∧ (d.ring.seg i).reinitLeft = some 16 ∧
         (∀ j, j ≠ i → d.ring.seg j = n.ring.seg j) ∧ d.Owes (q 0x4012) ∧ d.Past { n with ring := { n.ring with segs := d.ring.segs }, si := d.si, power := d.power }))) ∧
     (n.accepts (q 0x4030) → Completes (.mailbox h pay) s (fun d => d.Owes (q 0x4030) ∧ d.Past { n with ring := { n.ring with segs := d.ring.segs } } ∧
       ((n.ring.seg (i / 96)).mail = none → n.mailOps (i / 96) = [] →
         d.Queued (i / 96) 0x01 (i % 96 + 1) (leBytes 2 ((pay.drop 8).take (f 2 2)).length ++ leBytes 2 (f 0 2) ++ leBytes 2 0 ++ [0, 0] ++ (pay.drop 8).take (f 2 2) ++ zeroBytes (f 0 2))))) ∧
     (n.accepts (q 0x5010) → n.tu.hostSet = [] → n.tu.servoStep = none → Completes (.timeSet h pay) s (fun d => ok 0x5010 d ∧ d.Past { n with tu := d.tu } ∧
       d.tu.tbOf n.merQ = (((f 0 6) * 1000000000 + f 8 4) * 65536 : Nat) ∧ d.tu.hostSet = [] ∧ d.tu.rc = n.tu.rc)) ∧
     (n.accepts (q 0x6001) → Completes (.chrConfig h pay) s (fun d => ok 0x6001 d ∧
       (let k := chrParse (n.chrBlock (q 0x6001))
        d.Past { n with chr := if n.chr.state = 0 then { n.chr with conf := some k, pending := none } else { n.chr with pending := some k }, power := { n.power with trace := true } }))) ∧
     (n.accepts (q 0x6002) → Completes (.chrArm h pay) s (fun d => ok 0x6002 d ∧ d.Past { n with chr := d.chr } ∧ d.chr.state = (if f 0 1 = 3 then 4 else 1) ∧ d.chr.mode = f 0 1 ∧
       d.chr.conf = n.chr.next ∧ d.chr.pending = none)) ∧
     (n.accepts (q 0x6003) → n.chr.conf.isSome = true → Completes (.chrDisarm h pay) s (fun d => ok 0x6003 d ∧ d.Past { n with chr := d.chr } ∧ d.chr.state = 0)) ∧
     (n.accepts (q 0x6004) → Completes (.chrForce h pay) s (fun d => d.After { n with chr := { n.chr with force := some (16384 * n.merQ) } } (q 0x6004))) ∧
     (n.accepts (q 0x7003) → Completes (.logMark h pay) s (fun d => d.After n (q 0x7003) ∧ d.Reports eHOST_MARK (srcPair h.pair) (pay.take 2 ++ ((pay.drop 8) ++ zeroBytes 16).take 16))) ∧
     (n.accepts (q 0x7010) → Completes (.logChallenge h pay) s (fun d => ∃ k : List Byte, k.length = 16 ∧ d.Past { n with host := { n.host with nonceLog := some k } } ∧
       d.Gives (q 0x7010) { pay := k } n.ctl.cycle)) ∧
     (n.accepts (q 0x7011) → Completes (.logClear h pay) s (fun d => d.Owes (q 0x7011) ∧
       d.Past { n with host := { n.host with nonceLog := none }, log := { n.log with clearPending := n.log.clearPending + 1 } })) ∧
     (n.accepts (q 0x8010) → Completes (.safeChallenge h pay) s (fun d => ∃ k : List Byte, k.length = 16 ∧ d.Past { n with host := { n.host with nonceSafe := some k } } ∧
       d.Gives (q 0x8010) { pay := k } n.ctl.cycle)) ∧
     (n.accepts (q 0x8002) →
       (h.kind = 14 → Completes (.safeReset h pay) s (fun d => d.After { n with si := { n.si with resets := incSat 32 n.si.resets, conns := Tab.upd n.si.conns i (fun k =>
         if k.state = 3 then { k with state := 1, based := false, crcErr := 0, seqErr := 0, timeout := 0 } else k) } } (q 0x8002))) ∧
       (h.kind = 0 → n.si.state = 1 → n.si.conf.isSome = true → Completes (.safeReset h pay) s (fun d => ok 0x8002 d ∧ d.Past { n with si := d.si } ∧ d.si.state = 2 ∧
         d.si.resets = incSat 32 n.si.resets ∧ d.si.conf = n.si.conf ∧ d.si.outLatch = 0))) ∧
     (n.accepts (q 0x8011) →
       (let c := siParse (n.siBlock (q 0x8011))
        let same := (List.range 8).all (fun j => c.count j = (match n.si.conf with | some x => x.count j | none => 0))
        let e : Dev := { n with host := { n.host with nonceSafe := none } }
        (same = true → Completes (.safeConfig h pay) s (fun d => ok 0x8011 d ∧ d.Past { e with si := d.si, flash := siStore n.flash n.si.copy c } ∧ d.si.conf = some c ∧ d.si.state = 1 ∧ d.si.pending = none)) ∧
        (same = false → Completes (.safeConfig h pay) s (fun d => d.Gives (q 0x8011) { note := 2 } n.ctl.cycle ∧ d.Past { e with si := { n.si with pending := some c } })))) ∧
     (n.accepts (q 0x9001) →
       (let b := stBlock (q 0x9001)
        let mem := stMem (q 0x9001)
        (mem = false → n.tempHold = true → Completes (.stRun h pay) s (fun d => d.Past n ∧ d.Gives (q 0x9001) (n.notRun (q 0x9001)) n.ctl.cycle)) ∧
        (mem = false → n.tempHold = false → b ≤ 0x11 → n.engineTestable b = true → Completes (.stRun h pay) s (fun d => d.Owes (q 0x9001) ∧ d.tru.logic.map (fun l => l.block) = some b ∧
          d.Past { n with tru := d.tru, pace := { n.pace with testAsk := some b, trigger := true } })) ∧
        (mem = true → (poolBanks b).filter (fun x => !n.tru.degraded.contains (bankDomain x)) ≠ [] → Completes (.stRun h pay) s (fun d => d.Owes (q 0x9001) ∧
          d.tru.mem.map (fun l => l.block) = some b ∧ d.Past { n with tru := d.tru })))) ∧
     (n.accepts (q 0x9003) → Completes (.stSchedule h pay) s (fun d => d.After { n with tru := { n.tru with sched := pay } } (q 0x9003))) ∧
     (n.accepts (q 0x9004) → Completes (.repairCommit h pay) s (fun d => flash 0x9004 d (ok 0x9004 d ∧ d.tru.fused = n.tru.fused ++ n.tru.soft ∧ d.tru.soft = [] ∧
       d.Gives (q 0x9004) { pay := d.tru.fusedList } n.ctl.cycle))) ∧
     (n.accepts (q 0xA001) → Completes (.imageOpen h pay) s (fun d => flash 0xA001 d (ok 0xA001 d ∧ d.flash = imageOpen n.flash bank idx ∧ d.boot.slotOpen = some (bank, idx, f 0 4)) ∧ d.tru = n.tru)) ∧
     (n.accepts (q 0xA002) → Completes (.imageWrite h pay) s (fun d => flash 0xA002 d (ok 0xA002 d ∧ d.flash = Memory.writeList 0xFF n.flash (imageBase bank idx + f 0 4) (pay.drop 8)) ∧ d.tru = n.tru ∧
       d.boot.slotOpen = n.boot.slotOpen)) ∧
     (n.accepts (q 0xA003) → Completes (.imageVerify h pay) s (fun d => flash 0xA003 d (d.flash = imageMark n.flash bank idx ∧
       d.Gives (q 0xA003) { pay := ((imageHeader n.flash bank idx).drop 16).take 16 } n.ctl.cycle ∧ (∀ k, n.boot.slotOpen = some (bank, idx, k) → d.boot.slotOpen = none)) ∧ d.tru = n.tru)) ∧
     (n.accepts (q 0xA004) →
       (f 0 1 = 0 → Completes (.imageActivate h pay) s (fun d => flash 0xA004 d (ok 0xA004 d ∧ d.flash = manifestActivate n.flash bank (n.boot.rival bank)) ∧ d.tru = n.tru ∧ d.boot.live = n.boot.live)) ∧
       (f 0 1 = 1 → n.boot.recovery = false → idx = 0 → Completes (.imageActivate h pay) s (fun d => d.Owes (q 0xA004) ∧ d.host.mgtRestart = true ∧ d.flash = n.flash ∧
         d.Past { n with boot := { n.boot with live := d.boot.live }, tru := { n.tru with stops := d.tru.stops }, host := { n.host with mgtRestart := true } } ∧
         (∃ l, d.boot.live = some l ∧ l.kind = 0 ∧ l.bank = bank) ∧ d.Reports eUPDATE_START srcMgc (leBytes 1 0 ++ leBytes 1 bank ++ leBytes 1 0)))) ∧
     (n.accepts (q 0xA010) →
       (let e : Dev := { n with host := { n.host with nonceSafe := none } }
        (f 0 1 = 1 → Completes (.safActivate h pay) s (fun d => d.Owes (q 0xA010) ∧ d.Past { e with boot := { n.boot with live := d.boot.live }, si := d.si } ∧ d.si.held = true ∧ d.si.restarting = true ∧
          (∃ l, d.boot.live = some l ∧ l.kind = 3 ∧ l.bank = bank) ∧ d.Reports eUPDATE_START srcMgc (leBytes 1 3 ++ leBytes 1 bank ++ leBytes 1 0))) ∧
        (f 0 1 = 0 → Completes (.safActivate h pay) s (fun d => d.Past { e with flash := d.flash, boot := d.boot } ∧
          (n.freeVal % 3 ≠ 2 → ok 0xA010 d ∧ d.flash = manifestActivate n.flash bank (n.boot.rival bank)) ∧ (n.freeVal % 3 = 2 → d.Answers (q 0xA010) 0x0602 ∧ d.flash = n.flash))))))
end

