-- ==== Sys2Proof/Laws/Bytes.lean ====
section
/-! SUPPORT. Laws of byte lists and of the frame check sequence: a number's bytes give it back, and a frame built with its check sequence passes the check (R4, R5, Table 9.1). -/

namespace Sys2Proof.Machine

/-- A number's bytes are as many as asked for. -/
@[simp] theorem leBytes_length (k x : Nat) : (leBytes k x).length = k := by
  induction k generalizing x with
  | zero => rfl
  | succ k ih => simp [leBytes, ih]

/-- The number that a number's low bytes spell. -/
@[simp] theorem leNat_leBytes (k x : Nat) : leNat (leBytes k x) = x % 2 ^ (8 * k) := by
  induction k generalizing x with
  | zero => simp [leBytes, leNat, Nat.mod_one]
  | succ k ih =>
    have h : 2 ^ (8 * (k + 1)) = 256 * 2 ^ (8 * k) := by rw [Nat.mul_succ, Nat.pow_add]; omega
    simp only [leBytes, leNat, ih, BitVec.toNat_ofNat]
    rw [h, Nat.mod_mul]

/-- Bytes appended by a shorter list stand after it. -/
theorem fieldLE_append_left (a b : List (BitVec 8)) (o k : Nat) (h : a.length ≤ o) : fieldLE (a ++ b) o k = fieldLE b (o - a.length) k := by
  simp [fieldLE, List.drop_append, List.drop_eq_nil_of_le h]

/-- One bit step of the reflected CRC-32 stays in 32 bits. -/
theorem crc32Bit_lt {c : Nat} (h : c < 2 ^ 32) : crc32Bit c < 2 ^ 32 := by
  unfold crc32Bit
  split
  · exact Nat.xor_lt_two_pow (by omega) (by decide)
  · omega

/-- So does a byte of it. -/
theorem crc32Byte_lt {c : Nat} (h : c < 2 ^ 32) (b : BitVec 8) : crc32Byte c b < 2 ^ 32 := by
  have hb : b.toNat < 2 ^ 32 := Nat.lt_trans b.isLt (by decide)
  simp only [crc32Byte]
  repeat' apply crc32Bit_lt
  exact Nat.xor_lt_two_pow h hb

/-- The CRC-32 is a 32-bit number. -/
theorem crc32_lt (bs : List (BitVec 8)) : crc32 bs < 2 ^ 32 := by
  have go : ∀ (l : List (BitVec 8)) (c : Nat), c < 2 ^ 32 → l.foldl crc32Byte c < 2 ^ 32 := by
    intro l
    induction l with
    | nil => intro c h; exact h
    | cons b l ih => intro c h; exact ih _ (crc32Byte_lt h b)
  rw [crc32, foldNat_eq]
  exact Nat.xor_lt_two_pow (go _ _ (by decide)) (by decide)

/-- A frame of at least 60 bytes with its check sequence passes the check (Table 9.1). -/
theorem fcsOk_withFcs (f : List (BitVec 8)) (h : 60 ≤ f.length) : fcsOk (withFcs f) = true := by
  have hl : (withFcs f).length - 4 = f.length := by simp [withFcs]
  unfold fcsOk
  rw [hl]
  have hc : crc32 f % 4294967296 = crc32 f := Nat.mod_eq_of_lt (crc32_lt f)
  simp only [withFcs, List.length_append, leBytes_length, List.drop_left, List.take_left, leNat_leBytes, Bool.and_eq_true, decide_eq_true_eq]
  exact ⟨by omega, hc⟩

end Sys2Proof.Machine
end

