-- ==== Sys2Proof/Laws/Events.lean ====
section
/-! SUPPORT. What events do to a device: nothing outside its core's complement, and each is kept for the Logbook and the host. -/

namespace Sys2Proof.Machine

open Sys2Proof

@[simp] theorem Dev.core_route (d : Dev) (e : Ev) (b : Bool) : (d.route e b).core = d.core := by
  dsimp only [Dev.route, Dev.core]
  split <;> split <;> rfl

@[simp] theorem Dev.core_emit (d : Dev) (e : Ev) : (d.emit e).core = d.core := by
  unfold Dev.emit
  split
  · split
    · exact Dev.core_route d e d.router.dropMark
    · rfl
  · exact Dev.core_route d e false

@[simp] theorem Dev.core_emits (d : Dev) (es : List Ev) : (d.emits es).core = d.core := by
  induction es generalizing d with
  | nil => rfl
  | cons e es ih => exact (ih (d.emit e)).trans (Dev.core_emit d e)

theorem Dev.core_routes (cs : List SatCnt) (d : Dev) : (cs.foldl (fun d c => d.route c.event false) d).core = d.core := by
  induction cs generalizing d with
  | nil => rfl
  | cons c cs ih => exact (ih _).trans (Dev.core_route d _ _)

@[simp] theorem Dev.core_satCheck (b d : Dev) : (Dev.satCheck b d).core = d.core := Dev.core_routes _ d

theorem satNew_self (l : List SatCnt) : satNew l l = [] := by
  unfold satNew
  rw [List.filter_eq_nil_iff]
  intro c hc h
  simp only [Bool.and_eq_true, Bool.not_eq_true', List.any_eq_false] at h
  have := h.2 c hc
  simp [h.1] at this

/-- A command that leaves every counting register alone saturates none. -/
theorem Dev.satCheck_same (b d : Dev) (h : d.sats = b.sats) : Dev.satCheck b d = d := by
  unfold Dev.satCheck
  rw [h, satNew_self]
  rfl

/-! ## Reported events -/

theorem Dev.reports_route_mono (d : Dev) (e : Ev) (b : Bool) {c r : Nat} {as : List Byte} (h : d.Reports c r as) : (d.route e b).Reports c r as := by
  obtain ⟨⟨x, hx, hx'⟩, ⟨y, hy, hy'⟩⟩ := h
  exact ⟨⟨x, List.mem_append_left _ hx, hx'⟩, ⟨y, List.mem_append_left _ hy, hy'⟩⟩

theorem Dev.reports_route (d : Dev) (e : Ev) (b : Bool) : (d.route e b).Reports e.code e.src e.args :=
  ⟨⟨_, List.mem_append_right _ (List.mem_singleton.2 rfl), rfl, rfl, rfl⟩, ⟨_, List.mem_append_right _ (List.mem_singleton.2 rfl), rfl, rfl, rfl⟩⟩

theorem Dev.reports_emit_mono (d : Dev) (e : Ev) {c r : Nat} {as : List Byte} (h : d.Reports c r as) : (d.emit e).Reports c r as := by
  unfold Dev.emit
  split
  · split
    · exact Dev.reports_route_mono d e _ h
    · exact h
  · exact Dev.reports_route_mono d e _ h

/-- An event is reported, unless it is the control plane's and its buffer is full (R16). -/
theorem Dev.reports_emit (d : Dev) (e : Ev) (h : e.control = true → d.router.cycleCnt < 512) : (d.emit e).Reports e.code e.src e.args := by
  unfold Dev.emit
  split
  · rw [if_pos (h ‹_›)]
    exact Dev.reports_route d e _
  · exact Dev.reports_route d e _

theorem Dev.reports_emits_mono (es : List Ev) (d : Dev) {c r : Nat} {as : List Byte} (h : d.Reports c r as) : (d.emits es).Reports c r as := by
  induction es generalizing d with
  | nil => exact h
  | cons e es ih => exact ih _ (Dev.reports_emit_mono d e h)

theorem Dev.reports_satCheck (b d : Dev) {c r : Nat} {as : List Byte} (h : d.Reports c r as) : (Dev.satCheck b d).Reports c r as := by
  unfold Dev.satCheck
  generalize satNew b.sats d.sats = l
  induction l generalizing d with
  | nil => exact h
  | cons x l ih => exact ih _ (Dev.reports_route_mono d _ _ h)

/-! ## Rows -/

/-- A row without counters completes with the device that its meaning gives. -/
theorem completes_does {c : Instr} {s : State} {f : Dev → Dev} {P : Dev → Prop} (hc : exec c s = s.does f) (h : P (f s.dev)) : Completes c s P :=
  ⟨{ s with dev := f s.dev }, hc, rfl, h⟩

/-- A row completes with the device that its meaning gives, and the events of the counters that it filled. -/
theorem completes_act {c : Instr} {s : State} {f : Dev → Dev} {P : Dev → Prop} (hc : exec c s = s.act f) (h : P (Dev.satCheck s.dev (f s.dev))) : Completes c s P :=
  ⟨{ s with dev := Dev.satCheck s.dev (f s.dev) }, hc, rfl, h⟩

end Sys2Proof.Machine
end

