-- ==== Sys2Proof/Laws/Engine.lean ====
section
/-! SUPPORT. What a word of an engine does, said once: a part that joins an open bundle, and a bundle that issues. -/

namespace Sys2Proof.Machine

open Sys2Proof

/-! ## Writes leave the pipeline's own fields alone -/

@[simp] theorem Engine.setEstat_eq (g : Engine) (v : Nat) : g.setEstat v = { g with special := g.special.set 25 v } := rfl

theorem Engine.apply_frame (g : Engine) (w : Wr) :
    (g.apply w).cur = g.cur ∧ (g.apply w).stall = g.stall ∧ (g.apply w).run = g.run ∧ (g.apply w).reqs = g.reqs ∧ (g.apply w).brDue = g.brDue ∧ (g.apply w).brNext = g.brNext ∧
    (g.apply w).pcw = g.pcw ∧ (g.apply w).w1 = g.w1 ∧ (g.apply w).w2 = g.w2 ∧ (g.apply w).w3 = g.w3 := by
  cases w <;> simp only [Engine.apply, Engine.setAov, Engine.setEstat_eq] <;> repeat' split
  all_goals simp

theorem Engine.applyAll_frame (ws : List Wr) (g : Engine) :
    (g.applyAll ws).cur = g.cur ∧ (g.applyAll ws).stall = g.stall ∧ (g.applyAll ws).run = g.run ∧ (g.applyAll ws).reqs = g.reqs ∧ (g.applyAll ws).brDue = g.brDue ∧ (g.applyAll ws).brNext = g.brNext ∧
    (g.applyAll ws).pcw = g.pcw ∧ (g.applyAll ws).w1 = g.w1 ∧ (g.applyAll ws).w2 = g.w2 ∧ (g.applyAll ws).w3 = g.w3 := by
  induction ws generalizing g with
  | nil => exact ⟨rfl, rfl, rfl, rfl, rfl, rfl, rfl, rfl, rfl, rfl⟩
  | cons w ws ih =>
    have h := ih (g.apply w)
    have k := Engine.apply_frame g w
    simp only [Engine.applyAll, List.foldl_cons] at h ⊢
    simp only [h, k, and_self]

@[simp] theorem Engine.arrived_run (g : Engine) : g.arrived.run = g.run := (Engine.applyAll_frame g.w3 g).2.2.1
@[simp] theorem Engine.arrived_reqs (g : Engine) : g.arrived.reqs = g.reqs := (Engine.applyAll_frame g.w3 g).2.2.2.1
@[simp] theorem Engine.arrived_brDue (g : Engine) : g.arrived.brDue = g.brDue := (Engine.applyAll_frame g.w3 g).2.2.2.2.1
@[simp] theorem Engine.arrived_brNext (g : Engine) : g.arrived.brNext = g.brNext := (Engine.applyAll_frame g.w3 g).2.2.2.2.2.1
@[simp] theorem Engine.arrived_pcw (g : Engine) : g.arrived.pcw = g.pcw := (Engine.applyAll_frame g.w3 g).2.2.2.2.2.2.1
@[simp] theorem Engine.arrived_w1 (g : Engine) : g.arrived.w1 = g.w1 := (Engine.applyAll_frame g.w3 g).2.2.2.2.2.2.2.1
@[simp] theorem Engine.arrived_w2 (g : Engine) : g.arrived.w2 = g.w2 := (Engine.applyAll_frame g.w3 g).2.2.2.2.2.2.2.2.1

/-! ## A bundle issues -/

/-- An ALU word by itself issues (R206). -/
theorem Engine.issue_alu (g : Engine) (o : OpWord) (h : o.ctl = false) :
    g.issue { op := some o } = g.stepped 1 (collide (g.arrived.aluWrites o) []) := by
  have hr : g.arrived.run = g.run := g.arrived_run
  have hq : g.arrived.reqs = g.reqs := g.arrived_reqs
  have hb : g.arrived.brNext = g.brNext := g.arrived_brNext
  have h1 : g.arrived.w1 = g.w1 := g.arrived_w1
  have h2 : g.arrived.w2 = g.w2 := g.arrived_w2
  unfold Engine.arrived at *
  unfold Engine.issue Engine.stepped Engine.arrived
  simp only [h, Engine.postModifyAll, List.foldl_nil, Engine.macWrites, Engine.memWrites, Bundle.words, sortBy, List.foldr_nil, List.flatMap_nil, List.append_nil, hr, hq, hb, h1, h2,
    Bool.false_and, Bool.false_eq_true, if_false, List.isEmpty_nil, if_true, Option.isSome_some, List.length_nil, List.filter_nil, Bool.true_or, List.filterMap_none]
  congr 1
  all_goals first | rfl | skip
  all_goals simp

/-- A change of an engine changes no SAT_EVENT counter. -/
theorem Dev.satCheck_engine (d : Dev) (e : Nat) (f : Engine → Engine) : Dev.satCheck d (d.onEngine e f) = d.onEngine e f := Dev.satCheck_same _ _ rfl

/-- Two changes of an engine that agree on what it holds are the same. -/
theorem Dev.onEngine_congr (d : Dev) (e : Nat) (f f' : Engine → Engine) (h : f (d.engine e) = f' (d.engine e)) : d.onEngine e f = d.onEngine e f' := by
  unfold Dev.onEngine
  congr 1
  apply List.ext_getElem?
  intro n
  simp only [List.getElem?_modify]
  by_cases hn : e = n
  · subst hn
    unfold Dev.engine at h
    cases hg : d.engines[e]? with
    | none => rfl
    | some g => simp only [List.getD_eq_getElem?_getD, hg, Option.getD_some] at h; simp [h]
  · simp [hn]

/-- A part that ends a bundle on a ready engine: the bundle `b` that it makes alone issues when it is legal and need not wait. -/
theorem Dev.part_issues (d : Dev) (e : Nat) (f : Bundle → Bundle) (b : Bundle) (h : d.Ready e) (hb : f {} = b) (hl : b.illegal = false)
    (hw : (d.engine e).mustWait b = false) : d.part e f true = d.onEngine e (fun g => g.issue b) := by
  obtain ⟨h1, h2, h3⟩ := h
  unfold Dev.part
  simp only [h1, h2, h3, hb, Option.isNone_none, Bool.and_self, if_true, Engine.take, Bool.not_true, Bool.false_eq_true, if_false, hl, hw]
  exact Dev.onEngine_congr d e _ _ rfl

/-- A part that ends a bundle on a ready engine and must wait. -/
theorem Dev.part_waits (d : Dev) (e : Nat) (f : Bundle → Bundle) (b : Bundle) (h : d.Ready e) (hb : f {} = b) (hl : b.illegal = false)
    (hw : (d.engine e).mustWait b = true) : d.part e f true = d.onEngine e (fun g => { g with stall := some b }) := by
  obtain ⟨h1, h2, h3⟩ := h
  unfold Dev.part
  simp only [h1, h2, h3, hb, Option.isNone_none, Bool.and_self, if_true, Engine.take, Bool.not_true, Bool.false_eq_true, if_false, hl, hw]
  refine Dev.onEngine_congr d e _ _ ?_
  show { d.engine e with cur := {}, stall := some b } = { d.engine e with stall := some b }
  rw [← h3]

/-- A part that ends no bundle joins the open one. -/
theorem Dev.part_joins (d : Dev) (e : Nat) (f : Bundle → Bundle) (h1 : (d.engine e).run.isSome = true) (h2 : (d.engine e).stall = none) :
    d.part e f false = d.onEngine e (fun g => { g with cur := f g.cur }) := by
  have h : ((d.engine e).run.isSome && (d.engine e).stall.isNone) = true := by simp [h1, h2]
  unfold Dev.part
  dsimp only
  rw [if_pos h]
  exact Dev.onEngine_congr d e _ _ rfl

/-- A row of one word that ends its bundle completes with the bundle's effect. -/
theorem completes_part {c : Instr} {s : State} {e : Nat} {f : Bundle → Bundle} {P : Dev → Prop} (b : Bundle) (hc : exec c s = s.act (fun d => d.part e f true))
    (h : s.dev.Ready e) (hb : f {} = b) (hl : b.illegal = false) (hw : (s.dev.engine e).mustWait b = false) (hP : P (s.dev.onEngine e (fun g => g.issue b))) : Completes c s P := by
  refine completes_act hc ?_
  rw [Dev.part_issues s.dev e f b h hb hl hw, Dev.satCheck_engine]
  exact hP

/-- An ALU word that ends its bundle completes with its writes in flight. -/
theorem completes_alu {c : Instr} {s : State} {e op dst a b sh imm : Nat} {ws : Engine → List Wr}
    (hc : exec c s = s.act (fun d => d.alu e op dst a b sh imm true)) (h : s.dev.Ready e) (hop : op ≤ 0x19)
    (hodd : aluPairOdd { ctl := false, op := op, dst := dst, a := a, b := b, sh := sh, imm := imm } = false)
    (hws : ∀ g : Engine, collide (g.aluWrites { ctl := false, op := op, dst := dst, a := a, b := b, sh := sh, imm := imm }) [] = ws g) :
    Completes c s (fun d => d = s.dev.Bundled e ws) := by
  refine completes_part { op := some { ctl := false, op := op, dst := dst, a := a, b := b, sh := sh, imm := imm } } hc h rfl ?_ rfl ?_
  · simp [Bundle.illegal, hodd, hop]
  · refine Dev.onEngine_congr s.dev e _ _ ?_
    rw [Engine.issue_alu _ _ rfl, hws]

end Sys2Proof.Machine
end

