-- ==== Sys2Proof/Laws/Memory.lean ====
section
/-! SUPPORT. Laws of byte memories and of tables by number: a read after a write, writes that leave other addresses alone, and the canonical form that every operation keeps. -/

namespace Sys2Proof.Machine

/-! ## Reading after writing -/

/-- A write leaves every other address as it was. -/
theorem Memory.read_write_ne (d : Byte) (m : Memory) {a q : Nat} (v : Byte) (h : q ≠ a) : Memory.read d (Memory.write d m a v) q = Memory.read d m q := by
  induction m with
  | nil => unfold Memory.write; split <;> simp [Memory.read, Ne.symm h]
  | cons c r ih =>
    obtain ⟨j, b⟩ := c
    unfold Memory.write
    split
    · split
      · rfl
      · simp [Memory.read, Ne.symm h]
    · split
      · next hj => split <;> simp [Memory.read, hj, Ne.symm h]
      · simp [Memory.read, ih]

/-- Every listed address lies above a lower bound that is lowered. -/
theorem Memory.above_mono {m : Memory} {a b : Nat} (h : Memory.above b m = true) (hab : a ≤ b) : Memory.above a m = true := by
  induction m with
  | nil => rfl
  | cons c r ih =>
    simp only [Memory.above, Bool.and_eq_true, decide_eq_true_eq] at h ⊢
    exact ⟨by omega, ih h.2⟩

/-- Below every listed address a memory reads as an unlisted address does. -/
theorem Memory.read_below (d : Byte) {m : Memory} {a lo : Nat} (h : Memory.above lo m = true) (ha : a ≤ lo) : Memory.read d m a = d := by
  induction m with
  | nil => rfl
  | cons c r ih =>
    simp only [Memory.above, Bool.and_eq_true, decide_eq_true_eq] at h
    simp [Memory.read, show c.1 ≠ a by omega, ih h.2]

/-- A written byte reads back. -/
theorem Memory.read_write_same (d : Byte) {m : Memory} (a : Nat) (v : Byte) (h : Memory.wf d m = true) : Memory.read d (Memory.write d m a v) a = v := by
  induction m with
  | nil => unfold Memory.write; split <;> simp_all [Memory.read]
  | cons c r ih =>
    obtain ⟨j, b⟩ := c
    simp only [Memory.wf, Bool.and_eq_true, decide_eq_true_eq] at h
    unfold Memory.write
    split
    · next hj =>
      split
      · next hv => simp [Memory.read, show j ≠ a by omega, Memory.read_below d h.1.2 (Nat.le_of_lt hj), hv]
      · simp [Memory.read]
    · split
      · next hj =>
        split
        · next hv => rw [Memory.read_below d h.1.2 (by omega), hv]
        · simp [Memory.read]
      · next hj => simp [Memory.read, hj, ih h.2]

/-! ## The canonical form -/

/-- A write above a bound keeps every listed address above it. -/
theorem Memory.above_write (d : Byte) {m : Memory} {lo a : Nat} (v : Byte) (h : Memory.above lo m = true) (ha : lo < a) : Memory.above lo (Memory.write d m a v) = true := by
  induction m with
  | nil => unfold Memory.write; split <;> simp [Memory.above, ha]
  | cons c r ih =>
    obtain ⟨j, b⟩ := c
    simp only [Memory.above, Bool.and_eq_true, decide_eq_true_eq] at h
    unfold Memory.write
    repeat' split
    all_goals simp_all [Memory.above]

/-- A write keeps the canonical form. -/
theorem Memory.wf_write (d : Byte) {m : Memory} (a : Nat) (v : Byte) (h : Memory.wf d m = true) : Memory.wf d (Memory.write d m a v) = true := by
  induction m with
  | nil => unfold Memory.write; split <;> simp_all [Memory.wf, Memory.above]
  | cons c r ih =>
    obtain ⟨j, b⟩ := c
    have h0 := h
    simp only [Memory.wf, Bool.and_eq_true, decide_eq_true_eq] at h
    unfold Memory.write
    split
    · next hj =>
      split
      · exact h0
      · next hv => simp [Memory.wf, Memory.above, hv, hj, h, Memory.above_mono h.1.2 (Nat.le_of_lt hj)]
    · split
      · next hj =>
        split
        · exact h.2
        · next hv => subst hj; simp [Memory.wf, hv, h]
      · next h1 h2 => simp [Memory.wf, h.1.1, ih h.2, Memory.above_write d v h.1.2 (by omega : j < a)]

/-- So does a write of many bytes. -/
theorem Memory.wf_writeList (d : Byte) {m : Memory} (a : Nat) (vs : List Byte) (h : Memory.wf d m = true) : Memory.wf d (Memory.writeList d m a vs) = true := by
  induction vs generalizing m a with
  | nil => exact h
  | cons v vs ih => exact ih (a + 1) (Memory.wf_write d a v h)

/-- Taking cells out keeps the canonical form. -/
theorem Memory.wf_filter (d : Byte) {m : Memory} (p : Host.Cell → Bool) (h : Memory.wf d m = true) : Memory.wf d (m.filter p) = true := by
  have hab : ∀ (l : Memory) (lo : Nat), Memory.above lo l = true → Memory.above lo (l.filter p) = true := by
    intro l lo
    induction l with
    | nil => intro _; rfl
    | cons c r ih =>
      intro hl
      simp only [Memory.above, Bool.and_eq_true] at hl
      rw [List.filter_cons]
      split
      · simp only [Memory.above, Bool.and_eq_true]; exact ⟨hl.1, ih hl.2⟩
      · exact ih hl.2
  induction m with
  | nil => rfl
  | cons c r ih =>
    simp only [Memory.wf, Bool.and_eq_true] at h
    rw [List.filter_cons]
    split
    · simp only [Memory.wf, Bool.and_eq_true]; exact ⟨⟨h.1.1, hab r _ h.1.2⟩, ih h.2⟩
    · exact ih h.2

/-- So does clearing a range. -/
theorem Memory.wf_clear (d : Byte) {m : Memory} (a n : Nat) (h : Memory.wf d m = true) : Memory.wf d (Memory.clear m a n) = true := Memory.wf_filter d _ h

/-- A write of many bytes leaves every address outside them as it was. -/
theorem Memory.read_writeList_out (d : Byte) (m : Memory) (a q : Nat) (vs : List Byte) (h : q < a ∨ a + vs.length ≤ q) :
    Memory.read d (Memory.writeList d m a vs) q = Memory.read d m q := by
  induction vs generalizing m a with
  | nil => rfl
  | cons v vs ih =>
    simp only [List.length_cons] at h
    rw [Memory.writeList, ih _ (a + 1) (by omega), Memory.read_write_ne d m v (by omega)]

/-- Bytes written in one run read back. -/
theorem Memory.readList_writeList (d : Byte) {m : Memory} (a : Nat) (vs : List Byte) (h : Memory.wf d m = true) : Memory.readList d (Memory.writeList d m a vs) a vs.length = vs := by
  induction vs generalizing m a with
  | nil => rfl
  | cons v vs ih =>
    simp only [List.length_cons, Memory.readList, Memory.writeList]
    rw [ih (a + 1) (Memory.wf_write d a v h), Memory.read_writeList_out d _ _ _ _ (by omega), Memory.read_write_same d a v h]

/-! ## Tables -/

/-- An entry that was set is found. -/
@[simp] theorem Tab.find_set_same {α : Type} (t : Tab α) (k : Nat) (a : α) : Tab.find (Tab.set t k a) k = some a := by
  induction t with
  | nil => simp [Tab.set, Tab.find]
  | cons e r ih =>
    obtain ⟨j, b⟩ := e
    unfold Tab.set
    split
    · simp [Tab.find]
    · split
      · simp [Tab.find]
      · next h => simp [Tab.find, h, ih]

/-- Setting an entry leaves every other one alone. -/
theorem Tab.find_set_ne {α : Type} (t : Tab α) {k q : Nat} (a : α) (h : q ≠ k) : Tab.find (Tab.set t k a) q = Tab.find t q := by
  induction t with
  | nil => simp [Tab.set, Tab.find, Ne.symm h]
  | cons e r ih =>
    obtain ⟨j, b⟩ := e
    unfold Tab.set
    split
    · simp [Tab.find, Ne.symm h]
    · split
      · next hj => simp [Tab.find, hj, Ne.symm h]
      · simp [Tab.find, ih]

/-- Changing the entry of a key changes what is found there, and nothing else. -/
theorem Tab.find_upd {α : Type} (t : Tab α) (k q : Nat) (f : α → α) : Tab.find (Tab.upd t k f) q = if q = k then (Tab.find t q).map f else Tab.find t q := by
  induction t with
  | nil => simp [Tab.upd, Tab.find]
  | cons e r ih =>
    obtain ⟨j, b⟩ := e
    simp only [Tab.upd, List.map_cons] at ih ⊢
    by_cases hj : j = k
    · by_cases hq : q = k
      · simp [Tab.find, hj, hq]
      · simp only [Tab.find, hj, if_true, if_neg hq, if_neg (Ne.symm hq)] at ih ⊢; exact ih
    · by_cases hq : j = q
      · simp [Tab.find, hq, show q ≠ k by omega]
      · simp only [Tab.find, if_neg hj, if_neg hq]; exact ih

/-- An entry that was deleted leaves every other one alone. -/
theorem Tab.find_del_ne {α : Type} (t : Tab α) {k q : Nat} (h : q ≠ k) : Tab.find (Tab.del t k) q = Tab.find t q := by
  induction t with
  | nil => rfl
  | cons e r ih =>
    obtain ⟨j, b⟩ := e
    unfold Tab.del
    split
    · next hj => simp [Tab.find, hj, Ne.symm h]
    · simp [Tab.find, ih]

end Sys2Proof.Machine
end

