-- ==== Sys2Proof/Laws/State.lean ====
section
/-! SUPPORT. The fields of the state under each update of a part: what an update leaves alone is as it was, and the part updated reads as changed. -/

namespace Sys2Proof.Machine

open Sys2Proof

/-! ## A loop engine changed -/

@[simp] theorem Dev.onEngine_ctl (d : Dev) (e : Nat) (f : Engine → Engine) : (d.onEngine e f).ctl = d.ctl := rfl
@[simp] theorem Dev.onEngine_motion (d : Dev) (e : Nat) (f : Engine → Engine) : (d.onEngine e f).motion = d.motion := rfl
@[simp] theorem Dev.onEngine_pace (d : Dev) (e : Nat) (f : Engine → Engine) : (d.onEngine e f).pace = d.pace := rfl
@[simp] theorem Dev.onEngine_ring (d : Dev) (e : Nat) (f : Engine → Engine) : (d.onEngine e f).ring = d.ring := rfl
@[simp] theorem Dev.onEngine_tu (d : Dev) (e : Nat) (f : Engine → Engine) : (d.onEngine e f).tu = d.tu := rfl
@[simp] theorem Dev.onEngine_host (d : Dev) (e : Nat) (f : Engine → Engine) : (d.onEngine e f).host = d.host := rfl
@[simp] theorem Dev.onEngine_chr (d : Dev) (e : Nat) (f : Engine → Engine) : (d.onEngine e f).chr = d.chr := rfl
@[simp] theorem Dev.onEngine_router (d : Dev) (e : Nat) (f : Engine → Engine) : (d.onEngine e f).router = d.router := rfl
@[simp] theorem Dev.onEngine_log (d : Dev) (e : Nat) (f : Engine → Engine) : (d.onEngine e f).log = d.log := rfl
@[simp] theorem Dev.onEngine_si (d : Dev) (e : Nat) (f : Engine → Engine) : (d.onEngine e f).si = d.si := rfl
@[simp] theorem Dev.onEngine_tru (d : Dev) (e : Nat) (f : Engine → Engine) : (d.onEngine e f).tru = d.tru := rfl
@[simp] theorem Dev.onEngine_boot (d : Dev) (e : Nat) (f : Engine → Engine) : (d.onEngine e f).boot = d.boot := rfl
@[simp] theorem Dev.onEngine_power (d : Dev) (e : Nat) (f : Engine → Engine) : (d.onEngine e f).power = d.power := rfl
@[simp] theorem Dev.onEngine_tap (d : Dev) (e : Nat) (f : Engine → Engine) : (d.onEngine e f).tap = d.tap := rfl
@[simp] theorem Dev.onEngine_plates (d : Dev) (e : Nat) (f : Engine → Engine) : (d.onEngine e f).plates = d.plates := rfl
@[simp] theorem Dev.onEngine_image (d : Dev) (e : Nat) (f : Engine → Engine) : (d.onEngine e f).image = d.image := rfl
@[simp] theorem Dev.onEngine_flash (d : Dev) (e : Nat) (f : Engine → Engine) : (d.onEngine e f).flash = d.flash := rfl
@[simp] theorem Dev.onEngine_hostMem (d : Dev) (e : Nat) (f : Engine → Engine) : (d.onEngine e f).hostMem = d.hostMem := rfl
@[simp] theorem Dev.onEngine_snap (d : Dev) (e : Nat) (f : Engine → Engine) : (d.onEngine e f).snap = d.snap := rfl

/-! ## A servo axis changed -/

@[simp] theorem Dev.onAxis_ctl (d : Dev) (a : Nat) (f : Axis → Axis) : (d.onAxis a f).ctl = d.ctl := rfl
@[simp] theorem Dev.onAxis_engines (d : Dev) (a : Nat) (f : Axis → Axis) : (d.onAxis a f).engines = d.engines := rfl
@[simp] theorem Dev.onAxis_pace (d : Dev) (a : Nat) (f : Axis → Axis) : (d.onAxis a f).pace = d.pace := rfl
@[simp] theorem Dev.onAxis_ring (d : Dev) (a : Nat) (f : Axis → Axis) : (d.onAxis a f).ring = d.ring := rfl
@[simp] theorem Dev.onAxis_tu (d : Dev) (a : Nat) (f : Axis → Axis) : (d.onAxis a f).tu = d.tu := rfl
@[simp] theorem Dev.onAxis_host (d : Dev) (a : Nat) (f : Axis → Axis) : (d.onAxis a f).host = d.host := rfl
@[simp] theorem Dev.onAxis_chr (d : Dev) (a : Nat) (f : Axis → Axis) : (d.onAxis a f).chr = d.chr := rfl
@[simp] theorem Dev.onAxis_router (d : Dev) (a : Nat) (f : Axis → Axis) : (d.onAxis a f).router = d.router := rfl
@[simp] theorem Dev.onAxis_log (d : Dev) (a : Nat) (f : Axis → Axis) : (d.onAxis a f).log = d.log := rfl
@[simp] theorem Dev.onAxis_si (d : Dev) (a : Nat) (f : Axis → Axis) : (d.onAxis a f).si = d.si := rfl
@[simp] theorem Dev.onAxis_tru (d : Dev) (a : Nat) (f : Axis → Axis) : (d.onAxis a f).tru = d.tru := rfl
@[simp] theorem Dev.onAxis_boot (d : Dev) (a : Nat) (f : Axis → Axis) : (d.onAxis a f).boot = d.boot := rfl
@[simp] theorem Dev.onAxis_power (d : Dev) (a : Nat) (f : Axis → Axis) : (d.onAxis a f).power = d.power := rfl
@[simp] theorem Dev.onAxis_tap (d : Dev) (a : Nat) (f : Axis → Axis) : (d.onAxis a f).tap = d.tap := rfl
@[simp] theorem Dev.onAxis_plates (d : Dev) (a : Nat) (f : Axis → Axis) : (d.onAxis a f).plates = d.plates := rfl
@[simp] theorem Dev.onAxis_image (d : Dev) (a : Nat) (f : Axis → Axis) : (d.onAxis a f).image = d.image := rfl
@[simp] theorem Dev.onAxis_flash (d : Dev) (a : Nat) (f : Axis → Axis) : (d.onAxis a f).flash = d.flash := rfl
@[simp] theorem Dev.onAxis_hostMem (d : Dev) (a : Nat) (f : Axis → Axis) : (d.onAxis a f).hostMem = d.hostMem := rfl
@[simp] theorem Dev.onAxis_snap (d : Dev) (a : Nat) (f : Axis → Axis) : (d.onAxis a f).snap = d.snap := rfl

@[simp] theorem Dev.onAxis_motion_steppers (d : Dev) (a : Nat) (f : Axis → Axis) : (d.onAxis a f).motion.steppers = d.motion.steppers := rfl
@[simp] theorem Dev.onAxis_motion_orrs (d : Dev) (a : Nat) (f : Axis → Axis) : (d.onAxis a f).motion.orrs = d.motion.orrs := rfl
@[simp] theorem Dev.onAxis_motion_cams (d : Dev) (a : Nat) (f : Axis → Axis) : (d.onAxis a f).motion.cams = d.motion.cams := rfl
@[simp] theorem Dev.onAxis_motion_regs (d : Dev) (a : Nat) (f : Axis → Axis) : (d.onAxis a f).motion.regs = d.motion.regs := rfl
@[simp] theorem Dev.onAxis_motion_regPre (d : Dev) (a : Nat) (f : Axis → Axis) : (d.onAxis a f).motion.regPre = d.motion.regPre := rfl
@[simp] theorem Dev.onAxis_motion_eph (d : Dev) (a : Nat) (f : Axis → Axis) : (d.onAxis a f).motion.eph = d.motion.eph := rfl

/-! ## A stepper axis changed -/

@[simp] theorem Dev.onStepper_ctl (d : Dev) (a : Nat) (f : Stepper → Stepper) : (d.onStepper a f).ctl = d.ctl := rfl
@[simp] theorem Dev.onStepper_engines (d : Dev) (a : Nat) (f : Stepper → Stepper) : (d.onStepper a f).engines = d.engines := rfl
@[simp] theorem Dev.onStepper_pace (d : Dev) (a : Nat) (f : Stepper → Stepper) : (d.onStepper a f).pace = d.pace := rfl
@[simp] theorem Dev.onStepper_ring (d : Dev) (a : Nat) (f : Stepper → Stepper) : (d.onStepper a f).ring = d.ring := rfl
@[simp] theorem Dev.onStepper_tu (d : Dev) (a : Nat) (f : Stepper → Stepper) : (d.onStepper a f).tu = d.tu := rfl
@[simp] theorem Dev.onStepper_host (d : Dev) (a : Nat) (f : Stepper → Stepper) : (d.onStepper a f).host = d.host := rfl
@[simp] theorem Dev.onStepper_chr (d : Dev) (a : Nat) (f : Stepper → Stepper) : (d.onStepper a f).chr = d.chr := rfl
@[simp] theorem Dev.onStepper_router (d : Dev) (a : Nat) (f : Stepper → Stepper) : (d.onStepper a f).router = d.router := rfl
@[simp] theorem Dev.onStepper_log (d : Dev) (a : Nat) (f : Stepper → Stepper) : (d.onStepper a f).log = d.log := rfl
@[simp] theorem Dev.onStepper_si (d : Dev) (a : Nat) (f : Stepper → Stepper) : (d.onStepper a f).si = d.si := rfl
@[simp] theorem Dev.onStepper_tru (d : Dev) (a : Nat) (f : Stepper → Stepper) : (d.onStepper a f).tru = d.tru := rfl
@[simp] theorem Dev.onStepper_boot (d : Dev) (a : Nat) (f : Stepper → Stepper) : (d.onStepper a f).boot = d.boot := rfl
@[simp] theorem Dev.onStepper_power (d : Dev) (a : Nat) (f : Stepper → Stepper) : (d.onStepper a f).power = d.power := rfl
@[simp] theorem Dev.onStepper_tap (d : Dev) (a : Nat) (f : Stepper → Stepper) : (d.onStepper a f).tap = d.tap := rfl
@[simp] theorem Dev.onStepper_plates (d : Dev) (a : Nat) (f : Stepper → Stepper) : (d.onStepper a f).plates = d.plates := rfl
@[simp] theorem Dev.onStepper_image (d : Dev) (a : Nat) (f : Stepper → Stepper) : (d.onStepper a f).image = d.image := rfl
@[simp] theorem Dev.onStepper_flash (d : Dev) (a : Nat) (f : Stepper → Stepper) : (d.onStepper a f).flash = d.flash := rfl
@[simp] theorem Dev.onStepper_hostMem (d : Dev) (a : Nat) (f : Stepper → Stepper) : (d.onStepper a f).hostMem = d.hostMem := rfl
@[simp] theorem Dev.onStepper_snap (d : Dev) (a : Nat) (f : Stepper → Stepper) : (d.onStepper a f).snap = d.snap := rfl

@[simp] theorem Dev.onStepper_motion_axes (d : Dev) (a : Nat) (f : Stepper → Stepper) : (d.onStepper a f).motion.axes = d.motion.axes := rfl
@[simp] theorem Dev.onStepper_motion_orrs (d : Dev) (a : Nat) (f : Stepper → Stepper) : (d.onStepper a f).motion.orrs = d.motion.orrs := rfl
@[simp] theorem Dev.onStepper_motion_cams (d : Dev) (a : Nat) (f : Stepper → Stepper) : (d.onStepper a f).motion.cams = d.motion.cams := rfl
@[simp] theorem Dev.onStepper_motion_regs (d : Dev) (a : Nat) (f : Stepper → Stepper) : (d.onStepper a f).motion.regs = d.motion.regs := rfl
@[simp] theorem Dev.onStepper_motion_regPre (d : Dev) (a : Nat) (f : Stepper → Stepper) : (d.onStepper a f).motion.regPre = d.motion.regPre := rfl
@[simp] theorem Dev.onStepper_motion_eph (d : Dev) (a : Nat) (f : Stepper → Stepper) : (d.onStepper a f).motion.eph = d.motion.eph := rfl

/-! ## An Orrery changed -/

@[simp] theorem Dev.onOrr_ctl (d : Dev) (i : Nat) (f : Orrery → Orrery) : (d.onOrr i f).ctl = d.ctl := rfl
@[simp] theorem Dev.onOrr_engines (d : Dev) (i : Nat) (f : Orrery → Orrery) : (d.onOrr i f).engines = d.engines := rfl
@[simp] theorem Dev.onOrr_pace (d : Dev) (i : Nat) (f : Orrery → Orrery) : (d.onOrr i f).pace = d.pace := rfl
@[simp] theorem Dev.onOrr_ring (d : Dev) (i : Nat) (f : Orrery → Orrery) : (d.onOrr i f).ring = d.ring := rfl
@[simp] theorem Dev.onOrr_tu (d : Dev) (i : Nat) (f : Orrery → Orrery) : (d.onOrr i f).tu = d.tu := rfl
@[simp] theorem Dev.onOrr_host (d : Dev) (i : Nat) (f : Orrery → Orrery) : (d.onOrr i f).host = d.host := rfl
@[simp] theorem Dev.onOrr_chr (d : Dev) (i : Nat) (f : Orrery → Orrery) : (d.onOrr i f).chr = d.chr := rfl
@[simp] theorem Dev.onOrr_router (d : Dev) (i : Nat) (f : Orrery → Orrery) : (d.onOrr i f).router = d.router := rfl
@[simp] theorem Dev.onOrr_log (d : Dev) (i : Nat) (f : Orrery → Orrery) : (d.onOrr i f).log = d.log := rfl
@[simp] theorem Dev.onOrr_si (d : Dev) (i : Nat) (f : Orrery → Orrery) : (d.onOrr i f).si = d.si := rfl
@[simp] theorem Dev.onOrr_tru (d : Dev) (i : Nat) (f : Orrery → Orrery) : (d.onOrr i f).tru = d.tru := rfl
@[simp] theorem Dev.onOrr_boot (d : Dev) (i : Nat) (f : Orrery → Orrery) : (d.onOrr i f).boot = d.boot := rfl
@[simp] theorem Dev.onOrr_power (d : Dev) (i : Nat) (f : Orrery → Orrery) : (d.onOrr i f).power = d.power := rfl
@[simp] theorem Dev.onOrr_tap (d : Dev) (i : Nat) (f : Orrery → Orrery) : (d.onOrr i f).tap = d.tap := rfl
@[simp] theorem Dev.onOrr_plates (d : Dev) (i : Nat) (f : Orrery → Orrery) : (d.onOrr i f).plates = d.plates := rfl
@[simp] theorem Dev.onOrr_image (d : Dev) (i : Nat) (f : Orrery → Orrery) : (d.onOrr i f).image = d.image := rfl
@[simp] theorem Dev.onOrr_flash (d : Dev) (i : Nat) (f : Orrery → Orrery) : (d.onOrr i f).flash = d.flash := rfl
@[simp] theorem Dev.onOrr_hostMem (d : Dev) (i : Nat) (f : Orrery → Orrery) : (d.onOrr i f).hostMem = d.hostMem := rfl
@[simp] theorem Dev.onOrr_snap (d : Dev) (i : Nat) (f : Orrery → Orrery) : (d.onOrr i f).snap = d.snap := rfl

@[simp] theorem Dev.onOrr_motion_axes (d : Dev) (i : Nat) (f : Orrery → Orrery) : (d.onOrr i f).motion.axes = d.motion.axes := rfl
@[simp] theorem Dev.onOrr_motion_steppers (d : Dev) (i : Nat) (f : Orrery → Orrery) : (d.onOrr i f).motion.steppers = d.motion.steppers := rfl
@[simp] theorem Dev.onOrr_motion_cams (d : Dev) (i : Nat) (f : Orrery → Orrery) : (d.onOrr i f).motion.cams = d.motion.cams := rfl
@[simp] theorem Dev.onOrr_motion_regs (d : Dev) (i : Nat) (f : Orrery → Orrery) : (d.onOrr i f).motion.regs = d.motion.regs := rfl
@[simp] theorem Dev.onOrr_motion_regPre (d : Dev) (i : Nat) (f : Orrery → Orrery) : (d.onOrr i f).motion.regPre = d.motion.regPre := rfl
@[simp] theorem Dev.onOrr_motion_eph (d : Dev) (i : Nat) (f : Orrery → Orrery) : (d.onOrr i f).motion.eph = d.motion.eph := rfl

/-! ## A segment changed -/

@[simp] theorem Dev.onSeg_ctl (d : Dev) (i : Nat) (f : Segment → Segment) : (d.onSeg i f).ctl = d.ctl := rfl
@[simp] theorem Dev.onSeg_motion (d : Dev) (i : Nat) (f : Segment → Segment) : (d.onSeg i f).motion = d.motion := rfl
@[simp] theorem Dev.onSeg_engines (d : Dev) (i : Nat) (f : Segment → Segment) : (d.onSeg i f).engines = d.engines := rfl
@[simp] theorem Dev.onSeg_pace (d : Dev) (i : Nat) (f : Segment → Segment) : (d.onSeg i f).pace = d.pace := rfl
@[simp] theorem Dev.onSeg_tu (d : Dev) (i : Nat) (f : Segment → Segment) : (d.onSeg i f).tu = d.tu := rfl
@[simp] theorem Dev.onSeg_host (d : Dev) (i : Nat) (f : Segment → Segment) : (d.onSeg i f).host = d.host := rfl
@[simp] theorem Dev.onSeg_chr (d : Dev) (i : Nat) (f : Segment → Segment) : (d.onSeg i f).chr = d.chr := rfl
@[simp] theorem Dev.onSeg_router (d : Dev) (i : Nat) (f : Segment → Segment) : (d.onSeg i f).router = d.router := rfl
@[simp] theorem Dev.onSeg_log (d : Dev) (i : Nat) (f : Segment → Segment) : (d.onSeg i f).log = d.log := rfl
@[simp] theorem Dev.onSeg_si (d : Dev) (i : Nat) (f : Segment → Segment) : (d.onSeg i f).si = d.si := rfl
@[simp] theorem Dev.onSeg_tru (d : Dev) (i : Nat) (f : Segment → Segment) : (d.onSeg i f).tru = d.tru := rfl
@[simp] theorem Dev.onSeg_boot (d : Dev) (i : Nat) (f : Segment → Segment) : (d.onSeg i f).boot = d.boot := rfl
@[simp] theorem Dev.onSeg_power (d : Dev) (i : Nat) (f : Segment → Segment) : (d.onSeg i f).power = d.power := rfl
@[simp] theorem Dev.onSeg_tap (d : Dev) (i : Nat) (f : Segment → Segment) : (d.onSeg i f).tap = d.tap := rfl
@[simp] theorem Dev.onSeg_plates (d : Dev) (i : Nat) (f : Segment → Segment) : (d.onSeg i f).plates = d.plates := rfl
@[simp] theorem Dev.onSeg_image (d : Dev) (i : Nat) (f : Segment → Segment) : (d.onSeg i f).image = d.image := rfl
@[simp] theorem Dev.onSeg_flash (d : Dev) (i : Nat) (f : Segment → Segment) : (d.onSeg i f).flash = d.flash := rfl
@[simp] theorem Dev.onSeg_hostMem (d : Dev) (i : Nat) (f : Segment → Segment) : (d.onSeg i f).hostMem = d.hostMem := rfl
@[simp] theorem Dev.onSeg_snap (d : Dev) (i : Nat) (f : Segment → Segment) : (d.onSeg i f).snap = d.snap := rfl

@[simp] theorem Dev.onSeg_ring_map (d : Dev) (i : Nat) (f : Segment → Segment) : (d.onSeg i f).ring.map = d.ring.map := rfl
@[simp] theorem Dev.onSeg_ring_mapPending (d : Dev) (i : Nat) (f : Segment → Segment) : (d.onSeg i f).ring.mapPending = d.ring.mapPending := rfl
@[simp] theorem Dev.onSeg_ring_stats (d : Dev) (i : Nat) (f : Segment → Segment) : (d.onSeg i f).ring.stats = d.ring.stats := rfl
@[simp] theorem Dev.onSeg_ring_slots (d : Dev) (i : Nat) (f : Segment → Segment) : (d.onSeg i f).ring.slots = d.ring.slots := rfl
@[simp] theorem Dev.onSeg_ring_corrs (d : Dev) (i : Nat) (f : Segment → Segment) : (d.onSeg i f).ring.corrs = d.ring.corrs := rfl
@[simp] theorem Dev.onSeg_ring_role (d : Dev) (i : Nat) (f : Segment → Segment) : (d.onSeg i f).ring.role = d.ring.role := rfl
@[simp] theorem Dev.onSeg_ring_claimRound (d : Dev) (i : Nat) (f : Segment → Segment) : (d.onSeg i f).ring.claimRound = d.ring.claimRound := rfl
@[simp] theorem Dev.onSeg_ring_lowerKey (d : Dev) (i : Nat) (f : Segment → Segment) : (d.onSeg i f).ring.lowerKey = d.ring.lowerKey := rfl
@[simp] theorem Dev.onSeg_ring_serial (d : Dev) (i : Nat) (f : Segment → Segment) : (d.onSeg i f).ring.serial = d.ring.serial := rfl
@[simp] theorem Dev.onSeg_ring_highCycle (d : Dev) (i : Nat) (f : Segment → Segment) : (d.onSeg i f).ring.highCycle = d.ring.highCycle := rfl
@[simp] theorem Dev.onSeg_ring_standbyPresent (d : Dev) (i : Nat) (f : Segment → Segment) : (d.onSeg i f).ring.standbyPresent = d.ring.standbyPresent := rfl
@[simp] theorem Dev.onSeg_ring_takeoverLeft (d : Dev) (i : Nat) (f : Segment → Segment) : (d.onSeg i f).ring.takeoverLeft = d.ring.takeoverLeft := rfl
@[simp] theorem Dev.onSeg_ring_twin (d : Dev) (i : Nat) (f : Segment → Segment) : (d.onSeg i f).ring.twin = d.ring.twin := rfl
@[simp] theorem Dev.onSeg_ring_imageGen (d : Dev) (i : Nat) (f : Segment → Segment) : (d.onSeg i f).ring.imageGen = d.ring.imageGen := rfl
@[simp] theorem Dev.onSeg_ring_refOfs (d : Dev) (i : Nat) (f : Segment → Segment) : (d.onSeg i f).ring.refOfs = d.ring.refOfs := rfl
@[simp] theorem Dev.onSeg_ring_refDone (d : Dev) (i : Nat) (f : Segment → Segment) : (d.onSeg i f).ring.refDone = d.ring.refDone := rfl
@[simp] theorem Dev.onSeg_ring_digestNext (d : Dev) (i : Nat) (f : Segment → Segment) : (d.onSeg i f).ring.digestNext = d.ring.digestNext := rfl
@[simp] theorem Dev.onSeg_ring_digestOk (d : Dev) (i : Nat) (f : Segment → Segment) : (d.onSeg i f).ring.digestOk = d.ring.digestOk := rfl
@[simp] theorem Dev.onSeg_ring_twinMiss (d : Dev) (i : Nat) (f : Segment → Segment) : (d.onSeg i f).ring.twinMiss = d.ring.twinMiss := rfl
@[simp] theorem Dev.onSeg_ring_twinMissCnt (d : Dev) (i : Nat) (f : Segment → Segment) : (d.onSeg i f).ring.twinMissCnt = d.ring.twinMissCnt := rfl
@[simp] theorem Dev.onSeg_ring_twinSeen (d : Dev) (i : Nat) (f : Segment → Segment) : (d.onSeg i f).ring.twinSeen = d.ring.twinSeen := rfl
@[simp] theorem Dev.onSeg_ring_silent (d : Dev) (i : Nat) (f : Segment → Segment) : (d.onSeg i f).ring.silent = d.ring.silent := rfl
@[simp] theorem Dev.onSeg_ring_aliveSeen (d : Dev) (i : Nat) (f : Segment → Segment) : (d.onSeg i f).ring.aliveSeen = d.ring.aliveSeen := rfl
@[simp] theorem Dev.onSeg_ring_frameSeen (d : Dev) (i : Nat) (f : Segment → Segment) : (d.onSeg i f).ring.frameSeen = d.ring.frameSeen := rfl
@[simp] theorem Dev.onSeg_ring_takeoverCnt (d : Dev) (i : Nat) (f : Segment → Segment) : (d.onSeg i f).ring.takeoverCnt = d.ring.takeoverCnt := rfl
@[simp] theorem Dev.onSeg_ring_tookOver (d : Dev) (i : Nat) (f : Segment → Segment) : (d.onSeg i f).ring.tookOver = d.ring.tookOver := rfl
@[simp] theorem Dev.onSeg_ring_freshLead (d : Dev) (i : Nat) (f : Segment → Segment) : (d.onSeg i f).ring.freshLead = d.ring.freshLead := rfl
@[simp] theorem Dev.onSeg_ring_leaderCycle (d : Dev) (i : Nat) (f : Segment → Segment) : (d.onSeg i f).ring.leaderCycle = d.ring.leaderCycle := rfl
@[simp] theorem Dev.onSeg_ring_deposed (d : Dev) (i : Nat) (f : Segment → Segment) : (d.onSeg i f).ring.deposed = d.ring.deposed := rfl
@[simp] theorem Dev.onSeg_ring_aliveSent (d : Dev) (i : Nat) (f : Segment → Segment) : (d.onSeg i f).ring.aliveSent = d.ring.aliveSent := rfl

/-! ## The host interface changed -/

@[simp] theorem Dev.onHost_ctl (d : Dev) (f : Hif → Hif) : (d.onHost f).ctl = d.ctl := rfl
@[simp] theorem Dev.onHost_motion (d : Dev) (f : Hif → Hif) : (d.onHost f).motion = d.motion := rfl
@[simp] theorem Dev.onHost_engines (d : Dev) (f : Hif → Hif) : (d.onHost f).engines = d.engines := rfl
@[simp] theorem Dev.onHost_pace (d : Dev) (f : Hif → Hif) : (d.onHost f).pace = d.pace := rfl
@[simp] theorem Dev.onHost_ring (d : Dev) (f : Hif → Hif) : (d.onHost f).ring = d.ring := rfl
@[simp] theorem Dev.onHost_tu (d : Dev) (f : Hif → Hif) : (d.onHost f).tu = d.tu := rfl
@[simp] theorem Dev.onHost_chr (d : Dev) (f : Hif → Hif) : (d.onHost f).chr = d.chr := rfl
@[simp] theorem Dev.onHost_router (d : Dev) (f : Hif → Hif) : (d.onHost f).router = d.router := rfl
@[simp] theorem Dev.onHost_log (d : Dev) (f : Hif → Hif) : (d.onHost f).log = d.log := rfl
@[simp] theorem Dev.onHost_si (d : Dev) (f : Hif → Hif) : (d.onHost f).si = d.si := rfl
@[simp] theorem Dev.onHost_tru (d : Dev) (f : Hif → Hif) : (d.onHost f).tru = d.tru := rfl
@[simp] theorem Dev.onHost_boot (d : Dev) (f : Hif → Hif) : (d.onHost f).boot = d.boot := rfl
@[simp] theorem Dev.onHost_power (d : Dev) (f : Hif → Hif) : (d.onHost f).power = d.power := rfl
@[simp] theorem Dev.onHost_tap (d : Dev) (f : Hif → Hif) : (d.onHost f).tap = d.tap := rfl
@[simp] theorem Dev.onHost_plates (d : Dev) (f : Hif → Hif) : (d.onHost f).plates = d.plates := rfl
@[simp] theorem Dev.onHost_image (d : Dev) (f : Hif → Hif) : (d.onHost f).image = d.image := rfl
@[simp] theorem Dev.onHost_flash (d : Dev) (f : Hif → Hif) : (d.onHost f).flash = d.flash := rfl
@[simp] theorem Dev.onHost_hostMem (d : Dev) (f : Hif → Hif) : (d.onHost f).hostMem = d.hostMem := rfl
@[simp] theorem Dev.onHost_snap (d : Dev) (f : Hif → Hif) : (d.onHost f).snap = d.snap := rfl

/-! ## A queue pair changed -/

@[simp] theorem Hif.onPair_mgtReady (h : Hif) (i : Nat) (f : Pair → Pair) : (h.onPair i f).mgtReady = h.mgtReady := rfl
@[simp] theorem Hif.onPair_mgtRestart (h : Hif) (i : Nat) (f : Pair → Pair) : (h.onPair i f).mgtRestart = h.mgtRestart := rfl
@[simp] theorem Hif.onPair_accessErr (h : Hif) (i : Nat) (f : Pair → Pair) : (h.onPair i f).accessErr = h.accessErr := rfl
@[simp] theorem Hif.onPair_ownerLost (h : Hif) (i : Nat) (f : Pair → Pair) : (h.onPair i f).ownerLost = h.ownerLost := rfl
@[simp] theorem Hif.onPair_recovery (h : Hif) (i : Nat) (f : Pair → Pair) : (h.onPair i f).recovery = h.recovery := rfl
@[simp] theorem Hif.onPair_owned (h : Hif) (i : Nat) (f : Pair → Pair) : (h.onPair i f).owned = h.owned := rfl
@[simp] theorem Hif.onPair_token (h : Hif) (i : Nat) (f : Pair → Pair) : (h.onPair i f).token = h.token := rfl
@[simp] theorem Hif.onPair_tokens (h : Hif) (i : Nat) (f : Pair → Pair) : (h.onPair i f).tokens = h.tokens := rfl
@[simp] theorem Hif.onPair_lease (h : Hif) (i : Nat) (f : Pair → Pair) : (h.onPair i f).lease = h.lease := rfl
@[simp] theorem Hif.onPair_epoch (h : Hif) (i : Nat) (f : Pair → Pair) : (h.onPair i f).epoch = h.epoch := rfl
@[simp] theorem Hif.onPair_nonce (h : Hif) (i : Nat) (f : Pair → Pair) : (h.onPair i f).nonce = h.nonce := rfl
@[simp] theorem Hif.onPair_lastCause (h : Hif) (i : Nat) (f : Pair → Pair) : (h.onPair i f).lastCause = h.lastCause := rfl
@[simp] theorem Hif.onPair_lossAction (h : Hif) (i : Nat) (f : Pair → Pair) : (h.onPair i f).lossAction = h.lossAction := rfl
@[simp] theorem Hif.onPair_eventPair (h : Hif) (i : Nat) (f : Pair → Pair) : (h.onPair i f).eventPair = h.eventPair := rfl
@[simp] theorem Hif.onPair_plateIrq (h : Hif) (i : Nat) (f : Pair → Pair) : (h.onPair i f).plateIrq = h.plateIrq := rfl
@[simp] theorem Hif.onPair_plateIrqCnt (h : Hif) (i : Nat) (f : Pair → Pair) : (h.onPair i f).plateIrqCnt = h.plateIrqCnt := rfl
@[simp] theorem Hif.onPair_latchLatest (h : Hif) (i : Nat) (f : Pair → Pair) : (h.onPair i f).latchLatest = h.latchLatest := rfl
@[simp] theorem Hif.onPair_plateCycle (h : Hif) (i : Nat) (f : Pair → Pair) : (h.onPair i f).plateCycle = h.plateCycle := rfl
@[simp] theorem Hif.onPair_pinCycle (h : Hif) (i : Nat) (f : Pair → Pair) : (h.onPair i f).pinCycle = h.pinCycle := rfl
@[simp] theorem Hif.onPair_pinOutcome (h : Hif) (i : Nat) (f : Pair → Pair) : (h.onPair i f).pinOutcome = h.pinOutcome := rfl
@[simp] theorem Hif.onPair_pin (h : Hif) (i : Nat) (f : Pair → Pair) : (h.onPair i f).pin = h.pin := rfl
@[simp] theorem Hif.onPair_halfRead (h : Hif) (i : Nat) (f : Pair → Pair) : (h.onPair i f).halfRead = h.halfRead := rfl
@[simp] theorem Hif.onPair_halfWrite (h : Hif) (i : Nat) (f : Pair → Pair) : (h.onPair i f).halfWrite = h.halfWrite := rfl
@[simp] theorem Hif.onPair_lastRead (h : Hif) (i : Nat) (f : Pair → Pair) : (h.onPair i f).lastRead = h.lastRead := rfl
@[simp] theorem Hif.onPair_msix (h : Hif) (i : Nat) (f : Pair → Pair) : (h.onPair i f).msix = h.msix := rfl
@[simp] theorem Hif.onPair_pba (h : Hif) (i : Nat) (f : Pair → Pair) : (h.onPair i f).pba = h.pba := rfl
@[simp] theorem Hif.onPair_raised (h : Hif) (i : Nat) (f : Pair → Pair) : (h.onPair i f).raised = h.raised := rfl
@[simp] theorem Hif.onPair_linkUp (h : Hif) (i : Nat) (f : Pair → Pair) : (h.onPair i f).linkUp = h.linkUp := rfl
@[simp] theorem Hif.onPair_streams (h : Hif) (i : Nat) (f : Pair → Pair) : (h.onPair i f).streams = h.streams := rfl
@[simp] theorem Hif.onPair_bulks (h : Hif) (i : Nat) (f : Pair → Pair) : (h.onPair i f).bulks = h.bulks := rfl
@[simp] theorem Hif.onPair_fetched (h : Hif) (i : Nat) (f : Pair → Pair) : (h.onPair i f).fetched = h.fetched := rfl
@[simp] theorem Hif.onPair_staged (h : Hif) (i : Nat) (f : Pair → Pair) : (h.onPair i f).staged = h.staged := rfl
@[simp] theorem Hif.onPair_batches (h : Hif) (i : Nat) (f : Pair → Pair) : (h.onPair i f).batches = h.batches := rfl
@[simp] theorem Hif.onPair_openOps (h : Hif) (i : Nat) (f : Pair → Pair) : (h.onPair i f).openOps = h.openOps := rfl
@[simp] theorem Hif.onPair_nonceLog (h : Hif) (i : Nat) (f : Pair → Pair) : (h.onPair i f).nonceLog = h.nonceLog := rfl
@[simp] theorem Hif.onPair_nonceSafe (h : Hif) (i : Nat) (f : Pair → Pair) : (h.onPair i f).nonceSafe = h.nonceSafe := rfl
@[simp] theorem Hif.onPair_lossStop (h : Hif) (i : Nat) (f : Pair → Pair) : (h.onPair i f).lossStop = h.lossStop := rfl
@[simp] theorem Hif.onPair_leaseFrom (h : Hif) (i : Nat) (f : Pair → Pair) : (h.onPair i f).leaseFrom = h.leaseFrom := rfl
@[simp] theorem Hif.onPair_ownerLossCnt (h : Hif) (i : Nat) (f : Pair → Pair) : (h.onPair i f).ownerLossCnt = h.ownerLossCnt := rfl
@[simp] theorem Hif.onPair_eventsDropped (h : Hif) (i : Nat) (f : Pair → Pair) : (h.onPair i f).eventsDropped = h.eventsDropped := rfl
@[simp] theorem Hif.onPair_streamSkip (h : Hif) (i : Nat) (f : Pair → Pair) : (h.onPair i f).streamSkip = h.streamSkip := rfl
@[simp] theorem Hif.onPair_pinExpired (h : Hif) (i : Nat) (f : Pair → Pair) : (h.onPair i f).pinExpired = h.pinExpired := rfl
@[simp] theorem Hif.onPair_batchesFailed (h : Hif) (i : Nat) (f : Pair → Pair) : (h.onPair i f).batchesFailed = h.batchesFailed := rfl
@[simp] theorem Hif.onPair_rr (h : Hif) (i : Nat) (f : Pair → Pair) : (h.onPair i f).rr = h.rr := rfl
@[simp] theorem Hif.onPair_poisoned (h : Hif) (i : Nat) (f : Pair → Pair) : (h.onPair i f).poisoned = h.poisoned := rfl
@[simp] theorem Hif.onPair_passed (h : Hif) (i : Nat) (f : Pair → Pair) : (h.onPair i f).passed = h.passed := rfl

/-! ## A free value taken -/

@[simp] theorem Dev.took_motion (d : Dev)  : (d.took ).motion = d.motion := rfl
@[simp] theorem Dev.took_engines (d : Dev)  : (d.took ).engines = d.engines := rfl
@[simp] theorem Dev.took_pace (d : Dev)  : (d.took ).pace = d.pace := rfl
@[simp] theorem Dev.took_ring (d : Dev)  : (d.took ).ring = d.ring := rfl
@[simp] theorem Dev.took_tu (d : Dev)  : (d.took ).tu = d.tu := rfl
@[simp] theorem Dev.took_host (d : Dev)  : (d.took ).host = d.host := rfl
@[simp] theorem Dev.took_chr (d : Dev)  : (d.took ).chr = d.chr := rfl
@[simp] theorem Dev.took_router (d : Dev)  : (d.took ).router = d.router := rfl
@[simp] theorem Dev.took_log (d : Dev)  : (d.took ).log = d.log := rfl
@[simp] theorem Dev.took_si (d : Dev)  : (d.took ).si = d.si := rfl
@[simp] theorem Dev.took_tru (d : Dev)  : (d.took ).tru = d.tru := rfl
@[simp] theorem Dev.took_boot (d : Dev)  : (d.took ).boot = d.boot := rfl
@[simp] theorem Dev.took_power (d : Dev)  : (d.took ).power = d.power := rfl
@[simp] theorem Dev.took_tap (d : Dev)  : (d.took ).tap = d.tap := rfl
@[simp] theorem Dev.took_plates (d : Dev)  : (d.took ).plates = d.plates := rfl
@[simp] theorem Dev.took_image (d : Dev)  : (d.took ).image = d.image := rfl
@[simp] theorem Dev.took_flash (d : Dev)  : (d.took ).flash = d.flash := rfl
@[simp] theorem Dev.took_hostMem (d : Dev)  : (d.took ).hostMem = d.hostMem := rfl
@[simp] theorem Dev.took_snap (d : Dev)  : (d.took ).snap = d.snap := rfl

/-! ## What is changed -/

/-- An entry of a list after one of them was changed. -/
theorem getD_modify {α : Type} (l : List α) (i j : Nat) (f : α → α) (x : α) : (l.modify i f).getD j x = if i = j ∧ j < l.length then f (l.getD j x) else l.getD j x := by
  simp only [List.getD_eq_getElem?_getD, List.getElem?_modify]
  by_cases hl : j < l.length
  · by_cases h : i = j <;> simp [h, hl]
  · rw [List.getElem?_eq_none (by omega)]
    by_cases h : i = j <;> simp [h, hl]

theorem Dev.engine_onEngine (d : Dev) (e i : Nat) (f : Engine → Engine) : (d.onEngine e f).engine i = if e = i ∧ i < d.engines.length then f (d.engine i) else d.engine i :=
  getD_modify d.engines e i f {}

theorem Dev.axis?_onAxis (d : Dev) (a b : Nat) (f : Axis → Axis) : (d.onAxis a f).axis? b = if b = a then (d.axis? b).map f else d.axis? b := Tab.find_upd d.motion.axes a b f

theorem Dev.stepper?_onStepper (d : Dev) (a b : Nat) (f : Stepper → Stepper) : (d.onStepper a f).stepper? b = if b = a then (d.stepper? b).map f else d.stepper? b :=
  Tab.find_upd d.motion.steppers a b f

theorem Dev.orr_onOrr_same (d : Dev) (i : Nat) (f : Orrery → Orrery) : (d.onOrr i f).orr i = f (d.orr i) := by
  simp only [Dev.orr, Dev.onOrr, Tab.getD, Tab.find_set_same, Option.getD_some]

theorem Dev.orr_onOrr_ne (d : Dev) {i j : Nat} (f : Orrery → Orrery) (h : j ≠ i) : (d.onOrr i f).orr j = d.orr j := by
  simp only [Dev.orr, Dev.onOrr, Tab.getD, Tab.find_set_ne d.motion.orrs _ h]

theorem Ring.seg_onSeg (r : Ring) (i j : Nat) (f : Segment → Segment) : (r.onSeg i f).seg j = if i = j ∧ j < r.segs.length then f (r.seg j) else r.seg j := getD_modify r.segs i j f {}

theorem Hif.pair_onPair (h : Hif) (i j : Nat) (f : Pair → Pair) : (h.onPair i f).pair j = if i = j ∧ j < h.pairs.length then f (h.pair j) else h.pair j := getD_modify h.pairs i j f {}

theorem Segment.node_onNode_same (s : Segment) (p : Nat) (f : Node → Node) : (s.onNode p f).node p = f (s.node p) := by
  simp only [Segment.node, Segment.onNode, Tab.getD, Tab.find_set_same, Option.getD_some]

theorem Segment.node_onNode_ne (s : Segment) {p q : Nat} (f : Node → Node) (h : q ≠ p) : (s.onNode p f).node q = s.node q := by
  simp only [Segment.node, Segment.onNode, Tab.getD, Tab.find_set_ne s.nodes _ h]

/-- The result in work is what a change of it makes of it. -/
@[simp] theorem Axis.now_onWork (ax : Axis) (f : Work → Work) : (ax.onWork f).now = f ax.now := by
  unfold Axis.onWork Axis.now
  split <;> simp [*]

/-! ## A command acts -/

/-- A command that acts answers a next state with the queue as it was; its device has the same core as the change asked for (R38). -/
theorem State.does_eq (s : State) (f : Dev → Dev) : s.does f = .next { s with dev := f s.dev } := rfl

theorem State.act_eq (s : State) (f : Dev → Dev) : s.act f = .next { s with dev := Dev.satCheck s.dev (f s.dev) } := rfl

end Sys2Proof.Machine
end

