-- ==== Sys2Proof/Laws/Exec.lean ====
section
/-! SUPPORT. What every command does, said once: it answers a next state whose queue is as it was (log 1). -/

namespace Sys2Proof.Machine

open Sys2Proof

/-- Every command answers a next state, in which only the device may differ. -/
theorem exec_next (c : Instr) (s : State) : ∃ d, exec c s = .next { s with dev := d } := by
  cases c <;> exact ⟨_, rfl⟩

/-- No command touches the queue of waiting commands. -/
theorem exec_pending {c : Instr} {s t : State} (h : exec c s = .next t) : t.pending = s.pending := by
  obtain ⟨d, hd⟩ := exec_next c s
  rw [hd] at h
  cases h
  rfl

/-- No command stops the machine. -/
theorem exec_not_refused (c : Instr) (s : State) (r : Refusal) : exec c s ≠ .refused r := by
  obtain ⟨d, hd⟩ := exec_next c s
  rw [hd]
  exact fun h => by cases h

/-- A command completes with `P` exactly where every next state that it answers has a device as `P` says. -/
theorem completes_iff (c : Instr) (s : State) (P : Dev → Prop) : Completes c s P ↔ ∀ t, exec c s = .next t → P t.dev := by
  obtain ⟨d, hd⟩ := exec_next c s
  constructor
  · rintro ⟨t, ht, -, hp⟩ t' ht'
    rw [ht] at ht'
    cases ht'
    exact hp
  · intro h
    exact ⟨_, hd, rfl, h _ hd⟩

/-- What completes with `P` completes with everything that `P` implies. -/
theorem Completes.imp {c : Instr} {s : State} {P Q : Dev → Prop} (h : Completes c s P) (hpq : ∀ d, P d → Q d) : Completes c s Q := by
  obtain ⟨t, ht, hp, hP⟩ := h
  exact ⟨t, ht, hp, hpq _ hP⟩

/-- Two statements of one completion hold together. -/
theorem Completes.and {c : Instr} {s : State} {P Q : Dev → Prop} (h : Completes c s P) (k : Completes c s Q) : Completes c s (fun d => P d ∧ Q d) := by
  obtain ⟨t, ht, hp, hP⟩ := h
  exact ⟨t, ht, hp, hP, (completes_iff c s Q).mp k t ht⟩

/-! ## Events leave the Plates alone -/

/-- Devices with one core have the same Plates, image, flash and host memory. -/
theorem Dev.core_memories {a b : Dev} (h : a.core = b.core) : a.plates = b.plates ∧ a.image = b.image ∧ a.flash = b.flash ∧ a.hostMem = b.hostMem := by
  unfold Dev.core at h
  simp only [Dev.mk.injEq] at h
  exact ⟨h.2.2.2.2.2.2.2.2.2.2.2.2.2.2.2.1, h.2.2.2.2.2.2.2.2.2.2.2.2.2.2.2.2.1, h.2.2.2.2.2.2.2.2.2.2.2.2.2.2.2.2.2.1, h.2.2.2.2.2.2.2.2.2.2.2.2.2.2.2.2.2.2.1⟩

@[simp] theorem Dev.plates_emit (d : Dev) (e : Ev) : (d.emit e).plates = d.plates := (Dev.core_memories (Dev.core_emit d e)).1

@[simp] theorem Dev.plates_emits (d : Dev) (es : List Ev) : (d.emits es).plates = d.plates := (Dev.core_memories (Dev.core_emits d es)).1

@[simp] theorem Dev.plates_satCheck (b d : Dev) : (Dev.satCheck b d).plates = d.plates := (Dev.core_memories (Dev.core_satCheck b d)).1

/-- Events keep the Plate buffers in order. -/
theorem Dev.PlatesOk.satCheck {b d : Dev} (h : d.PlatesOk) : (Dev.satCheck b d).PlatesOk := by
  unfold Dev.PlatesOk at *
  rw [Dev.plates_satCheck]
  exact h

end Sys2Proof.Machine
end

