-- ==== Sys2Proof/Laws/Replies.lean ====
section
/-! SUPPORT. What the completion of a host command does, said once: where its reply waits, and what it leaves alone (R380, R386, R391, R409). -/

namespace Sys2Proof.Machine

open Sys2Proof

/-- A pair in use is one of the device's pairs. -/
theorem Hif.pair_lt {h : Hif} {i : Nat} (ha : (h.pair i).active = true) : i < h.pairs.length := by
  rcases Nat.lt_or_ge i h.pairs.length with hl | hl
  · exact hl
  · have he : h.pair i = {} := by simp [Hif.pair, List.getD_eq_getElem?_getD, List.getElem?_eq_none hl]
    rw [he] at ha
    cases ha

/-- A handle that is released touches nothing but the bulk handles. -/
theorem Hif.releaseHandle_eq (h : Hif) (q : HostReq) (b : Bool) : h.releaseHandle q b = { h with bulks := (h.releaseHandle q b).bulks } := by
  unfold Hif.releaseHandle
  split <;> rfl

/-- Only a QUEUE_RESIZE ends the interval of R385 for the pair that it names. -/
theorem Hif.resized_of_ne (h : Hif) {op : Nat} (key : Nat) (ho : op ≠ 0x0006) : h.resized op key = h := by
  unfold Hif.resized
  rw [if_neg ho]

/-- Of the HIU's state a completion changes the queue pairs alone. -/
theorem Hif.complete_pairs (h : Hif) (q : HostReq) (res : Nat) (r : CmdRes) (done hold : Nat) (dup : Bool) :
    ∃ ps, h.complete q res r done hold dup = { h with pairs := ps } := by
  unfold Hif.complete Hif.resized
  dsimp only
  split
  · split <;> exact ⟨_, rfl⟩
  · exact ⟨_, rfl⟩

/-- The completion of a command changes the queue pairs and, of the rest, only the bulk handles. -/
theorem Dev.reply_past (d : Dev) (q : HostReq) (res : Nat) (r : CmdRes) (done hold : Nat) (dup : Bool) : (d.reply q res r done hold dup).Past d := by
  obtain ⟨ps, e⟩ := Hif.complete_pairs d.host q res r done hold dup
  unfold Dev.reply Dev.Past Dev.Is Hif.releaseHandle
  rw [e]
  split <;> rfl

/-- Other pairs keep what they hold, but for RESIZING of the pair that a QUEUE_RESIZE names (R385). -/
theorem Dev.reply_pair_ne (d : Dev) (q : HostReq) (res : Nat) (r : CmdRes) (done hold : Nat) (dup : Bool) {j : Nat} (h : j ≠ q.h.pair) (ho : q.op ≠ 0x0006) :
    ((d.reply q res r done hold dup).host.pair j) = d.host.pair j := by
  have e : (d.reply q res r done hold dup).host.pair j = (d.host.complete q res r done hold dup).pair j := by
    unfold Dev.reply
    rw [Hif.releaseHandle_eq]
    rfl
  rw [e]
  simp only [Hif.complete, Hif.resized_of_ne _ _ ho]
  split <;> rw [Hif.pair_onPair, if_neg (fun x => h x.1.symm)]

/-- A command that is not quiet, or that fails, has its reply waiting on its pair: the record of R380 with its status and bytes. -/
theorem Dev.reply_waits (d : Dev) (q : HostReq) (res : Nat) (r : CmdRes) (done hold : Nat) (dup : Bool) (ha : (d.host.pair q.h.pair).active = true)
    (hq : bit q.h.flags 1 = false ∨ r.status ≠ 0) :
    (d.reply q res r done hold dup).Answers q r.status ∧ (d.reply q res r done hold dup).Gives q r done := by
  have hi := Hif.pair_lt ha
  have hn : (bit q.h.flags 1 && decide (r.status = 0) && decide (r.note = 0) && !noteLater q.op) = false := by
    rcases hq with h | h <;> simp [h]
  have hp : ∃ o ∈ ((d.reply q res r done hold dup).host.pair q.h.pair).out, o.tag = q.h.tag ∧ o.op = q.op ∧ o.status = r.status ∧ o.bytes = replyBytes q.op q.h.tag r done := by
    have e : (d.reply q res r done hold dup).host.pair q.h.pair = (d.host.complete q res r done hold dup).pair q.h.pair := by
      unfold Dev.reply
      rw [Hif.releaseHandle_eq]
      rfl
    rw [e]
    simp only [Hif.complete, ha, hn, Bool.not_true, Bool.or_self, Bool.false_eq_true, if_false]
    rw [Hif.pair_onPair, if_pos ⟨rfl, hi⟩]
    exact ⟨_, List.mem_append_right _ (List.mem_singleton.mpr rfl), rfl, rfl, rfl, rfl⟩
  obtain ⟨o, ho, h1, h2, h3, h4⟩ := hp
  exact ⟨⟨o, ho, h1, h2, h3⟩, ⟨o, ho, h1, h4⟩⟩

end Sys2Proof.Machine
end

