-- ==== Sys2Proof/Tests/Witness.lean ====
section
/-! SUPPORT. Small devices and commands from which the tests build states that meet the premises of the statements. -/

namespace Sys2Proof

open Sys2Proof.Machine

/-! ## Devices -/

/-- The device of the witnesses: owned with token 1, its management core up, pair 0 enabled with streams and interrupts, pair 1 enabled. -/
def wDev : Dev :=
  { host := { owned := true, token := 1, linkUp := true, mgtReady := true, pairs := [{ active := true, qctrl := 0x4005 }, { active := true }] ++ List.replicate 30 {} } }

/-- With another host interface unit. -/
def wHost (f : Hif → Hif) : Dev := { wDev with host := f wDev.host }

/-- With other motion objects. -/
def wMot (m : Motion) : Dev := { wDev with motion := m }

/-- With one servo axis, number 0. -/
def wOn (f : Axis → Axis) : Dev := wMot { axes := [(0, f {})] }

/-- With one stepper axis, number 0. -/
def wStep (f : Stepper → Stepper) : Dev := wMot { steppers := [(0, f {})] }

/-- With one Orrery, number 0. -/
def wOrr (f : Orrery → Orrery) : Dev := wMot { orrs := [(0, f {})] }

/-- With another Ngudra unit. -/
def wRing (f : Ring → Ring) : Dev := { wDev with ring := f wDev.ring }

/-- With bulk handle 1 open. -/
def wBulk (data : Memory) (len : Nat) : Dev := wHost (fun h => { h with bulks := [(1, { len := len, data := data })] })

/-- With a Chronograph. -/
def wChr (f : Chr → Chr) : Dev := { wDev with chr := f {} }

/-- With a Safety Island. -/
def wSi (f : Si → Si) : Dev := { wDev with si := f {} }

/-- With a boot and update state. -/
def wBoot (f : BootSt → BootSt) : Dev := { wDev with boot := f {} }

/-- A servo axis in a state of Table 3.4. -/
def wState (x : Nat) (ax : Axis) : Axis := { ax with w := { ax.w with sup := { ax.w.sup with state := x } } }

/-- A state around a device. -/
def wIn (d : Dev) : State := { dev := d }

/-! ## Commands -/

/-- A payload from its fields, each by width in bytes and value. -/
def wPay (l : List (Nat × Nat)) : List Byte := (l.map (fun x => leBytes x.1 x.2)).flatten

/-- The same bytes as a memory from address 0. -/
def wData (l : List (Nat × Nat)) : Memory := Memory.writeList 0 [] 0 (wPay l)

/-- The header of a command on pair 0, immediate where `now` says so. -/
def wHead (kind index : Nat) (now : Bool := false) : CmdHead := { kind := kind, index := index, auth := 1, effective := if now then immediate else 0 }

/-- A command on pair 0. -/
def wReq (op kind index : Nat) (pay : List (Nat × Nat)) (now : Bool := false) : HostReq := { op := op, h := wHead kind index now, pay := wPay pay }

/-- An authorised command, on pair 1. -/
def wAuth (op kind index : Nat) (pay : List Byte) (now : Bool := false) : HostReq := { op := op, h := { wHead kind index now with pair := 1 }, pay := pay }

/-- A parameter list of one entry. -/
def wEnt (id v : Nat) : List (Nat × Nat) := [(2, 1), (6, 0), (2, id), (6, 0), (16, v)]

/-! ## Blocks and maps -/

/-- A Frame Map with an input and an output slot for servo axis 0 and for stepper axis 0, on segment 0. -/
def wMap : FrameMap :=
  { entries := [(0, { input := true, seg := 0, kind := 0, node := 1, forceCount := false, ofs := 64, len := 18, target := 0, holdMax := 1 }),
                (1, { input := false, seg := 0, kind := 0, node := 1, forceCount := false, ofs := 32, len := 8, target := 0, holdMax := 1 }),
                (2, { input := true, seg := 0, kind := 1, node := 2, forceCount := false, ofs := 84, len := 14, target := 0, holdMax := 1 }),
                (3, { input := false, seg := 0, kind := 1, node := 2, forceCount := false, ofs := 40, len := 8, target := 0, holdMax := 1 })] }

/-- One servo feedback entry as MAP_LOAD brings it: VALID, input, segment 0, node 1, 18 bytes at offset 64. -/
def wMapData : List (Nat × Nat) := [(2, 3), (1, 1), (1, 0), (2, 64), (2, 18), (4, 0), (1, 1), (3, 0)]

/-- The payload of MAP_LOAD: handle 1, one entry, and the descriptors. -/
def wMapPay : List (Nat × Nat) :=
  [(2, 1), (2, 1), (4, 0xF3F89F91), (2, 32), (2, 64), (2, 84), (2, 92), (2, 92), (2, 0), (1, 1), (3, 0)] ++ List.replicate 7 (16, 0)

/-- A Chronograph block of one channel and no conditions. -/
def wChrData : List (Nat × Nat) :=
  [(1, 1), (1, 0), (1, 0), (1, 0), (2, 1), (2, 0), (4, 1), (4, 65536), (4, 4), (4, 4), (4, 0), (4, 1), (4, 1), (1, 0), (3, 0), (4, 4096), (4, 1000), (16, 0),
   (4, 0), (4, 5), (2, 0xFFFF), (2, 0), (4, 0)] ++ List.replicate 4 (32, 0)

/-- The configuration of that block. -/
def wConf : ChrConf := chrParse (wPay wChrData)

/-- A Safety Island block without functions, connections or mappings. -/
def wSiData : List (Nat × Nat) := [(2, 1), (2, 0), (2, 0), (2, 0), (2, 10), (1, 0), (1, 0), (8, 0), (8, 0), (4, 0)] ++ List.replicate 16 (8, 0)

/-- A cam of sixteen points. -/
def wCam : CamSlot := { cur := { n := 16, span := 1048576, pages := 1 } }

/-- The bytes of a manifest that marks all four images valid. -/
def wManifest : List Byte := wPay ([(4, 0x464E4D52), (2, 1), (2, 0), (4, 0), (4, 0)] ++ (List.replicate 4 [(1, 1), (15, 0)]).flatten ++ [(172, 0), (4, 0xE45D985D)])

/-- Cells that hold the bytes `b` from address `a` on. -/
def wCells (a : Nat) (b : List Byte) : Memory := b.zipIdx.map (fun x => (a + x.2, x.1))

end Sys2Proof
end

