-- ==== Sys2Proof/Tests/Authority.lean ====
section
/-! SUPPORT. Witnesses of the statements on authorised commands and on images: signatures and responses that the checks accept. The signatures were computed outside the
model for the private key 1, with the nonce 2; so were the hashes and the checksums. -/

namespace Sys2Proof

set_option Elab.async false

open Sys2Proof.Machine

/-! ## Signed images -/

/-- The public key of the private key 1: the base point of P-256. -/
def wPub : List Byte := beBytes 32 p256gx ++ beBytes 32 p256gy

/-- Its SHA-256. -/
def wPubHash : List Byte := beBytes 32 0xd875db7def232236aec738c6b0bb3e80142f5d0fd8f4df24fed6eef5cbb50d9f

theorem test_sha256_of_key : sha256 wPub = wPubHash := by decide +kernel

/-- The header of an empty KRN image under the integrator's key. -/
def wKrn : List Byte :=
  wPay [(4, 0x494E4752), (1, 1), (1, 1), (10, 0), (16, 0)] ++ beBytes 32 0xe3b0c44298fc1c149afbf4c8996fb92427ae41e4649b934ca495991b7852b855 ++ wPub ++ beBytes 32 0x7cf27b188d034f7e8a52380304b51ac3c08969e277f21b35a60b48fc47669978 ++ beBytes 32 0xf7693f3666dbaa826824034e8d228d0ae7704f743dc4996de68538a56eb5b81b

/-- The header of an empty MGT image under the vendor's key. -/
def wMgt : List Byte :=
  wPay [(4, 0x494E4752), (1, 0), (1, 0), (10, 0), (16, 2 ^ 128 - 1)] ++ beBytes 32 0xe3b0c44298fc1c149afbf4c8996fb92427ae41e4649b934ca495991b7852b855 ++ wPub ++ beBytes 32 0x7cf27b188d034f7e8a52380304b51ac3c08969e277f21b35a60b48fc47669978 ++ beBytes 32 0x459576b4edd21cc6c6cabce32df29768a4a6b57b2f4991bb19523ec51de3c690

/-- The header of an empty SAF image under the vendor's key. -/
def wSaf : List Byte :=
  wPay [(4, 0x494E4752), (1, 3), (1, 0), (10, 0), (16, 2 ^ 128 - 1)] ++ beBytes 32 0xe3b0c44298fc1c149afbf4c8996fb92427ae41e4649b934ca495991b7852b855 ++ wPub ++ beBytes 32 0x7cf27b188d034f7e8a52380304b51ac3c08969e277f21b35a60b48fc47669978 ++ beBytes 32 0xf35d41250c6d49867615a269a5a9c1e3d143ca8ef71536102b2bb40aa0c26a0d

/-- The images that run while an image is activated live: their Almanacs and the digest of the SEQ image agree with the erased slots of bank 0. -/
def wImages : List RunImage := List.replicate 4 { bank := 1, almanac := List.replicate 4 0xFFFFFFFF, digest := List.replicate 32 0xFF }

/-- The device that verifies the KRN image of bank 1. -/
def wKrnDev : Dev := { wDev with flash := wCells 0x00700000 wKrn, boot := { integKey := some wPubHash } }

/-- The device that activates the MGT image of bank 0 live. -/
def wMgtDev : Dev := { wDev with flash := wCells 0 wManifest ++ wCells 0x00100000 wMgt, boot := { images := wImages, bank := 1 } }

/-- The device that activates the SAF image of bank 0 live. -/
def wSafDev : Dev :=
  { wDev with flash := wCells 0 wManifest ++ wCells 0x00380000 wSaf, boot := { images := wImages, bank := 1, ownerKey := some (zeroBytes 32) }
              host := { wDev.host with nonceSafe := some (zeroBytes 16) } }

/-! ## Admission from its parts -/

/-- A command that passes each check of R403 is admitted. -/
theorem admits_of {d : Dev} {q : HostReq} {o : OpDesc} (h1 : opDesc q.op = some o) (h2 : plenOk q.op q.pay = true) (h3 : (d.chkOf q).status = 0) (h4 : d.headParams o q 0 = 0)
    (h5 : d.authCheck q = 0) (h6 : (d.authTaken q 0).roleCheck o q.h.pair = 0) : (d.admits q 0 0).2.status = 0 := by
  have h7 : (stRank 0 = 3) = False := by decide
  simp [Dev.admits, h1, h2, h3, h4, h5, h6, h7]

/-! ## The images verify -/

/-- What R535 asks of the header `h` of an image without a body. -/
def wSigned (h : List Byte) (idx : Nat) : Prop :=
  (fieldLE h 0 4 = 0x494E4752 ∧ fieldLE h 4 1 = idx ∧ 192 ≤ imageSize idx ∧ fieldLE h 8 4 = 0 ∧ (fieldLE h 5 1 = 0 ∨ idx = 1)) ∧ (h.drop 64).take 64 = wPub ∧ (h.drop 32).take 32 = sha256 [] ∧
    ecdsaOk (h.take 128) wPub (h.drop 128) = true

theorem wKrn_signed : wSigned wKrn 1 := by unfold wSigned; decide +kernel
theorem wMgt_signed : wSigned wMgt 0 := by unfold wSigned; decide +kernel
theorem wSaf_signed : wSigned wSaf 3 := by unfold wSigned; decide +kernel

/-- Such an image verifies under the key whose hash its KEY names. -/
theorem imageCheck_signed {f : Memory} {k : Option (List Byte)} {bank idx : Nat} {h : List Byte} (he : imageHeader f bank idx = h) (hs : wSigned h idx)
    (hk : keyHash k (fieldLE h 5 1) = some wPubHash) : imageCheck f k bank idx = 0 := by
  obtain ⟨⟨h1, h2, h3, h4, h5⟩, h6, h7, h8⟩ := hs
  unfold imageCheck
  have h9 : decide (fieldLE h 5 1 = 0) || decide (idx = 1) := by simpa using h5
  simp [he, h1, h2, h3, h4, h6, h7, h8, h9, hk, test_sha256_of_key, Memory.readList]

theorem wKrn_verifies : imageCheck wKrnDev.flash wKrnDev.boot.integKey 1 1 = 0 := imageCheck_signed (by decide +kernel) wKrn_signed (by decide +kernel)

theorem wMgt_verifies (hk : (List.range 32).map Config.vendorKeyHash = wPubHash) : imageCheck wMgtDev.flash wMgtDev.boot.integKey 0 0 = 0 :=
  imageCheck_signed (by decide +kernel) wMgt_signed (by rw [show fieldLE wMgt 5 1 = 0 by decide +kernel, keyHash, hk])

theorem wSaf_verifies (hk : (List.range 32).map Config.vendorKeyHash = wPubHash) : imageCheck wSafDev.flash wSafDev.boot.integKey 0 3 = 0 :=
  imageCheck_signed (by decide +kernel) wSaf_signed (by rw [show fieldLE wSaf 5 1 = 0 by decide +kernel, keyHash, hk])

/-! ## The commands -/

/-- `DeviceCommandsAct`: IMAGE_VERIFY. -/
theorem wit_DeviceCommandsAct_verify : wKrnDev.accepts (wReq 0xA003 15 257 [] true) := by
  have h3 : ((wKrnDev.joins (wReq 0xA003 15 257 [] true)).imgVerifyCheck (wReq 0xA003 15 257 [] true)).status = 0 := by
    have ha : imageAlmanacOk wKrnDev.flash wKrnDev.boot.images wKrnDev.boot.recovery 1 1 = true := by decide +kernel
    have hv : imageCheck (wKrnDev.joins (wReq 0xA003 15 257 [] true)).flash (wKrnDev.joins (wReq 0xA003 15 257 [] true)).boot.integKey 1 1 = 0 := wKrn_verifies
    have ha' : imageAlmanacOk (wKrnDev.joins (wReq 0xA003 15 257 [] true)).flash (wKrnDev.joins (wReq 0xA003 15 257 [] true)).boot.images (wKrnDev.joins (wReq 0xA003 15 257 [] true)).boot.recovery 1 1 = true := ha
    unfold Dev.imgVerifyCheck
    rw [show imageTarget (wReq 0xA003 15 257 [] true) = (1, 1) by decide]
    simp only [hv, ha']
    decide +kernel
  exact ⟨by decide +kernel, admits_of (o := ⟨0xA003, [15], .i, false⟩) (by decide) (by decide) h3 (by decide +kernel) rfl (by decide +kernel), by decide +kernel, by decide +kernel⟩

/-- `DeviceCommandsAct`: IMAGE_ACTIVATE of the MGT image with WHEN 1, where the vendor's key is the one given. -/
theorem wit_DeviceCommandsAct_activate (hk : (List.range 32).map Config.vendorKeyHash = wPubHash) :
    let q := wReq 0xA004 15 0 [(1, 1)]
    wMgtDev.accepts q ∧ fieldLE q.pay 0 1 = 1 ∧ wMgtDev.boot.recovery = false ∧ q.h.index % 256 = 0 := by
  intro q
  have hv : imageCheck (wMgtDev.joins q).flash (wMgtDev.joins q).boot.integKey 0 0 = 0 := wMgt_verifies hk
  have hl : liveCheck (wMgtDev.joins q).boot (wMgtDev.joins q).flash 0 0 = 0 := by decide +kernel
  have h3 : ((wMgtDev.joins q).activateCheck q).status = 0 := by
    unfold Dev.activateCheck Dev.liveConds
    rw [show imageTarget q = (0, 0) by decide]
    simp only [hv, hl]
    decide +kernel
  exact ⟨⟨by decide +kernel, admits_of (o := ⟨0xA004, [15], .m, false⟩) (by decide) (by decide) h3 (by decide +kernel) rfl (by decide +kernel), by decide +kernel, by decide +kernel⟩,
    by decide, by decide, by decide⟩

/-! ## Responses -/

/-- Running words stay eight. -/
theorem sha_fold_length (l : List Nat) (p : List Byte) (h : List (BitVec 32)) (hh : h.length = 8) :
    (l.foldl (fun h i => shaBlock h ((p.drop (64 * i)).take 64)) h).length = 8 := by
  induction l generalizing h with
  | nil => exact hh
  | cons x xs ih => exact ih _ rfl

theorem words_length (l : List (BitVec 32)) : ((l.map (fun x => beBytes 4 x.toNat)).flatten).length = 4 * l.length := by
  induction l with
  | nil => rfl
  | cons x xs ih => simp [beBytes, leBytes_length, List.flatten_cons] at *; omega

theorem sha256_length (m : List Byte) : (sha256 m).length = 32 := by
  unfold sha256
  simp only [words_length]
  rw [sha_fold_length _ _ _ (by decide +kernel)]

/-- The response to the nonce `n` of zeros under the key of zeros, followed in the message by `msg`. -/
def wAnswer (op : Nat) (msg : List Byte) : List Byte := hmac (zeroBytes 32) (leBytes 2 op ++ zeroBytes 16 ++ leBytes 8 (Config.devSerial % 2 ^ 64) ++ msg)

theorem wAnswer_length (op : Nat) (msg : List Byte) : (wAnswer op msg).length = 32 := sha256_length _

theorem authAnswer_of {k n r msg : List Byte} {op : Nat} (h : hmac k (leBytes 2 op ++ n ++ leBytes 8 (Config.devSerial % 2 ^ 64) ++ msg) = r) :
    authAnswer (some k) (some n) op n r msg = 0 := by
  simp only [authAnswer, ne_eq, not_true_eq_false, if_false, h, if_true]

/-- `DeviceCommandsAct`: LOG_CLEAR. -/
theorem wit_DeviceCommandsAct_logClear :
    ({ wDev with boot := { ownerKey := some (zeroBytes 32) }, host := { wDev.host with nonceLog := some (zeroBytes 16) } } : Dev).accepts
      (wAuth 0x7011 0 0 (zeroBytes 16 ++ wAnswer 0x7011 []) true) := by
  suffices ha : ∀ r : List Byte, wAnswer 0x7011 [] = r → r.length = 32 →
      ({ wDev with boot := { ownerKey := some (zeroBytes 32) }, host := { wDev.host with nonceLog := some (zeroBytes 16) } } : Dev).accepts (wAuth 0x7011 0 0 (zeroBytes 16 ++ r) true) from
    ha _ rfl (wAnswer_length _ _)
  intro r hr hlen
  have hz : (zeroBytes 16).length = 16 := by decide
  refine ⟨?_, admits_of (o := ⟨0x7011, [0], .i, true⟩) rfl (decide_eq_true (show (zeroBytes 16 ++ r).length = 48 by rw [List.length_append, hz, hlen])) rfl rfl ?_ rfl, rfl,
    show bit 0 1 = false by decide⟩
  · have h : ¬ 4064 < (zeroBytes 16 ++ r).length := by simp [hlen, hz]
    simp only [Dev.headOf, wAuth, h, if_false]
    rfl
  · have h1 : ((zeroBytes 16 ++ r).drop 0).take 16 = zeroBytes 16 := by simp [hz]
    have h2 : ((zeroBytes 16 ++ r).drop 16).take 32 = r := by simp [hz, hlen]
    simp only [Dev.authCheck, wAuth, h1, h2]
    exact authAnswer_of hr

/-- The device to which SAFE_CONFIG brings its block: `c` is the configuration in force. -/
def wSafeDev (c : Option SiConf) : Dev :=
  { wBulk (wData wSiData) 160 with boot := { ownerKey := some (zeroBytes 32) }, host := { (wBulk (wData wSiData) 160).host with nonceSafe := some (zeroBytes 16) }, si := { conf := c } }

/-- SAFE_CONFIG's payload up to its response. -/
def wSafeHead : List Byte := wPay [(2, 1), (2, 0), (4, 0xE87F7DAE)] ++ zeroBytes 16

theorem siConfCheck_ok {d : Dev} {q : HostReq} {b : List Byte} (hb : d.siBlock q = b) (h : d.bulkCheck q b.length (fieldLE q.pay 4 4) = 0)
    (hc : siCheck b d.tcycMost (if d.ring.standbyPresent then some (d.prm pMISS_TAKEOVER) else none) = 0) (h0 : fieldLE q.pay 2 2 = 0) (hs : d.si.safeState = true) :
    (d.siConfCheck q).status = 0 := by
  simp [Dev.siConfCheck, hb, h, hc, h0, hs, firstFail]
  rfl

/-- `DeviceCommandsAct`: SAFE_CONFIG, where the connections stay and where they change. -/
theorem wit_DeviceCommandsAct_safeConfig (c : Option SiConf) :
    (wSafeDev c).accepts (wAuth 0x8011 0 0 (wSafeHead ++ wAnswer 0x8011 (leBytes 4 0xE87F7DAE))) := by
  suffices ha : ∀ r : List Byte, wAnswer 0x8011 (leBytes 4 0xE87F7DAE) = r → r.length = 32 → (wSafeDev c).accepts (wAuth 0x8011 0 0 (wSafeHead ++ r)) from ha _ rfl (wAnswer_length _ _)
  intro r hr hlen
  have hz : wSafeHead.length = 24 := by decide
  have hcrc : fieldLE (wSafeHead ++ r) 4 4 = 0xE87F7DAE := by
    show fieldLE wSafeHead 4 4 = _
    decide
  have hb : (({ len := 160, data := wData wSiData } : Bulk).bytes (siBlockLen (({ len := 160, data := wData wSiData } : Bulk).bytes 32))) = wPay wSiData := by decide +kernel
  have hl : (wPay wSiData).length = 160 := by decide +kernel
  have hk : crc32 (({ len := 160, data := wData wSiData } : Bulk).bytes 160) = 0xE87F7DAE := by decide +kernel
  have hs : siCheck (wPay wSiData) (Dev.tcycMost {}) none = 0 := by decide +kernel
  refine ⟨?_, admits_of (o := ⟨0x8011, [0], .m, true⟩) rfl (decide_eq_true (show (wSafeHead ++ r).length = 56 by rw [List.length_append, hz, hlen]))
    (siConfCheck_ok (b := wPay wSiData) hb ?_ hs (show fieldLE wSafeHead 2 2 = 0 by decide) rfl) rfl ?_ rfl, rfl, show bit 0 1 = false by decide⟩
  · have h : ¬ 4064 < (wSafeHead ++ r).length := by rw [List.length_append, hz, hlen]; decide
    simp only [Dev.headOf, wAuth, h, if_false]
    rfl
  · have hf : Tab.find ((wSafeDev c).joins (wAuth 0x8011 0 0 (wSafeHead ++ r))).host.bulks (handleOf (wAuth 0x8011 0 0 (wSafeHead ++ r))) =
        some { len := 160, data := wData wSiData } := rfl
    have hq : fieldLE (wAuth 0x8011 0 0 (wSafeHead ++ r)).pay 4 4 = 0xE87F7DAE := hcrc
    simp only [Dev.bulkCheck, hf, hl, hk, hq]
    decide
  · have h1 : ((wSafeHead ++ r).drop 8).take 16 = zeroBytes 16 := rfl
    have h2 : ((wSafeHead ++ r).drop 24).take 32 = r := by simp [hz, hlen]
    simp only [Dev.authCheck, wAuth, hcrc, h1, h2]
    exact authAnswer_of hr

/-- SAF_ACTIVATE's payload up to its response, with WHEN. -/
def wWhen (w : Nat) : List Byte := wPay [(1, w), (7, 0)] ++ zeroBytes 16

/-- The message of its response: TARGET and WHEN. -/
def wWhenMsg (w : Nat) : List Byte := leBytes 4 (16777216 * 15 + 3) ++ leBytes 1 w

theorem safCheck_now {d : Dev} {q : HostReq} (ht : imageTarget q = (0, 3)) (hw : fieldLE q.pay 0 1 = 1) (h0 : fieldLE q.pay 1 7 = 0) (hs : d.si.safeState = true)
    (hl : liveCheck d.boot d.flash 0 3 = 0) (hv : imageCheck d.flash d.boot.integKey 0 3 = 0) (hb : d.boot.live = none) : (d.safCheck q).status = 0 := by
  simp [Dev.safCheck, Dev.liveConds, ht, hw, h0, hs, hl, hv, hb, firstFail]
  rfl

theorem safCheck_later {d : Dev} {q : HostReq} (ht : imageTarget q = (0, 3)) (hw : fieldLE q.pay 0 1 = 0) (h0 : fieldLE q.pay 1 7 = 0) (hs : d.si.safeState = true)
    (hm : manifestValid (manifestBytes d.flash 0) = true) : (d.safCheck q).status = 0 := by
  simp [Dev.safCheck, ht, hw, h0, hs, hm, firstFail]
  rfl

/-- What admission finds in SAF_ACTIVATE but for its own check. -/
theorem wSaf_admits {w : Nat} (hw : w < 2) {r : List Byte} (hr : wAnswer 0xA010 (wWhenMsg w) = r) (hlen : r.length = 32)
    (hc : ((wSafDev.joins (wAuth 0xA010 15 3 (wWhen w ++ r))).safCheck (wAuth 0xA010 15 3 (wWhen w ++ r))).status = 0) : wSafDev.accepts (wAuth 0xA010 15 3 (wWhen w ++ r)) := by
  have hz : (wWhen w).length = 24 := by simp [wWhen, wPay, leBytes, zeroBytes]
  have h0 : fieldLE (wWhen w ++ r) 0 1 = w := by
    have : w = 0 ∨ w = 1 := by omega
    rcases this with rfl | rfl <;> rfl
  refine ⟨?_, admits_of (o := ⟨0xA010, [15], .m, true⟩) rfl (decide_eq_true (show (wWhen w ++ r).length = 56 by rw [List.length_append, hz, hlen])) hc rfl ?_ rfl, rfl,
    show bit 0 1 = false by decide⟩
  · have h : ¬ 4064 < (wWhen w ++ r).length := by rw [List.length_append, hz, hlen]; decide
    simp only [Dev.headOf, wAuth, h, if_false]
    rfl
  · have h1 : ((wWhen w ++ r).drop 8).take 16 = zeroBytes 16 := rfl
    have h2 : ((wWhen w ++ r).drop 24).take 32 = r := by simp [hz, hlen]
    simp only [Dev.authCheck, wAuth, h0, h1, h2, wHead]
    exact authAnswer_of hr

/-- `DeviceCommandsAct`: SAF_ACTIVATE with WHEN 0; with WHEN 1, where the vendor's key is the one given. -/
theorem wit_DeviceCommandsAct_saf :
    wSafDev.accepts (wAuth 0xA010 15 3 (wWhen 0 ++ wAnswer 0xA010 (wWhenMsg 0))) ∧
    ((List.range 32).map Config.vendorKeyHash = wPubHash → wSafDev.accepts (wAuth 0xA010 15 3 (wWhen 1 ++ wAnswer 0xA010 (wWhenMsg 1)))) := by
  have hm : manifestValid (manifestBytes wSafDev.flash 0) = true := by decide +kernel
  have hl : liveCheck wSafDev.boot wSafDev.flash 0 3 = 0 := by decide +kernel
  refine ⟨wSaf_admits (by decide) rfl (wAnswer_length _ _) (safCheck_later rfl rfl rfl rfl hm), fun hk => wSaf_admits (by decide) rfl (wAnswer_length _ _) ?_⟩
  exact safCheck_now rfl rfl rfl rfl hl (wSaf_verifies hk) rfl

end Sys2Proof
end

