-- ==== Sys2Proof/Tests/Rows.lean ====
section
/-! SUPPORT. States that meet the premises of the statements on the device's own rows, one line for each clause. -/

namespace Sys2Proof

set_option Elab.async false

open Sys2Proof.Machine

/-! ## The machine, power and boot -/

/-- `StepRunsFrontCommand` and `StepKeepsInv`; the state idles with buffer 1 pinned. -/
theorem wit_Machine :
    ({ pending := [.powerOn] } : State).pending = .powerOn :: [] ∧ State.reset.pending = [] ∧
    ∃ t, step (wIn (wHost (fun h => { h with pin := some (1, 9) }))) = .next t ∧ (wIn (wHost (fun h => { h with pin := some (1, 9) }))).Inv ∧ t.dev.host.pin = some (1, 9) := by
  refine ⟨rfl, rfl, _, rfl, ?_, rfl⟩
  unfold State.Inv Dev.PlatesOk
  decide +kernel

/-- A persistent record of write number 5. -/
def wRecord : List Byte := wPay [(4, 0x53504F52), (4, 5), (52, 0), (4, 0x7335EB04)]

/-- `ResetsLeaveResetState` and `BootRunsOrRecovers`: just after power-on, with and without a persistent record in flash, and after a reset by pin. -/
theorem wit_Power :
    State.reset.dev.host.mgtReady = false ∧ State.reset.dev.boot.recovery = false ∧ State.reset.dev.power.aon = true ∧ State.reset.dev.boot.cause = 1 ∧
    (let d : Dev := { flash := wCells 0x00010000 wRecord }
     d.power.aon = true ∧ d.host.mgtReady = false ∧ d.boot.recovery = false ∧ d.boot.cause = 1 ∧ persistNewest d.flash = some (5, wRecord)) ∧
    (let d : Dev := { boot := { cause := 3, heldMs := 10001 } }
     d.power.aon = true ∧ d.host.mgtReady = false ∧ d.boot.recovery = false ∧ d.boot.cause ≠ 1 ∧ 10000 < d.boot.heldMs) := by
  repeat' apply And.intro
  all_goals decide +kernel

/-- `ClockFaultsAndDomains`. -/
theorem wit_ClockFaultsAndDomains :
    (State.reset.dev.EventRoom 2 ∧ State.reset.dev.power.tbLost = false ∧ State.reset.dev.power.sdLost = false) ∧ (∀ p ∈ State.reset.dev.tu.ports, p.prm = []) ∧
    (∀ i, i < 8 → 4 ≤ i → State.reset.dev.ring.map.configured i = false) ∧ State.reset.dev.motion.steppers = [] ∧ State.reset.dev.chr.conf = none ∧ State.reset.dev.chr.pending = none ∧
    (let d : Dev := { boot := { live := some { kind := 0, bank := 0 } }, host := { mgtRestart := true } }
     d.EventRoom 2 ∧ d.boot.live = some { kind := 0, bank := 0 } ∧ d.host.mgtRestart = true) := by
  unfold Dev.EventRoom
  repeat' apply And.intro
  all_goals decide +kernel

/-- `TapInstructionsAndKeyWrite`: the integrator key (entry 1), the owner key (entry 2) and a false check word, and a key that waits for its fuses. -/
theorem wit_TapInstructionsAndKeyWrite :
    (3 % 4 = 3 ∧ 2 % 4 ≠ 3) ∧
    (let dr := 1 + 7 * 2 ^ 8 + 19973 * 2 ^ 264
     crcKey (leBytes 1 (dr % 256) ++ beBytes 32 (dr / 256)) = dr / 2 ^ 264 % 65536 ∧ dr % 256 = 1 ∧ State.reset.dev.boot.integKey = none) ∧
    (let dr := 2 + 7 * 2 ^ 8 + 51264 * 2 ^ 264
     crcKey (leBytes 1 (dr % 256) ++ beBytes 32 (dr / 256)) = dr / 2 ^ 264 % 65536 ∧ dr % 256 = 2 ∧ State.reset.dev.boot.ownerKey = none) ∧
    (let dr := 1
     crcKey (leBytes 1 (dr % 256) ++ beBytes 32 (dr / 256)) ≠ dr / 2 ^ 264 % 65536) ∧
    ({ tap := { keyEntry := some (1, zeroBytes 32) } } : Dev).tap.keyEntry = some (1, zeroBytes 32) ∧ ({ tap := { keyEntry := some (2, zeroBytes 32) } } : Dev).tap.keyEntry = some (2, zeroBytes 32) := by
  repeat' apply And.intro
  all_goals decide +kernel

/-! ## The cycle -/

/-- The device in cycle 4 of a run, at a point of the cycle, as the leader of its rings. -/
def wRun (f : Ctl → Ctl) : Dev := { wDev with ctl := f { running := true, cycle := 4, published := 3 }, ring := { role := 3 } }

/-- `GateGatherAndCorrection`: the gate with a member of an open batch, Gather with and without an input slot, and the correction frames with an axis whose passes are done, with one that
retracts, and with one without a command. -/
theorem wit_GateGatherAndCorrection :
    (let d : Dev := { wRun id with host := { wDev.host with batches := [{ id := 7, pair := 0, effective := 5, count := 1 }], staged := [{ req := { op := 0x1012, h := { batch := 7, effective := 5 } }, meridian := 0, res := 1 }] } }
     d.ctl.running = true ∧ d.ctl.gate = false ∧ ∀ b ∈ d.host.batches, b.failed = false ∧ 0 < b.effective ∧ b.effective ≤ d.ctl.cycle + 1 ∧ b.id ≠ 0) ∧
    (let d : Dev := { wRun id with motion := { axes := [(0, {}), (1, {})] }, ring := { role := 3, map := wMap } }
     d.ctl.running = true ∧ d.ctl.first = false ∧ d.ctl.gathered = false ∧ (d.ring.map.inputOf 0 0).isSome ∧ (d.axis? 0).isSome ∧ d.ring.map.inputOf 0 1 = none ∧ (d.axis? 1).isSome) ∧
    (let done : Slot := { axis := 0, outs := [{ words := [], commit := true, pass := 2 }] }
     let d : Dev := { wRun (fun c => { c with gathered := true, prm := [(pEXEC_STYLE, 1)] }) with motion := { axes := [(0, { out := { spec := true } }), (1, { out := { spec := true } }), (2, {})] }, engines := { slots := [(0, done)] } :: List.replicate 17 {} }
     d.ctl.first = false ∧ d.runAhead = true ∧ d.ctl.gathered = true ∧ d.ctl.corrPacked = false ∧ d.ctl.sealed = false ∧ d.passDone 0 2 = true ∧ (d.axis 0).spec.retract = [] ∧
       d.passDone 1 2 = false ∧ (d.axis 2).out.spec = false) ∧
    (let d := wRun (fun c => { c with corrPacked := true })
     d.ctl.corrPacked = true ∧ d.ctl.corrLaunched = false ∧ d.ctl.sealed = false ∧ (d.ring.map.desc 0).corrLength = 0) := by
  repeat' apply And.intro
  all_goals decide +kernel

/-- `SealCommitsOrRepeats`: an axis on time, a late one, and one out of its phase. -/
theorem wit_SealCommitsOrRepeats :
    (let done : Slot := { axis := 0, outs := [{ words := [], commit := true, pass := 0 }] }
     let d : Dev := { wRun id with motion := { axes := [(0, {}), (1, {}), (2, { prm := [(pAXIS_DIVISOR, 8), (pAXIS_PHASE, 7)] })] }, pace := { plan := { place := [(0, 0, 0), (1, 0, 1)] } }, engines := { slots := [(0, done), (1, { axis := 1 })] } :: List.replicate 17 {} }
     ((d.axis 0).inPhase 4 = true ∧ (d.axis 0).shed = false ∧ Tab.has d.pace.plan.place 0 = true ∧ (∀ x ∈ d.slotsOf 0, x.2.2.shadow = false) ∧ (d.slotsOf 0).any (fun x => x.2.2.onTime 0) = true) ∧
     ((d.axis 1).inPhase 4 = true ∧ Tab.has d.pace.plan.place 1 = true ∧ (∀ x ∈ d.slotsOf 1, x.2.2.shadow = false) ∧ (d.slotsOf 1).any (fun x => x.2.2.onTime 0) = false) ∧
     ((d.axis 2).inPhase 4 = false ∧ (d.axis 2).migrating = false)) := by
  repeat' apply And.intro
  all_goals decide +kernel

/-- `SealDeadlineSeals`, with an engine at work, and `PlatePublication`, with a pinned buffer. -/
theorem wit_SealAndPlate :
    (let d : Dev := { wRun (fun c => { c with gathered := true }) with engines := { run := some { kind := 0, slot := 0, axis := 0, kernel := 0, pass := 0 } } :: List.replicate 17 {} }
     d.ctl.running = true ∧ d.ctl.gathered = true ∧ d.ctl.sealed = false) ∧
    (let d : Dev := { wRun (fun c => { c with sealed := true }) with host := { wDev.host with pin := some (2, 3) } }
     d.ctl.running = true ∧ d.ctl.sealed = true ∧ d.ctl.published ≠ d.ctl.cycle ∧ d.plates.length = 4 ∧ d.ctl.cycle < 2 ^ 64) := by
  repeat' apply And.intro
  all_goals decide +kernel

/-- `MeridianBeginsCycle`: with a command staged for a later Meridian, and deposed. -/
theorem wit_MeridianBeginsCycle :
    (let d : Dev := { wRun (fun c => { c with published := 4 }) with host := { wDev.host with staged := [{ req := { op := 0x1012, h := {} }, meridian := 6, res := 1 }] } }
     d.ctl.running = true ∧ d.ring.role = 3 ∧ d.ctl.published = d.ctl.cycle ∧ d.ring.deposed = false ∧ (∀ x ∈ d.host.staged, x.meridian = 0 ∨ d.ctl.cycle + 1 < x.meridian) ∧
       d.host.lossStop = none ∧ d.host.batches = []) ∧
    (let d : Dev := { wRun (fun c => { c with first := true }) with ring := { role := 3, deposed := true } }
     d.ctl.running = true ∧ d.ring.role = 3 ∧ d.ctl.first = true ∧ d.ring.deposed = true) := by
  repeat' apply And.intro
  all_goals decide +kernel

end Sys2Proof
end

