-- ==== Sys2Proof/Tests/Axes.lean ====
section
/-! SUPPORT. States that meet the premises of the statements on the axes and on the loop engines, one line for each clause. -/

namespace Sys2Proof

set_option Elab.async false

open Sys2Proof.Machine

/-! ## Servo axes -/

/-- A device in cycle 4 whose servo axis 0 is changed by `f`. -/
def wAx (f : Axis → Axis) : Dev := { wRun (fun c => { c with gathered := true, spCycle := 4 }) with motion := { axes := [(0, f {})] } }

/-- The supervision of an axis, changed. -/
def wSup (f : Sup → Sup) (ax : Axis) : Axis := { ax with w := { ax.w with sup := f ax.w.sup } }

/-- `SetpointsDelivered`: an axis in OFF, and one that moves by a plan of one second. -/
theorem wit_SetpointsDelivered :
    (let d := wAx id
     d.ctl.running = true ∧ d.ctl.first = false ∧ d.ctl.sealed = false ∧ d.ctl.spCycle = d.ctl.cycle ∧ (d.axis 0).blocked = false ∧ (d.axis 0).inPhase 4 = true ∧ (d.axis 0).spCycle < 4 ∧
       (d.axis 0).cand = none ∧ (d.axis 0).w.sup.qsNew = false ∧ (d.axis 0).w.sup.offNew = false ∧ (d.axis 0).w.sup.mode ≠ 5 ∧ (d.axis 0).fol = none ∧ (d.axis 0).w.sup.state = 0) ∧
    (let d := wAx (fun ax => { wState 1 (wSup (fun u => { u with mode := 1 }) ax) with plan := some { phases := [{ dur := 1, jerk := 1 }], hold := false } })
     d.ctl.spCycle = d.ctl.cycle ∧ (d.axis 0).inPhase 4 = true ∧ (d.axis 0).plan.isSome = true ∧ (d.axis 0).w.sup.state = 1 ∧ (d.axis 0).w.sup.mode = 1 ∧ (d.axis 0).prm.nat pSW_LIM_EN ≠ 1 ∧
       (d.axis 0).swPos.active = false ∧ (d.axis 0).swNeg.active = false) := by
  repeat' apply And.intro
  all_goals decide +kernel

/-- `ServoConditionsReact`. -/
theorem wit_ServoConditionsReact :
    (wAx id).EventRoom 1 ∧
    (∀ code ∈ [fFOLLOWING, fTORQUE_SAT, fFEEDBACK_LOST, fSPLIT_LOST, fOVERRUN, fSWITCH_CHATTER, fREG_LOST], ∀ k ∈ [1, 2, 3], classOf [(reactKey pREACT_code code, k)] pREACT_code code = k) ∧
    (let d := wAx (wSup (fun u => { u with state := 2, feCnt := some 1000000 }))
     (d.axis 0).now.sup.state = 2 ∧ (d.axis 0).now.sup.feCnt = some 1000000 ∧ cyclesOf ((d.axis 0).prm.nat pFE_TIME) (d.period (d.axis 0)) ≤ 1000000 ∧ (d.axis 0).now.sup.warnHold.contains fFOLLOWING = false) ∧
    (let d := wAx (fun ax => { wSup (fun u => { u with state := 1, satCnt := some 1000000 }) ax with prm := [(pTRQ_SAT_TIME, 10000), (reactKey pREACT_code fTORQUE_SAT, 1)] })
     (d.axis 0).prm.nat pTRQ_SAT_TIME ≠ 0 ∧ (d.axis 0).now.sup.satCnt = some 1000000 ∧ cyclesOf ((d.axis 0).prm.nat pTRQ_SAT_TIME) (d.period (d.axis 0)) ≤ 1000000 ∧ (d.axis 0).held.contains fTORQUE_SAT = false) ∧
    (let d := wAx (wSup (fun u => { u with state := 1, fbMissRun := 100, retractRun := 1000 }))
     (d.axis 0).prm.nat pFB_MISS_LIMIT ≤ (d.axis 0).now.sup.fbMissRun ∧ (d.axis 0).held.contains fFEEDBACK_LOST = false ∧
     (d.axis 0).prm.nat pSPLIT_RETRACT_LIMIT ≤ (d.axis 0).now.sup.retractRun ∧ (d.axis 0).held.contains fSPLIT_LOST = false) ∧
    (let d : Dev := { wAx (fun ax => { wState 1 ax with stale := true, staleRun := 1000 }) with ctl := { running := true, sealed := true } }
     d.ctl.sealed = true ∧ (d.axis 0).stale = true ∧ (d.axis 0).prm.nat pOVR_LIMIT ≤ (d.axis 0).staleRun ∧ (d.axis 0).held.contains fOVERRUN = false) ∧
    (∀ w, w < 3 → (let sw : Switch := { src := some 0, burst := 9 }
     let d := wAx (fun ax => { wState 1 ax with swPos := sw, swNeg := sw, swHome := sw })
     ((d.axis 0).switch w).src.isSome = true ∧ ((d.axis 0).switch w).chatterLimit < ((d.axis 0).switch w).burst ∧ ((d.axis 0).switch w).chatterCond = false ∧ (d.axis 0).held.contains fSWITCH_CHATTER = false)) ∧
    (let ch : RegCh := { prm := [(pREG_AXIS, 0)], missRun := 1000, period := some 0 }
     ch.prm.nat pREG_AXIS = 0 ∧ ch.prm.nat pREG_MISS_LIMIT ≤ ch.missRun ∧ ch.lost = false ∧ ch.stateNow = 1) := by
  unfold Dev.EventRoom
  repeat' apply And.intro
  all_goals decide +kernel

/-- `ServoReactionsProceed`. -/
theorem wit_ServoReactionsProceed :
    (let d := wAx (wSup (fun u => { u with state := 3, stillCnt := some 1000000 }))
     (d.axis 0).now.sup.state = 3 ∧ (d.axis 0).now.sup.stillCnt = some 1000000 ∧ cyclesOf ((d.axis 0).prm.nat pSTANDSTILL_TIME) (d.period (d.axis 0)) ≤ 1000000) ∧
    (let d := wAx (wSup (fun u => { u with state := 3, qsCnt := some 100000000 }))
     (d.axis 0).now.sup.state = 3 ∧ (d.axis 0).now.sup.qsCnt = some 100000000 ∧ cyclesOf ((d.axis 0).prm.nat pQS_TIMEOUT) (d.period (d.axis 0)) ≤ 100000000 ∧ (d.axis 0).now.sup.stillCnt = none) ∧
    (let d := wAx (fun ax => { ax with w := { ax.w with k := { ax.w.k with blend := some { k := 8, h := 8 } } } })
     (d.axis 0).now.k.blend = some { k := 8, h := 8 } ∧ (d.axis 0).now.r.blending = false) ∧
    (∀ w, w < 3 → (let on : Switch := { src := some 0, active := true, runCycles := 100000 }
     let d := wAx (fun ax => { ax with swPos := on, swNeg := on, swHome := { on with active := false, raw := true } })
     ((d.axis 0).switch w).src.isSome = true ∧ ((d.axis 0).switch w).raw ≠ ((d.axis 0).switch w).active ∧ ceilDiv (((d.axis 0).switch w).debounce * 1000) d.tcyc ≤ ((d.axis 0).switch w).runCycles ∧
     (w = 2 ∨ ((d.axis 0).switch w).raw = false))) ∧
    (let d := wAx (fun ax => { wSup (fun u => { u with state := 1, mode := 5, hsCnt := some 100000000 }) ax with home := { state := 5 } })
     (d.axis 0).home.state = 5 ∧ (d.axis 0).now.sup.hsCnt = some 100000000 ∧ cyclesOf ((d.axis 0).prm.nat pHOME_HS_TIME) (d.period (d.axis 0)) ≤ 100000000) ∧
    (let d : Dev := { wAx (fun ax => { wSup (fun u => { u with state := 1, mode := 5 }) ax with home := { state := 1 } }) with ctl := { running := true, cycle := 100000000 } }
     (d.axis 0).now.sup.mode = 5 ∧ (d.axis 0).now.sup.state = 1 ∧ (d.axis 0).home.searching = true ∧
     (d.axis 0).prm.nat pHOME_TIMEOUT * 1000000 ≤ (d.ctl.cycle - (d.axis 0).home.began) * d.tcyc) := by
  repeat' apply And.intro
  all_goals decide +kernel

/-! ## Stepper axes -/

/-- A device in cycle 4 whose stepper axis 0 is changed by `f`. -/
def wSt (f : Stepper → Stepper) : Dev := { wRun (fun c => { c with gathered := true, spCycle := 4 }) with motion := { steppers := [(0, f {})] } }

/-- `StepperRowsAct`. -/
theorem wit_StepperRowsAct :
    (wSt id).EventRoom 1 ∧
    (let d := wSt (fun x => { x with mode := 0, state := 1, plan := some {}, prm := [(pST_STEP_DIV, 2), (pST_STEP_PHASE, 0), (pST_STALL_EN, 0)] })
     let x := (Tab.find d.motion.steppers 0).getD {}
     d.ctl.running = true ∧ d.ctl.gathered = true ∧ d.ctl.sealed = false ∧ x.updated = false ∧ x.blocked = false ∧ x.inPhase 4 = true ∧ x.mode ≠ 5 ∧ x.state = 1 ∧ x.plan = some {} ∧
       x.swPos.active = false ∧ x.swNeg.active = false ∧ x.fbFresh = false ∧ x.prm.nat pST_STALL_EN ≠ 1) ∧
    (let x : Stepper := { state := 1, stallRun := 1000, stallDue := true, prm := [(pST_STALL_EN, 1)] }
     let h : Stepper := { x with mode := 5, home := { state := 5 }, prm := [(pST_STALL_EN, 1), (pST_HOME_METHOD, 3)] }
     x.prm.nat pST_STALL_EN = 1 ∧ x.prm.nat pST_STALL_COUNT ≤ x.stallRun ∧ x.mode ≠ 5 ∧ h.prm.nat pST_STALL_EN = 1 ∧ h.prm.nat pST_STALL_COUNT ≤ h.stallRun ∧ h.prm.nat pST_HOME_METHOD = 3) ∧
    (let x : Stepper := { updated := true, state := 1, restRun := some 100000000 }
     x.restRun = some 100000000 ∧ cyclesOf (x.prm.nat pST_HOLD_DELAY) (x.period (wSt id).tcyc) ≤ 100000000 ∧ x.sp.v = 0 ∧ x.sp.a = 0 ∧ x.mode ≠ 5) ∧
    (let x : Stepper := { missRun := 16, prm := [(pST_STALL_EN, 1)], stale := true, staleRun := 1000 }
     16 ≤ x.missRun ∧ x.prm.nat pST_STALL_EN = 1 ∧ x.held.contains fSTEP_FB_LOST = false ∧ x.prm.nat pST_OVR_LIMIT ≤ x.staleRun ∧ x.held.contains fSTEP_OVERRUN = false ∧
     (wRun (fun c => { c with sealed := true })).ctl.sealed = true) ∧
    (∀ w, w < 3 → (let on : Switch := { src := some 0, active := true, runCycles := 100000, burst := 9 }
     let x : Stepper := { swPos := on, swNeg := on, swHome := { on with active := false, raw := true } }
     (x.switch w).src.isSome = true ∧ (x.switch w).chatterLimit < (x.switch w).burst ∧ (x.switch w).chatterCond = false ∧ (x.switch w).raw ≠ (x.switch w).active ∧
     ceilDiv ((x.switch w).debounce * 1000) (wSt id).tcyc ≤ (x.switch w).runCycles ∧ (w = 2 ∨ (x.switch w).raw = false))) ∧
    (let x : Stepper := { mode := 5, state := 1, home := { state := 1 } }
     x.home.searching = true ∧ x.prm.nat pST_HOME_TIMEOUT * 1000000 ≤ (100000000 - x.home.began) * (wSt id).tcyc) := by
  unfold Dev.EventRoom
  repeat' apply And.intro
  all_goals decide +kernel

/-! ## Loop engines -/

/-- A device in cycle 4 whose loop engine 0 is changed by `f`; servo axis 0 runs in its slot 0. -/
def wEng (f : Engine → Engine) : Dev :=
  { wRun (fun c => { c with gathered := true, spCycle := 4 }) with motion := { axes := [(0, { spCycle := 4, cog := some { n := 2, period := 1, entries := [5, 7] } })] },
                                                                   engines := f { slots := [(0, { axis := 0 })] } :: List.replicate 17 {} }

/-- The run of slot 0 in a full pass. -/
def wPass : Run := { kind := 0, slot := 0, axis := 0, kernel := 0, pass := 0 }

/-- `EngineArithmeticResults`, `EngineLogicResults`, `EngineCompares`, `EngineAccumulatorWords`, `EngineMacResults`, `EngineMemoryAccesses`, `EngineControlWords` (whole bundles: `Dev.Ready`),
`EngineWordsJoinOpenBundle` and `EngineWritesArriveInOrder` (no premise but a register of the file): inside and outside the preemption handler, on words that join an open bundle, and on table reads: none outstanding, four outstanding, one
that has returned, and one that has not. -/
theorem wit_EngineWords :
    (wEng (fun g => { g with run := some wPass })).Ready 0 ∧
    ((wEng (fun g => { g with run := some { wPass with kind := 2 } })).Ready 0 ∧ ((wEng (fun g => { g with run := some { wPass with kind := 2 } })).engine 0).run = some { wPass with kind := 2 } ∧
       { wPass with kind := 2 }.kind = 2) ∧ wPass.kind ≠ 2 ∧
    ((wEng (fun g => { g with run := some wPass, cur := { bad := true } })).engine 0).run.isSome = true ∧ (wEng id).EventRoom 1 ∧ (3 % 2 = 1 ∧ 2 % 2 = 0) ∧
    (∀ got ∈ [none, some ((5 : Int), (7 : Int))], (let d := wEng (fun g => { g with run := some wPass, reqs := List.replicate 4 { handle := 0, idx := 0, dst := 0, got := got } })
     d.Ready 0 ∧ (((d.engine 0).reqs.filter (fun r => r.got.isNone)).length < 4 ↔ got.isSome) ∧ (got.isNone → ∃ r ∈ (d.engine 0).reqs, r.got = none))) ∧
    (let d := wEng (fun g => { g with run := some wPass, reqs := [{ handle := 0, idx := 0, dst := 0, got := some (5, 7) }, { handle := 0, idx := 1, dst := 2, got := some (7, 5) }] })
     d.Ready 0 ∧ (∀ r ∈ (d.engine 0).reqs, r.got.isSome) ∧ ((d.engine 0).reqs.map (fun r => r.dst)).Pairwise (fun x y => x ≠ y ∧ x ≠ y + 1 ∧ y ≠ x + 1)) := by
  unfold Dev.Ready Dev.EventRoom
  repeat' apply And.intro
  all_goals decide +kernel

/-- `EngineSlotStarts` and `EngineHardwareLoop`: a full pass; the last word of a loop with two, one and no rounds left, and a taken branch. -/
theorem wit_EngineSequencing :
    (let d := wEng id
     d.engines.length = 18 ∧ (d.engine 0).d.length = 32 ∧ (d.engine 0).special.length = 26 ∧ (d.engine 0).run = none ∧ Tab.find (d.engine 0).slots 0 = some { axis := 0 } ∧
     (d.axis? 0).isSome = true ∧ d.mayStart { axis := 0 } (d.axis 0) 0 = true) ∧
    (∀ n ∈ [0, 1, 2], (let g : Engine := { special := ((({} : Engine).special.set 21 n).set 24 9), pcw := 9 }
     g.brDue = none ∧ (g.pcw + 1 - 1) % 4096 = g.spc 24 ∧ g.spc 21 = n)) ∧
    ({ brDue := some 7 } : Engine).brDue = some 7 := by
  repeat' apply And.intro
  all_goals decide +kernel

/-- `EngineRunsEnd`: the ends of runs of each kind, a handler and a pass beyond their budgets, an illegal word, and a table read that returns. -/
theorem wit_EngineRunsEnd :
    (∀ k, k < 3 → (let d := wEng (fun g => { g with run := some { wPass with kind := k } })
     (d.engine 0).run = some { wPass with kind := k } ∧ (d.engine 0).stall = none ∧ (d.engine 0).cur = {} ∧ (d.axis? 0).isSome = true ∧ d.router.cycleCnt + 1 ≤ 512)) ∧
    (let r : Run := { wPass with kind := 2, steps := 96 }
     r.kind = 2 ∧ 96 ≤ r.steps) ∧
    (let r : Run := { wPass with steps := 1000 }
     r.kind = 0 ∧ r.overBudget = false ∧ (declOf 0 r.kernel r.pass).1 < r.steps) ∧
    wordsIllegal [0xFFFFFFFFFFFFFFFF] = true ∧
    (let d := wEng (fun g => { g with run := some wPass, reqs := [{ handle := 0, idx := 0, dst := 0 }] })
     (d.engine 0).reqs = [{ handle := 0, idx := 0, dst := 0 }] ∧ (d.engine 0).stall = none ∧ (d.tableOf 0).isSome = true) := by
  repeat' apply And.intro
  all_goals decide +kernel

end Sys2Proof
end

