-- ==== Sys2Proof/Tests/Commands.lean ====
section
/-! SUPPORT. States and commands that meet the premises of the statements on host commands, one line for each clause. -/

namespace Sys2Proof

set_option Elab.async false

open Sys2Proof.Machine

/-- `CommandBytesRoundTrip`. -/
theorem wit_CommandBytesRoundTrip :
    (let q := wReq 0x2001 1 511 [(16, 2 ^ 128 - 1)]
     q.op < 2 ^ 16 ∧ q.h.tag < 2 ^ 16 ∧ q.h.kind < 2 ^ 8 ∧ q.h.index < 2 ^ 24 ∧ q.h.effective < 2 ^ 64 ∧ q.h.flags < 2 ^ 16 ∧ q.h.batch < 2 ^ 32 ∧ q.h.auth < 2 ^ 32 ∧ q.pay.length < 2 ^ 16 ∧
       q.moved = false) ∧
    ∀ r ∈ ([(255, []), (1, [0])] : List (Nat × List Byte)), r.1 < 2 ^ 8 ∧ r.2.length < 2 ^ 16 := by decide +kernel

/-- `HostCommandsRejected`: an authority failure, a long payload, a reserved flag, a wrong token, and an opcode's own check. -/
theorem wit_HostCommandsRejected :
    HostRow 0x0004 Instr.setOwnership ∧ (wDev.host.pair 0).active = true ∧
    (let bad : HostReq := { wReq 0x0004 0 0 [] true with h := { wHead 0 0 true with pair := 1 } }
     (wDev.host.pair 1).active = true ∧ wDev.headOf bad = 0x0403) ∧
    4064 < (zeroBytes 4065).length ∧ 16 ≤ ({ wHead 0 0 true with flags := 16 } : CmdHead).flags ∧ ({ wHead 0 0 true with auth := 2 } : CmdHead).auth ≠ wDev.host.token ∧
    (let q := wReq 0x0004 0 0 [(4, 99), (1, 2)] true
     wDev.headOf q = 0 ∧ ((wDev.joins q).admits q 0 0).2.status = 0x0108) := by
  refine ⟨?_, ?_⟩
  · unfold HostRow; simp
  · decide +kernel

/-- `ManagementCommandsAct`. -/
theorem wit_ManagementCommandsAct :
    wDev.host.pairs.length = 32 ∧
    wDev.accepts (wReq 0x0004 0 0 [(4, 100), (1, 3)] true) ∧
    wDev.accepts (wReq 0x0006 10 2 [(8, 4096), (8, 8192), (4, 0x1006)] true) ∧
    wDev.accepts (wReq 0x0007 11 7 [(1, 0), (1, 1), (2, 1), (2, 0), (2, 0), (4, 0), (4, 64)]) ∧
    wDev.accepts (wReq 0x0008 11 0 []) ∧
    (let d : Dev := { wDev with ctl := { preCleared := [(0, 0)] } }
     d.accepts (wReq 0x0009 0 0 []) ∧ d.ctl.preCleared.contains (0, 0) = true) ∧
    (wDev.accepts (wReq 0x0009 0 0 []) ∧ (wOn id).accepts (wReq 0x0009 1 0 []) ∧ wDev.accepts (wReq 0x0009 12 17 []) ∧ wDev.accepts (wReq 0x0009 5 7 []) ∧
      wDev.ctl.preCleared.contains (0, 0) = false) ∧
    wDev.accepts (wReq 0x0020 0 0 [(4, 8)] true) ∧
    (wBulk [] 16).accepts (wReq 0x0021 16 1 [(4, 8), (4, 0), (8, 7)] true) ∧
    (wBulk [] 16).accepts (wReq 0x0022 16 1 [] true) := by
  unfold Dev.accepts
  repeat' apply And.intro
  all_goals decide +kernel

/-- `ManagementCommandsAct`: ABORT of a command that has ended, and of one that waits for Meridian 9. -/
theorem wit_ManagementCommandsAct_abort :
    (let d := wHost (fun h => h.onPair 0 (fun p => { p with completed := [{ tag := 5, op := 0x2001, fin := true }] }))
     let q := wReq 0x0005 10 0 [(2, 5)]
     d.accepts q ∧ d.host.openOps = [] ∧ d.abortSees q = .done) ∧
    (let x : Staged := { req := { op := 0x2001, h := { tag := 5 } }, meridian := 9, res := 1 }
     let d := wHost (fun h => { h.onPair 0 (fun p => { p with awaiting := [{ tag := 5, op := 0x2001 }] }) with staged := [x] })
     let q := wReq 0x0005 10 0 [(2, 5)]
     d.accepts q ∧ d.host.openOps = [] ∧ d.abortSees q = .live { tag := 5, op := 0x2001 } ∧ d.host.fetched = [] ∧
       d.host.staged.find? (fun y => y.req.h.pair = 0 && y.req.h.tag = 5) = some x ∧ x.req.h.batch = 0 ∧ d.ctl.cycle < x.meridian ∧ (d.host.pair 0).active = true) := by
  unfold Dev.accepts
  repeat' apply And.intro
  all_goals decide +kernel

/-- The premises of `QueriesAnswer` on one parameter of a GET_PARAMS. -/
def wGets (d : Dev) (q : HostReq) : Prop :=
  d.accepts q ∧ (d.seen.params q.op q.h.kind q.h.index).isSome ∧ entriesOf q.pay = [entAt q.pay 8] ∧ fieldLE q.pay 2 6 = 0 ∧ (paramFor q.op q.h.kind (entAt q.pay 8).id).isSome ∧
    (entAt q.pay 8).clean q.op q.h.kind true = true ∧ isReact (entAt q.pay 8).id = false ∧ (entAt q.pay 8).sub = 0

/-- `QueriesAnswer`: GET_PARAMS of each class. -/
theorem wit_QueriesAnswer_params :
    wGets wDev (wReq 0x0002 0 0 (wEnt pTEMP_WARN 0) true) ∧ wGets (wOn id) (wReq 0x1002 1 0 (wEnt pOVR_LIMIT 0) true) ∧ wGets wDev (wReq 0x3002 3 0 (wEnt pORR_THETA0 0) true) ∧
    wGets wDev (wReq 0x4002 0 0 (wEnt pT_CYC 0) true) ∧ wGets wDev (wReq 0x5002 9 0 (wEnt pCAP_EDGE 0) true) := by
  unfold wGets Dev.accepts
  repeat' apply And.intro
  all_goals decide +kernel

/-- `QueriesAnswer`: the queries. -/
theorem wit_QueriesAnswer :
    wDev.accepts (wReq 0x0003 0 0 [] true) ∧ wDev.accepts (wReq 0x0010 0 0 [] true) ∧
    ((wOn id).accepts (wReq 0x1040 1 0 [] true) ∧ Tab.find (wOn id).seen.motion.axes 0 = some {}) ∧
    ((wStep id).accepts (wReq 0x1041 2 0 [] true) ∧ Tab.find (wStep id).seen.motion.steppers 0 = some {}) ∧
    wDev.accepts (wReq 0x4020 5 0 [] true) ∧ wDev.accepts (wReq 0x4021 5 7 [] true) ∧ wDev.accepts (wReq 0x5020 0 0 [] true) ∧
    (wDev.accepts (wReq 0x5022 8 0 [] true) ∧ wDev.accepts (wReq 0x5022 9 15 [] true) ∧ wDev.accepts (wReq 0x5022 13 1 [] true)) ∧
    wDev.accepts (wReq 0x6006 0 0 [] true) ∧ wDev.accepts (wReq 0x7002 0 0 [] true) ∧
    (let d := wSi (fun x => { x with conf := some { conns := [{ id := 9, seg := 0, pos := 0, node := 1, fbOuts := 0, wd := 1000, stoFb := 100 }] } })
     d.accepts (wReq 0x8001 0 0 [] true) ∧ d.accepts (wReq 0x8001 14 0 [] true) ∧ (d.seen.si.entry 0).isSome = true) ∧
    wDev.accepts (wReq 0x9002 0 0 [] true) ∧ wDev.accepts (wReq 0xA005 0 0 [] true) ∧
    (let x : ChrCapture := { num := 3, slot := 0, mode := 0, chans := 1, reduce := 0, frameBytes := 16, complete := true }
     let d := wChr (fun c => { c with stored := [x] })
     d.accepts (wReq 0x6005 0 0 [(2, 3), (2, 0), (4, 0), (2, 4048)] true) ∧ d.chr.find 3 = some x) ∧
    wDev.accepts (wReq 0x7001 0 0 [(4, 0), (2, 126)] true) ∧
    (wDev.accepts (wReq 0x5021 9 0 [(2, 253)] true) ∧ wDev.tu.tcaps.length = 16) := by
  unfold Dev.accepts
  repeat' apply And.intro
  all_goals decide +kernel

/-- The premises on a SET_PARAMS of one parameter that comes into force at once. -/
def wSets (d : Dev) (q : HostReq) : Prop :=
  entriesOf q.pay = [entAt q.pay 8] ∧ (paramFor q.op q.h.kind (entAt q.pay 8).id).isSome ∧ instantly q.op q.h.kind (entAt q.pay 8) = true ∧ d.accepts q

/-- `AxisAndParameterCommandsAct`: parameters. -/
theorem wit_AxisAndParameterCommandsAct_params :
    wSets (wOn id) (wReq 0x1001 1 0 (wEnt pOVR_LIMIT 15)) ∧ wSets (wStep id) (wReq 0x1001 2 0 (wEnt pST_OVR_LIMIT 15)) ∧ wSets wDev (wReq 0x3001 3 0 (wEnt pORR_THETA0 5)) ∧
    wSets wDev (wReq 0x0001 0 0 (wEnt pTEMP_WARN 90)) ∧ (wSets wDev (wReq 0x5001 9 15 (wEnt pCAP_EDGE 2)) ∧ wDev.tu.tcaps.length = 16) ∧
    (let q := wReq 0x4001 0 0 (wEnt pT_CYC 1000000)
     entriesOf q.pay = [entAt q.pay 8] ∧ (paramFor 0x4001 0 (entAt q.pay 8).id).map (fun x => x.eff) = some .ringStart ∧ wDev.accepts q) := by
  unfold wSets Dev.accepts
  repeat' apply And.intro
  all_goals decide +kernel

/-- `AxisAndParameterCommandsAct`: the axis commands, each for a servo axis and for a stepper axis. -/
theorem wit_AxisAndParameterCommandsAct :
    ({ wDev with engines := List.replicate 18 { seeing := 32768, sPlan := 32768 } } : Dev).accepts (wReq 0x1010 1 511 (wEnt pOVR_LIMIT 3)) ∧
    wDev.accepts (wReq 0x1010 2 1023 (wEnt pST_OVR_LIMIT 3)) ∧
    (wOn id).accepts (wReq 0x1011 1 0 []) ∧ (wStep id).accepts (wReq 0x1011 2 0 []) ∧
    ({ wOn id with ring := { map := wMap } } : Dev).accepts (wReq 0x1012 1 0 []) ∧ ({ wStep id with ring := { map := wMap } } : Dev).accepts (wReq 0x1012 2 0 []) ∧
    ((wOn (wState 1)).accepts (wReq 0x1013 1 0 []) ∧ ((wOn (wState 1)).axis 0).fol = none) ∧ (wStep (fun x => { x with state := 1 })).accepts (wReq 0x1013 2 0 []) ∧
    ((wOn (wState 4)).accepts (wReq 0x1014 1 0 []) ∧ ((wOn (wState 4)).axis 0).shed = false) ∧ (wStep (fun x => { x with state := 5 })).accepts (wReq 0x1014 2 0 []) ∧
    (let d : Dev := { wBulk [] 2048 with motion := { axes := [(0, {})] } }
     let q := wReq 0x1020 1 0 [(2, 1), (1, 0), (1, 0), (2, 1024), (2, 0), (8, 1048576), (4, 0xF1E8BA9E)]
     d.accepts q ∧ fieldLE q.pay 4 2 ≠ 0 ∧ Tab.find d.host.bulks (fieldLE q.pay 0 2) = some { len := 2048 }) ∧
    (wOn id).accepts (wReq 0x1030 1 0 [(1, 0), (1, 0), (1, 2), (1, 0), (4, 0), (4, 100000)]) ∧ (wStep id).accepts (wReq 0x1030 2 0 [(1, 2), (1, 1), (1, 255), (1, 0), (4, 0), (4, 0)]) ∧
    (wStep id).accepts (wReq 0x1050 2 0 [(8, 77)]) := by
  unfold Dev.accepts
  repeat' apply And.intro
  all_goals decide +kernel

/-- The payload of MODE. -/
def wMode (m t : Nat) : List (Nat × Nat) := [(1, m), (7, 0), (8, t)]

/-- `MotionCommandsAct`: MODE, ESTOP and PROCESS_WRITE. -/
theorem wit_MotionCommandsAct :
    (wOn (wState 1)).accepts (wReq 0x2001 1 0 (wMode 1 (2 ^ 64 - 9))) ∧
    (let q := wReq 0x2001 1 0 (wMode 5 0)
     (wOn (wState 1)).accepts q ∧ fieldLE q.pay 0 1 = 5 ∧ ((wOn (wState 1)).axis 0).now.sup.state ≠ 0 ∧ ((wOn (wState 1)).axis 0).stored = [] ∧ ((wOn (wState 1)).axis 0).prm.nat pHOME_METHOD ≠ 4) ∧
    (wStep (fun x => { x with state := 1 })).accepts (wReq 0x2001 2 0 (wMode 0 9)) ∧
    (wOn (wState 1)).accepts (wReq 0x2100 1 0 [(1, 2), (7, 0)]) ∧ (wStep (fun x => { x with state := 1 })).accepts (wReq 0x2100 2 0 [(1, 3), (7, 0)]) ∧
    (wOn (wState 2)).accepts (wReq 0x2100 0 0 [(1, 3), (7, 0)]) ∧ ({ wOn (wState 1) with ring := { map := wMap } } : Dev).accepts (wReq 0x2100 5 0 [(1, 2), (7, 0)]) ∧
    wDev.accepts (wReq 0x2200 0 0 [(4, 0x77FFF8), (2, 8), (2, 0), (1, 0xA5)]) := by
  unfold Dev.accepts
  repeat' apply And.intro
  all_goals decide +kernel

/-- `MotionCommandsAct`: Orreries, cams and register channels. -/
theorem wit_MotionCommandsAct_objects :
    wDev.accepts (wReq 0x3010 3 31 []) ∧ (wOrr (fun o => { o with state := 1 })).accepts (wReq 0x3011 3 0 []) ∧ (wOrr (fun o => { o with state := 1 })).accepts (wReq 0x3012 3 0 [(8, 5)]) ∧
    (wOrr (fun o => { o with state := 2 })).accepts (wReq 0x3013 3 0 []) ∧
    (let pay : List (Nat × Nat) := [(2, 1), (1, 0), (1, 0), (4, 16), (8, 1048576), (8, 0), (8, 0), (4, 0x0D968558)]
     let q := wReq 0x3020 7 255 pay
     ((wBulk [] 256).accepts q ∧ Tab.find (wBulk [] 256).host.bulks (fieldLE q.pay 0 2) = some { len := 256 } ∧ (wBulk [] 256).camUsers 255 = []) ∧
     (let d : Dev := { wBulk [] 256 with motion := { cams := [(255, wCam)], axes := [(0, { fol := some { cam := true, camId := 255 } })] } }
      d.accepts q ∧ d.camUsers 255 ≠ [] ∧ Tab.find d.motion.cams 255 = some wCam)) ∧
    (wMot { cams := [(0, wCam)] }).accepts (wReq 0x3021 7 0 []) ∧
    ((wMot { regs := [(63, {})] }).accepts (wReq 0x3030 4 63 []) ∧ Tab.find (wMot { regs := [(63, {})] }).motion.regs 63 = some {}) := by
  unfold Dev.accepts
  repeat' apply And.intro
  all_goals decide +kernel

/-- The device with MAP_LOAD's bulk data. -/
def wMapDev : Dev := wBulk (wData wMapData) 16

/-- The same with that map in force and segment 0 in RUN under this leader. -/
def wMapped : Dev := { wMapDev with ring := { map := mapOfLoad (wPay wMapPay) (wPay wMapData), role := 3, segs := (List.replicate 8 {}).set 0 { state := 7 } } }

/-- `DeviceCommandsAct`: network and time. -/
theorem wit_DeviceCommandsAct_net :
    (let q := wReq 0x4010 0 0 wMapPay
     let m := mapOfLoad q.pay (({ len := 16, data := wData wMapData } : Bulk).bytes (16 * fieldLE q.pay 2 2))
     (wMapDev.accepts q ∧ Tab.find wMapDev.host.bulks (fieldLE q.pay 0 2) = some { len := 16, data := wData wMapData } ∧ wMapDev.ring.map.lightChange m = false) ∧
     (wMapped.accepts q ∧ Tab.find wMapped.host.bulks (fieldLE q.pay 0 2) = some { len := 16, data := wData wMapData })) ∧
    wMapped.accepts (wReq 0x4011 0 0 [(2, 0), (1, 1), (1, 3), (4, 1)]) ∧
    (wDev.accepts (wReq 0x4012 0 0 []) ∧ wMapped.accepts (wReq 0x4012 5 0 []) ∧ (wMapped.ring.seg 0).state = 7) ∧
    (wMapped.accepts (wReq 0x4030 6 0 [(2, 16), (2, 2), (4, 0), (2, 7)] true) ∧ (wMapped.ring.seg 0).mail = none ∧ wMapped.mailOps 0 = []) ∧
    (wDev.accepts (wReq 0x5010 0 0 [(8, 5), (4, 999999999)]) ∧ wDev.tu.hostSet = [] ∧ wDev.tu.servoStep = none) := by
  unfold Dev.accepts
  repeat' apply And.intro
  all_goals decide +kernel

/-- `DeviceCommandsAct`: a map that is loaded again changes no layout. -/
theorem wit_DeviceCommandsAct_light (m : FrameMap) : m.lightChange m = true := by
  have h (l : Tab MapEntry) (f : (Nat × MapEntry) × (Nat × MapEntry) → Bool) (hf : ∀ x, f (x, x) = true) : (List.zip l l).all f = true := by
    induction l with
    | nil => rfl
    | cons x xs ih => simp [List.zip_cons_cons, hf, ih]
  simp [FrameMap.lightChange, h]

/-- `DeviceCommandsAct`: Chronograph, Logbook and Safety Island. -/
theorem wit_DeviceCommandsAct :
    (wBulk (wData wChrData) 208).accepts (wReq 0x6001 0 0 [(2, 1), (2, 0), (4, 0x4004BB14)]) ∧
    (wChr (fun c => { c with conf := some wConf })).accepts (wReq 0x6002 0 0 [(1, 3)]) ∧
    ((wChr (fun c => { c with conf := some wConf })).accepts (wReq 0x6003 0 0 []) ∧ (wChr (fun c => { c with conf := some wConf })).chr.conf.isSome = true) ∧
    (wChr (fun c => { c with conf := some wConf, state := 1 })).accepts (wReq 0x6004 0 0 []) ∧
    wDev.accepts (wReq 0x7003 0 0 [(2, 7), (6, 0), (16, 9)] true) ∧
    (wBoot (fun b => { b with ownerKey := some (zeroBytes 32) })).accepts (wAuth 0x7010 0 0 [] true) ∧ (wBoot (fun b => { b with ownerKey := some (zeroBytes 32) })).accepts (wAuth 0x8010 0 0 [] true) ∧
    (let c : SiConf := { conns := [{ id := 9, seg := 0, pos := 0, node := 1, fbOuts := 0, wd := 1000, stoFb := 100 }] }
     (wSi (fun x => { x with conf := some c, state := 2, conns := [(0, { state := 3 })] })).accepts (wReq 0x8002 14 0 []) ∧
     ((wSi (fun x => { x with conf := some c, state := 1 })).accepts (wReq 0x8002 0 0 []) ∧ (wSi (fun x => { x with conf := some c, state := 1 })).si.state = 1)) := by
  unfold Dev.accepts
  repeat' apply And.intro
  all_goals decide +kernel

/-- `DeviceCommandsAct`: self-test, repair and images. -/
theorem wit_DeviceCommandsAct_images :
    (let hot : Dev := { wDev with pace := { temps := [2000] } }
     let q := wReq 0x9001 0 0 [(1, 0), (1, 0)]
     hot.accepts q ∧ stMem q = false ∧ hot.tempHold = true) ∧
    (let d : Dev := { wDev with ctl := { running := true }, engines := List.replicate 17 {} ++ [{ role := 1 }] }
     let q := wReq 0x9001 12 17 [(1, 0), (1, 0)]
     d.accepts q ∧ stMem q = false ∧ d.tempHold = false ∧ stBlock q ≤ 0x11 ∧ d.engineTestable (stBlock q) = true) ∧
    (let q := wReq 0x9001 0 0 [(1, 0x80), (1, 1)]
     wDev.accepts q ∧ stMem q = true ∧ (poolBanks (stBlock q)).filter (fun x => !wDev.tru.degraded.contains (bankDomain x)) ≠ []) ∧
    wDev.accepts (wReq 0x9003 0 0 [(4, 15), (4, 10), (4, 10000), (4, 1), (4, 3600), (4, 86400), (4, 10), (4, 0)]) ∧ wDev.accepts (wReq 0x9004 0 0 [] true) ∧
    wDev.accepts (wReq 0xA001 15 256 [(4, 192)] true) ∧ (wBoot (fun b => { b with slotOpen := some (0, 1, 192) })).accepts (wReq 0xA002 15 1 [(4, 184), (4, 0), (8, 5)] true) ∧
    (let q := wReq 0xA004 15 0 [(1, 0)]
     let d : Dev := { wDev with flash := wCells 0 wManifest }
     d.accepts q ∧ fieldLE q.pay 0 1 = 0) := by
  unfold Dev.accepts
  repeat' apply And.intro
  all_goals decide +kernel

end Sys2Proof
end

