-- ==== Sys2Proof/Tests/Hosts.lean ====
section
/-! SUPPORT. States that meet the premises of the statements on the Chronograph, the Logbook, the Test and Repair Unit and the Host Interface Unit, one line for each clause. -/

namespace Sys2Proof

set_option Elab.async false

open Sys2Proof.Machine

/-! ## Chronograph -/

/-- A configuration without channels that fires on no condition; a frame holds `interval` samples. -/
def wChrConf (interval : Nat) : ChrConf :=
  { reduce := 0, combine := 0, mask := 0, div := 1, phase := 0, interval := interval, ringBytes := 65536, pre := 1, post := 4, holdoff := 0, autoTimeout := 0, window := 0, pair := 0, block := 0, flush := 0,
    chans := [], conds := [] }

/-- An empty capture. -/
def wCap : ChrCapture := { num := 1, slot := 0, mode := 0, chans := 0, reduce := 0, frameBytes := 0 }

/-- A device whose Chronograph has that configuration; Plate 4 is the latest. -/
def wChrOn (interval : Nat) (f : Chr → Chr) : Dev := { wDev with ctl := { published := 4 }, chr := f { conf := some (wChrConf interval), cur := some wCap }, power := { wDev.power with trace := true } }

/-- `ChronographSamples`: a Plate out of phase, one inside a frame, and one at its end, before and after the trigger; the end of the hold-off, the automatic trigger, a stream record of the
Chronograph and one of a Plate stream, with and without room. -/
theorem wit_ChronographSamples :
    (4 % 3 ≠ 2 ∧ 4 % 1 = 0 ∧ (wChrConf 8).mask = 0) ∧
    (∀ i ∈ [1, 8], (let d := wChrOn i (fun c => { c with state := 1, mode := 2 })
     let k := wChrConf i
     d.chr.conf = some k ∧ d.chr.state = 1 ∧ d.ctl.published ≠ 0 ∧ d.chr.lastPlate ≠ 4 ∧ d.power.trace = true ∧ d.chr.force = none ∧ d.chr.cur = some wCap ∧ k.autoTimeout ≤ d.chr.autoCnt ∧
       d.chr.mode = 2 ∧ 1 < k.post ∧ wCap.post = [] ∧ (4 / k.div % k.interval = k.interval - 1 ↔ i = 1))) ∧
    (∀ n ∈ [0, 3], (let x : ChrCapture := { wCap with post := List.replicate n { bytes := [], cycle := 0, first := 0, layout := 0 } }
     let d := wChrOn 1 (fun c => { c with state := 2, cur := some x })
     d.chr.state = 2 ∧ d.chr.cur = some x ∧ d.chr.mode = 0 ∧ x.post.length = n)) ∧
    (let d := wChrOn 1 (fun c => { c with state := 3 })
     d.chr.state = 3 ∧ (wChrConf 1).holdoff ≤ d.chr.holdCnt) ∧
    (let d := wChrOn 1 (fun c => { c with state := 4, fifo := [{ mark := true, bytes := [], cycle := 4, layout := 0 }] })
     d.chr.record.isSome = true ∧ d.chr.due false = true ∧ (d.host.pair 0).active = true ∧ (∀ x, d.chr.record = some x → ceilDiv x.1.length 64 ≤ (d.host.pair 0).freeReply)) ∧
    (let st : Stream := { pair := 0, period := 1, phase := 0, regions := [], halves := [zeroBytes 64] }
     let d := wHost (fun h => { h with streams := [(0, st)] })
     Tab.find d.host.streams 0 = some st ∧ (d.host.pair st.pair).active = true ∧ ceilDiv (zeroBytes 64).length 64 ≤ (d.host.pair st.pair).freeReply) ∧
    ((wDev.host.pair 2).active = false) := by
  refine ⟨by decide +kernel, by decide +kernel, by decide +kernel, by decide +kernel, ⟨by decide +kernel, by decide +kernel, by decide +kernel, ?_⟩, by decide +kernel, by decide +kernel⟩
  intro x hx
  cases hx
  decide +kernel

/-! ## Logbook -/

/-- `LogbookKeepsEvents`: events before a Logbook with and without room, a record to write, a clear that waits, records to persist, an erasure, and the periodic record. -/
theorem wit_LogbookKeepsEvents :
    (let e := evM srcLog eCLEARED
     let d : Dev := { wDev with router := { toLog := [e] }, log := { fifo := List.replicate 254 (LogEntry.ev e) ++ [LogEntry.lost 1 0 0] } }
     d.router.toLog = e :: [] ∧ 254 < d.log.fifo.length ∧ d.log.fifo.getLast? = some (LogEntry.lost 1 0 0) ∧ ({} : Log).fifo.length + 2 ≤ 256 ∧ ({} : Log).clearPending = 0 ∧
       ({ fifo := [LogEntry.ev e] } : Log).fifo = LogEntry.ev e :: []) ∧
    (0 < ({ clearPending := 1 } : Log).clearPending ∧ ({ seqRes := 100000 } : Log).needsRes = false) ∧
    (let l : Log := { waiting := [(1, zeroBytes 32)] }
     l.persistFault = false ∧ l.waiting ≠ []) ∧
    (let l : Log := { erasing := true }
     l.erasing = true ∧ l.clearPending = 0) ∧ wDev.host.mgtReady = true ∧ State.reset.dev.host.mgtReady = false := by
  repeat' apply And.intro
  all_goals decide +kernel

/-! ## Test and Repair -/

/-- A running device with another Test and Repair Unit; engine 17 is a spare. -/
def wTru (f : Tru → Tru) : Dev := { wRun id with tru := f {}, engines := List.replicate 17 {} ++ [{ role := 1 }] }

/-- `SelfTestsRun`: the scheduled tests that are due; a burst of a planner core and of a step engine whose window is too short for it; the ends of logic tests and of memory tests. -/
theorem wit_SelfTestsRun :
    (let d := wTru (fun t => { t with wanted := [3] })
     d.host.mgtReady = true ∧ d.boot.recovery = false ∧ d.tru.dueEngine = some 3 ∧ (∀ i ∈ [0, 1, 3], bit (fieldLE d.tru.sched 0 1) i = true) ∧ d.tempHold = false ∧ d.engineTestable 3 = true ∧
       d.dueOther.isSome = true ∧ d.tru.logic = none ∧ d.tru.dueBank.isSome = true ∧ d.tru.mem = none ∧ d.tru.engineTest = false ∧ d.tru.asked = []) ∧
    ({ wTru id with pace := { temps := List.replicate 8 3200 } } : Dev).tempHold = true ∧
    (blockMethod 0x20 = 1 ∧ meetsBurst 0x20 = true ∧ (wTru id).burstHeld = false ∧ ({ wTru id with ctl := { (wTru id).ctl with prm := [(pT_CYC, 6000)] } } : Dev).burstHeld = true) ∧
    (∀ b ∈ [3, 0x20, 0x30], (let l : LogicTest := { block := b, seed := 0, start := 0, progress := 1000000 }
     let d := wTru (fun t => { t with logic := some l, stops := [] })
     d.tru.logic = some l ∧ d.tru.stops = [] ∧ l.begun = true ∧ blockPatterns l.block ≤ l.progress ∧ (b = 3 → l.block ≤ 0x11 ∧ l.block < d.engines.length ∧ (d.engine l.block).role ≠ 4) ∧
       (b = 0x20 → blockMethod b = 1) ∧ (b = 0x30 → blockMethod b = 2))) ∧
    ((1, false) ∈ ({ stops := [(1, false)] } : Tru).stops ∧ (1, true) ∉ ({ stops := [(1, false)] } : Tru).stops ∧ (1, false) ∉ ({ stops := [(1, true)] } : Tru).stops ∧
      (1, true) ∈ ({ stops := [(1, true)] } : Tru).stops) ∧
    (let m : MemTest := { block := 0x80, bank := 0, start := 0 }
     let t : Tru := { mem := some m }
     t.mem = some m ∧ t.stops = [] ∧ t.asked = [] ∧ m.left = [] ∧ m.verdict < 4 ∧ ({ m with left := [1] } : MemTest).left = 1 :: [] ∧ t.degraded = [] ∧ (t.repairAll 0 [(0, 5)]).isSome = true ∧
       ({ t with soft := (List.range 64).flatMap (fun i => [{ bank := 0, kind := 0, spare := i, addr := i + 100 }, { bank := 0, kind := 1, spare := i, addr := i + 100 }]) } : Tru).repairAll 0 [(0, 5)] = none) ∧
    (let d : Dev := { wTru (fun t => { t with reload := [3] }) with engines := List.replicate 18 { role := 3 } }
     3 ∈ d.tru.reload ∧ 4 ∉ d.tru.reload ∧ d.boot.live = none ∧ (d.engine 3).role = 3) := by
  repeat' apply And.intro
  all_goals decide +kernel

/-- `FaultsAreContained`. -/
theorem wit_FaultsAreContained :
    (wDev.host.mgtReady = true ∧ bit (fieldLE wDev.tru.sched 0 1) 2 = true ∧ bit (fieldLE ({ sched := [0] } : Tru).sched 0 1) 2 = false ∧ wDev.tru.asked = []) ∧
    (let d : Dev := { wDev with tru := { poisoned := [8] }, pace := { plan := { place := [(0, 1, 2)] } }, host := { wDev.host with staged := [{ req := { op := 0x1012, h := {} }, meridian := 6, res := 1 }], openOps := [{ req := { op := 0x1010, h := {} }, res := 0 }] } }
     8 ∈ d.tru.poisoned ∧ 9 ∉ d.tru.poisoned ∧ Tab.find d.pace.plan.place 0 = some (1, 2) ∧ d.host.staged[0]?.isSome = true ∧ d.host.openOps[0]?.isSome = true ∧
       (d.host.pair 0).active = true) ∧
    (let t : Tru := { fencedLinks := [20] }
     (t.route 0 1)[0]? = some 0 ∧ (t.route 0 1)[1]? = none ∧ meshConnected (0 :: t.fencedLinks) = false ∧ meshConnected (0 :: ({} : Tru).fencedLinks) = true ∧ (({} : Tru).route 0 1)[0]? = some 0) ∧
    (crc16 [] = 0xFFFF ∧ crc16 [] ≠ 0) ∧ (wDev.engines.length = 18 ∧ (wDev.engine 3).role ≠ 4 ∧ wDev.tru.logic = none ∧ 3 ∉ wDev.tru.fencedEngines) ∧
    (let t : Tru := { fencedLinks := [0], passed := [0, 1] }
     0 ∈ t.fencedLinks ∧ (linkEnds 0).1 ∈ t.passed ∧ (linkEnds 0).2 ∈ t.passed ∧ bit (fieldLE t.sched 0 1) 3 = true) := by
  repeat' apply And.intro
  all_goals decide +kernel

/-! ## The host interface -/

/-- `OwnershipMoves` and `PlateWindowAndRegisters`: the device is owned or not; the buffer asked for holds the Plate asked for, or another; a pin held; each kind of register access. -/
theorem wit_HostAccess :
    (wDev.host.linkUp = true ∧ wDev.host.owned = true ∧ ({} : Hif).owned = false ∧ ({} : Hif).linkUp = false ∧ ({ owned := false, linkUp := true } : Hif).linkUp = true ∧ (2 : Nat) ≠ wDev.host.token ∧
      ({} : Hif).tokens.length ≤ 65535) ∧
    (let d : Dev := { wDev with host := { wDev.host with pinCycle := 4, pin := some (1, 4) }, plates := [[], wCells 0 (leBytes 8 4), [], []] }
     d.host.pinCycle ≠ 0 ∧ bit 5 2 = true ∧ bit 1 2 = false ∧ d.plateSeal (5 % 4) = d.host.pinCycle ∧ d.plateSeal (6 % 4) ≠ d.host.pinCycle ∧ d.host.pin = some (1, 4)) ∧
    ((8 ≠ 4 ∧ 1 % 4 ≠ 0 ∧ wideReg 0x000000 = false ∧ wideReg 0x000018 = true ∧ 0x000018 % 8 = 0 ∧ 0x000308 % 4 = 0) ∧ ({ halfRead := some (0x00001C, 7) } : Hif).halfRead = some (0x000018 + 4, 7) ∧
      ({ halfWrite := some (0x000210, 7) } : Hif).halfWrite = some (0x000210, 7)) := by
  repeat' apply And.intro
  all_goals decide +kernel

/-- A reply to be posted. -/
def wOutRec : OutRec := { bytes := zeroBytes 64 }

/-- `RingsAndInterrupts`. -/
theorem wit_RingsAndInterrupts :
    (wDev.host.pairs.length = 32 ∧ wDev.host.linkUp = true ∧ (wDev.host.pair 0).enable = true ∧ (wDev.host.pair 0).active = true ∧ (wDev.host.pair 2).enable = false ∧ bit 1 0 = true ∧ bit 0 0 = false ∧
      (wDev.host.pair 0).resizing = false ∧ ({ resizing := true } : Pair).resizing = true) ∧
    (let d := wHost (fun h => h.onPair 0 (fun p => { p with out := [wOutRec] }))
     (d.host.pair 0).active = true ∧ (d.host.pair 0).out = wOutRec :: [] ∧ wOutRec.hold ≤ d.ctl.published ∧ d.host.mgtRestart = false ∧ (d.host.pair 0).room wOutRec = true ∧ wOutRec.op ≠ 0x0006 ∧
       wOutRec.quiet = false ∧ bit (d.host.pair 0).qctrl 14 = true ∧
       ({ qsize := 0x000, active := true } : Pair).room wOutRec = false) ∧
    (let e : HostEv := { seq := 0, tbS := 0, tbNs := 0, ev := evM srcLog eCLEARED }
     let d : Dev := { wHost (fun h => { h with eventPair := 1 }) with router := { toHost := [e] } }
     d.router.toHost = e :: [] ∧ d.host.eventPair = 1 ∧ (d.host.pair 1).active = true ∧ bit (d.host.pair 1).qctrl 2 = false ∧ bit (d.host.pair 0).qctrl 2 = true ∧ 1 ≤ (d.host.pair 1).spare ∧ (wDev.host.pair 2).active = false) ∧
    (let p : Pair := { irqMod := 65536, unsignalled := 1, qctrl := 0x4000 }
     p.irqMod / 65536 ≠ 0 ∧ 0 < p.unsignalled ∧ bit p.qctrl 14 = true) := by
  repeat' apply And.intro
  all_goals decide +kernel

/-- The 64 bytes of a command slot: the opcode, its target, EFFECTIVE, the flags, the batch and the authority. -/
def wSlot (op target eff flags batch auth : Nat) : List Byte := wPay [(2, op), (2, 1), (4, target), (8, eff), (2, flags), (2, 0), (4, batch), (4, auth), (4, 0), (32, 0)]

/-- A running device whose pair 0 has a command to fetch. -/
def wFetch (f : Hif → Hif) : Dev := { wRun id with host := f (wDev.host.onPair 0 (fun p => { p with qctrl := 0x4001, cqTailLast := 1 })) }

/-- STREAM_START, as a command without a batch, as a member and as a last member. -/
def wMember (batch flags : Nat) (kind : Nat := 11) : HostReq :=
  { op := 0x0007, h := { kind := kind, index := 7, auth := 1, batch := batch, flags := flags, effective := 0 }, pay := wPay [(1, 0), (1, 1), (2, 1), (2, 0), (2, 0), (4, 0), (4, 64)] }

/-- The check of a command on its way into staging. -/
def wCheck (q : HostReq) : Nat :=
  let d := wRun id
  (d.admits q (d.gateCheck q) (d.roomCheck q d.host.stagingUsed)).2.status

/-- `CommandsFetchedAndAdmitted`: the fetch of a command with a wrong token, of a valid one before and during a restart of the management core, and of an emergency stop;
the admission of a command without a batch, of members, and of commands that fail. -/
theorem wit_CommandsFetched :
    ((wFetch id).host.turn = some 0 ∧ wDev.host.turn ≠ some 0) ∧
    (let b := wSlot 0x0003 0 immediate 0 0 2
     let d := wFetch id
     64 * ceilDiv (32 + fieldLE b 18 2) 64 ≤ b.length ∧ (d.host.pair 0).blocked (Machine.headOf 0 b) 0 = false ∧ d.host.headCheck (Machine.headOf 0 b) 0 0 = 0x0401) ∧
    (∀ m ∈ [false, true], (let b := wSlot 0x0003 0 immediate 0 0 1
     let d := wFetch (fun h => { h with mgtRestart := m })
     d.host.turn = some 0 ∧ (d.host.pair 0).blocked (Machine.headOf 0 b) 0 = false ∧ d.host.headCheck (Machine.headOf 0 b) 0 0 = 0 ∧ reserveOf (Machine.headOf 0 b) ≤ (d.host.pair 0).rqSlots - 1 ∧
       (Machine.headOf 0 b).op ≠ 0x2100 ∧ d.host.mgtRestart = m)) ∧
    (let b := (wPay [(2, 0x2100), (2, 1), (4, 0), (8, 0), (2, 0), (2, 8), (4, 0), (4, 1), (4, 0), (1, 2), (7, 0), (24, 0)])
     let q := Machine.headOf 0 b
     let d := wFetch id
     64 * ceilDiv (32 + fieldLE b 18 2) 64 ≤ b.length ∧ (d.host.pair 0).blocked q 8 = false ∧ d.host.headCheck q 8 0 = 0 ∧ q.op = 0x2100 ∧ plenOk 0x2100 q.pay = true ∧ [0, 1, 2, 5].contains q.h.kind = true ∧
       targetOk q.h.kind q.h.index = true ∧ (d.estopCheck q).status = 0 ∧ d.host.recovery = false ∧ d.ring.role ≠ 5 ∧ d.ctl.running = true) ∧
    ((∀ b ∈ [0, 7], ∀ f ∈ [0, 1], wCheck (wMember b f) = 0 ∧ wCheck (wMember b f 0) ≠ 0) ∧ ((opDesc 0x0007).map (fun o => immediateOp o.eff)) = some false ∧ wDev.host.batches = [] ∧
      bit (wMember 7 1).h.flags 0 = true ∧ bit (wMember 7 0).h.flags 0 = false ∧ (wMember 7 0).h.effective ≠ immediate) := by
  repeat' apply And.intro
  all_goals decide +kernel

end Sys2Proof
end

