-- ==== Sys2Proof/Tests/Nets.lean ====
section
/-! SUPPORT. States that meet the premises of the statements on Pace and on the Ngudra segments, one line for each clause. -/

namespace Sys2Proof

set_option Elab.async false

open Sys2Proof.Machine

/-- A Frame Map with segment 0 of one node, a reserved position after it and a spare entry of each direction. -/
def wNetMap : FrameMap :=
  { descs := { outOfs := 36, inOfs := 36, echoOfs := 84, spareOfs := 92, length := 116, nodes := 1 } :: List.replicate 7 {},
    nodes := [{ seg := 0, pos := 2, vendor := 0, product := 0, kind := 0, caps := 0, reserved := true }],
    entries := [(0, { input := false, seg := 0, kind := 4, node := 0, forceCount := false, ofs := 92, len := 8, target := 0, holdMax := 0 }),
                (1, { input := true, seg := 0, kind := 4, node := 0, forceCount := false, ofs := 100, len := 6, target := 0, holdMax := 0 })] }

/-- What a launch writes into the frames below. -/
def wLaunch : LaunchInfo := { cycleLo := 4, launchNs := 0, era := 0, mac := 5, etype := 0x88B5, stat := 0 }

/-- An acyclic frame of segment 0 as it returns after `hop` nodes. -/
def wFrame (svc hop : Nat) (payload : List Byte) : List Byte :=
  let f := acyclicFrame wLaunch 0 0 svc 0xFF 0 payload
  withFcs (putBytes (f.take (f.length - 4)) 44 (leBytes 1 hop))

/-- A cycle frame of segment 0 from the source address `mac`. -/
def wCycle (mac : Nat) : List Byte :=
  let l : LaunchInfo := { wLaunch with mac := mac }
  envelope l 0 (headerBytes l 0 1 46 4 36 36 36 36 0 ++ zeroBytes 14)

/-- A device with segment 0 configured and changed by `f`, in a role. -/
def wNet (role : Nat) (f : Segment → Segment) : Dev := { wDev with ring := { role := role, map := wNetMap, segs := f {} :: List.replicate 7 {} } }

/-- A frame that is out comes back as itself. -/
theorem outstanding_self (x : Segment) (f : List Byte) {svc : Nat} (hk : frameKind f = 3) (hs : service f = svc) : ({ x with sent := [f] } : Segment).outstanding svc f = some f := by
  simp [Segment.outstanding, hk, hs]

/-! ## Pace -/

/-- `PacePlansAreBuilt` and `PaceMeasurementsAct`: a plan without axes is admitted; one under
which a stepper axis has no room beside the ring delay is not. -/
theorem wit_Pace :
    (let d : Dev := { wRun id with pace := { trigger := true } }
     d.ctl.running = true ∧ d.pace.trigger = true ∧ d.pace.building = none ∧ d.pace.done = none ∧ d.ctl.cycle + planLead d.tcyc ≤ 20) ∧
    (∀ low ∈ [false, true], (let d : Dev := { wRun id with pace := { building := some 20, marginLow := low } }
     d.ctl.running = true ∧ d.pace.building = some 20 ∧ d.ctl.cycle < 20 ∧ d.planAdmitted (d.makePlan 20).1 (d.makePlan 20).2 = true ∧ d.pace.marginLow = low)) ∧
    (let d : Dev := { wRun id with pace := { building := some 20 }, motion := { steppers := [(0, {})] }, ring := { role := 3, map := wNetMap, segs := { tRing := 62000 } :: List.replicate 7 {} } }
     d.pace.building = some 20 ∧ d.planAdmitted (d.makePlan 20).1 (d.makePlan 20).2 = false) ∧
    (let d : Dev := { wRun id with pace := { marginLow := true }, engines := { mismPasses := 1000 } :: List.replicate 17 {} }
     d.pace.marginLow = true ∧ d.meetsCorner = true ∧ 1000 ≤ (d.engine 0).mismPasses ∧ (d.engine 0).mismatch = false) ∧
    ({ avsHold := false } : Pace).avsFault = false ∧ 0 + 3600 ≤ 3600 := by
  repeat' apply And.intro
  all_goals decide +kernel

/-! ## The ring -/

/-- A CLAIM frame of priority `p` and serial `serial`. -/
def wClaim (p serial : Nat) : List Byte := withFcs ((wFrame 0x10 0 (leBytes 1 p ++ [0, 1, 0] ++ zeroBytes 8)).take 62 ++ leBytes 8 serial)

/-- The serial number of a CLAIM frame. -/
theorem wClaim_serial (serial : Nat) : pay (wClaim 1 serial) 48 8 = serial % 2 ^ 64 := by
  have hl : ((wFrame 0x10 0 (leBytes 1 1 ++ [0, 1, 0] ++ zeroBytes 8)).take 62).length = 62 := by decide +kernel
  unfold pay wClaim withFcs
  rw [List.append_assoc, fieldLE_append_left _ _ _ _ (by omega), hl]
  simp [fieldLE]

/-- A head of priority 1 in CLAIM on segment 0, whose claim `f` is out. -/
def wClaimer (run : Nat) (f : List Byte) : Dev := { wNet 2 (fun x => { x with state := 2, claimRun := run, claimBack := 0 < run, sent := [f] }) with ctl := { prm := [(pCLAIM_PRIORITY, 1)] } }

/-- `RingContention`: a head that listens, that claims, whose claim returns for the first and the third time, that hears a higher and a lower claim, whose claims time out, and a leader whose
segment is retried. -/
theorem wit_RingContention :
    ((wNet 1 (fun x => { x with state := 1 })).segNos = [0] ∧ ((wNet 1 (fun x => { x with state := 1 })).ring.seg 0).state = 1) ∧
    (let d := wClaimer 0 []
     d.ring.role = 2 ∧ (d.ring.seg 0).state = 2) ∧
    (let f := wClaim 1 Config.devSerial
     fcsOk f = true ∧ frameKind f = 3 ∧ service f = 0x10 ∧ hdr f 1 1 = 0 ∧ (pay f 44 1, pay f 48 8) = ((wClaimer 0 f).prm pCLAIM_PRIORITY, Config.devSerial) ∧
       ((wClaimer 0 f).ring.seg 0).outstanding 0x10 f = some f ∧ ((wClaimer 2 f).ring.seg 0).outstanding 0x10 f = some f) ∧
    (∀ run ∈ [0, 2], (let d := wClaimer run []
     0 ∈ d.segNos ∧ (d.ring.seg 0).state = 2 ∧ d.ring.lowerKey = false ∧ (d.ring.seg 0).claimRun = run ∧ ∀ j ∈ d.segNos, j = 0)) ∧
    (∀ p ∈ [0, 2], (let f := wClaim p 7
     let d := wClaimer 0 []
     fcsOk f = true ∧ frameKind f = 3 ∧ service f = 0x10 ∧ hdr f 1 1 = 0 ∧ pay f 44 1 = p ∧ d.prm pCLAIM_PRIORITY = 1 ∧ d.router.cycleCnt + 1 ≤ 512)) ∧
    (let d := wClaimer 1 []
     d.ring.lowerKey = false ∧ (d.ring.seg 0).claimBack = true ∧ d.router.cycleCnt + 8 ≤ 512) ∧
    (∀ st ∈ [0, 2], (let d := wNet 3 (fun x => { x with state := st, retry := true })
     d.ring.role = 3 ∧ (d.ring.seg 0).retry = true ∧ (d.ring.seg 0).state = st ∧ ∀ j ∈ d.segNos, (d.ring.seg j).state = 5 → (d.ring.seg j).cfgPos ≠ 0)) := by
  refine ⟨by decide +kernel, by decide +kernel, ⟨fcsOk_withFcs _ (by decide +kernel), by decide +kernel, by decide +kernel, by decide +kernel, ?_, ?_, ?_⟩, by decide +kernel,
    by decide +kernel, by decide +kernel, by decide +kernel⟩
  · rw [wClaim_serial, Nat.mod_eq_of_lt (show Config.devSerial < 2 ^ 64 from Config.serialWord.isLt), show pay (wClaim 1 Config.devSerial) 44 1 = 1 by decide +kernel,
      show (wClaimer 0 (wClaim 1 Config.devSerial)).prm pCLAIM_PRIORITY = 1 by decide +kernel]
  · exact outstanding_self { state := 2, claimRun := 0 } _ (by decide +kernel) (by decide +kernel)
  · exact outstanding_self { state := 2, claimRun := 2 } _ (by decide +kernel) (by decide +kernel)

/-- A segment in state `st` whose frame `f` is out, under a leader. -/
def wOut (st : Nat) (f : List Byte) (g : Segment → Segment := id) : Dev := wNet 3 (fun x => g { x with state := st, sent := [f] })

/-- `RingBringUp`: the enumeration matches or not, the three ends of a measurement frame, lost frames, the three results of CONFIG, START, and SYNC. -/
theorem wit_RingBringUp :
    (∀ hop ∈ [0, 1], (let f := wFrame 0x11 hop ([96, 0, 0, 0] ++ zeroBytes 32)
     let d := wOut 3 f
     (d.ring.seg 0).state = 3 ∧ (d.ring.seg 0).outstanding 0x11 f = some f ∧ fcsOk f = true ∧ (d.enumBad 0 f = 0 ↔ hop = 1) ∧ d.router.cycleCnt + 8 ≤ 512)) ∧
    (∀ sub ∈ [1, 2], (let f := wFrame 0x12 1 (leBytes 1 sub ++ [1, 0, 0] ++ zeroBytes 8)
     let d := wOut 4 f (fun x => { x with lastMeas := some (7, 0), pairs := 63 })
     (d.ring.seg 0).state = 4 ∧ (d.ring.seg 0).outstanding 0x12 f = some f ∧ fcsOk f = true ∧ pay f 44 1 = sub ∧ (d.ring.seg 0).lastMeas = some (7, 0) ∧ 64 ≤ (d.ring.seg 0).pairs + 1 ∧
       (d.ring.seg 0).reinit = false ∧ 0 ∈ d.segNos ∧ (d.ring.seg 0).sent.find? (fun g => service g = 0x12) = some f ∧ (d.ring.seg 0).losses + 1 < 16 ∧
       ((wOut 4 f).ring.seg 0).pairs + 1 < 64)) ∧
    (∀ res ∈ [0, 1, 2], (let f := wFrame 0x13 1 (zeroBytes 26 ++ leBytes 1 res)
     let d := wOut 5 f (fun x => { x with cfgPos := 1, cfgTries := 15 })
     (d.ring.seg 0).state = 5 ∧ (d.ring.seg 0).outstanding 0x13 f = some f ∧ fcsOk f = true ∧ pay f 70 1 = res ∧ (d.ring.seg 0).cfgTries < 16)) ∧
    ((wOut 5 [] (fun x => { x with cfgTries := 16 })).ring.seg 0).cfgTries = 16 ∧
    (let d := wOut 5 [] (fun x => { x with cfgPos := 2 })
     d.ring.role = 3 ∧ d.ctl.running = false ∧ 0 ∈ d.segNos ∧ ∀ j ∈ d.segNos, d.configured j = true) ∧
    ((wOut 6 []).ring.seg 0).state = 6 := by
  repeat' apply And.intro
  all_goals decide +kernel

/-- An identity entry of position 2 that the reserved node of the map accepts. -/
def wIdent : List Byte := zeroBytes 17 ++ [2] ++ zeroBytes 14

/-- `RingJoins`: a poll with an identity, a join refused for its position, one granted, and the end of the notice of re-initialisation. -/
theorem wit_RingJoins :
    (let f := wFrame 0x15 1 (zeroBytes 4 ++ wIdent ++ [2] ++ zeroBytes 7)
     let d := wOut 7 f
     d.ring.role = 3 ∧ 0 ∈ d.segNos ∧ (d.ring.seg 0).state = 7 ∧ (d.ring.seg 0).outstanding 0x15 f = some f ∧ fcsOk f = true ∧ (payBytes f 48 40).all (fun b => b = 0) = false) ∧
    (∀ pos ∈ [1, 2], (let d := wOut 7 [] (fun x => { x with joinIdent := some (pos, wIdent) })
     (d.ring.seg 0).joinIdent = some (pos, wIdent) ∧ (d.joinCause 0 pos 0 wIdent = 0 ↔ pos = 2) ∧ d.router.cycleCnt + 1 ≤ 512)) ∧
    (let d := wOut 9 [] (fun x => { x with reinitLeft := some 0 })
     (d.ring.seg 0).state = 9 ∧ (d.ring.seg 0).reinitLeft = some 0 ∧ d.ring.mapPending = none ∧ d.outOfsOk 0 = true) := by
  repeat' apply And.intro
  all_goals decide +kernel

/-- An open MAILBOX request of tag 7, and its exchange, not yet and already sent. -/
def wMailOp : OpenOp := { req := { op := 0x4030, h := { tag := 7 } }, res := 0 }

/-- `RingAcyclicTraffic`: frames of the two kinds in the quiet window and outside it, a link test with and without a good FCS, and a mailbox frame before and after its request went out. -/
theorem wit_RingAcyclicTraffic :
    (∀ svc ∈ [0x17, 0x18], (let g := wFrame svc 0 []
     let d : Dev := { wNet 3 (fun x => { x with state := 7, queue := [g] }) with ctl := { running := true, cycle := 4 } }
     d.ctl.running = true ∧ d.ctl.first = false ∧ d.ring.role = 3 ∧ (d.ring.seg 0).queue = [g] ∧ service g = svc ∧
       d.quietOpen 0 ≤ 30000 ∧ 30000 + returnNs (d.ring.seg 0) (d.ring.map.desc 0).length g.length < d.quietClose ∧
       ¬(d.tcyc + returnNs (d.ring.seg 0) (d.ring.map.desc 0).length g.length < d.quietClose))) ∧
    (let f := wFrame 0x17 0 []
     ((wOut 7 f).ring.seg 0).outstanding 0x17 f = some f ∧ fcsOk f = true ∧ ((wOut 7 f).ring.seg 0).outstanding 0x17 (f.set 63 1) = some f ∧ fcsOk (f.set 63 1) = false) ∧
    (∀ st ∈ [0, 1], (let f := wFrame 0x01 1 (zeroBytes 4 ++ leBytes 2 9 ++ leBytes 1 st)
     let m : MailReq := { node := 1, seq := 9, cap := 0, sent := true, tag := 7, pair := 0 }
     let d : Dev := { wOut 7 f (fun x => { x with mail := some m }) with host := { wDev.host with openOps := [wMailOp] } }
     (d.ring.seg 0).outstanding 0x01 f = some f ∧ (d.ring.seg 0).mail = some m ∧ fcsOk f = true ∧ pay f 48 2 = m.seq ∧ pay f 50 1 = st ∧ d.mailOp m = some wMailOp ∧ d.router.cycleCnt + 1 ≤ 512)) ∧
    ({ node := 1, seq := 9, cap := 0, sent := false, tag := 7, pair := 0 } : MailReq).sent = false ∧
    ((wNet 3 id).power.sdLost = false ∧ ({ plant := true } : Power).plant = true ∧ ({ segb := true } : Power).segb = true ∧ ({ sdLost := true } : Power).sdLost = true) := by
  repeat' apply And.intro
  all_goals decide +kernel

/-- `RingFrameReturns`: the leader's own cycle frame, one of another head, a correction frame, and a frame that stays away from a segment in RUN and in SYNC. -/
theorem wit_RingFrameReturns :
    (∀ st ∈ [6, 7, 8, 9], (let f := wCycle 5
     let d : Dev := { wNet 3 (fun x => { x with state := st, launched := f, corrLaunched := f }) with ctl := { running := true, cycle := 4, prm := [(pHEAD_MAC, 5)] } }
     let x := d.ring.seg 0
     d.ring.role = 3 ∧ d.ctl.running = true ∧ x.launched ≠ [] ∧ x.state = st ∧ ¬(validCycleFrame f 0 = true ∧ frameSource f ≠ d.prm pHEAD_MAC) ∧ x.judged = false ∧
       frameAccepted x.launched f x.devs = true ∧ frameAccepted x.corrLaunched f x.devs = true ∧ frameAccepted x.corrLaunched [] x.devs = false ∧
       (validCycleFrame (wCycle 6) 0 = true ∧ frameSource (wCycle 6) ≠ d.prm pHEAD_MAC) ∧ d.ring.deposed = false ∧ d.router.cycleCnt + 1 ≤ 512 ∧ frameHop f ≠ ({ devs := 3 } : Segment).devs ∧ fcsOk f = true)) ∧
    (∀ st ∈ [6, 7], (let d : Dev := { wNet 3 (fun x => { x with state := st, launched := wCycle 5, silentRun := 3 }) with ctl := { running := true, cycle := 4 } }
     d.ctl.first = false ∧ d.ctl.gathered = false ∧ d.ring.map.configured 0 = true ∧ (d.ring.seg 0).launched ≠ [] ∧ (d.ring.seg 0).returned = false ∧ (d.ring.seg 0).state = st ∧
       4 ≤ (d.ring.seg 0).silentRun + 1)) := by
  repeat' apply And.intro
  all_goals decide +kernel

/-! ## Followers and the standby -/

/-- `FollowersForward`: a cycle frame at a listening and at a following head, an ENUM frame, and LEADER_ALIVE. -/
theorem wit_FollowersForward :
    (let d := wNet 1 (fun x => { x with state := 1 })
     (d.ring.seg 0).state = 1 ∧ d.ring.role ≠ 3 ∧ d.ring.role ≠ 0 ∧ 0 ∈ d.segNos ∧ validCycleFrame (wCycle 5) 0 = true) ∧
    (let d := wNet 4 (fun x => { x with state := 10 })
     let f := wFrame 0x11 0 ([96, 0, 0, 0] ++ zeroBytes 32)
     (d.ring.seg 0).state = 10 ∧ d.ring.role = 4 ∧ fcsOk f = true ∧ hdr f 0 1 = 1 ∧ hdr f 1 1 = 0 ∧ frameKind f = 3 ∧ service f = 0x11) ∧
    (let f := wFrame 0x19 0 []
     fcsOk f = true ∧ frameKind f = 3 ∧ service f = 0x19 ∧ hdr f 1 1 = 0) := by
  repeat' apply And.intro
  all_goals decide +kernel

/-- A standby whose twin image is in state `twin`. -/
def wStandby (twin : Nat) : Dev := { wNet 5 (fun x => { x with state := 10 }) with ring := { (wNet 5 (fun x => { x with state := 10 })).ring with twin := twin } }

/-- `StandbyTracks`: a TWIN frame of cycle 9 whose refresh begins at 0 and one that does not, in each state of the twin image, and the Seal of the standby's Plate. That the refresh can end the
image is a premise on the length of the image, which is free. -/
theorem wit_StandbyTracks :
    (∀ ofs ∈ [0, 8], (let f := wFrame 0x18 1 (leBytes 8 9 ++ leBytes 4 1 ++ leBytes 2 0 ++ leBytes 2 0 ++ leBytes 4 ofs ++ zeroBytes 8)
     fcsOk f = true ∧ frameKind f = 3 ∧ service f = 0x18 ∧ hdr f 1 1 = (wStandby 1).twinSeg ∧ (wStandby 1).ctl.cycle < pay f 44 8 ∧ pay f 56 2 = 0 ∧ pay f 60 4 = ofs ∧ pay f 52 4 = 1)) ∧
    (∀ k ∈ [1, 2, 3], (wStandby k).ring.role = 5 ∧ (wStandby k).ring.twin = k ∧ 1 ≠ (wStandby k).ring.imageGen) ∧
    (let d : Dev := { wStandby 3 with ctl := { cycle := 4, gathered := true } }
     d.ring.role = 5 ∧ d.ctl.gathered = true ∧ d.ctl.sealed = false) ∧
    (let d : Dev := { wStandby 3 with ctl := { cycle := 4, sealed := true } }
     d.ctl.sealed = true ∧ d.ring.silent = 0 ∧ d.ring.leaderCycle ≤ d.ctl.cycle + 1) := by
  repeat' apply And.intro
  all_goals decide +kernel

/-- `SilenceAndTakeover`: a frame heard, none heard in the last cycle before a refused takeover, and a takeover. -/
theorem wit_SilenceAndTakeover :
    (let d := wStandby 1
     d.ring.role = 5 ∧ ({ d.ring with frameSeen := true } : Ring).frameSeen = true ∧ d.ring.frameSeen = false ∧ d.ring.aliveSeen = false ∧ d.router.cycleCnt + 1 ≤ 512 ∧ d.ring.twin ≠ 3 ∧
       ({ d.ring with silent := d.prm pMISS_TAKEOVER - 1 } : Ring).silent + 1 = d.prm pMISS_TAKEOVER) ∧
    (let d : Dev := { wStandby 3 with ring := { (wStandby 3).ring with silent := 100 } }
     d.ring.role = 5 ∧ d.ring.twin = 3 ∧ 1 ≤ d.prm pMISS_TAKEOVER ∧ d.prm pMISS_TAKEOVER ≤ d.ring.silent) := by
  repeat' apply And.intro
  all_goals decide +kernel

end Sys2Proof
end

