-- ==== Sys2Proof/Tests/Times.lean ====
section
/-! SUPPORT. States that meet the premises of the statements on the Time Unit and on the Safety Island, one line for each clause. -/

namespace Sys2Proof

set_option Elab.async false

open Sys2Proof.Machine

/-! ## The Time Unit -/

/-- A device with another Time Unit. -/
def wTu (t : Tu) : Dev := { wDev with tu := t, power := { wDev.power with plant := true } }

/-- The offset that a pulse at `q` shows. -/
def wOffset (t : Tu) (q : Int) : Int := wrapMod 1000000000000 (t.tbOf q * 1000 / 65536 - Params.val t.prm pPPS_IN_DELAY)

/-- `DisciplineStates`: a pulse 100 ms off, and one on time, in each state; the loss of a source. -/
theorem wit_DisciplineStates :
    (wTu {}).EventRoom 1 ∧ (true ≠ decide (Params.nat [] pPPS_IN_EDGE = 1) ∧ false = decide (Params.nat [] pPPS_IN_EDGE = 1)) ∧
    (∀ st ∈ [1, 2], (let t : Tu := { state := st, source := 2, outRun := 2 }
     1000 * Params.val t.prm pTB_STEP_LIMIT < wOffset t 400000000 ∧ 100000000 < wOffset t 400000000 ∧ t.ppsLocked = false ∧ t.state = st ∧ 2 ≤ t.outRun)) ∧
    (∀ st ∈ [1, 2, 3], (let t : Tu := { state := st, source := 2, inRun := 15, rates := [0] }
     t.state = st ∧ -(1000 * Params.val t.prm pTB_STEP_LIMIT) ≤ wOffset t 0 ∧ wOffset t 0 ≤ 1000 * Params.val t.prm pTB_STEP_LIMIT ∧ -(1000 * Params.val t.prm pLOCK_BAND) ≤ wOffset t 0 ∧
     wOffset t 0 ≤ 1000 * Params.val t.prm pLOCK_BAND ∧ -100000000 ≤ wOffset t 0 ∧ wOffset t 0 ≤ 100000000 ∧ 15 ≤ t.inRun ∧ t.rates ≠ [] ∧ t.source ≠ 0)) ∧
    (let t : Tu := { ppsLocked := true }
     t.ppsLocked = true ∧ t.source ≠ 2 ∧ 100000000 < wOffset t 400000000) := by
  unfold Dev.EventRoom
  repeat' apply And.intro
  all_goals decide +kernel

/-- `TimedOutputsAndCaptures`: a level, a pulse, a pulse of a periodic output and a late one; edges near the last, skipped, not wanted, and wanted with the FIFO in use and full. -/
theorem wit_TimedOutputsAndCaptures :
    (∀ m ∈ [2, 3], (let o : Tout := { mode := m, edges := [{ time := 8 }] }
     o.edges = { time := 8 } :: [] ∧ ({ time := 8 } : TEdge).level = none ∧ ({ time := 8 } : TEdge).late = false ∧ o.mode ≠ 4 ∧ o.mode = m)) ∧
    (({ time := 8, level := some true } : TEdge).level = some true ∧ ({ time := 8, late := true } : TEdge).late = true ∧ (wTu {}).router.cycleCnt + 1 ≤ 512) ∧
    (({ edges := [{ time := 8, level := some true }] } : Tout).pulseEnd = none ∧ ({ mode := 2, pulseEnd := some 9 } : Tout).pulseEnd = some 9 ∧ ({ mode := 2, pulseEnd := some 9 } : Tout).mode ≠ 1) ∧
    (0 < ({} : Tu).tcaps.length ∧ ({ last := some 0 } : Tcap).last = some 0 ∧ (31 : Int) - 0 < 32 ∧ ({ last := some 0 } : Tcap).skip ≠ some true ∧ ({ skip := some false } : Tcap).skip = some false ∧ ({} : Tcap).last = none) ∧
    (∀ k ∈ [0, 1, 2], (let c : Tcap := { prm := [(pCAP_EDGE, k), (pCAP_FILTER, 8)] }
     Params.nat c.prm pCAP_EDGE = k ∧ Params.nat c.prm pCAP_FILTER = 8)) ∧
    (∀ l ∈ [0, 256], (let c : Tcap := { prm := [(pCAP_HOST, 1)], fifo := List.replicate l [] }
     Params.nat c.prm pCAP_HOST = 1 ∧ c.fifo.length = l ∧ c.skip = none)) ∧
    Params.nat [(pCAP_HOST, 0)] pCAP_HOST ≠ 1 := by
  repeat' apply And.intro
  all_goals decide +kernel

/-- A frame of IEEE 1588 to the port: 44 octets of type `k`. -/
def wPtp (k : Nat) : List Byte :=
  withFcs (beBytes 6 0x011B19000000 ++ beBytes 6 5 ++ beBytes 2 0x88F7 ++ beBytes 1 k ++ beBytes 1 2 ++ beBytes 2 44 ++ zeroBytes 40 ++ zeroBytes 2)

/-- `PlantPortsServePtp`: no PTP message, one that the device does not read, a Sync at a slave, and a Delay_Req at a master. -/
theorem wit_PlantPortsServePtp :
    (let d := wTu { ports := [{ state := 9, meanPath := some 5, best := some { kind := .announce } }, { state := 6 }], source := 1 }
     d.power.plant = true ∧ 2 ≤ d.tu.ports.length ∧ d.tu.source = 1 ∧ d.tu.portUsed 0 = true ∧ (d.tu.ports.getD 0 {}).state = 9 ∧ (d.tu.ports.getD 0 {}).meanPath = some 5 ∧
       (d.tu.ports.getD 1 {}).state = 6 ∧ (d.tu.ports.getD 1 {}).best = none ∧ ((d.tu.ports.getD 0 {}).best.map (fun b => b.source)) = some 0) ∧
    (ptpFrame [] = none ∧ ptpFrame (wPtp 5) = some none) ∧
    (((ptpFrame (wPtp 0)).getD none).map (fun m => (m.kind, m.twoStep, m.source, ({ source := 1 } : Tu).ptpSupported m)) = some (.sync, false, 0, true)) ∧
    (((ptpFrame (wPtp 1)).getD none).map (fun m => (m.kind, ({} : Tu).ptpSupported m)) = some (.delayReq, true)) ∧
    (((ptpFrame (wPtp 13)).getD none).map (fun m => ({} : Tu).ptpSupported m) = some false) ∧
    (∀ r ∈ [0, 1], Params.nat [(pPTP_ROLE, r)] pPTP_ROLE = r) ∧ (wDev.power.plant = true ∨ ({ plant := false } : Power).plant = false) := by
  repeat' apply And.intro
  all_goals decide +kernel

/-! ## The Safety Island -/

/-- An emergency stop on pair 0 that resets by hand on pair 1. -/
def wEstop : SiFunc := { type := 1, mode := 2, src := 0, src2 := 0, resetPair := 1, action := 1, groups := 1, slsDelay := 0 }

/-- A two-hand function on pairs 0 and 2. -/
def wTwoHand : SiFunc := { type := 3, mode := 0, src := 0, src2 := 2, resetPair := 0, action := 0, groups := 1, slsDelay := 0 }

/-- A configuration of a contact pair 0 under two test pulses, those two functions, the reset, and a connection with one channel. -/
def wSiConf : SiConf :=
  { pairs := [{ contact := 1, tpA := 0, tpB := 1 }, { contact := 1 }, { contact := 1 }],
    funcs := [wEstop, wTwoHand, { type := 5, mode := 0, src := 1, src2 := 0, resetPair := 0, action := 0, groups := 0, slsDelay := 0 }],
    conns := [{ id := 7, seg := 0, pos := 0, node := 1, fbOuts := 1, wd := 10, stoFb := 10 }],
    maps := [{ conn := 0, chan := 0, kind := 0, axis := 0, groups := 1, limVel := 0 }] }

/-- A Safety Island with that configuration. -/
def wIsl (f : Si → Si) : Dev := { wDev with si := f { conf := some wSiConf, state := 2, funcs := [{}, {}, { state := 0 }] } }

/-- `SafeInputsAndFunctions`. -/
theorem wit_SafeInputsAndFunctions :
    ((wIsl id).si.conf = some wSiConf ∧ (wIsl id).si.held = false ∧ (wIsl id).EventRoom (16 * (wSiConf.funcs.length + 1))) ∧
    ((wSiConf.pair 0).contact ≠ 0 ∧ 0 ∉ (wIsl id).si.pairFault ∧ (wSiConf.pair 0).tpA = 0 ∧ (wSiConf.pair 0).tpB = 1 ∧ bit 1 0 = true ∧ bit 2 1 = true ∧ (wSiConf.pair 0).tpA ≠ 1) ∧
    (let x := (wIsl (fun s => { s with level := 1 })).si
     x.permit wSiConf 0 false ≠ x.permit wSiConf 0 true ∧ (wIsl id).si.permit wSiConf 0 false = (wIsl id).si.permit wSiConf 0 true) ∧
    (wSiConf.funcs[1]? = some wTwoHand ∧ (wIsl id).si.funcs[1]? = some ({} : FuncSt) ∧ (wIsl id).si.state = 2 ∧
      ({} : FuncSt).state = 1 ∧ ({} : FuncSt).late = false) ∧
    (let x := (wIsl (fun s => { s with level := 3, funcs := [{ state := 2 }, {}, { state := 0 }] })).si
     (∃ r ∈ wSiConf.funcs, r.type = 5 ∧ r.src = 1) ∧ x.funcs[0]? = some { state := 2 } ∧ wSiConf.funcs[0]? = some wEstop ∧ wEstop.mode = 2 ∧ wEstop.resetPair = 1 ∧ x.atDemand wSiConf wEstop = false ∧ x.inFault wEstop = false ∧
       wTwoHand.mode ≠ 2) := by
  unfold Dev.EventRoom
  repeat' apply And.intro
  all_goals decide +kernel

/-- `SafeCycleEvaluates`: the emergency stop in each of its states, at demand, at permit and in a pair fault; and a function that waits for both hands. -/
theorem wit_SafeCycleEvaluates :
    (let x := (wIsl id).si
     x.conf = some wSiConf ∧ x.held = false ∧ x.wdExpired = false ∧ x.state = 2 ∧ ({ x with state := 1 } : Si).state ≠ 2 ∧ (x.conn 0).state ≠ 2) ∧
    (∀ lv ∈ [0, 3], ∀ st ∈ [0, 1, 2, 3], (let x := (wIsl (fun s => { s with level := lv, funcs := [{ state := st }, {}, { state := 0 }] })).si
     x.funcs[0]? = some { state := st } ∧ wEstop.type ≠ 5 ∧ x.inFault wEstop = false ∧ (x.atDemand wSiConf wEstop = true ↔ lv = 0) ∧
       (x.permitOk wSiConf wEstop (x.hands wSiConf wEstop { state := st }) = true ↔ lv = 3))) ∧
    (wIsl (fun s => { s with pairFault := [0] })).si.inFault wEstop = true := by
  repeat' apply And.intro
  all_goals decide +kernel

/-- `SafeConnectionsFail`: the connection in STARTING and ACTIVE; its channel 0 without TQ_EN and without feedback; and with SLS_REQ and no SLS_ACT. -/
theorem wit_SafeConnectionsFail :
    (∀ st ∈ [1, 2], (let d := wIsl (fun s => { s with conns := [(0, { state := st })] })
     (d.si.entry 0).isSome = true ∧ (d.si.conn 0).state = st ∧ bit (d.si.tqEn wSiConf 0) 0 = false ∧ bit (d.si.conn 0).siData 0 = false ∧ (∃ e ∈ wSiConf.maps, e.conn = 0 ∧ e.chan = 0) ∧
       d.router.cycleCnt + 1 ≤ 512)) ∧
    (let c : SiConf := { wSiConf with funcs := [{ type := 1, mode := 0, src := 0, src2 := 0, resetPair := 0, action := 1, groups := 1, slsDelay := 0 }] }
     let x : Si := { conf := some c, state := 2, funcs := [{}], conns := [(0, { state := 2 })] }
     bit (x.slsReq c 0) 0 = true ∧ bit (x.conn 0).siData 8 = false ∧ bit (x.conn 0).sls 0 = false) := by
  repeat' apply And.intro
  all_goals decide +kernel

/-- Flash with a stored configuration. -/
def wSiFlash : Memory := wCells (siCopyBase 0) (wPay ([(4, 1), (4, (wPay wSiData).length), (4, 3900669358)] ++ wSiData))

/-- `SafeFaultsAndRestarts`: in SAFE with an output on, at start-up with and without a stored configuration, and while the restart is awaited. -/
theorem wit_SafeFaultsAndRestarts :
    (let d := wIsl (fun s => { s with outs := 1, conf := some { wSiConf with outTest := 1 } })
     d.si.held = false ∧ d.si.state ≠ 3 ∧ d.si.outs &&& 1 &&& 1 ≠ 0 ∧ d.si.outs &&& 1 &&& 0 = 0 ∧ 0 % 16 ≠ d.si.outs ∧ 1 % 16 = d.si.outs ∧ d.router.cycleCnt + 1 ≤ 512) ∧
    (wDev.si.state = 0 ∧ wDev.si.restarting = false ∧ wDev.host.mgtReady = true ∧ wDev.boot.recovery = false ∧ siStored wDev.flash = none) ∧
    (siStored wSiFlash).isSome = true ∧ ({ restarting := true } : Si).restarting = true := by
  repeat' apply And.intro
  all_goals decide +kernel

end Sys2Proof
end

