-- ==== Sys2Proof/WellFormed.lean ====
section
/-! DEFINITION. Well-formed commands: every operand lies in the range that the spec gives the field or the index it stands for. -/

namespace Sys2Proof

open Sys2Proof.Machine

/-- The header fields have the widths of Table 12.11, and the pair is one of the 32. -/
def Machine.CmdHead.ok (h : CmdHead) : Bool :=
  decide (h.pair < 32 ∧ h.tag < 2 ^ 16 ∧ h.kind < 2 ^ 8 ∧ h.index < 2 ^ 24 ∧ h.effective < 2 ^ 64 ∧ h.flags < 2 ^ 16 ∧ h.batch < 2 ^ 32 ∧ h.auth < 2 ^ 32)

/-- The operands of a command lie in their ranges. -/
def Instr.wf : Instr → Bool
  | .powerOn => true
  | .vddAonFall => true
  | .supplyReset => true
  | .resetNPin _ => true
  | .bootWatchdogExpiry => true
  | .boot bootSel _ _ _ => decide (bootSel < 4)
  | .siStartUpTest _ => true
  | .tbRefclkLoss => true
  | .sdRefclkLoss => true
  | .peRefclkLoss => true
  | .domainIdleOff domain => decide (domain < 4)
  | .gateClose => true
  | .meridian => true
  | .frameReturnDeadline seg => decide (seg < 8)
  | .cycleFrameReturn seg _ frame => decide (seg < 8) && decide (frame.length ≤ 8192)
  | .gather => true
  | .correctionPackDeadline => true
  | .correctionFrameLaunch => true
  | .correctionFrameReturn seg _ frame => decide (seg < 8) && decide (frame.length ≤ 8192)
  | .slotStart engine slot pass => decide (engine < 18) && decide (slot < 32) && decide (pass < 4)
  | .setpointDelivery axis => decide (axis < 512)
  | .regLost ch => decide (ch < 64)
  | .switchDebounceExpiry step axis which => decide (axis < (if step then 1024 else 512)) && decide (which < 3)
  | .switchChatter step axis which => decide (axis < (if step then 1024 else 512)) && decide (which < 3)
  | .homeTimeout step axis => decide (axis < (if step then 1024 else 512))
  | .homeHsTimeExpiry axis => decide (axis < 512)
  | .stepUpdate axis => decide (axis < 1024)
  | .stallDeclared axis => decide (axis < 1024)
  | .holdDelayExpiry axis => decide (axis < 1024)
  | .stepFbLost axis => decide (axis < 1024)
  | .sealDeadline => true
  | .overrunLimit step axis => decide (axis < (if step then 1024 else 512))
  | .platePublish => true
  | .streamRecordWrite stream => decide (stream < 8)
  | .chrSample => true
  | .chrHoldoffExpiry => true
  | .chrAutoTimeout => true
  | .chrStreamFlush _ => true
  | .feTimerExpiry axis => decide (axis < 512)
  | .qsTimeout axis => decide (axis < 512)
  | .standstillReached axis => decide (axis < 512)
  | .torqueSat axis => decide (axis < 512)
  | .feedbackLost axis => decide (axis < 512)
  | .splitLost axis => decide (axis < 512)
  | .handoverBlendEnd axis => decide (axis < 512)
  | .mac engine lane psh sign acc a b _ => decide (engine < 18) && decide (lane < 4) && decide (psh < 4) && decide (sign < 4) && decide (acc < 8) && decide (a < 32) && decide (b < 16)
  | .msu engine lane psh sign acc a b _ => decide (engine < 18) && decide (lane < 4) && decide (psh < 4) && decide (sign < 4) && decide (acc < 8) && decide (a < 32) && decide (b < 16)
  | .mpy engine lane psh sign acc a b _ => decide (engine < 18) && decide (lane < 4) && decide (psh < 4) && decide (sign < 4) && decide (acc < 8) && decide (a < 32) && decide (b < 16)
  | .memLoad engine bus _ reg amode ptr ofs _ => decide (engine < 18) && decide (1 ≤ bus ∧ bus ≤ 3) && decide (reg < 32) && decide (amode < 16) && decide (ptr < 4) && decide (-8192 ≤ ofs ∧ ofs ≤ 8191)
  | .memStore engine bus _ reg amode ptr ofs _ => decide (engine < 18) && decide (1 ≤ bus ∧ bus ≤ 3) && decide (reg < 32) && decide (amode < 16) && decide (ptr < 4) && decide (-8192 ≤ ofs ∧ ofs ≤ 8191)
  | .aluNop engine _ => decide (engine < 18)
  | .add engine dst a b _ => decide (engine < 18) && decide (dst < 32) && decide (a < 32) && decide (b < 32)
  | .sub engine dst a b _ => decide (engine < 18) && decide (dst < 32) && decide (a < 32) && decide (b < 32)
  | .adds engine dst a b _ => decide (engine < 18) && decide (dst < 32) && decide (a < 32) && decide (b < 32)
  | .subs engine dst a b _ => decide (engine < 18) && decide (dst < 32) && decide (a < 32) && decide (b < 32)
  | .add64 engine dst a b _ => decide (engine < 18) && decide (dst < 32) && decide (a < 32) && decide (b < 32)
  | .sub64 engine dst a b _ => decide (engine < 18) && decide (dst < 32) && decide (a < 32) && decide (b < 32)
  | .and engine dst a b _ => decide (engine < 18) && decide (dst < 32) && decide (a < 32) && decide (b < 32)
  | .or engine dst a b _ => decide (engine < 18) && decide (dst < 32) && decide (a < 32) && decide (b < 32)
  | .xor engine dst a b _ => decide (engine < 18) && decide (dst < 32) && decide (a < 32) && decide (b < 32)
  | .shl engine dst a sh _ => decide (engine < 18) && decide (dst < 32) && decide (a < 32) && decide (sh < 128)
  | .shra engine dst a sh _ => decide (engine < 18) && decide (dst < 32) && decide (a < 32) && decide (sh < 128)
  | .shrl engine dst a sh _ => decide (engine < 18) && decide (dst < 32) && decide (a < 32) && decide (sh < 128)
  | .min engine dst a b _ => decide (engine < 18) && decide (dst < 32) && decide (a < 32) && decide (b < 32)
  | .max engine dst a b _ => decide (engine < 18) && decide (dst < 32) && decide (a < 32) && decide (b < 32)
  | .clamp engine dst a b _ => decide (engine < 18) && decide (dst < 32) && decide (a < 32) && decide (b < 32)
  | .cmp engine a b _ => decide (engine < 18) && decide (a < 32) && decide (b < 32)
  | .cmp64 engine a b _ => decide (engine < 18) && decide (a < 32) && decide (b < 32)
  | .sel engine dst a b sh _ => decide (engine < 18) && decide (dst < 32) && decide (a < 32) && decide (b < 32) && decide (sh < 128)
  | .movi engine dst imm _ => decide (engine < 18) && decide (dst < 32) && decide (imm < 2 ^ 32)
  | .rnd engine dst a sh _ => decide (engine < 18) && decide (dst < 32) && decide (a < 32) && decide (sh < 128)
  | .rnd64 engine dst a sh _ => decide (engine < 18) && decide (dst < 32) && decide (a < 32) && decide (sh < 128)
  | .amov engine dst a _ => decide (engine < 18) && decide (dst < 32) && decide (a < 32)
  | .aclr engine dst _ => decide (engine < 18) && decide (dst < 32)
  | .rds engine dst sh _ => decide (engine < 18) && decide (dst < 32) && decide (sh < 128)
  | .wrs engine sh a _ => decide (engine < 18) && decide (sh < 128) && decide (a < 32)
  | .ctlNop engine _ => decide (engine < 18)
  | .br engine addr _ => decide (engine < 18) && decide (addr < 4096)
  | .brc engine sh addr _ => decide (engine < 18) && decide (sh < 8) && decide (addr < 4096)
  | .loop engine _ a imm addr _ => decide (engine < 18) && decide (a < 32) && decide (imm < 65536) && decide (addr < 4096)
  | .djnz1 engine addr _ => decide (engine < 18) && decide (addr < 4096)
  | .trd engine dst a b _ => decide (engine < 18) && decide (dst < 32) && decide (a < 32) && decide (b < 32)
  | .tableReadReturn engine => decide (engine < 18)
  | .twait engine _ => decide (engine < 18)
  | .done engine _ => decide (engine < 18)
  | .engineTrap engine words => decide (engine < 18) && decide (words.length ≤ 6)
  | .preemptOverrun engine => decide (engine < 18)
  | .kernelOverBudget engine => decide (engine < 18)
  | .pacePlanStart _ => true
  | .pacePlanComplete => true
  | .planPeriodExpiry => true
  | .marginLowExit => true
  | .seeingMismatch engine => decide (engine < 18)
  | .tempSensorRead temps => decide (temps.length = 8)
  | .ageingUpdate since opsec => decide (since ≤ opsec)
  | .avsAdjust _ _ => true
  | .avsReadback _ _ _ => true
  | .listenTimeExpiry => true
  | .claimInterval => true
  | .claim seg frame => decide (seg < 8) && decide (frame.length ≤ 8192)
  | .claimTimeout => true
  | .enum seg frame => decide (seg < 8) && decide (frame.length ≤ 8192)
  | .delay seg _ frame => decide (seg < 8) && decide (frame.length ≤ 8192)
  | .config seg frame => decide (seg < 8) && decide (frame.length ≤ 8192)
  | .start => true
  | .syncTimeout seg => decide (seg < 8)
  | .joinPollPeriodExpiry => true
  | .joinPoll seg frame => decide (seg < 8) && decide (frame.length ≤ 8192)
  | .joinGrant seg _ => decide (seg < 8)
  | .linkTest seg frame => decide (seg < 8) && decide (frame.length ≤ 8192)
  | .mailboxFrameReturn seg frame => decide (seg < 8) && decide (frame.length ≤ 8192)
  | .acyclicFrameLaunch seg _ => decide (seg < 8)
  | .reinitNoticeEnd seg => decide (seg < 8)
  | .linkStateChange plant port _ _ => decide (port < (if plant then 2 else 8))
  | .twin frame => decide (frame.length ≤ 8192)
  | .standbyPlateSeal => true
  | .leaderAlive seg frame => decide (seg < 8) && decide (frame.length ≤ 8192)
  | .silenceCheck => true
  | .takeover => true
  | .ptpMessageReceive port _ frame => decide (port < 2) && decide (frame.length ≤ 8192)
  | .ptpMessageTransmit port _ _ => decide (port < 2)
  | .tbSourceLost => true
  | .holdoverExpiry => true
  | .ppsInEdge _ _ => true
  | .ppsOutPulse => true
  | .toutEdge out => decide (out < 16)
  | .captureEdge input _ _ _ => decide (input < 16)
  | .siCycle => true
  | .safeInputChange channel _ => decide (channel < 16)
  | .testPulse output _ => decide (output < 8)
  | .discrepancyTimeout pair => decide (pair < 32)
  | .twoHandSync func => decide (func < 16)
  | .resetInputPulse pair _ => decide (pair < 32)
  | .connWatchdogExpiry conn => decide (conn < 512)
  | .connStartTimeout conn => decide (conn < 512)
  | .stoFbFault conn chan => decide (conn < 512) && decide (chan < 8)
  | .slsViolation conn chan => decide (conn < 512) && decide (chan < 8)
  | .safeOutOffPulse _ => true
  | .safeFbMismatch _ => true
  | .siWatchdogExpiry => true
  | .siFault _ => true
  | .vddSafeWindow => true
  | .eventIngress => true
  | .logWrite => true
  | .logPersist _ _ => true
  | .logEraseDone => true
  | .persistRecordTimer _ _ _ => true
  | .scheduledTestStart _ => true
  | .bistBurst _ => true
  | .logicBistDone _ _ => true
  | .testEarlyStop _ => true
  | .memoryBistDone _ _ => true
  | .engineReloadDone engine => decide (engine < 18)
  | .scrubRead _ _ _ => true
  | .poisonRead addr _ _ => decide (addr < 48 * 2 ^ 20)
  | .fabricBlockTransfer path _ _ _ _ => decide (path.dst < 32)
  | .linkReturn link _ => decide (link < 38)
  | .mgtRestartReady => true
  | .mgtRollbackTimeout => true
  | .ownClaim nonce => decide (nonce < 2 ^ 32)
  | .ownHeartbeat token => decide (token < 2 ^ 32)
  | .ownRelease token => decide (token < 2 ^ 32)
  | .ownerLeaseExpiry => true
  | .hostReset => true
  | .plateLatestRead => true
  | .pinRequest value => decide (value < 2 ^ 64)
  | .pinRelease value => decide (value < 2 ^ 64)
  | .pinExpiry => true
  | .queueEnable pair value => decide (pair < 32) && decide (value < 2 ^ 64)
  | .cqTailDoorbell pair value => decide (pair < 32) && decide (value < 2 ^ 64)
  | .rqHeadDoorbell pair value => decide (pair < 32) && decide (value < 2 ^ 64)
  | .registerWrite ofs size value => decide (ofs < 2 ^ 24) && decide (size ≤ 8) && decide (value < 2 ^ 64)
  | .bar2Write ofs bytes => decide (ofs < 2 ^ 24) && decide (bytes.length ≤ 4096)
  | .commandFetch pair bytes => decide (pair < 32) && decide (bytes.length ≤ 4096)
  | .commandAdmission => true
  | .replyPost pair => decide (pair < 32)
  | .hostEventPost => true
  | .irqModerationTimeout pair => decide (pair < 32)
  | .hostDmaError pair _ => decide (pair < 32)
  | .mgmtSetParams h pay => h.ok && decide (pay.length ≤ 4064)
  | .mgmtGetParams h pay => h.ok && decide (pay.length ≤ 4064)
  | .getInfo h pay => h.ok && decide (pay.length ≤ 4064)
  | .setOwnership h pay => h.ok && decide (pay.length ≤ 4064)
  | .abort h pay => h.ok && decide (pay.length ≤ 4064)
  | .queueResize h pay => h.ok && decide (pay.length ≤ 4064)
  | .streamStart h pay => h.ok && decide (pay.length ≤ 4064)
  | .streamStop h pay => h.ok && decide (pay.length ≤ 4064)
  | .clearCounters h pay => h.ok && decide (pay.length ≤ 4064)
  | .paceStatus h pay => h.ok && decide (pay.length ≤ 4064)
  | .bulkOpen h pay => h.ok && decide (pay.length ≤ 4064)
  | .bulkWrite h pay => h.ok && decide (pay.length ≤ 4064)
  | .bulkClose h pay => h.ok && decide (pay.length ≤ 4064)
  | .axisSetParams h pay => h.ok && decide (pay.length ≤ 4064)
  | .axisGetParams h pay => h.ok && decide (pay.length ≤ 4064)
  | .axisAdd h pay => h.ok && decide (pay.length ≤ 4064)
  | .axisRemove h pay => h.ok && decide (pay.length ≤ 4064)
  | .axisEnable h pay => h.ok && decide (pay.length ≤ 4064)
  | .axisDisable h pay => h.ok && decide (pay.length ≤ 4064)
  | .faultClear h pay => h.ok && decide (pay.length ≤ 4064)
  | .tableLoad h pay => h.ok && decide (pay.length ≤ 4064)
  | .bindSwitch h pay => h.ok && decide (pay.length ≤ 4064)
  | .axisStatus h pay => h.ok && decide (pay.length ≤ 4064)
  | .stepStatus h pay => h.ok && decide (pay.length ≤ 4064)
  | .setPosition h pay => h.ok && decide (pay.length ≤ 4064)
  | .mode h pay => h.ok && decide (pay.length ≤ 4064)
  | .estop h pay => h.ok && decide (pay.length ≤ 4064)
  | .processWrite h pay => h.ok && decide (pay.length ≤ 4064)
  | .orrerySetParams h pay => h.ok && decide (pay.length ≤ 4064)
  | .orreryGetParams h pay => h.ok && decide (pay.length ≤ 4064)
  | .orrConfigure h pay => h.ok && decide (pay.length ≤ 4064)
  | .orrRemove h pay => h.ok && decide (pay.length ≤ 4064)
  | .orrSpeed h pay => h.ok && decide (pay.length ≤ 4064)
  | .orrStop h pay => h.ok && decide (pay.length ≤ 4064)
  | .camLoad h pay => h.ok && decide (pay.length ≤ 4064)
  | .camDelete h pay => h.ok && decide (pay.length ≤ 4064)
  | .regRemove h pay => h.ok && decide (pay.length ≤ 4064)
  | .netSetParams h pay => h.ok && decide (pay.length ≤ 4064)
  | .netGetParams h pay => h.ok && decide (pay.length ≤ 4064)
  | .mapLoad h pay => h.ok && decide (pay.length ≤ 4064)
  | .mapPatch h pay => h.ok && decide (pay.length ≤ 4064)
  | .ringStart h pay => h.ok && decide (pay.length ≤ 4064)
  | .segStatus h pay => h.ok && decide (pay.length ≤ 4064)
  | .collimation h pay => h.ok && decide (pay.length ≤ 4064)
  | .mailbox h pay => h.ok && decide (pay.length ≤ 4064)
  | .mailboxTimeout seg => decide (seg < 8)
  | .timeSetParams h pay => h.ok && decide (pay.length ≤ 4064)
  | .timeGetParams h pay => h.ok && decide (pay.length ≤ 4064)
  | .timeSet h pay => h.ok && decide (pay.length ≤ 4064)
  | .timeStatus h pay => h.ok && decide (pay.length ≤ 4064)
  | .captureRead h pay => h.ok && decide (pay.length ≤ 4064)
  | .ioStatus h pay => h.ok && decide (pay.length ≤ 4064)
  | .chrConfig h pay => h.ok && decide (pay.length ≤ 4064)
  | .chrArm h pay => h.ok && decide (pay.length ≤ 4064)
  | .chrDisarm h pay => h.ok && decide (pay.length ≤ 4064)
  | .chrForce h pay => h.ok && decide (pay.length ≤ 4064)
  | .chrRead h pay => h.ok && decide (pay.length ≤ 4064)
  | .chrStatus h pay => h.ok && decide (pay.length ≤ 4064)
  | .logRead h pay => h.ok && decide (pay.length ≤ 4064)
  | .logStatus h pay => h.ok && decide (pay.length ≤ 4064)
  | .logMark h pay => h.ok && decide (pay.length ≤ 4064)
  | .logChallenge h pay => h.ok && decide (pay.length ≤ 4064)
  | .logClear h pay => h.ok && decide (pay.length ≤ 4064)
  | .safeStatus h pay => h.ok && decide (pay.length ≤ 4064)
  | .safeReset h pay => h.ok && decide (pay.length ≤ 4064)
  | .safeChallenge h pay => h.ok && decide (pay.length ≤ 4064)
  | .safeConfig h pay => h.ok && decide (pay.length ≤ 4064)
  | .stRun h pay => h.ok && decide (pay.length ≤ 4064)
  | .stStatus h pay => h.ok && decide (pay.length ≤ 4064)
  | .stSchedule h pay => h.ok && decide (pay.length ≤ 4064)
  | .repairCommit h pay => h.ok && decide (pay.length ≤ 4064)
  | .imageOpen h pay => h.ok && decide (pay.length ≤ 4064)
  | .imageWrite h pay => h.ok && decide (pay.length ≤ 4064)
  | .imageVerify h pay => h.ok && decide (pay.length ≤ 4064)
  | .imageActivate h pay => h.ok && decide (pay.length ≤ 4064)
  | .imageStatus h pay => h.ok && decide (pay.length ≤ 4064)
  | .safActivate h pay => h.ok && decide (pay.length ≤ 4064)
  | .extest bootSel => decide (bootSel < 4)
  | .idcode => true
  | .samplePreload _ _ => true
  | .clampInstruction bootSel => decide (bootSel < 4)
  | .highz bootSel => decide (bootSel < 4)
  | .keyWrite bootSel dr => decide (bootSel < 4) && decide (dr < 2 ^ 280)
  | .keyFuseDone _ => true
  | .bypass => true
  | .followerFrameReceive seg frame => decide (seg < 8) && decide (frame.length ≤ 8192)
  | .measureFrameLost seg => decide (seg < 8)
  | .registerRead ofs size => decide (ofs < 2 ^ 24) && decide (size ≤ 8)
  | .announceReceiptTimeout port => decide (port < 2)
  | .igmpQueryReceive port => decide (port < 2)
  | .toutPulseEnd out => decide (out < 16)
  | .siRestartDone => true

end Sys2Proof
end

