-- ==== Sys2Proof/Tests/Slice0.lean ====
section
/-! SUPPORT. The model's own tests: well-formed and ill-formed commands, the worked examples of the spec, and single steps. The witnesses of the statements stand in the other files of this
folder. -/

namespace Sys2Proof

set_option Elab.async false

open Sys2Proof.Machine

/-! ## Single steps and the worked examples of the spec -/

/-- After reset the device does not run, owns nothing and holds no rings (chapters 12 and 18). -/
theorem test_reset : State.reset.dev.ctl.running = false ∧ State.reset.dev.host.owned = false ∧ State.reset.dev.ring.role = 0 ∧ State.reset.dev.pace.vddTarget = 780 := by decide

/-- A table row has no bits, so no word spells a command. -/
theorem test_decode : decodeTableWord 16 0 = none ∧ State.reset.withFetchWord 16 0 = State.reset := ⟨rfl, rfl⟩

/-- Chapter 11: T_CYC 31,250 ns, MER_N0 0, MER_RC0 11,584, Plate 4,123,168. -/
theorem test_meridian : ({ merRC0 := 11584 } : Tu).meridian 31250 4123168 = 128849011584 := by decide +kernel

/-- Chapter 8: a FULL pass at S_PLAN 29,200 takes 246.9 ns. -/
theorem test_tPass : tPass (declOf 0 0 0) 32768 = 220 ∧ rndHE (tPass (declOf 0 0 0) 29200 * 10) = 2469 := by decide +kernel

/-- Chapter 13: 39.48 and 392.7 as binary32, and the slots of a command of 56 payload bytes. -/
theorem test_binary32 : ratToF32 (3948 / 100) = 0x421DEB85 ∧ ratToF32 (3927 / 10) = 0x43C4599A ∧ slotsOf 56 = 2 := by decide +kernel

/-- Chapter 4: from 200 mm/s and −2,000 mm/s², under 1,000 mm/s² and 100,000 mm/s³, the stop takes 0.20 s and 19.0333 mm. -/
theorem test_stop : phasesTime (velPhases 100000 1000 1000 200 (-2000) 0) = 1 / 5 ∧ stopTravel 100000 1000 200 (-2000) = 571 / 30 := by decide +kernel

/-- Chapter 7: PY2 at 0x022E, BY 0x0200 and LY 32 (special registers 6, 19 and 16): circular immediate with o = 1 reads 0x022E and leaves 0x020F. -/
theorem test_circular :
    (let g : Engine := { special := ((({} : Engine).special.set 6 0x022E).set 19 0x0200).set 16 32 }
     let x : Access := { bus := 2, store := false, wide := false, reg := 0, amode := 5, ptr := 2, ofs := 1 }
     g.address x = 0x022E ∧ g.postModify x = some 0x020F) := by decide +kernel

/-- ADDS saturates where ADD wraps (Table 7.8). -/
theorem test_adds :
    (let g : Engine := { d := (({} : Engine).d.set 1 0x7FFFFFFF).set 2 1 }
     g.aluWrites { ctl := false, op := 0x03, dst := 3, a := 1, b := 2 } = [.d 3 0x7FFFFFFF] ∧ g.aluWrites { ctl := false, op := 0x01, dst := 3, a := 1, b := 2 } = [.d 3 0x80000000]) := by decide +kernel

/-- The table of CRC-16/CCITT-FALSE: the check value of the nine digits is 0x29B1; that of CRC-32 is 0xCBF43926. -/
theorem test_crc : crc16 [0x31, 0x32, 0x33, 0x34, 0x35, 0x36, 0x37, 0x38, 0x39] = 0x29B1 ∧ crc32 [0x31, 0x32, 0x33, 0x34, 0x35, 0x36, 0x37, 0x38, 0x39] = 0xCBF43926 := by decide +kernel

/-! ## Well-formed commands -/

theorem test_wf_accepts_1 : ∀ i ∈ ([
    .powerOn, .vddAonFall, .supplyReset, .resetNPin 0, .bootWatchdogExpiry, .boot 0 {} [] [], .siStartUpTest false, .tbRefclkLoss, .sdRefclkLoss, .peRefclkLoss, .domainIdleOff 0,
    .gateClose, .meridian, .frameReturnDeadline 0, .cycleFrameReturn 0 false [], .gather, .correctionPackDeadline, .correctionFrameLaunch, .correctionFrameReturn 0 false [],
    .slotStart 0 0 0, .setpointDelivery 0, .regLost 0, .switchDebounceExpiry false 0 0, .switchChatter false 0 0, .homeTimeout false 0, .homeHsTimeExpiry 0, .stepUpdate 0, .stallDeclared 0,
    .holdDelayExpiry 0, .stepFbLost 0, .sealDeadline, .overrunLimit false 0, .platePublish, .streamRecordWrite 0, .chrSample, .chrHoldoffExpiry, .chrAutoTimeout, .chrStreamFlush false,
    .feTimerExpiry 0, .qsTimeout 0, .standstillReached 0, .torqueSat 0, .feedbackLost 0, .splitLost 0, .handoverBlendEnd 0, .mac 0 0 0 0 0 0 0 false, .msu 0 0 0 0 0 0 0 false,
    .mpy 0 0 0 0 0 0 0 false, .memLoad 0 1 false 0 0 0 0 false, .memStore 0 1 false 0 0 0 0 false, .aluNop 0 false, .add 0 0 0 0 false, .sub 0 0 0 0 false, .adds 0 0 0 0 false,
    .subs 0 0 0 0 false, .add64 0 0 0 0 false, .sub64 0 0 0 0 false, .and 0 0 0 0 false, .or 0 0 0 0 false, .xor 0 0 0 0 false, .shl 0 0 0 0 false, .shra 0 0 0 0 false, .shrl 0 0 0 0 false,
    .min 0 0 0 0 false, .max 0 0 0 0 false, .clamp 0 0 0 0 false, .cmp 0 0 0 false, .cmp64 0 0 0 false, .sel 0 0 0 0 0 false, .movi 0 0 0 false] : List Instr), i.wf = true := by decide +kernel

theorem test_wf_accepts_2 : ∀ i ∈ ([
    .rnd 0 0 0 0 false, .rnd64 0 0 0 0 false, .amov 0 0 0 false, .aclr 0 0 false, .rds 0 0 0 false, .wrs 0 0 0 false, .ctlNop 0 false, .br 0 0 false, .brc 0 0 0 false,
    .loop 0 false 0 0 0 false, .djnz1 0 0 false, .trd 0 0 0 0 false, .tableReadReturn 0, .twait 0 false, .done 0 0, .engineTrap 0 [], .preemptOverrun 0, .kernelOverBudget 0,
    .pacePlanStart 0, .pacePlanComplete, .planPeriodExpiry, .marginLowExit, .seeingMismatch 0, .tempSensorRead (List.replicate 8 0), .ageingUpdate 0 3600, .avsAdjust false false,
    .avsReadback 0 false false, .listenTimeExpiry, .claimInterval, .claim 0 [], .claimTimeout, .enum 0 [], .delay 0 0 [], .config 0 [], .start, .syncTimeout 0, .joinPollPeriodExpiry,
    .joinPoll 0 [], .joinGrant 0 0, .linkTest 0 [], .mailboxFrameReturn 0 [], .acyclicFrameLaunch 0 0, .reinitNoticeEnd 0, .linkStateChange false 0 false false, .twin [], .standbyPlateSeal,
    .leaderAlive 0 [], .silenceCheck, .takeover, .ptpMessageReceive 0 0 [], .ptpMessageTransmit 0 0 .sync, .tbSourceLost, .holdoverExpiry, .ppsInEdge 0 false, .ppsOutPulse, .toutEdge 0,
    .captureEdge 0 0 false 0, .siCycle, .safeInputChange 0 false, .testPulse 0 0, .discrepancyTimeout 0, .twoHandSync 0, .resetInputPulse 0 0, .connWatchdogExpiry 0, .connStartTimeout 0,
    .stoFbFault 0 0, .slsViolation 0 0, .safeOutOffPulse 0, .safeFbMismatch 0, .siWatchdogExpiry] : List Instr), i.wf = true := by decide +kernel

theorem test_wf_accepts_3 : ∀ i ∈ ([
    .siFault 0, .vddSafeWindow, .eventIngress, .logWrite, .logPersist false false, .logEraseDone, .persistRecordTimer 0 false false, .scheduledTestStart 0, .bistBurst 0,
    .logicBistDone false false, .testEarlyStop 0, .memoryBistDone [] false, .engineReloadDone 0, .scrubRead 0 false false, .poisonRead 0 0 0, .fabricBlockTransfer { src := 0 } [] 0 [] 0,
    .linkReturn 0 false, .mgtRestartReady, .mgtRollbackTimeout, .ownClaim 0, .ownHeartbeat 0, .ownRelease 0, .ownerLeaseExpiry, .hostReset, .plateLatestRead, .pinRequest 0, .pinRelease 0,
    .pinExpiry, .queueEnable 0 0, .cqTailDoorbell 0 0, .rqHeadDoorbell 0 0, .registerWrite 0 0 0, .bar2Write 0 [], .commandFetch 0 [], .commandAdmission, .replyPost 0, .hostEventPost,
    .irqModerationTimeout 0, .hostDmaError 0 false, .mgmtSetParams {} [], .mgmtGetParams {} [], .getInfo {} [], .setOwnership {} [], .abort {} [], .queueResize {} [], .streamStart {} [],
    .streamStop {} [], .clearCounters {} [], .paceStatus {} [], .bulkOpen {} [], .bulkWrite {} [], .bulkClose {} [], .axisSetParams {} [], .axisGetParams {} [], .axisAdd {} [],
    .axisRemove {} [], .axisEnable {} [], .axisDisable {} [], .faultClear {} [], .tableLoad {} [], .bindSwitch {} [], .axisStatus {} [], .stepStatus {} [], .setPosition {} [], .mode {} [],
    .estop {} [], .processWrite {} [], .orrerySetParams {} [], .orreryGetParams {} [], .orrConfigure {} []] : List Instr), i.wf = true := by decide +kernel

theorem test_wf_accepts_4 : ∀ i ∈ ([
    .orrRemove {} [], .orrSpeed {} [], .orrStop {} [], .camLoad {} [], .camDelete {} [], .regRemove {} [], .netSetParams {} [], .netGetParams {} [], .mapLoad {} [], .mapPatch {} [],
    .ringStart {} [], .segStatus {} [], .collimation {} [], .mailbox {} [], .mailboxTimeout 0, .timeSetParams {} [], .timeGetParams {} [], .timeSet {} [], .timeStatus {} [],
    .captureRead {} [], .ioStatus {} [], .chrConfig {} [], .chrArm {} [], .chrDisarm {} [], .chrForce {} [], .chrRead {} [], .chrStatus {} [], .logRead {} [], .logStatus {} [],
    .logMark {} [], .logChallenge {} [], .logClear {} [], .safeStatus {} [], .safeReset {} [], .safeChallenge {} [], .safeConfig {} [], .stRun {} [], .stStatus {} [], .stSchedule {} [],
    .repairCommit {} [], .imageOpen {} [], .imageWrite {} [], .imageVerify {} [], .imageActivate {} [], .imageStatus {} [], .safActivate {} [], .extest 0, .idcode, .samplePreload 0 0,
    .clampInstruction 0, .highz 0, .keyWrite 0 0, .keyFuseDone [], .bypass, .followerFrameReceive 0 [], .measureFrameLost 0, .registerRead 0 0, .announceReceiptTimeout 0,
    .igmpQueryReceive 0, .toutPulseEnd 0, .siRestartDone] : List Instr), i.wf = true := by decide +kernel

/-- Each field of the header is held to its width. -/
theorem test_wf_header : ∀ h ∈ ([{ pair := 32 }, { tag := 2 ^ 16 }, { kind := 2 ^ 8 }, { index := 2 ^ 24 }, { effective := 2 ^ 64 }, { flags := 2 ^ 16 }, { batch := 2 ^ 32 }, { auth := 2 ^ 32 }] : List CmdHead),
    h.ok = false := by decide +kernel

/-! A header that does not fit, and a payload that is too long. -/

theorem test_wf_head_1 : ∀ i ∈ ([
    .mgmtSetParams { pair := 32 } [], .mgmtGetParams { pair := 32 } [], .getInfo { pair := 32 } [], .setOwnership { pair := 32 } [], .abort { pair := 32 } [], .queueResize { pair := 32 } [],
    .streamStart { pair := 32 } [], .streamStop { pair := 32 } [], .clearCounters { pair := 32 } [], .paceStatus { pair := 32 } [], .bulkOpen { pair := 32 } [], .bulkWrite { pair := 32 } [],
    .bulkClose { pair := 32 } [], .axisSetParams { pair := 32 } [], .axisGetParams { pair := 32 } [], .axisAdd { pair := 32 } [], .axisRemove { pair := 32 } [],
    .axisEnable { pair := 32 } [], .axisDisable { pair := 32 } [], .faultClear { pair := 32 } [], .tableLoad { pair := 32 } [], .bindSwitch { pair := 32 } [], .axisStatus { pair := 32 } [],
    .stepStatus { pair := 32 } [], .setPosition { pair := 32 } [], .mode { pair := 32 } [], .estop { pair := 32 } [], .processWrite { pair := 32 } [], .orrerySetParams { pair := 32 } [],
    .orreryGetParams { pair := 32 } [], .orrConfigure { pair := 32 } [], .orrRemove { pair := 32 } [], .orrSpeed { pair := 32 } [], .orrStop { pair := 32 } [], .camLoad { pair := 32 } [],
    .camDelete { pair := 32 } [], .regRemove { pair := 32 } [], .netSetParams { pair := 32 } [], .netGetParams { pair := 32 } [], .mapLoad { pair := 32 } []] : List Instr), i.wf = false := by decide +kernel

theorem test_wf_head_2 : ∀ i ∈ ([
    .mapPatch { pair := 32 } [], .ringStart { pair := 32 } [], .segStatus { pair := 32 } [], .collimation { pair := 32 } [], .mailbox { pair := 32 } [], .timeSetParams { pair := 32 } [],
    .timeGetParams { pair := 32 } [], .timeSet { pair := 32 } [], .timeStatus { pair := 32 } [], .captureRead { pair := 32 } [], .ioStatus { pair := 32 } [], .chrConfig { pair := 32 } [],
    .chrArm { pair := 32 } [], .chrDisarm { pair := 32 } [], .chrForce { pair := 32 } [], .chrRead { pair := 32 } [], .chrStatus { pair := 32 } [], .logRead { pair := 32 } [],
    .logStatus { pair := 32 } [], .logMark { pair := 32 } [], .logChallenge { pair := 32 } [], .logClear { pair := 32 } [], .safeStatus { pair := 32 } [], .safeReset { pair := 32 } [],
    .safeChallenge { pair := 32 } [], .safeConfig { pair := 32 } [], .stRun { pair := 32 } [], .stStatus { pair := 32 } [], .stSchedule { pair := 32 } [], .repairCommit { pair := 32 } [],
    .imageOpen { pair := 32 } [], .imageWrite { pair := 32 } [], .imageVerify { pair := 32 } [], .imageActivate { pair := 32 } [], .imageStatus { pair := 32 } [],
    .safActivate { pair := 32 } []] : List Instr), i.wf = false := by decide +kernel

theorem test_wf_payload_1 : ∀ c ∈ ([
    .mgmtSetParams, .mgmtGetParams, .getInfo, .setOwnership, .abort, .queueResize, .streamStart, .streamStop, .clearCounters, .paceStatus, .bulkOpen, .bulkWrite, .bulkClose, .axisSetParams,
    .axisGetParams, .axisAdd, .axisRemove, .axisEnable, .axisDisable, .faultClear, .tableLoad, .bindSwitch, .axisStatus, .stepStatus, .setPosition, .mode, .estop, .processWrite,
    .orrerySetParams, .orreryGetParams, .orrConfigure, .orrRemove, .orrSpeed, .orrStop, .camLoad, .camDelete, .regRemove, .netSetParams, .netGetParams, .mapLoad] : List (CmdHead → List Byte → Instr)), (c {} (List.replicate 4065 0)).wf = false := by decide +kernel

theorem test_wf_payload_2 : ∀ c ∈ ([
    .mapPatch, .ringStart, .segStatus, .collimation, .mailbox, .timeSetParams, .timeGetParams, .timeSet, .timeStatus, .captureRead, .ioStatus, .chrConfig, .chrArm, .chrDisarm, .chrForce,
    .chrRead, .chrStatus, .logRead, .logStatus, .logMark, .logChallenge, .logClear, .safeStatus, .safeReset, .safeChallenge, .safeConfig, .stRun, .stStatus, .stSchedule, .repairCommit,
    .imageOpen, .imageWrite, .imageVerify, .imageActivate, .imageStatus, .safActivate] : List (CmdHead → List Byte → Instr)), (c {} (List.replicate 4065 0)).wf = false := by decide +kernel

/-! Every other operand out of its range. -/

theorem test_wf_refuses_1 : ∀ i ∈ ([
    .boot 4 {} [] [], .ageingUpdate 1 0, .domainIdleOff 4, .frameReturnDeadline 8, .cycleFrameReturn 8 false [], .cycleFrameReturn 0 false (List.replicate 8193 0), .correctionFrameReturn 8 false [],
    .correctionFrameReturn 0 false (List.replicate 8193 0), .slotStart 18 0 0, .slotStart 0 32 0, .slotStart 0 0 4, .setpointDelivery 512, .regLost 64, .switchDebounceExpiry true 1024 0,
    .switchDebounceExpiry false 512 0, .switchDebounceExpiry false 0 3, .switchChatter true 1024 0, .switchChatter false 512 0, .switchChatter false 0 3, .homeTimeout true 1024,
    .homeTimeout false 512, .homeHsTimeExpiry 512, .stepUpdate 1024, .stallDeclared 1024, .holdDelayExpiry 1024, .stepFbLost 1024, .overrunLimit true 1024, .overrunLimit false 512,
    .streamRecordWrite 8, .feTimerExpiry 512, .qsTimeout 512, .standstillReached 512, .torqueSat 512, .feedbackLost 512, .splitLost 512, .handoverBlendEnd 512, .mac 18 0 0 0 0 0 0 false,
    .mac 0 4 0 0 0 0 0 false, .mac 0 0 4 0 0 0 0 false, .mac 0 0 0 4 0 0 0 false, .mac 0 0 0 0 8 0 0 false, .mac 0 0 0 0 0 32 0 false, .mac 0 0 0 0 0 0 16 false, .msu 18 0 0 0 0 0 0 false,
    .msu 0 4 0 0 0 0 0 false, .msu 0 0 4 0 0 0 0 false, .msu 0 0 0 4 0 0 0 false, .msu 0 0 0 0 8 0 0 false, .msu 0 0 0 0 0 32 0 false, .msu 0 0 0 0 0 0 16 false, .mpy 18 0 0 0 0 0 0 false,
    .mpy 0 4 0 0 0 0 0 false, .mpy 0 0 4 0 0 0 0 false, .mpy 0 0 0 4 0 0 0 false, .mpy 0 0 0 0 8 0 0 false, .mpy 0 0 0 0 0 32 0 false, .mpy 0 0 0 0 0 0 16 false,
    .memLoad 18 1 false 0 0 0 0 false, .memLoad 0 0 false 0 0 0 0 false, .memLoad 0 4 false 0 0 0 0 false, .memLoad 0 1 false 32 0 0 0 false] : List Instr), i.wf = false := by decide +kernel

theorem test_wf_refuses_2 : ∀ i ∈ ([
    .memLoad 0 1 false 0 16 0 0 false, .memLoad 0 1 false 0 0 4 0 false, .memLoad 0 1 false 0 0 0 (-8193) false, .memLoad 0 1 false 0 0 0 8192 false, .memStore 18 1 false 0 0 0 0 false,
    .memStore 0 0 false 0 0 0 0 false, .memStore 0 4 false 0 0 0 0 false, .memStore 0 1 false 32 0 0 0 false, .memStore 0 1 false 0 16 0 0 false, .memStore 0 1 false 0 0 4 0 false,
    .memStore 0 1 false 0 0 0 (-8193) false, .memStore 0 1 false 0 0 0 8192 false, .aluNop 18 false, .add 18 0 0 0 false, .add 0 32 0 0 false, .add 0 0 32 0 false, .add 0 0 0 32 false,
    .sub 18 0 0 0 false, .sub 0 32 0 0 false, .sub 0 0 32 0 false, .sub 0 0 0 32 false, .adds 18 0 0 0 false, .adds 0 32 0 0 false, .adds 0 0 32 0 false, .adds 0 0 0 32 false,
    .subs 18 0 0 0 false, .subs 0 32 0 0 false, .subs 0 0 32 0 false, .subs 0 0 0 32 false, .add64 18 0 0 0 false, .add64 0 32 0 0 false, .add64 0 0 32 0 false, .add64 0 0 0 32 false,
    .sub64 18 0 0 0 false, .sub64 0 32 0 0 false, .sub64 0 0 32 0 false, .sub64 0 0 0 32 false, .and 18 0 0 0 false, .and 0 32 0 0 false, .and 0 0 32 0 false, .and 0 0 0 32 false,
    .or 18 0 0 0 false, .or 0 32 0 0 false, .or 0 0 32 0 false, .or 0 0 0 32 false, .xor 18 0 0 0 false, .xor 0 32 0 0 false, .xor 0 0 32 0 false, .xor 0 0 0 32 false, .shl 18 0 0 0 false,
    .shl 0 32 0 0 false, .shl 0 0 32 0 false, .shl 0 0 0 128 false, .shra 18 0 0 0 false, .shra 0 32 0 0 false, .shra 0 0 32 0 false, .shra 0 0 0 128 false, .shrl 18 0 0 0 false,
    .shrl 0 32 0 0 false, .shrl 0 0 32 0 false] : List Instr), i.wf = false := by decide +kernel

theorem test_wf_refuses_3 : ∀ i ∈ ([
    .shrl 0 0 0 128 false, .min 18 0 0 0 false, .min 0 32 0 0 false, .min 0 0 32 0 false, .min 0 0 0 32 false, .max 18 0 0 0 false, .max 0 32 0 0 false, .max 0 0 32 0 false,
    .max 0 0 0 32 false, .clamp 18 0 0 0 false, .clamp 0 32 0 0 false, .clamp 0 0 32 0 false, .clamp 0 0 0 32 false, .cmp 18 0 0 false, .cmp 0 32 0 false, .cmp 0 0 32 false,
    .cmp64 18 0 0 false, .cmp64 0 32 0 false, .cmp64 0 0 32 false, .sel 18 0 0 0 0 false, .sel 0 32 0 0 0 false, .sel 0 0 32 0 0 false, .sel 0 0 0 32 0 false, .sel 0 0 0 0 128 false,
    .movi 18 0 0 false, .movi 0 32 0 false, .movi 0 0 (2 ^ 32) false, .rnd 18 0 0 0 false, .rnd 0 32 0 0 false, .rnd 0 0 32 0 false, .rnd 0 0 0 128 false, .rnd64 18 0 0 0 false,
    .rnd64 0 32 0 0 false, .rnd64 0 0 32 0 false, .rnd64 0 0 0 128 false, .amov 18 0 0 false, .amov 0 32 0 false, .amov 0 0 32 false, .aclr 18 0 false, .aclr 0 32 false, .rds 18 0 0 false,
    .rds 0 32 0 false, .rds 0 0 128 false, .wrs 18 0 0 false, .wrs 0 128 0 false, .wrs 0 0 32 false, .ctlNop 18 false, .br 18 0 false, .br 0 4096 false, .brc 18 0 0 false, .brc 0 8 0 false,
    .brc 0 0 4096 false, .loop 18 false 0 0 0 false, .loop 0 false 32 0 0 false, .loop 0 false 0 65536 0 false, .loop 0 false 0 0 4096 false, .djnz1 18 0 false, .djnz1 0 4096 false,
    .trd 18 0 0 0 false, .trd 0 32 0 0 false] : List Instr), i.wf = false := by decide +kernel

theorem test_wf_refuses_4 : ∀ i ∈ ([
    .trd 0 0 32 0 false, .trd 0 0 0 32 false, .tableReadReturn 18, .twait 18 false, .done 18 0, .engineTrap 18 [], .engineTrap 0 (List.replicate 7 0), .preemptOverrun 18,
    .kernelOverBudget 18, .seeingMismatch 18, .tempSensorRead [], .claim 8 [], .claim 0 (List.replicate 8193 0), .enum 8 [], .enum 0 (List.replicate 8193 0), .delay 8 0 [],
    .delay 0 0 (List.replicate 8193 0), .config 8 [], .config 0 (List.replicate 8193 0), .syncTimeout 8, .joinPoll 8 [], .joinPoll 0 (List.replicate 8193 0), .joinGrant 8 0, .linkTest 8 [],
    .linkTest 0 (List.replicate 8193 0), .mailboxFrameReturn 8 [], .mailboxFrameReturn 0 (List.replicate 8193 0), .acyclicFrameLaunch 8 0, .reinitNoticeEnd 8,
    .linkStateChange true 2 false false, .linkStateChange false 8 false false, .twin (List.replicate 8193 0), .leaderAlive 8 [], .leaderAlive 0 (List.replicate 8193 0),
    .ptpMessageReceive 2 0 [], .ptpMessageReceive 0 0 (List.replicate 8193 0), .ptpMessageTransmit 2 0 .sync, .toutEdge 16, .captureEdge 16 0 false 0, .safeInputChange 16 false,
    .testPulse 8 0, .discrepancyTimeout 32, .twoHandSync 16, .resetInputPulse 32 0, .connWatchdogExpiry 512, .connStartTimeout 512, .stoFbFault 512 0, .stoFbFault 0 8, .slsViolation 512 0,
    .slsViolation 0 8, .engineReloadDone 18, .poisonRead (48 * 2 ^ 20) 0 0, .fabricBlockTransfer { src := 0, dst := 32 } [] 0 [] 0, .linkReturn 38 false, .ownClaim (2 ^ 32), .ownHeartbeat (2 ^ 32),
    .ownRelease (2 ^ 32), .pinRequest (2 ^ 64), .pinRelease (2 ^ 64), .queueEnable 32 0] : List Instr), i.wf = false := by decide +kernel

theorem test_wf_refuses_5 : ∀ i ∈ ([
    .queueEnable 0 (2 ^ 64), .cqTailDoorbell 32 0, .cqTailDoorbell 0 (2 ^ 64), .rqHeadDoorbell 32 0, .rqHeadDoorbell 0 (2 ^ 64), .registerWrite (2 ^ 24) 0 0, .registerWrite 0 9 0,
    .registerWrite 0 0 (2 ^ 64), .bar2Write (2 ^ 24) [], .bar2Write 0 (List.replicate 4097 0), .commandFetch 32 [], .commandFetch 0 (List.replicate 4097 0), .replyPost 32,
    .irqModerationTimeout 32, .hostDmaError 32 false, .mailboxTimeout 8, .extest 4, .clampInstruction 4, .highz 4, .keyWrite 4 0, .keyWrite 0 (2 ^ 280), .followerFrameReceive 8 [],
    .followerFrameReceive 0 (List.replicate 8193 0), .measureFrameLost 8, .registerRead (2 ^ 24) 0, .registerRead 0 9, .announceReceiptTimeout 2, .igmpQueryReceive 2, .toutPulseEnd 16] : List Instr), i.wf = false := by decide +kernel

end Sys2Proof
end

/-! PROOFS. The Meridian of chapter 2 (R6, R25, R51): what every step of it leaves alone, and the cycle that it begins. -/

namespace Sys2Proof.Machine

open Sys2Proof

/-! ## What the steps of a Meridian leave alone -/

/-- The parts of the device that a Meridian settles as its cycle begins. -/
structure CycleMarks where
  ctl : Ctl
  map : FrameMap
  highCycle : Nat
  meridians : List Nat
  lossStop : Option (Nat × Nat)
  records : List (Nat × Nat × Nat × Nat)
  plates : List Memory
  image : Memory

/-- The control plane without what plans, commands and events write: the progress of the cycle stays. -/
def Ctl.progress (c : Ctl) : Ctl := { c with prm := [], tapply := 0, dropped := false, preCleared := [], free := 0 }

/-- An engine's pace record as `MeridianBeginsCycle` reads it (R25). -/
def Engine.paceMarks (g : Engine) : Nat × Nat × Nat × Nat := (g.passes, g.late, g.steps, g.pcause)

/-- The cycle marks of a device. -/
def Dev.marks (d : Dev) : CycleMarks :=
  { ctl := d.ctl.progress, map := d.ring.map, highCycle := d.ring.highCycle, meridians := d.host.staged.map (fun s => s.meridian), lossStop := d.host.lossStop,
    records := d.engines.map Engine.paceMarks, plates := d.plates, image := d.image }

theorem Dev.marks_running (d : Dev) : d.marks.ctl.running = d.ctl.running := rfl

/-- Devices with one core have the same marks. -/
theorem Dev.marks_of_core {a b : Dev} (h : a.core = b.core) : a.marks = b.marks := show a.core.marks = b.core.marks from congrArg Dev.marks h

/-- So have a device and one in which only replies wait besides. -/
theorem Dev.marks_of_past {a b : Dev} (h : a.Past b) : a.marks = b.marks := (Dev.marks_of_core h).trans rfl

/-- Steps that each keep the marks keep them together. -/
theorem Dev.marks_foldl {α : Type} {f : Dev → α → Dev} (h : ∀ d x, (f d x).marks = d.marks) (l : List α) (d : Dev) : (l.foldl f d).marks = d.marks := by
  induction l generalizing d with
  | nil => rfl
  | cons x l ih => rw [List.foldl_cons, ih, h]

/-- Engines that keep their pace records keep the marks. -/
theorem Dev.marks_engines (d : Dev) {gs : List Engine} (h : gs.map Engine.paceMarks = d.engines.map Engine.paceMarks) : ({ d with engines := gs } : Dev).marks = d.marks := by
  simp only [Dev.marks, h]

/-! Lists of engines of which each is changed without its pace record. -/

theorem records_map {f : Engine → Engine} (h : ∀ g, (f g).paceMarks = g.paceMarks) (gs : List Engine) : (gs.map f).map Engine.paceMarks = gs.map Engine.paceMarks := by
  rw [List.map_map]
  exact List.map_congr_left (fun g _ => h g)

theorem records_zipIdx {f : Engine × Nat → Engine} (h : ∀ x, (f x).paceMarks = x.1.paceMarks) (gs : List Engine) : (gs.zipIdx.map f).map Engine.paceMarks = gs.map Engine.paceMarks := by
  rw [List.map_map, show Engine.paceMarks ∘ f = Engine.paceMarks ∘ Prod.fst from funext h, ← List.map_map, List.zipIdx_map_fst]

theorem records_mapIdx {f : Nat → Engine → Engine} (h : ∀ i g, (f i g).paceMarks = g.paceMarks) (gs : List Engine) : (gs.mapIdx f).map Engine.paceMarks = gs.map Engine.paceMarks := by
  rw [List.mapIdx_eq_zipIdx_map]
  exact records_zipIdx (fun x => h x.2 x.1) gs

theorem records_modify {f : Engine → Engine} (h : ∀ g, (f g).paceMarks = g.paceMarks) (gs : List Engine) (e : Nat) : (gs.modify e f).map Engine.paceMarks = gs.map Engine.paceMarks := by
  apply List.ext_getElem? 
  intro i
  rw [List.getElem?_map, List.getElem?_map, List.getElem?_modify]
  cases gs[i]? with
  | none => rfl
  | some g => by_cases he : e = i <;> simp [he, h]

theorem Dev.marks_onEngine (d : Dev) (e : Nat) {f : Engine → Engine} (h : ∀ g, (f g).paceMarks = g.paceMarks) : (d.onEngine e f).marks = d.marks :=
  d.marks_engines (records_modify h d.engines e)

/-! Events, parameters, set-points and replies are none of the marks. -/

@[simp] theorem Dev.marks_emit (d : Dev) (e : Ev) : (d.emit e).marks = d.marks := Dev.marks_of_core (Dev.core_emit d e)
@[simp] theorem Dev.marks_emits (d : Dev) (es : List Ev) : (d.emits es).marks = d.marks := Dev.marks_of_core (Dev.core_emits d es)
@[simp] theorem Dev.marks_satCheck (b d : Dev) : (Dev.satCheck b d).marks = d.marks := Dev.marks_of_core (Dev.core_satCheck b d)
@[simp] theorem Dev.marks_motion (d : Dev) (m : Motion) : ({ d with motion := m } : Dev).marks = d.marks := rfl
@[simp] theorem Dev.marks_pace (d : Dev) (p : Pace) : ({ d with pace := p } : Dev).marks = d.marks := rfl
@[simp] theorem Dev.marks_si (d : Dev) (x : Si) : ({ d with si := x } : Dev).marks = d.marks := rfl
@[simp] theorem Dev.marks_boot (d : Dev) (x : BootSt) : ({ d with boot := x } : Dev).marks = d.marks := rfl
@[simp] theorem Dev.marks_preCleared (d : Dev) (l : List (Nat × Nat)) : ({ d with ctl := { d.ctl with preCleared := l } } : Dev).marks = d.marks := rfl
@[simp] theorem Dev.marks_onAxis (d : Dev) (a : Nat) (f : Axis → Axis) : (d.onAxis a f).marks = d.marks := rfl
@[simp] theorem Dev.marks_onStepper (d : Dev) (a : Nat) (f : Stepper → Stepper) : (d.onStepper a f).marks = d.marks := rfl
@[simp] theorem Dev.marks_onOrr (d : Dev) (i : Nat) (f : Orrery → Orrery) : (d.onOrr i f).marks = d.marks := rfl
@[simp] theorem Dev.marks_withTu (d : Dev) (r : Tu × List Ev) : (d.withTu r).marks = d.marks := Dev.marks_emits _ _
@[simp] theorem Dev.marks_reply (d : Dev) (q : HostReq) (res : Nat) (r : CmdRes) (done hold : Nat) (dup : Bool) : (d.reply q res r done hold dup).marks = d.marks :=
  Dev.marks_of_past (Dev.reply_past d q res r done hold dup)

@[simp] theorem Dev.marks_opEnd (d : Dev) (o : Option OpenOp) (r : CmdRes) (hold : Nat) : (d.opEnd o r hold).marks = d.marks := by
  unfold Dev.opEnd
  split
  · split
    · exact (Dev.marks_reply _ _ _ _ _ _ _).trans rfl
    · rfl
  · rfl

/-! ## The set-points' own operations -/

@[simp] theorem Dev.marks_retract (d : Dev) (a cause : Nat) : (d.retract a cause).marks = d.marks := by
  unfold Dev.retract
  split
  · split <;> rfl
  · rfl

@[simp] theorem Dev.marks_ephemeris (d : Dev) : d.ephemeris.marks = d.marks := rfl

@[simp] theorem Dev.marks_respoint (d : Dev) (a : Nat) : (d.respoint a).marks = d.marks := by
  unfold Dev.respoint
  split
  · rfl
  · extract_lets
    split
    · rfl
    · rw [Dev.marks_ephemeris, Dev.marks_emits, Dev.marks_onAxis]

@[simp] theorem Dev.marks_refresh (d : Dev) (a : Nat) : (d.refresh a).marks = d.marks := by
  unfold Dev.refresh
  split
  · split
    · exact Dev.marks_ephemeris d
    · exact Dev.marks_respoint d a
  · rfl

@[simp] theorem Dev.marks_changed (d : Dev) (a cause : Nat) : (d.changed a cause).marks = d.marks := by
  rw [Dev.changed, Dev.marks_refresh, Dev.marks_retract]

@[simp] theorem Dev.marks_reshaped (d : Dev) (a : Nat) : (d.reshaped a).marks = d.marks := by
  unfold Dev.reshaped Dev.retractIf
  dsimp only
  split
  · exact Dev.marks_refresh d a
  · rw [Dev.marks_retract, Dev.marks_refresh]

@[simp] theorem Dev.marks_replanOrr (d : Dev) (i n0 : Nat) (f : Orrery → Orrery) : (d.replanOrr i n0 f).marks = d.marks := by
  unfold Dev.replanOrr
  dsimp only
  refine (Dev.marks_foldl (fun d (e : Nat × Axis) => Dev.marks_reshaped d e.1) _ _).trans ?_
  exact (Dev.marks_foldl (fun d (e : Nat × Axis) => Dev.marks_onAxis d e.1 _) _ _).trans (Dev.marks_onOrr d i f)

@[simp] theorem Dev.marks_limitOrr (d : Dev) (i n0 : Nat) : (d.limitOrr i n0).marks = d.marks := by
  unfold Dev.limitOrr
  split
  · rfl
  · extract_lets b o1 t f e
    have he : e.marks = d.marks := Dev.marks_replanOrr d i n0 f
    clear_value e f t o1 b
    split
    · rfl
    · split
      · rw [Dev.marks_emit, he]
      · exact he

@[simp] theorem Dev.marks_stepperCond (d : Dev) (a code : Nat) : (d.stepperCond a code).marks = d.marks := by
  unfold Dev.stepperCond
  split
  · rfl
  · rw [Dev.marks_emit, Dev.marks_onStepper]

/-! ## The posts of the Safety Island -/

@[simp] theorem Dev.marks_safeServo (d : Dev) (a : Nat) : (d.safeServo a).marks = d.marks := by
  unfold Dev.safeServo
  split
  · rfl
  · extract_lets
    split
    · rfl
    · split <;> simp only [Dev.marks_changed, Dev.marks_onAxis]

@[simp] theorem Dev.marks_safeStepper (d : Dev) (a : Nat) : (d.safeStepper a).marks = d.marks := by
  unfold Dev.safeStepper
  split
  · rfl
  · extract_lets off d1
    have h1 : d1.marks = d.marks := Dev.marks_onStepper d a _
    split
    · rw [Dev.marks_stepperCond, h1]
    · exact h1

@[simp] theorem Dev.marks_limitServo (d : Dev) (a : Nat) : (d.limitServo a).marks = d.marks := by
  unfold Dev.limitServo
  split
  · rfl
  · extract_lets l cap r ev d1
    have h1 : d1.marks = d.marks := by simp only [d1, Dev.marks_changed, Dev.marks_emits, Dev.marks_onAxis]
    split
    · rfl
    · split
      · rw [Dev.marks_limitOrr, h1]
      · exact h1

@[simp] theorem Dev.marks_safetyAt (d : Dev) : d.safetyAt.marks = d.marks := by
  unfold Dev.safetyAt
  dsimp only
  rw [Dev.marks_si, Dev.marks_foldl Dev.marks_limitServo, Dev.marks_foldl Dev.marks_safeStepper, Dev.marks_foldl Dev.marks_safeServo]

/-! ## The pace plan -/

@[simp] theorem Dev.marks_carryAll (d : Dev) (cs : List (Nat × Nat × Int)) : (d.carryAll cs).marks = d.marks := by
  refine Dev.marks_foldl (fun d c => ?_) cs d
  unfold Dev.carrySet
  dsimp only
  repeat' split
  all_goals rfl

theorem Engine.paceMarks_receive (g src : Engine) (slot t : Nat) (sl : Slot) : (g.receive src slot t sl).paceMarks = g.paceMarks := by
  dsimp only [Engine.paceMarks, Engine.receive]

@[simp] theorem Dev.marks_moveSlot (d : Dev) (a e s f t : Nat) : (d.moveSlot a e s f t).marks = d.marks := by
  unfold Dev.moveSlot
  extract_lets
  rw [Dev.marks_onEngine, Dev.marks_onEngine]
  · exact fun g => Engine.paceMarks_receive g _ _ _ _
  · exact fun _ => rfl

@[simp] theorem Dev.marks_planAxis (d : Dev) (old : Tab (Nat × Nat)) (a : Nat) (e : Nat × Nat) : (d.planAxis old a e).marks = d.marks := by
  unfold Dev.planAxis
  split
  · dsimp only
    rw [Dev.marks_onAxis, Dev.marks_onEngine]
    exact fun _ => rfl
  · split
    · rfl
    · dsimp only
      split <;> simp only [Dev.marks_emit, Dev.marks_retract, Dev.marks_onAxis, Dev.marks_moveSlot]

@[simp] theorem Dev.marks_moveBackground (d : Dev) (e f : Nat) : (d.moveBackground e f).marks = d.marks := by
  unfold Dev.moveBackground
  extract_lets
  rw [Dev.marks_onEngine, Dev.marks_onEngine]
  all_goals exact fun g => by dsimp only [Engine.paceMarks]

@[simp] theorem Dev.marks_moveBackgrounds (d : Dev) (old new : List Nat) : (d.moveBackgrounds old new).marks = d.marks := by
  refine Dev.marks_foldl (fun d x => ?_) _ d
  split
  · rfl
  · exact Dev.marks_moveBackground d x.1 x.2

@[simp] theorem Dev.marks_shedAxis (d : Dev) (a : Nat) : (d.shedAxis a).marks = d.marks := by
  unfold Dev.shedAxis
  split
  · rfl
  · split
    · rfl
    · extract_lets
      rw [Dev.marks_emits]
      refine (Dev.marks_engines _ (records_map ?_ _)).trans ?_
      · exact fun _ => rfl
      · rw [Dev.marks_pace, Dev.marks_retract, Dev.marks_onAxis]

@[simp] theorem Dev.marks_planInForce (d : Dev) (p : PacePlan) : (d.planInForce p).marks = d.marks := by
  unfold Dev.planInForce
  extract_lets old d1 d2 d3 d4 d5 turned p6 d6 d7 c8 d8
  have h1 : d1.marks = d.marks := by rw [Dev.marks_carryAll, Dev.phaseAll, Dev.marks_carryAll]
  have h2 : d2.marks = d1.marks := Dev.marks_foldl (fun d (c : Nat × Nat × Int) => Dev.marks_retract d (c.1 % 16777216) 1) _ _
  have h3 : d3.marks = d2.marks := Dev.marks_foldl (fun d (x : Nat × Nat × Nat) => Dev.marks_planAxis d old x.1 x.2) _ _
  have h4 : d4.marks = d3.marks := Dev.marks_moveBackgrounds d3 _ _
  have h5 : d5.marks = d4.marks := by
    dsimp only [d5]
    split
    · exact Dev.marks_onEngine d4 _ (fun g => by dsimp only [Engine.paceMarks])
    · rfl
  have h6 : d6.marks = d5.marks := by
    refine Dev.marks_engines { d5 with pace := d6.pace } (records_zipIdx (fun x => ?_) _)
    dsimp only [Engine.paceMarks]
  have h7 : d7.marks = d6.marks := Dev.marks_foldl Dev.marks_shedAxis _ _
  have h8 : d8.marks = d7.marks := by
    dsimp only [d8]
    split <;> rfl
  rw [Dev.marks_motion, h8, h7, h6, h5, h4, h3, h2, h1]

@[simp] theorem Dev.marks_discardPlan (d : Dev) (p : PacePlan) : (d.discardPlan p).marks = d.marks := by
  unfold Dev.discardPlan
  dsimp only
  rw [Dev.marks_pace, Dev.marks_emit, Dev.marks_pace]

@[simp] theorem Dev.marks_planAt (d : Dev) (n : Nat) : (d.planAt n).marks = d.marks := by
  unfold Dev.planAt
  repeat' split
  all_goals simp only [Dev.marks_discardPlan, Dev.marks_planInForce]

/-! ## A kernel update that runs on -/

@[simp] theorem Dev.marks_flashOp (d : Dev) : d.flashOp.1.marks = d.marks := by
  unfold Dev.flashOp
  split <;> rfl

@[simp] theorem Dev.marks_liveEnds (d : Dev) (l : Live) (idx : Nat) : (d.liveEnds l idx).marks = d.marks := by
  unfold Dev.liveEnds
  extract_lets w r
  have hw : w.1.marks = d.marks := Dev.marks_flashOp d
  split
  · rw [Dev.marks_opEnd, Dev.marks_emit, Dev.marks_boot, hw]
  · rw [Dev.marks_opEnd, Dev.marks_emits]
    exact hw

@[simp] theorem Dev.marks_declareBg (d : Dev) (v : Nat) : (d.declareBg v).marks = d.marks := by
  unfold Dev.declareBg
  extract_lets has bg
  refine Dev.marks_engines { d with pace := { d.pace with plan := { d.pace.plan with bg := bg } } } (records_mapIdx (fun e g => ?_) _)
  dsimp only [Engine.paceMarks]

@[simp] theorem Dev.marks_krnReload (d : Dev) (e : Nat) : (d.krnReload e).marks = d.marks := by
  unfold Dev.krnReload
  split <;> rfl

@[simp] theorem Dev.marks_krnNext (d : Dev) : d.krnNext.marks = d.marks := by
  unfold Dev.krnNext
  split
  · rfl
  · split
    · rfl
    · split
      · split
        · rw [Dev.marks_opEnd, Dev.marks_emit, Dev.marks_boot]
        · rw [Dev.marks_liveEnds, Dev.marks_declareBg]
      · extract_lets spares
        split <;> rfl

@[simp] theorem Dev.marks_bistRuns (d : Dev) : d.bistRuns.marks = d.marks := by
  unfold Dev.bistRuns
  split
  · split <;> rfl
  · rfl

theorem Engine.paceMarks_seen (g : Engine) (window guard : Nat) : (g.seen window guard).paceMarks = g.paceMarks := by
  dsimp only [Engine.paceMarks, Engine.seen]

@[simp] theorem Dev.marks_seeHour (d : Dev) : d.seeHour.marks = d.marks := by
  refine Dev.marks_engines d (records_zipIdx (fun x => ?_) _)
  dsimp only [Engine.paceMarks]

@[simp] theorem Dev.marks_seeAll (d : Dev) : d.seeAll.marks = d.marks := by
  unfold Dev.seeAll
  extract_lets before d1 crossed seff ps bg d2 held
  have h1 : d1.marks = d.marks := by
    dsimp only [d1]
    rw [Dev.marks_seeHour]
    exact Dev.marks_engines d (records_map (fun g => Engine.paceMarks_seen g _ _) _)
  have h2 : d2.marks = d1.marks := by
    refine Dev.marks_engines d1 (records_zipIdx (fun x => ?_) _)
    dsimp only [Engine.paceMarks]
  rw [Dev.marks_pace, h2, h1]

theorem Dev.marks_newRecords (d : Dev) : ({ d with engines := d.engines.map Engine.newCycle } : Dev).marks = { d.marks with records := d.marks.records.map (fun _ => (0, 0, 0, 255)) } := by
  simp only [Dev.marks, List.map_map]
  rfl

/-- At the pace plan's Meridian every pace record starts anew (R25). -/
theorem Dev.marks_paceAt (d : Dev) (n : Nat) : (d.paceAt n).marks = { d.marks with records := d.marks.records.map (fun _ => (0, 0, 0, 255)) } := by
  have h : (((List.range 18).foldl Dev.krnReload (d.planAt n)).krnNext.bistRuns.seeAll).marks = d.marks := by
    rw [Dev.marks_seeAll, Dev.marks_bistRuns, Dev.marks_krnNext, Dev.marks_foldl Dev.marks_krnReload, Dev.marks_planAt]
  exact (Dev.marks_newRecords _).trans (by rw [h])

/-! ## Commands -/

@[simp] theorem Dev.marks_watchStyle (d : Dev) : d.watchStyle.marks = d.marks := by
  unfold Dev.watchStyle
  split
  · rfl
  · dsimp only [Dev.marks]
    rw [List.map_map]
    rfl

/-- No staged command is named for Meridian `n` or an earlier one. -/
def CycleMarks.nothingDue (m : CycleMarks) (n : Nat) : Prop := (∀ k ∈ m.meridians, k = 0 ∨ n < k) ∧ m.lossStop = none

theorem Dev.dueAt_nil {d : Dev} {n : Nat} (h : d.marks.nothingDue n) : d.dueAt n = [] := by
  unfold Dev.dueAt
  rw [List.filter_eq_nil_iff]
  intro x hx hd
  have hk := h.1 x.meridian (List.mem_map_of_mem hx)
  simp only [ne_eq, Bool.and_eq_true, decide_eq_true_eq] at hd
  omega

theorem Dev.clearAt_nothingDue {d : Dev} {n : Nat} (h : d.marks.nothingDue n) : d.clearAt n = d := by
  unfold Dev.clearAt
  rw [Dev.dueAt_nil h]
  rfl

theorem Dev.lossStops_nothingDue {d : Dev} {n : Nat} (h : d.marks.nothingDue n) : d.lossStops n = d := by
  have hl : d.host.lossStop = none := h.2
  simp only [Dev.lossStops, Dev.lossDue, hl]

theorem Dev.marks_commandsAt {d : Dev} {n : Nat} (h : d.marks.nothingDue n) : (d.commandsAt n).marks = d.marks := by
  have hd : ({ d with host := { d.host with staged := d.host.staged.filter (fun s => !(d.dueAt n).contains s) } } : Dev) = d := by
    rw [Dev.dueAt_nil h]
    simp
  unfold Dev.commandsAt
  dsimp only
  rw [Dev.marks_watchStyle, hd, Dev.dueAt_nil h]
  exact congrArg Dev.marks (Dev.lossStops_nothingDue h)

/-! ## The launch -/

@[simp] theorem Dev.marks_paramBlocks (d : Dev) : d.paramBlocks.marks = d.marks := by
  refine Dev.marks_engines d (records_map (fun g => ?_) _)
  dsimp only [Engine.paceMarks]

@[simp] theorem Dev.marks_launchOn (d : Dev) (n seg : Nat) : (d.launchOn n seg).marks = d.marks := by
  unfold Dev.launchOn
  extract_lets s so f d1
  split <;> rfl

@[simp] theorem Dev.marks_aliveOn (d : Dev) (n seg : Nat) : (d.aliveOn n seg).marks = d.marks := by
  unfold Dev.aliveOn
  extract_lets s f
  split <;> rfl

@[simp] theorem Dev.marks_launchAll (d : Dev) (n : Nat) : (d.launchAll n).marks = d.marks := by
  unfold Dev.launchAll
  extract_lets d1
  have h1 : d1.marks = d.marks := by
    dsimp only [d1]
    rw [Dev.marks_foldl (fun d i => Dev.marks_aliveOn d n i), Dev.marks_foldl (fun d i => Dev.marks_launchOn d n i)]
  exact h1

@[simp] theorem Dev.marks_packSlots (d : Dev) : d.packSlots.marks = d.marks := rfl

@[simp] theorem Dev.marks_imageCount (d : Dev) (due : List Staged) : (d.imageCount due).marks = d.marks := by
  unfold Dev.imageCount
  split <;> rfl

@[simp] theorem Dev.marks_twinFrame (d : Dev) (n : Nat) (records : List Byte) : (d.twinFrame n records).marks = d.marks := by
  unfold Dev.twinFrame
  extract_lets seg ofs len ax dig body s f d1
  split <;> rfl

/-! ## The Meridian -/

/-- Without open batches the gate's closing changes the mark of the gate alone (R26). -/
theorem Dev.marks_gateClose {d : Dev} (h : d.host.batches = []) : ∃ g, d.gateClose.marks = { d.marks with ctl := { d.marks.ctl with gate := g } } := by
  unfold Dev.gateClose
  split
  · exact ⟨d.ctl.gate, rfl⟩
  · extract_lets n late d1 c1
    have hl : late = [] := by simp [late, h]
    have h1 : d1.marks = d.marks := by
      dsimp only [d1]
      rw [Dev.marks_watchStyle, hl, List.foldl_nil]
    exact ⟨true, (show _ = { d1.marks with ctl := { d1.marks.ctl with gate := true } } from rfl).trans (by rw [h1])⟩

/-- The marks with cycle `n` begun and nothing of it done (R6, R25, R51). -/
def CycleMarks.begun (m : CycleMarks) (n : Nat) : CycleMarks :=
  { m with ctl := m.ctl.newCycle n, highCycle := n, records := m.records.map (fun _ => (0, 0, 0, 255)) }

theorem Dev.marks_newCycle (d : Dev) (n : Nat) : (d.newCycle n).marks = { d.marks with ctl := d.marks.ctl.newCycle n, highCycle := n } := by
  unfold Dev.newCycle Dev.atMeridian
  split <;> rfl

theorem Dev.marks_effectsAt {d : Dev} {n : Nat} (h : d.marks.nothingDue n) : (d.effectsAt n).marks = d.marks.begun n := by
  have hn : (d.newCycle n).marks.nothingDue n := by rw [Dev.marks_newCycle]; exact ⟨h.1, h.2⟩
  have hp : ((d.newCycle n).paceAt n).marks.nothingDue n := by rw [Dev.marks_paceAt]; exact ⟨hn.1, hn.2⟩
  have hc : ((((d.newCycle n).clearAt n).paceAt n).commandsAt n).marks = d.marks.begun n := by
    rw [Dev.clearAt_nothingDue hn, Dev.marks_commandsAt hp, Dev.marks_paceAt, Dev.marks_newCycle]
    rfl
  unfold Dev.effectsAt
  extract_lets d1 c1
  have h1 : d1.marks = d.marks.begun n := by
    dsimp only [d1]
    rw [Dev.makeSteps, Dev.marks_withTu, Dev.marks_safetyAt, hc]
  rw [Dev.marks_paramBlocks, ← h1]
  exact Dev.marks_preCleared d1 []

/-- A leader that is due its next Meridian, is not deposed and has nothing due at it begins the cycle. -/
theorem Dev.marks_meridian {d : Dev} (hrun : d.ctl.running = true) (hrole : d.ring.role = 3) (hpub : d.ctl.first = true ∨ d.ctl.published = d.ctl.cycle)
    (hdep : d.ring.deposed = false) (hdue : d.marks.nothingDue (d.ctl.cycle + 1)) (hb : d.host.batches = []) : d.meridian.marks = d.marks.begun (d.ctl.cycle + 1) := by
  obtain ⟨g, hg⟩ := Dev.marks_gateClose hb
  have he : (d.gateClose.effectsAt (d.ctl.cycle + 1)).marks = d.marks.begun (d.ctl.cycle + 1) := by
    rw [Dev.marks_effectsAt (by rw [hg]; exact ⟨hdue.1, hdue.2⟩), hg]
    rfl
  have hr : (d.gateClose.effectsAt (d.ctl.cycle + 1)).ctl.running = true := by
    rw [← Dev.marks_running, he]
    exact hrun
  unfold Dev.meridian
  rw [if_neg (by simpa [hrun, hrole, or_iff_not_imp_left] using hpub), if_neg (by simp [hdep])]
  extract_lets n first d1 due loss d2 d3
  have h3 : d3.marks = d.marks.begun n := by
    dsimp only [d3]
    rw [Dev.marks_launchAll]
    split
    · exact (Dev.marks_packSlots d2).trans he
    · exact he
  rw [if_neg (by simp [d2, d1, n, hr])]
  split
  · rw [Dev.marks_twinFrame, Dev.marks_imageCount, h3]
  · exact h3

/-- A deposed leader stops its cycles at the Meridian and is passive (R331). -/
theorem Dev.meridian_deposed {d : Dev} (hrun : d.ctl.running = true) (hrole : d.ring.role = 3) (hpub : d.ctl.first = true ∨ d.ctl.published = d.ctl.cycle)
    (hdep : d.ring.deposed = true) : d.meridian = d.deposedNow := by
  unfold Dev.meridian
  rw [if_neg (by simpa [hrun, hrole, or_iff_not_imp_left] using hpub), if_pos hdep]

/-- Settles O13: every step of the Meridian keeps the marks that `Dev.marks` gathers, so that they are those of the new cycle at its end. -/
theorem meridianBeginsCycle : Obligations.MeridianBeginsCycle := by
  intro s hrun hrole hpub
  constructor
  · intro hdep hstaged hloss hbatches
    have hdue : s.dev.marks.nothingDue (s.dev.ctl.cycle + 1) := by
      refine ⟨fun k hk => ?_, hloss⟩
      obtain ⟨x, hx, rfl⟩ := List.mem_map.mp hk
      exact hstaged x hx
    refine completes_act (f := Dev.meridian) rfl ?_
    generalize hd : Dev.satCheck s.dev s.dev.meridian = d
    have hm : d.marks = s.dev.marks.begun (s.dev.ctl.cycle + 1) := by
      rw [← hd, Dev.marks_satCheck, Dev.marks_meridian hrun hrole hpub hdep hdue hbatches]
    have hc : d.ctl.progress = s.dev.ctl.progress.newCycle (s.dev.ctl.cycle + 1) := congrArg CycleMarks.ctl hm
    have hrec : ∀ g ∈ d.engines, g.paceMarks = (0, 0, 0, 255) := by
      intro g hg
      have hmem : g.paceMarks ∈ d.marks.records := List.mem_map_of_mem hg
      rw [hm] at hmem
      obtain ⟨_, _, h0⟩ := List.mem_map.mp hmem
      exact h0.symm
    refine ⟨(congrArg Ctl.running hc).trans hrun, congrArg Ctl.cycle hc, congrArg Ctl.first hc, congrArg Ctl.gate hc, congrArg Ctl.gathered hc, congrArg Ctl.corrPacked hc,
      congrArg Ctl.corrLaunched hc, congrArg Ctl.sealed hc, congrArg Ctl.missed hc, congrArg Ctl.commands hc, congrArg Ctl.batches hc, (congrArg Ctl.published hc :),
      congrArg CycleMarks.highCycle hm, fun g hg => ?_, (congrArg CycleMarks.plates hm :), (congrArg CycleMarks.image hm :), (congrArg CycleMarks.map hm :)⟩
    simpa [Engine.paceMarks] using hrec g hg
  · intro hdep
    refine completes_act (f := Dev.meridian) rfl ?_
    rw [Dev.meridian_deposed hrun hrole hpub hdep, Dev.satCheck_same s.dev s.dev.deposedNow rfl]
    rfl

end Sys2Proof.Machine

/-! PROOFS. The Plate window and the registers of chapter 12 (R7, R362 to R364, R393 to R395): one equation for each kind of access, and what a link that is down keeps out. -/

namespace Sys2Proof.Machine

open Sys2Proof

/-! ## Accesses over PCIe -/

theorem Dev.hiu_up {d : Dev} (h : d.host.linkUp = true) (f : Dev → Dev) : d.hiu f = f d := if_pos h

theorem Dev.hiu_down {d : Dev} (h : d.host.linkUp = false) (f : Dev → Dev) : d.hiu f = d := if_neg (by simp [h])

/-- While the link is up, an access that fills no counter completes with the device that its meaning gives. -/
theorem completes_does_up {c : Instr} {s : State} {f : Dev → Dev} {P : Dev → Prop} (hl : s.dev.host.linkUp = true) (hc : exec c s = s.does (fun d => d.hiu f)) (h : P (f s.dev)) :
    Completes c s P :=
  completes_does hc (by rw [Dev.hiu_up hl]; exact h)

/-- While the link is up, an access completes with the device that its meaning gives, but for events. -/
theorem completes_act_up {c : Instr} {s : State} {f : Dev → Dev} {e : Dev} (hl : s.dev.host.linkUp = true) (hc : exec c s = s.act (fun d => d.hiu f)) (h : f s.dev = e) :
    Completes c s (fun d => d.Is e) :=
  completes_act hc (by rw [Dev.hiu_up hl, h]; exact Dev.core_satCheck _ _)

/-- While the link is down, an access that fills no counter changes nothing. -/
theorem does_down {c : Instr} {s : State} {f : Dev → Dev} (hl : s.dev.host.linkUp = false) (hc : exec c s = s.does (fun d => d.hiu f)) :
    ∃ t, exec c s = .next t ∧ t.pending = s.pending ∧ t.dev.Is s.dev :=
  completes_does (P := fun d => d.Is s.dev) hc (by rw [Dev.hiu_down hl]; exact rfl)

/-- While the link is down, no access changes anything. -/
theorem act_down {c : Instr} {s : State} {f : Dev → Dev} (hl : s.dev.host.linkUp = false) (hc : exec c s = s.act (fun d => d.hiu f)) :
    ∃ t, exec c s = .next t ∧ t.pending = s.pending ∧ t.dev.Is s.dev :=
  completes_act (P := fun d => d.Is s.dev) hc (by rw [Dev.hiu_down hl]; exact Dev.core_satCheck _ _)

/-! ## The Plate window (R394, R395) -/

theorem Hif.pinRequest_granted {h : Hif} {b held : Nat} (h0 : h.pinCycle ≠ 0) (hh : held = h.pinCycle) : h.pinRequest b held = { h with pin := some (b, h.pinCycle), pinOutcome := 1 } := by
  simp [Hif.pinRequest, h0, hh]

theorem Hif.pinRequest_refused {h : Hif} {b held : Nat} (hr : h.pinCycle = 0 ∨ held ≠ h.pinCycle) : h.pinRequest b held = { h with pinOutcome := 2 } := by
  unfold Hif.pinRequest
  rw [if_neg]
  rcases hr with hr | hr <;> simp [hr]

theorem Dev.pinWrite_request {d : Dev} {v : Nat} (hv : bit v 2 = true) : d.pinWrite v = { d with host := d.host.pinRequest (v % 4) (d.plateSeal (v % 4)) } := if_pos hv

theorem Dev.pinWrite_release {d : Dev} {v : Nat} (hv : bit v 2 = false) : d.pinWrite v = { d with host := d.host.pinDrop 0 } := if_neg (by simp [hv])

theorem Dev.pinExpires_pinned {d : Dev} {p : Nat × Nat} (hp : d.host.pin = some p) :
    d.pinExpires = Dev.emit { d with host := { d.host with pin := none, pinOutcome := 3, pinExpired := incSat 16 d.host.pinExpired } } (evM (srcPair 0) ePIN_EXPIRED) := by
  unfold Dev.pinExpires
  rw [hp]
  rfl

theorem Dev.pinExpires_unpinned {d : Dev} (hp : d.host.pin = none) : d.pinExpires = d := by
  unfold Dev.pinExpires
  rw [hp]

theorem completes_pinRequest {s : State} {v : Nat} (hl : s.dev.host.linkUp = true) (hv : bit v 2 = true) :
    Completes (.pinRequest v) s (fun d => d = { s.dev with host := s.dev.host.pinRequest (v % 4) (s.dev.plateSeal (v % 4)) }) :=
  completes_does_up (f := fun d => if bit v 2 then d.pinWrite v else d) hl rfl (by rw [if_pos hv, Dev.pinWrite_request hv])

theorem completes_pinRelease {s : State} {v : Nat} (hl : s.dev.host.linkUp = true) (hv : bit v 2 = false) :
    Completes (.pinRelease v) s (fun d => d = { s.dev with host := { s.dev.host with pin := none, pinOutcome := 0 } }) :=
  completes_does_up (f := fun d => if bit v 2 then d else d.pinWrite v) hl rfl (by rw [if_neg (by simp [hv]), Dev.pinWrite_release hv]; rfl)

theorem completes_pinExpiry {s : State} {p : Nat × Nat} (hp : s.dev.host.pin = some p) :
    Completes .pinExpiry s (fun d => d.Is { s.dev with host := { s.dev.host with pin := none, pinOutcome := 3, pinExpired := incSat 16 s.dev.host.pinExpired } } ∧
      d.Reports ePIN_EXPIRED (srcPair 0) []) := by
  refine completes_act (f := Dev.pinExpires) rfl ?_
  rw [Dev.pinExpires_pinned hp]
  exact ⟨(Dev.core_satCheck _ _).trans (Dev.core_emit _ _), Dev.reports_satCheck _ _ (Dev.reports_emit _ (evM (srcPair 0) ePIN_EXPIRED) (fun h => by cases h))⟩

theorem completes_pinExpiry_unpinned {s : State} (hp : s.dev.host.pin = none) : Completes .pinExpiry s (fun d => d.Is s.dev) :=
  completes_act (f := Dev.pinExpires) rfl (by rw [Dev.pinExpires_unpinned hp]; exact Dev.core_satCheck _ _)

/-! ## Which offsets hold what (Tables 12.3, 12.6) -/

/-- Every 64-bit register is aligned. -/
theorem wideReg_aligned {o : Nat} (h : wideReg o = true) : o % 8 = 0 := by
  simp only [wideReg, Bool.or_eq_true, List.contains_iff_mem, List.mem_cons, List.not_mem_nil, or_false, Bool.and_eq_true, decide_eq_true_eq] at h
  omega

theorem wideReg_false_of_unaligned {o : Nat} (h : o % 8 ≠ 0) : wideReg o = false := Bool.eq_false_iff.mpr (fun hw => h (wideReg_aligned hw))

/-- Between PLATE_IRQ and the pairs' blocks the table lists no register. -/
theorem wideReg_unlisted {o : Nat} (h1 : 0x000304 ≤ o) (h2 : o < 0x010000) : wideReg o = false := by
  rw [Bool.eq_false_iff]
  intro h
  simp only [wideReg, Bool.or_eq_true, List.contains_iff_mem, List.mem_cons, List.not_mem_nil, or_false, Bool.and_eq_true, decide_eq_true_eq] at h
  omega

theorem Dev.reg32_unlisted (d : Dev) {o : Nat} (h1 : 0x000308 ≤ o) (h2 : o < 0x010000) : d.reg32 o = 0 := by
  unfold Dev.reg32
  rw [if_neg (by simp; omega)]
  split
  case h_14 => rfl
  all_goals omega

theorem Dev.write32_unlisted (d : Dev) {o : Nat} (v : Nat) (h1 : 0x000308 ≤ o) (h2 : o < 0x010000) : d.write32 o v = d := by
  unfold Dev.write32
  rw [if_neg (by simp; omega), if_neg (by simp; omega)]
  split
  case h_8 => rfl
  all_goals omega

theorem accessOk_four {o : Nat} (h : o % 4 = 0) : accessOk o 4 = true := by simp [accessOk, h]

theorem accessOk_eight {o : Nat} (h : o % 8 = 0) (hw : wideReg o = true) : accessOk o 8 = true := by simp [accessOk, h, hw]

/-- An access of another size, unaligned, or of 8 bytes where no 64-bit register stands (R363). -/
theorem accessOk_false {o k : Nat} (h : (k ≠ 4 ∧ k ≠ 8) ∨ o % 4 ≠ 0 ∨ (k = 8 ∧ (o % 8 ≠ 0 ∨ wideReg o = false))) : accessOk o k = false := by
  rw [Bool.eq_false_iff]
  intro ha
  simp only [accessOk, Bool.or_eq_true, Bool.and_eq_true, decide_eq_true_eq] at ha
  rcases ha with ⟨rfl, ha⟩ | ⟨⟨rfl, ha⟩, hw⟩
  · omega
  · simp only [hw, Bool.true_eq_false, or_false] at h
    omega

/-! ## Register reads (R7, R363) -/

/-- No half of a 64-bit register stands at the offset. -/
def plainReg (o : Nat) : Prop := o % 4 = 0 ∧ wideReg o = false ∧ (o % 8 = 4 → wideReg (o - 4) = false)

theorem plainReg_unlisted {o : Nat} (h1 : 0x000308 ≤ o) (h2 : o < 0x010000) (h4 : o % 4 = 0) : plainReg o :=
  ⟨h4, wideReg_unlisted (by omega) h2, fun _ => wideReg_unlisted (by omega) (by omega)⟩

theorem Dev.regRead_refused (d : Dev) {o k : Nat} (h : accessOk o k = false) : d.regRead o k = { d with host := { d.host with accessErr := true, lastRead := 0xFFFFFFFF } } := by
  unfold Dev.regRead
  rw [if_pos (by simp [h])]

theorem Dev.regRead_plain (d : Dev) {o : Nat} (h : plainReg o) (h0 : o ≠ 0x000200) : d.regRead o 4 = { d with host := { d.host with lastRead := d.reg32 o } } := by
  obtain ⟨h4, hw, hw'⟩ := h
  unfold Dev.regRead
  rw [if_neg (by simp [accessOk_four h4]), if_neg (by decide), if_neg h0, if_neg (by simp [hw]), if_neg (by simpa using hw')]

theorem Dev.regRead_wide (d : Dev) {o : Nat} (hw : wideReg o = true) : d.regRead o 8 = { d with host := { d.host with lastRead := d.reg64 o } } := by
  unfold Dev.regRead
  rw [if_neg (by simp [accessOk_eight (wideReg_aligned hw) hw]), if_pos rfl]

theorem wideReg_ne {o p : Nat} (hw : wideReg o = true) (hp : wideReg p = false) : o ≠ p := by
  rintro rfl
  exact Bool.noConfusion (hw.symm.trans hp)

theorem Dev.regRead_low (d : Dev) {o : Nat} (hw : wideReg o = true) :
    d.regRead o 4 = { d with host := { d.host with lastRead := d.reg64 o % 2 ^ 32, halfRead := some (o + 4, d.reg64 o / 2 ^ 32) } } := by
  have h8 := wideReg_aligned hw
  unfold Dev.regRead
  rw [if_neg (by simp [accessOk_four (show o % 4 = 0 by omega)]), if_neg (by decide), if_neg (wideReg_ne hw (by decide)), if_pos hw]

theorem Dev.regRead_high (d : Dev) {o x : Nat} (hw : wideReg o = true) (hx : d.host.halfRead = some (o + 4, x)) :
    d.regRead (o + 4) 4 = { d with host := { d.host with lastRead := x, halfRead := none } } := by
  have h8 := wideReg_aligned hw
  unfold Dev.regRead
  rw [if_neg (by simp [accessOk_four (show (o + 4) % 4 = 0 by omega)]), if_neg (by decide), if_neg (by omega), if_neg (by simp [wideReg_false_of_unaligned (show (o + 4) % 8 ≠ 0 by omega)]),
    if_pos (by simp [hw]; omega)]
  simp only [hx, if_true]

/-! ## Register writes (R7, R363) -/

theorem Dev.regWrite_refused (d : Dev) {o k : Nat} (v : Nat) (h : accessOk o k = false) : d.regWrite o k v = { d with host := { d.host with accessErr := true } } := by
  unfold Dev.regWrite
  rw [if_pos (by simp [h])]

/-- A 32-bit value written where neither the MSI-X table nor a half of a 64-bit register stands. -/
theorem Dev.regWrite_plain (d : Dev) {o v : Nat} (h : plainReg o) (hm : o < 0x040000) (hv : v < 2 ^ 32) : d.regWrite o 4 v = d.write32 o v := by
  obtain ⟨h4, hw, hw'⟩ := h
  unfold Dev.regWrite
  rw [if_neg (by simp [accessOk_four h4]), if_neg (by decide), if_neg (by simp; omega), if_neg (by simp [hw]), if_neg (by simpa using hw'), Nat.mod_eq_of_lt hv]

theorem Dev.regWrite_unlisted (d : Dev) {o : Nat} (v : Nat) (h1 : 0x000308 ≤ o) (h2 : o < 0x010000) (h4 : o % 4 = 0) : d.regWrite o 4 v = d := by
  obtain ⟨-, hw, hw'⟩ := plainReg_unlisted h1 h2 h4
  unfold Dev.regWrite
  rw [if_neg (by simp [accessOk_four h4]), if_neg (by decide), if_neg (by simp; omega), if_neg (by simp [hw]), if_neg (by simpa using hw'), Dev.write32_unlisted d _ h1 h2]

theorem Dev.regWrite_pinLow (d : Dev) {v : Nat} (hv : v < 2 ^ 32) : d.regWrite 0x000210 4 v = { d with host := { d.host with halfWrite := some (0x000210, v) } } := by
  unfold Dev.regWrite
  rw [if_neg (by decide), if_neg (by decide), if_neg (by decide), if_pos (by decide), Nat.mod_eq_of_lt hv]

theorem Dev.regWrite_pinHigh (d : Dev) {v x : Nat} (hv : v < 2 ^ 32) (hx : d.host.halfWrite = some (0x000210, x)) :
    d.regWrite 0x000214 4 v = { d with host := { d.host with halfWrite := none, pinCycle := x + 2 ^ 32 * v } } := by
  unfold Dev.regWrite
  rw [if_neg (by decide), if_neg (by decide), if_neg (by decide), if_neg (by decide), if_pos (by decide), Nat.mod_eq_of_lt hv]
  simp only [hx]
  rfl

theorem plainReg_ownClaim : plainReg 0x000108 := by unfold plainReg; decide
theorem plainReg_ownToken : plainReg 0x000104 := by unfold plainReg; decide
theorem plainReg_eventPair : plainReg 0x000300 := by unfold plainReg; decide
theorem plainReg_devStatus : plainReg 0x000010 := by unfold plainReg; decide
theorem plainReg_ownRelease : plainReg 0x000110 := by unfold plainReg; decide

/-- A write to OWN_CLAIM is that command (R366). -/
theorem exec_write_ownClaim {v : Nat} (hv : v < 2 ^ 32) (s : State) : exec (.registerWrite 0x000108 4 v) s = exec (.ownClaim v) s := by
  have h : (fun d : Dev => d.regWrite 0x000108 4 v) = fun d => d.ownClaim v := funext (fun d => Dev.regWrite_plain d plainReg_ownClaim (by decide) hv)
  exact congrArg (fun f => s.act (fun d => d.hiu f)) h

/-- A write to OWN_RELEASE is that command (R368). -/
theorem exec_write_ownRelease {v : Nat} (hv : v < 2 ^ 32) (s : State) : exec (.registerWrite 0x000110 4 v) s = exec (.ownRelease v) s := by
  have h : (fun d : Dev => d.regWrite 0x000110 4 v) = fun d => d.ownRelease v := funext (fun d => Dev.regWrite_plain d plainReg_ownRelease (by decide) hv)
  exact congrArg (fun f => s.act (fun d => d.hiu f)) h

theorem completes_read {s : State} {o k : Nat} {e : Dev} (hl : s.dev.host.linkUp = true) (h : s.dev.regRead o k = e) : Completes (.registerRead o k) s (fun d => d = e) :=
  completes_does_up (f := fun d => d.regRead o k) hl rfl h

theorem completes_write {s : State} {o k v : Nat} {e : Dev} (hl : s.dev.host.linkUp = true) (h : s.dev.regWrite o k v = e) : Completes (.registerWrite o k v) s (fun d => d.Is e) :=
  completes_act_up (f := fun d => d.regWrite o k v) hl rfl h

theorem completes_bar2Write {s : State} (hl : s.dev.host.linkUp = true) (o : Nat) (b : List Byte) :
    Completes (.bar2Write o b) s (fun d => d = { s.dev with host := { s.dev.host with accessErr := true } }) :=
  completes_does_up (f := fun d => { d with host := { d.host with accessErr := true } }) hl rfl rfl

/-- Settles O52: each row of the Plate window and of the registers by the equation of its access. -/
theorem plateWindowAndRegisters : Obligations.PlateWindowAndRegisters := by
  intro s n h gets none'
  refine ⟨fun hl => ⟨completes_does_up hl rfl rfl, fun v hv => ⟨fun h0 hs => ?_, fun hr => ?_⟩, fun v hv => completes_pinRelease hl hv⟩,
    fun b c hp => completes_pinExpiry hp, completes_pinExpiry_unpinned, fun hl => ⟨fun o k v hbad => ?_, fun o v h1 h2 h4 => ?_, fun o hw _ => ?_, ?_, fun v hv => ?_, completes_bar2Write hl⟩,
    fun hl a v k b => ?_⟩
  · have hp := completes_pinRequest hl hv
    rwa [Hif.pinRequest_granted h0 hs] at hp
  · have hp := completes_pinRequest hl hv
    rwa [Hif.pinRequest_refused hr] at hp
  · exact ⟨completes_read hl (n.regRead_refused (accessOk_false hbad)), completes_write hl (n.regWrite_refused v (accessOk_false hbad))⟩
  · have h0 := n.regRead_plain (plainReg_unlisted h1 h2 h4) (by omega)
    rw [n.reg32_unlisted h1 h2] at h0
    exact ⟨completes_read hl h0, completes_write hl (n.regWrite_unlisted v h1 h2 h4)⟩
  · exact ⟨completes_read hl (n.regRead_wide hw), completes_read hl (n.regRead_low hw), fun x hx => completes_read hl (n.regRead_high hw hx)⟩
  · exact completes_read hl (n.regRead_plain plainReg_ownToken (by decide))
  · exact ⟨exec_write_ownClaim hv s, exec_write_ownRelease hv s, completes_write hl (n.regWrite_pinLow hv), fun x hx => completes_write hl (n.regWrite_pinHigh hv hx),
      completes_write hl (n.regWrite_plain plainReg_eventPair (by decide) hv), completes_write hl (n.regWrite_plain plainReg_devStatus (by decide) hv)⟩
  · exact ⟨act_down hl rfl, does_down hl rfl, act_down hl rfl, does_down hl rfl, does_down hl rfl, does_down hl rfl, does_down hl rfl, does_down hl rfl, does_down hl rfl, does_down hl rfl,
      act_down hl rfl, does_down hl rfl, does_down hl rfl, act_down hl rfl⟩

end Sys2Proof.Machine

/-! PROOFS. The Plate window: the four Plate buffers and the pin (R17, R394). Of every function that a command can reach, in the order of the model, one equation says that it
leaves the window as it was; the few that change it come in the next part. -/

namespace Sys2Proof.Machine

open Sys2Proof

/-- What the Plate window holds (R17, R394): the four buffers and the pin. -/
def Dev.window (d : Dev) : List Memory × Option (Nat × Nat) := (d.plates, d.host.pin)

@[simp] theorem Dev.window_mk (ctl motion engines pace ring tu host chr router log si tru boot power tap plates image flash hostMem snap) :
    Dev.window ⟨ctl, motion, engines, pace, ring, tu, host, chr, router, log, si, tru, boot, power, tap, plates, image, flash, hostMem, snap⟩ = (plates, host.pin) := rfl

@[simp] theorem Dev.window_eta (d : Dev) : (d.plates, d.host.pin) = d.window := rfl

@[simp] theorem Dev.window_ite (c : Prop) [Decidable c] (d e : Dev) : (if c then d else e).window = if c then d.window else e.window := apply_ite Dev.window c d e

@[simp] theorem Dev.window_fst_ite {α : Type} (c : Prop) [Decidable c] (x y : Dev × α) : (if c then x else y).1.window = if c then x.1.window else y.1.window :=
  apply_ite (fun x : Dev × α => x.1.window) c x y

/-- The time base is none of the window's. -/
theorem Dev.window_tu (d : Dev) (t : Tu) : ({ d with tu := t } : Dev).window = d.window := rfl

theorem Dev.window_of_core {d e : Dev} (h : d.core = e.core) : d.window = e.window := show d.core.window = e.core.window from congrArg Dev.window h

@[simp] theorem Dev.pin_emit (d : Dev) (e : Ev) : (d.emit e).host.pin = d.host.pin := congrArg Prod.snd (Dev.window_of_core (Dev.core_emit d e))
@[simp] theorem Dev.pin_emits (d : Dev) (es : List Ev) : (d.emits es).host.pin = d.host.pin := congrArg Prod.snd (Dev.window_of_core (Dev.core_emits d es))
@[simp] theorem Dev.pin_satCheck (b d : Dev) : (Dev.satCheck b d).host.pin = d.host.pin := congrArg Prod.snd (Dev.window_of_core (Dev.core_satCheck b d))
@[simp] theorem Dev.window_emit (d : Dev) (e : Ev) : (d.emit e).window = d.window := Dev.window_of_core (Dev.core_emit d e)
@[simp] theorem Dev.window_emits (d : Dev) (es : List Ev) : (d.emits es).window = d.window := Dev.window_of_core (Dev.core_emits d es)
@[simp] theorem Dev.window_satCheck (b d : Dev) : (Dev.satCheck b d).window = d.window := Dev.window_of_core (Dev.core_satCheck b d)

@[simp] theorem Dev.window_foldl {α : Type} {f : Dev → α → Dev} (h : ∀ d x, (f d x).window = d.window) (l : List α) (d : Dev) : (l.foldl f d).window = d.window := by
  induction l generalizing d with
  | nil => rfl
  | cons x l ih => rw [List.foldl_cons, ih, h]

@[simp] theorem Hif.pin_complete (h : Hif) (q : HostReq) (res : Nat) (r : CmdRes) (done hold : Nat) (dup : Bool) : (h.complete q res r done hold dup).pin = h.pin := by
  obtain ⟨ps, e⟩ := Hif.complete_pairs h q res r done hold dup
  rw [e]

@[simp] theorem Hif.pin_releaseHandle (h : Hif) (q : HostReq) (own : Bool) : (h.releaseHandle q own).pin = h.pin := by
  rw [Hif.releaseHandle_eq]

@[simp] theorem Dev.window_reply (d : Dev) (q : HostReq) (res : Nat) (r : CmdRes) (done hold : Nat) (dup : Bool) : (d.reply q res r done hold dup).window = d.window := by
  simp [Dev.reply]

/-! ## The window under the functions of `Ops` -/

@[simp] theorem Dev.window_took (d : Dev) : d.took.window = d.window := rfl

@[simp] theorem Dev.window_onEngine (d : Dev) (e : Nat) (f : Engine → Engine) : (d.onEngine e f).window = d.window := rfl

@[simp] theorem Dev.window_onAxis (d : Dev) (a : Nat) (f : Axis → Axis) : (d.onAxis a f).window = d.window := rfl

@[simp] theorem Dev.window_onStepper (d : Dev) (a : Nat) (f : Stepper → Stepper) : (d.onStepper a f).window = d.window := rfl

@[simp] theorem Dev.window_onOrr (d : Dev) (i : Nat) (f : Orrery → Orrery) : (d.onOrr i f).window = d.window := rfl

@[simp] theorem Dev.window_onSeg (d : Dev) (i : Nat) (f : Segment → Segment) : (d.onSeg i f).window = d.window := rfl

@[simp] theorem Dev.window_withTu (d : Dev) (r : Tu × List Ev) : (d.withTu r).window = d.window := by simp [Dev.withTu]

@[simp] theorem Dev.window_withSi (d : Dev) (r : Si × List Ev) : (d.withSi r).window = d.window := by simp [Dev.withSi]

@[simp] theorem Dev.window_withTru (d : Dev) (r : Tru × List Ev) : (d.withTru r).window = d.window := by simp [Dev.withTru]

@[simp] theorem Dev.window_withChr (d : Dev) (r : Chr × List Ev) : (d.withChr r).window = d.window := by simp [Dev.withChr]

/-! ## The window under the functions of `HostState` -/

theorem Hif.pin_onPair (h : Hif) (i : Nat) (f : Pair → Pair) : (h.onPair i f).pin = h.pin := by
  cases h
  rfl

/-! ## The window under the functions of `Host` -/

@[simp] theorem Hif.pin_raise (h : Hif) (v : Nat) : (h.raise v).pin = h.pin := by
  unfold Hif.raise
  split <;> rfl

@[simp] theorem Hif.pin_msixWrite (h : Hif) (w v : Nat) : (h.msixWrite w v).pin = h.pin := by
  unfold Hif.msixWrite
  dsimp only
  split
  · rw [Hif.pin_raise]
  · rfl

@[simp] theorem Hif.pin_signal (h : Hif) (i : Nat) : (h.signal i).pin = h.pin := by
  unfold Hif.signal
  dsimp only
  split
  · rw [Hif.pin_raise, Hif.onPair_pin]
  · rfl

@[simp] theorem Hif.pin_resized (h : Hif) (op key : Nat) : (h.resized op key).pin = h.pin := by
  unfold Hif.resized
  split <;> rfl

@[simp] theorem Hif.pin_write (h : Hif) (mem : Memory) (i : Nat) (bs : List Byte) (irq : Bool) : (h.write mem i bs irq).1.pin = h.pin := by
  unfold Hif.write
  dsimp only
  split
  · rw [Hif.pin_signal, Hif.onPair_pin]
  · rfl

@[simp] theorem Hif.pin_postEvent (h : Hif) (mem : Memory) (e : HostEv) : (h.postEvent mem e).1.pin = h.pin := by
  unfold Hif.postEvent
  dsimp only
  split
  · rw [Hif.pin_write]
  · rfl

/-! ## The window under the functions of `Ops` -/

@[simp] theorem Dev.window_reject (d : Dev) (q : HostReq) (res status : Nat) : (d.reject q res status).window = d.window := by simp [Dev.reject]

@[simp] theorem Dev.window_opEnd (d : Dev) (o : Option OpenOp) (r : CmdRes) (hold : optParam Nat 0) : (d.opEnd o r hold).window = d.window := by
  unfold Dev.opEnd
  repeat' split
  all_goals simp

/-! ## The window under the functions of `AxisOps` -/

@[simp] theorem Dev.window_axisCond (d : Dev) (a code : Nat) : (d.axisCond a code).window = d.window := by
  unfold Dev.axisCond
  split <;> simp

@[simp] theorem Dev.window_stepperCond (d : Dev) (a code : Nat) : (d.stepperCond a code).window = d.window := by
  unfold Dev.stepperCond
  split <;> simp

/-! ## The window under the functions of `MotionOps` -/

@[simp] theorem Dev.window_retract (d : Dev) (a cause : Nat) : (d.retract a cause).window = d.window := by
  unfold Dev.retract
  split <;> simp

@[simp] theorem Dev.window_ephemeris (d : Dev) : d.ephemeris.window = d.window := rfl

@[simp] theorem Dev.window_respoint (d : Dev) (a : Nat) : (d.respoint a).window = d.window := by
  unfold Dev.respoint
  split <;> simp

@[simp] theorem Dev.window_refresh (d : Dev) (a : Nat) : (d.refresh a).window = d.window := by
  unfold Dev.refresh
  split <;> simp

@[simp] theorem Dev.window_changed (d : Dev) (a cause : Nat) : (d.changed a cause).window = d.window := by simp [Dev.changed]

@[simp] theorem Dev.window_retractIf (d : Dev) (a : Nat) {f : Dev → Dev} (h : (f d).window = d.window) : (d.retractIf a f).window = d.window := by
  simp [Dev.retractIf, h]

@[simp] theorem Dev.window_reshaped (d : Dev) (a : Nat) : (d.reshaped a).window = d.window := Dev.window_retractIf d a (Dev.window_refresh d a)

@[simp] theorem Dev.window_replanOrr (d : Dev) (i n0 : Nat) (f : Orrery → Orrery) : (d.replanOrr i n0 f).window = d.window := by
  unfold Dev.replanOrr
  extract_lets d1 fs d2
  have h2 : d2.window = d.window := Dev.window_foldl (fun d e => Dev.window_onAxis d e.1 _) fs d1
  exact (Dev.window_foldl (fun (d : Dev) (e : Nat × Axis) => Dev.window_reshaped d e.1) fs d2).trans h2

@[simp] theorem Dev.window_limitOrr (d : Dev) (i n0 : Nat) : (d.limitOrr i n0).window = d.window := by
  unfold Dev.limitOrr
  split
  · rfl
  · extract_lets b o1 t f d1
    have h1 : d1.window = d.window := Dev.window_replanOrr d i n0 f
    clear_value d1 f t o1 b
    split
    · rfl
    · split
      · rw [Dev.window_emit, h1]
      · exact h1

@[simp] theorem Dev.window_orrFault (d : Dev) (i n0 : Nat) (quick : Bool) : (d.orrFault i n0 quick).window = d.window := by
  unfold Dev.orrFault
  repeat' split
  all_goals simp

@[simp] theorem Dev.window_orrFaults (d : Dev) (n : Nat) : (d.orrFaults n).window = d.window := by
  refine Dev.window_foldl (fun d e => ?_) _ d
  split <;> simp

/-! ## The window under the functions of `Ops` -/

@[simp] theorem Dev.window_opsEnd (d : Dev) (p : HostReq → Bool) (r : CmdRes) (hold : Nat) : (d.opsEnd p r hold).window = d.window :=
  Dev.window_foldl (fun d o => Dev.window_opEnd d (some o) r hold) _ d

/-! ## The window under the functions of `MotionOps` -/

@[simp] theorem Dev.window_camSwitch (d : Dev) (n c : Nat) : (d.camSwitch n c).window = d.window := by
  unfold Dev.camSwitch
  split
  · rfl
  · extract_lets s put
    split
    · rfl
    · extract_lets
      split
      · rfl
      · split
        · exact Dev.window_opsEnd _ _ _ _
        · exact (Dev.window_opsEnd _ _ _ _).trans (Dev.window_foldl (fun (d : Dev) (e : Nat × Axis) => Dev.window_retractIf d e.1 (Dev.window_respoint d e.1)) _ _)

@[simp] theorem Dev.window_regChannel (d : Dev) (n c : Nat) : (d.regChannel n c).window = d.window := by
  simp only [Dev.regChannel]
  repeat' split
  all_goals simp

@[simp] theorem Dev.window_regChannels (d : Dev) : d.regChannels.window = d.window := by simp [Dev.regChannels]

@[simp] theorem Dev.window_advance (d : Dev) : d.advance.window = d.window := by
  unfold Dev.advance
  simp

@[simp] theorem Dev.window_deliverAt (d : Dev) (a m : Nat) (ax : Axis) : (d.deliverAt a m ax).window = d.window := by simp [Dev.deliverAt]

@[simp] theorem Dev.window_deliver (d : Dev) (a : Nat) : (d.deliver a).window = d.window := by
  unfold Dev.deliver
  repeat' split
  all_goals simp

/-! ## The window under the functions of `AxisRows` -/

@[simp] theorem Dev.window_axisFires (d : Dev) (a code : Nat) : (d.axisFires a code).window = d.window := by
  unfold Dev.axisFires
  split <;> simp

@[simp] theorem Dev.window_feTimer (d : Dev) (a : Nat) : (d.feTimer a).window = d.window := by
  unfold Dev.feTimer
  split <;> simp

@[simp] theorem Dev.window_qsTimeout (d : Dev) (a : Nat) : (d.qsTimeout a).window = d.window := by
  unfold Dev.qsTimeout
  split <;> simp

@[simp] theorem Dev.window_standstill (d : Dev) (a : Nat) : (d.standstill a).window = d.window := by
  unfold Dev.standstill
  split <;> simp

@[simp] theorem Dev.window_torqueSat (d : Dev) (a : Nat) : (d.torqueSat a).window = d.window := by
  unfold Dev.torqueSat
  split <;> simp

@[simp] theorem Dev.window_feedbackLost (d : Dev) (a : Nat) : (d.feedbackLost a).window = d.window := by
  unfold Dev.feedbackLost
  split <;> simp

@[simp] theorem Dev.window_splitLost (d : Dev) (a : Nat) : (d.splitLost a).window = d.window := by
  unfold Dev.splitLost
  split <;> simp

@[simp] theorem Dev.window_overrun (d : Dev) (a : Nat) : (d.overrun a).window = d.window := by
  unfold Dev.overrun
  split <;> simp

@[simp] theorem Dev.window_stepOverrun (d : Dev) (a : Nat) : (d.stepOverrun a).window = d.window := by
  unfold Dev.stepOverrun
  split <;> simp

@[simp] theorem Dev.window_regLost (d : Dev) (c : Nat) : (d.regLost c).window = d.window := by
  unfold Dev.regLost
  split <;> simp

@[simp] theorem Dev.window_chatter (d : Dev) (step : Bool) (a which : Nat) : (d.chatter step a which).window = d.window := by
  unfold Dev.chatter
  repeat' split
  all_goals simp

@[simp] theorem Dev.window_homeTimeout (d : Dev) (step : Bool) (a : Nat) : (d.homeTimeout step a).window = d.window := by
  unfold Dev.homeTimeout
  repeat' split
  all_goals simp

@[simp] theorem Dev.window_stepUpdate (d : Dev) (a : Nat) : (d.stepUpdate a).window = d.window := by
  unfold Dev.stepUpdate
  split <;> simp

@[simp] theorem Dev.window_stall (d : Dev) (a : Nat) : (d.stall a).window = d.window := by
  unfold Dev.stall
  split <;> simp

@[simp] theorem Dev.window_stepFbLost (d : Dev) (a : Nat) : (d.stepFbLost a).window = d.window := by
  unfold Dev.stepFbLost
  split <;> simp

/-! ## The window under the functions of `HostOps` -/

@[simp] theorem Dev.window_withdraw (d : Dev) (p : Staged → Bool) (st : Staged → Nat) : (d.withdraw p st).window = d.window := by simp [Dev.withdraw]

@[simp] theorem Dev.window_batchCount (d : Dev) : d.batchCount.window = d.window := rfl

@[simp] theorem Dev.window_batchMark (d : Dev) (id eff pair : Nat) : (d.batchMark id eff pair).window = d.window := by
  unfold Dev.batchMark
  split <;> simp

@[simp] theorem Dev.window_failBatch (d : Dev) (id eff pair : Nat) : (d.failBatch id eff pair).window = d.window := by simp [Dev.failBatch]

@[simp] theorem Dev.window_failClosed (d : Dev) (id eff mer : Nat) : (d.failClosed id eff mer).window = d.window := by simp [Dev.failClosed]

@[simp] theorem Dev.window_watchStyle (d : Dev) : d.watchStyle.window = d.window := by
  unfold Dev.watchStyle
  split <;> rfl

@[simp] theorem Dev.window_dropBatch (d : Dev) (id eff : Nat) : (d.dropBatch id eff).window = d.window := rfl

@[simp] theorem Dev.window_noteReply (d : Dev) (op key n note : Nat) : (d.noteReply op key n note).window = d.window := rfl

@[simp] theorem Dev.window_noteHome (d : Dev) (key note : Nat) : (d.noteHome key note).window = d.window := rfl

@[simp] theorem Dev.window_homeEnds (d : Dev) (st : Nat) : (d.homeEnds st).window = d.window := by
  refine Dev.window_foldl (fun d o => ?_) _ d
  split <;> simp

/-! ## The window under the functions of `PaceRows` -/

@[simp] theorem Dev.window_carrySet (d : Dev) (c : Nat × Nat × Int) : (d.carrySet c).window = d.window := by simp [Dev.carrySet]

@[simp] theorem Dev.window_carryAll (d : Dev) (cs : List (Nat × Nat × Int)) : (d.carryAll cs).window = d.window := by simp [Dev.carryAll]

@[simp] theorem Dev.window_planComplete (d : Dev) : d.planComplete.window = d.window := by
  unfold Dev.planComplete
  split <;> simp

@[simp] theorem Dev.window_moveSlot (d : Dev) (a e s f t : Nat) : (d.moveSlot a e s f t).window = d.window := rfl

@[simp] theorem Dev.window_moveBackground (d : Dev) (e f : Nat) : (d.moveBackground e f).window = d.window := rfl

@[simp] theorem Dev.window_declareBg (d : Dev) (v : Nat) : (d.declareBg v).window = d.window := rfl

@[simp] theorem Dev.window_moveBackgrounds (d : Dev) (old new : List Nat) : (d.moveBackgrounds old new).window = d.window := by simp [Dev.moveBackgrounds]

@[simp] theorem Dev.window_phaseAll (d : Dev) (ps : List (Nat × Nat)) : (d.phaseAll ps).window = d.window := by simp [Dev.phaseAll]

@[simp] theorem Dev.window_shedAxis (d : Dev) (a : Nat) : (d.shedAxis a).window = d.window := by
  unfold Dev.shedAxis
  split <;> simp

@[simp] theorem Dev.window_planAxis (d : Dev) (old : Tab (Nat × Nat)) (a : Nat) (e : Nat × Nat) : (d.planAxis old a e).window = d.window := by
  unfold Dev.planAxis
  split <;> simp

@[simp] theorem Dev.window_planInForce (d : Dev) (p : PacePlan) : (d.planInForce p).window = d.window := by
  unfold Dev.planInForce
  split <;> simp

@[simp] theorem Dev.window_discardPlan (d : Dev) (p : PacePlan) : (d.discardPlan p).window = d.window := rfl

@[simp] theorem Dev.window_planAt (d : Dev) (n : Nat) : (d.planAt n).window = d.window := by
  unfold Dev.planAt
  split <;> simp

@[simp] theorem Dev.window_seeHour (d : Dev) : d.seeHour.window = d.window := rfl

@[simp] theorem Dev.window_seeAll (d : Dev) : d.seeAll.window = d.window := rfl

@[simp] theorem Dev.window_tempRead (d : Dev) (ts : List Int) : (d.tempRead ts).window = d.window := by simp [Dev.tempRead]

@[simp] theorem Dev.window_floors (d : Dev) : d.floors.window = d.window := rfl

@[simp] theorem Dev.window_ageing (d0 : Dev) : d0.ageing.window = d0.window := by simp [Dev.ageing]

@[simp] theorem Dev.window_avsFailed (d : Dev) (again : Bool) : (d.avsFailed again).window = d.window := by
  unfold Dev.avsFailed
  split <;> rfl

@[simp] theorem Dev.window_avsAdjust (d : Dev) (ok again : Bool) : (d.avsAdjust ok again).window = d.window := by simp [Dev.avsAdjust]

@[simp] theorem Dev.window_avsReadback (d : Dev) (mv : Nat) (ok again : Bool) : (d.avsReadback mv ok again).window = d.window := by simp [Dev.avsReadback]

/-! ## The window under the functions of `RingOps` -/

@[simp] theorem Dev.window_acyclic (d : Dev) (seg svc dest : Nat) (payload : List Byte) : (d.acyclic seg svc dest payload).window = d.window := rfl

@[simp] theorem Dev.window_ringReplies (d : Dev) : d.ringReplies.window = d.window := by simp [Dev.ringReplies]

@[simp] theorem Dev.window_enter (d : Dev) (seg st : Nat) : (d.enter seg st).window = d.window := by simp [Dev.enter]

@[simp] theorem Dev.window_enumStart (d : Dev) (seg : Nat) : (d.enumStart seg).window = d.window := by simp [Dev.enumStart]

@[simp] theorem Dev.window_measure (d : Dev) (seg : Nat) : (d.measure seg).window = d.window := rfl

@[simp] theorem Dev.window_report (d : Dev) (seg : Nat) : (d.report seg).window = d.window := rfl

@[simp] theorem Dev.window_config (d : Dev) (seg pos tries : Nat) : (d.config seg pos tries).window = d.window := by simp [Dev.config]

@[simp] theorem Dev.window_segDown (d : Dev) (seg : Nat) : (d.segDown seg).window = d.window := by simp [Dev.segDown]

@[simp] theorem Dev.window_cycleRejected (d : Dev) : d.cycleRejected.window = d.window := by simp [Dev.cycleRejected]

@[simp] theorem Dev.window_configBegin (d : Dev) : d.configBegin.window = d.window := by simp [Dev.configBegin]

@[simp] theorem Dev.window_segFail (d : Dev) (seg : Nat) (e : Ev) : (d.segFail seg e).window = d.window := by simp [Dev.segFail]

@[simp] theorem Dev.window_lead (d : Dev) (segs : List Nat) : (d.lead segs).window = d.window := by simp [Dev.lead]

@[simp] theorem Dev.window_passive (d : Dev) : d.passive.window = d.window := rfl

@[simp] theorem Dev.window_follow (d : Dev) : d.follow.window = d.window := by simp [Dev.follow]

@[simp] theorem Dev.window_layout (d : Dev) : d.layout.window = d.window := by
  unfold Dev.layout
  split <;> rfl

@[simp] theorem Dev.window_mapBegin (d : Dev) (segs : List Nat) : (d.mapBegin segs).window = d.window := by
  unfold Dev.mapBegin
  split
  · rfl
  · extract_lets cur touched keep next left stats _ d1 d2
    have h2 : d2.window = d.window := Dev.window_foldl (fun d i => Dev.window_onSeg d i _) touched d1
    split
    · exact h2
    · rw [Dev.window_layout, h2]

@[simp] theorem Dev.window_segParams (d : Dev) (seg : Nat) : (d.segParams seg).window = d.window := rfl

@[simp] theorem Dev.window_siConnect (d : Dev) : d.siConnect.window = d.window := rfl

@[simp] theorem Dev.window_siPersist (d : Dev) : d.siPersist.window = d.window := by
  unfold Dev.siPersist
  split <;> rfl

@[simp] theorem Dev.window_ringBegin (d : Dev) : d.ringBegin.window = d.window := by
  unfold Dev.ringBegin
  extract_lets _ d1 d2 d3 pend _ d4 d5 d6
  have h2 : d2.window = d.window := Dev.window_foldl Dev.window_segParams (List.range 8) d1
  have h4 : d4.window = d.window := by rw [Dev.window_withSi, Dev.window_mapBegin, h2]
  have h5 : d5.window = d.window := by
    dsimp only [d5]
    split
    · rw [Dev.window_siPersist, h4]
    · exact h4
  have h6 : d6.window = d.window := h5
  rw [← h6]
  refine Dev.window_foldl (fun d i => ?_) _ d6
  simp

@[simp] theorem Dev.window_reinitBegin (d : Dev) (seg : Nat) : (d.reinitBegin seg).window = d.window := by
  unfold Dev.reinitBegin
  repeat' split
  all_goals simp

@[simp] theorem Dev.window_startRing (d : Dev) : d.startRing.window = d.window := by simp [Dev.startRing]

@[simp] theorem Dev.window_mailStart (d : Dev) (seg : Nat) : (d.mailStart seg).window = d.window := by
  unfold Dev.mailStart
  repeat' split
  all_goals simp

@[simp] theorem Dev.window_mailSolicit (d : Dev) (seg : Nat) : (d.mailSolicit seg).window = d.window := by
  simp only [Dev.mailSolicit]
  repeat' split
  all_goals simp

@[simp] theorem Dev.window_mailEnd (d : Dev) (seg : Nat) (r : CmdRes) : (d.mailEnd seg r).window = d.window := by
  simp only [Dev.mailEnd]
  repeat' split
  all_goals simp

/-! ## The window under the functions of `CmdBase` -/

@[simp] theorem Dev.window_done (d : Dev) : d.done.1.window = d.window := rfl

@[simp] theorem Dev.window_ask (d : Dev) (rest : Snap → List Byte) : (d.ask rest).1.window = d.window := rfl

/-! ## The window under the functions of `CmdSet` -/

@[simp] theorem Dev.window_recouple (d : Dev) (a n0 : Nat) (s : SetPoint) : (d.recouple a n0 s).window = d.window := by
  unfold Dev.recouple
  repeat' split
  all_goals simp

@[simp] theorem Dev.window_reEngageAxis (d : Dev) (a n0 : Nat) : (d.reEngageAxis a n0).window = d.window := rfl

@[simp] theorem Dev.window_setAxis (d : Dev) (a : Nat) (ids : List Nat) (prm stored : Params) : (d.setAxis a ids prm stored).1.window = d.window := by
  unfold Dev.setAxis
  repeat' split
  all_goals simp

@[simp] theorem Dev.window_setStepper (d : Dev) (a : Nat) (ids : List Nat) (prm stored : Params) : (d.setStepper a ids prm stored).1.window = d.window := by
  unfold Dev.setStepper
  split <;> simp

@[simp] theorem Dev.window_setOrr (d : Dev) (i : Nat) (ids : List Nat) (prm : Params) : (d.setOrr i ids prm).window = d.window := by
  unfold Dev.setOrr
  simp

@[simp] theorem Dev.window_setReg (d : Dev) (i : Nat) (prm : Params) : (d.setReg i prm).window = d.window := by
  unfold Dev.setReg
  split <;> simp

@[simp] theorem Dev.window_setTout (d : Dev) (i : Nat) (prm : Params) : (d.setTout i prm).window = d.window := rfl

@[simp] theorem Dev.window_styleChange (d : Dev) : d.styleChange.window = d.window := rfl

@[simp] theorem Dev.window_setDevice (d : Dev) (ids : List Nat) (prm stored : Params) : (d.setDevice ids prm stored).window = d.window := by simp [Dev.setDevice]

@[simp] theorem Dev.window_carry (d : Dev) (op kind idx : Nat) (es : List PEnt) : (d.carry op kind idx es).window = d.window := rfl

@[simp] theorem Dev.window_setEffect (d : Dev) (q : HostReq) : (d.setEffect q).1.window = d.window := by
  unfold Dev.setEffect
  dsimp only
  split <;> simp

/-! ## The window under the functions of `CmdAxis` -/

@[simp] theorem Dev.window_addEffect (d : Dev) (q : HostReq) : (d.addEffect q).1.window = d.window := by simp [Dev.addEffect]

@[simp] theorem Dev.window_forget (d : Dev) (kind a : Nat) : (d.forget kind a).window = d.window := rfl

@[simp] theorem Dev.window_removeEffect (d : Dev) (q : HostReq) : (d.removeEffect q).1.window = d.window := by simp [Dev.removeEffect]

@[simp] theorem Dev.window_enableEffect (d : Dev) (q : HostReq) : (d.enableEffect q).1.window = d.window := by simp [Dev.enableEffect]

@[simp] theorem Dev.window_uncoupled (d : Dev) (f : Option Follower) : (d.uncoupled f).window = d.window := by
  unfold Dev.uncoupled
  repeat' split
  all_goals simp

@[simp] theorem Dev.window_disableEffect (d : Dev) (q : HostReq) : (d.disableEffect q).1.window = d.window := by
  unfold Dev.disableEffect
  repeat' split
  all_goals simp

@[simp] theorem Dev.window_clearEffect (d : Dev) (q : HostReq) : (d.clearEffect q).1.window = d.window := by simp [Dev.clearEffect]

@[simp] theorem Dev.window_tableEffect (d : Dev) (q : HostReq) : (d.tableEffect q).1.window = d.window := by simp [Dev.tableEffect]

@[simp] theorem Dev.window_bindEffect (d : Dev) (q : HostReq) : (d.bindEffect q).1.window = d.window := by
  unfold Dev.bindEffect
  split <;> rfl

@[simp] theorem Dev.window_setPosEffect (d : Dev) (q : HostReq) : (d.setPosEffect q).1.window = d.window := rfl

@[simp] theorem Dev.window_askOf (d : Dev) (b : Option (List Byte)) : (d.askOf b).1.window = d.window := by
  unfold Dev.askOf
  split <;> rfl

/-! ## The window under the functions of `CmdMotion` -/

@[simp] theorem Dev.window_bounds (d : Dev) (old : Option Follower) (a : Nat) : (d.bounds old a).window = d.window := by
  unfold Dev.bounds
  repeat' split
  all_goals simp

@[simp] theorem Dev.window_modeServo (d : Dev) (q : HostReq) (ax : Axis) : (d.modeServo q ax).1.window = d.window := by
  unfold Dev.modeServo
  repeat' split
  all_goals simp

@[simp] theorem Dev.window_modeStep (d : Dev) (q : HostReq) (s : Stepper) : (d.modeStep q s).1.window = d.window := by simp [Dev.modeStep]

@[simp] theorem Dev.window_modeEffect (d : Dev) (q : HostReq) : (d.modeEffect q).1.window = d.window := by
  unfold Dev.modeEffect
  repeat' split
  all_goals simp

@[simp] theorem Dev.window_stopServo (d : Dev) (a code cls n : Nat) (f : Work → Work) : (d.stopServo a code cls n f).window = d.window := by
  unfold Dev.stopServo
  split <;> simp

@[simp] theorem Dev.window_estopServo (d : Dev) (a cls : Nat) : (d.estopServo a cls).window = d.window := by
  unfold Dev.estopServo
  repeat' split
  all_goals simp

@[simp] theorem Dev.window_estopStep (d : Dev) (a cls : Nat) : (d.estopStep a cls).window = d.window := by
  unfold Dev.estopStep
  split <;> simp

@[simp] theorem Dev.window_estopAll (d : Dev) (seg : Option Nat) (cls : Nat) : (d.estopAll seg cls).window = d.window := by
  unfold Dev.estopAll
  simp

@[simp] theorem Dev.window_estopEffect (d : Dev) (q : HostReq) : (d.estopEffect q).1.window = d.window := by
  unfold Dev.estopEffect
  repeat' split
  all_goals simp

@[simp] theorem Dev.window_processEffect (d : Dev) (q : HostReq) : (d.processEffect q).1.window = d.window := rfl

@[simp] theorem Dev.window_orrConfEffect (d : Dev) (q : HostReq) : (d.orrConfEffect q).1.window = d.window := rfl

@[simp] theorem Dev.window_orrRemEffect (d : Dev) (q : HostReq) : (d.orrRemEffect q).1.window = d.window := rfl

@[simp] theorem Dev.window_orrSpeedEffect (d : Dev) (q : HostReq) : (d.orrSpeedEffect q).1.window = d.window := by
  unfold Dev.orrSpeedEffect
  simp

@[simp] theorem Dev.window_orrStopEffect (d : Dev) (q : HostReq) : (d.orrStopEffect q).1.window = d.window := by
  unfold Dev.orrStopEffect
  simp

@[simp] theorem Dev.window_camLoadEffect (d : Dev) (q : HostReq) : (d.camLoadEffect q).1.window = d.window := by
  simp only [Dev.camLoadEffect]
  repeat' split
  all_goals simp

@[simp] theorem Dev.window_camDelEffect (d : Dev) (q : HostReq) : (d.camDelEffect q).1.window = d.window := rfl

@[simp] theorem Dev.window_regRemEffect (d : Dev) (q : HostReq) : (d.regRemEffect q).1.window = d.window := by
  unfold Dev.regRemEffect
  split <;> simp

/-! ## The window under the functions of `HostRows` -/

@[simp] theorem Dev.window_hiu (d : Dev) {f : Dev → Dev} (h : (f d).window = d.window) : (d.hiu f).window = d.window := by
  simp [Dev.hiu, h]

@[simp] theorem Dev.window_ownClaim (d : Dev) (nonce : Nat) : (d.ownClaim nonce).window = d.window := by
  unfold Dev.ownClaim
  split <;> rfl

@[simp] theorem Dev.window_heartbeat (d : Dev) (token : Nat) : (d.heartbeat token).window = d.window := by
  unfold Dev.heartbeat
  split <;> rfl

@[simp] theorem Dev.window_chrStreamEnds (d : Dev) (pair : Option Nat) : (d.chrStreamEnds pair).window = d.window := by
  unfold Dev.chrStreamEnds
  split <;> simp

@[simp] theorem Dev.window_latestRead (d : Dev) : d.latestRead.window = d.window := rfl

@[simp] theorem Dev.window_qctrl (d : Dev) (i v : Nat) : (d.qctrl i v).window = d.window := by simp [Dev.qctrl]

@[simp] theorem Dev.window_regRead (d : Dev) (o n : Nat) : (d.regRead o n).window = d.window := by simp [Dev.regRead]

@[simp] theorem Dev.window_write64 (d : Dev) (o v : Nat) : (d.write64 o v).window = d.window := by
  unfold Dev.write64
  split
  · rw [Dev.window_mk, Hif.pin_onPair]
    rfl
  · split
    · rw [Dev.window_mk, Hif.pin_msixWrite, Hif.pin_msixWrite]
      rfl
    · split <;> rfl

@[simp] theorem Dev.window_hostEvent (d : Dev) : d.hostEvent.window = d.window := by
  unfold Dev.hostEvent
  repeat' split
  all_goals simp

@[simp] theorem Hif.pin_resizedAll (os : List OutRec) (h : Hif) : (os.foldl (fun (h : Hif) (o : OutRec) => h.resized o.op o.key) h).pin = h.pin := by
  induction os generalizing h with
  | nil => rfl
  | cons o os ih => rw [List.foldl_cons, ih, Hif.pin_resized]

@[simp] theorem Dev.window_dmaError (d : Dev) (i : Nat) (again : Bool) : (d.dmaError i again).window = d.window := by
  unfold Dev.dmaError
  extract_lets p done d1 d2
  have h2 : d2.window = d.window := by
    dsimp only [d2, Dev.window]
    rw [Hif.pin_resizedAll]
    rfl
  split
  · rfl
  · rw [Dev.window_emit, Dev.window_chrStreamEnds, h2]

/-! ## The window under the functions of `CmdMgmt` -/

@[simp] theorem Dev.window_infoEffect (d : Dev) (q : HostReq) : (d.infoEffect q).1.window = d.window := rfl

@[simp] theorem Dev.window_ownerEffect (d : Dev) (q : HostReq) : (d.ownerEffect q).1.window = d.window := rfl

@[simp] theorem Dev.window_resizeEffect (d : Dev) (q : HostReq) : (d.resizeEffect q).1.window = d.window := rfl

@[simp] theorem Dev.window_streamEffect (d : Dev) (q : HostReq) : (d.streamEffect q).1.window = d.window := rfl

@[simp] theorem Dev.window_streamEnd (d : Dev) (q : HostReq) : (d.streamEnd q).1.window = d.window := rfl

@[simp] theorem Dev.window_clearDevice1 (d : Dev) : d.clearDevice1.window = d.window := rfl

@[simp] theorem Dev.window_clearDevice2 (d : Dev) : d.clearDevice2.window = d.window := rfl

@[simp] theorem Dev.window_clearObject (d : Dev) (kind i : Nat) : (d.clearObject kind i).window = d.window := by
  unfold Dev.clearObject
  split <;> rfl

@[simp] theorem Dev.window_clearTarget (d : Dev) (kind i : Nat) : (d.clearTarget kind i).window = d.window := by
  unfold Dev.clearTarget
  split <;> simp

@[simp] theorem Dev.window_countersEffect (d : Dev) (q : HostReq) : (d.countersEffect q).1.window = d.window := by simp [Dev.countersEffect]

@[simp] theorem Dev.window_openEffect (d : Dev) (q : HostReq) : (d.openEffect q).1.window = d.window := by
  unfold Dev.openEffect
  split <;> rfl

@[simp] theorem Dev.window_writeEffect (d : Dev) (q : HostReq) : (d.writeEffect q).1.window = d.window := rfl

@[simp] theorem Dev.window_closeEffect (d : Dev) (q : HostReq) : (d.closeEffect q).1.window = d.window := rfl

@[simp] theorem Dev.window_homeStopped (d : Dev) (r : HostReq) : (d.homeStopped r).window = d.window := by
  unfold Dev.homeStopped
  simp

@[simp] theorem Dev.window_opStopped (d : Dev) (r : HostReq) : (d.opStopped r).1.window = d.window := by
  unfold Dev.opStopped
  repeat' split
  all_goals simp

@[simp] theorem Dev.window_abortOp (d : Dev) (o : OpenOp) : (d.abortOp o).window = d.window := by
  unfold Dev.abortOp
  simp

@[simp] theorem Dev.window_abortEffect (d : Dev) (q : HostReq) : (d.abortEffect q).1.window = d.window := by
  unfold Dev.abortEffect
  repeat' split
  all_goals simp

/-! ## The window under the functions of `RingRows` -/

@[simp] theorem Dev.window_listenEnd (d : Dev) : d.listenEnd.window = d.window := by simp [Dev.listenEnd]

@[simp] theorem Dev.window_claimOn (d : Dev) (seg : Nat) : (d.claimOn seg).window = d.window := rfl

@[simp] theorem Dev.window_claimTick (d : Dev) : d.claimTick.window = d.window := by
  unfold Dev.claimTick
  extract_lets segs _
  split
  · exact Dev.window_foldl Dev.window_claimOn _ _
  · rfl

@[simp] theorem Dev.window_onward (d : Dev) (seg : Nat) (portA : Bool) (f : List Byte) : (d.onward seg portA f).window = d.window := by
  unfold Dev.onward
  split <;> rfl

@[simp] theorem Dev.window_rejoin (d : Dev) (seg : Nat) : (d.rejoin seg).window = d.window := by simp [Dev.rejoin]

@[simp] theorem Dev.window_claimFrame (d : Dev) (seg : Nat) (f : List Byte) : (d.claimFrame seg f).window = d.window := by
  simp only [Dev.claimFrame]
  repeat' split
  all_goals simp

@[simp] theorem Dev.window_ringOpen (d : Dev) (seg : Nat) : (d.ringOpen seg).window = d.window := by simp [Dev.ringOpen]

@[simp] theorem Dev.window_claimTimeout (d : Dev) : d.claimTimeout.window = d.window := by simp [Dev.claimTimeout]

@[simp] theorem Dev.window_enumFrame (d : Dev) (seg : Nat) (f : List Byte) : (d.enumFrame seg f).window = d.window := by
  simp only [Dev.enumFrame]
  repeat' split
  all_goals simp

@[simp] theorem Dev.window_measured (d : Dev) (seg : Nat) : (d.measured seg).window = d.window := by simp [Dev.measured]

@[simp] theorem Dev.window_delayFrame (d : Dev) (seg ps : Nat) (f : List Byte) : (d.delayFrame seg ps f).window = d.window := by
  simp only [Dev.delayFrame]
  repeat' split
  all_goals simp

@[simp] theorem Dev.window_measureLost (d : Dev) (seg : Nat) : (d.measureLost seg).window = d.window := by
  simp only [Dev.measureLost]
  repeat' split
  all_goals simp

@[simp] theorem Dev.window_configFrame (d : Dev) (seg : Nat) (f : List Byte) : (d.configFrame seg f).window = d.window := by
  simp only [Dev.configFrame]
  repeat' split
  all_goals simp

@[simp] theorem Dev.window_syncTimeout (d : Dev) (seg : Nat) : (d.syncTimeout seg).window = d.window := by simp [Dev.syncTimeout]

@[simp] theorem Dev.window_noticeEnd (d : Dev) (seg : Nat) : (d.noticeEnd seg).window = d.window := by
  unfold Dev.noticeEnd
  simp

@[simp] theorem Dev.window_joinPollAll (d : Dev) : d.joinPollAll.window = d.window := by simp [Dev.joinPollAll]

@[simp] theorem Dev.window_joinPollFrame (d : Dev) (seg : Nat) (f : List Byte) : (d.joinPollFrame seg f).window = d.window := by
  unfold Dev.joinPollFrame
  split <;> rfl

@[simp] theorem Dev.window_joinGrant (d : Dev) (seg ringNs : Nat) : (d.joinGrant seg ringNs).window = d.window := by
  simp only [Dev.joinGrant]
  repeat' split
  all_goals simp

@[simp] theorem Dev.window_acyclicLaunch (d : Dev) (seg ofs : Nat) : (d.acyclicLaunch seg ofs).window = d.window := by
  simp only [Dev.acyclicLaunch]
  repeat' split
  all_goals simp

@[simp] theorem Dev.window_linkTest (d : Dev) (seg : Nat) (f : List Byte) : (d.linkTest seg f).window = d.window := by
  unfold Dev.linkTest
  split <;> simp

@[simp] theorem Dev.window_mailFrame (d : Dev) (seg : Nat) (f : List Byte) : (d.mailFrame seg f).window = d.window := by
  simp only [Dev.mailFrame]
  repeat' split
  all_goals simp

@[simp] theorem Dev.window_mailTimeout (d : Dev) (seg : Nat) : (d.mailTimeout seg).window = d.window := by simp [Dev.mailTimeout]

@[simp] theorem Dev.window_linkState (d : Dev) (plant : Bool) (port : Nat) (sideB up : Bool) : (d.linkState plant port sideB up).window = d.window := by simp [Dev.linkState]

@[simp] theorem Dev.window_broken (d : Dev) (seg pos : Nat) : (d.broken seg pos).window = d.window := by simp [Dev.broken]

@[simp] theorem Dev.window_ringReturn (d : Dev) (seg : Nat) : (d.ringReturn seg).window = d.window := by simp [Dev.ringReturn]

@[simp] theorem Dev.window_nodesOnFrame (d : Dev) (seg : Nat) (f : List Byte) : (d.nodesOnFrame seg f).window = d.window := by simp [Dev.nodesOnFrame]

@[simp] theorem Dev.window_safetyOnFrame (d : Dev) (seg : Nat) (f : List Byte) : (d.safetyOnFrame seg f).window = d.window := by
  unfold Dev.safetyOnFrame
  split <;> simp

@[simp] theorem Dev.window_syncDone (d : Dev) (seg : Nat) : (d.syncDone seg).window = d.window := by simp [Dev.syncDone]

@[simp] theorem Dev.window_linkTestSend (d : Dev) (seg : Nat) : (d.linkTestSend seg).window = d.window := rfl

@[simp] theorem Dev.window_discard (d : Dev) (seg : Nat) : (d.discard seg).window = d.window := rfl

@[simp] theorem Dev.window_rival (d : Dev) : d.rival.window = d.window := by
  unfold Dev.rival
  split <;> rfl

@[simp] theorem Dev.window_cycleReturn (d : Dev) (seg : Nat) (portA : Bool) (f : List Byte) : (d.cycleReturn seg portA f).window = d.window := by simp [Dev.cycleReturn]

@[simp] theorem Dev.window_corrReturn (d : Dev) (seg : Nat) (portA : Bool) (f : List Byte) : (d.corrReturn seg portA f).window = d.window := by simp [Dev.corrReturn]

@[simp] theorem Dev.window_returnDeadline (d : Dev) (seg : Nat) : (d.returnDeadline seg).window = d.window := by simp [Dev.returnDeadline]

@[simp] theorem Dev.window_positioned (d : Dev) (seg pos : Nat) : (d.positioned seg pos).window = d.window := by simp [Dev.positioned]

@[simp] theorem Dev.window_trackSafety (d : Dev) (seg : Nat) (f : List Byte) : (d.trackSafety seg f).window = d.window := by
  unfold Dev.trackSafety
  split <;> rfl

@[simp] theorem Dev.window_followCycle (d : Dev) (seg : Nat) (f : List Byte) : (d.followCycle seg f).window = d.window := by simp [Dev.followCycle]

@[simp] theorem Dev.window_followerFrame (d : Dev) (seg : Nat) (f : List Byte) : (d.followerFrame seg f).window = d.window := by simp [Dev.followerFrame]

@[simp] theorem Dev.window_leaderAlive (d : Dev) (seg : Nat) (f : List Byte) : (d.leaderAlive seg f).window = d.window := by
  unfold Dev.leaderAlive
  split <;> rfl

/-! ## The window under the functions of `CmdNet` -/

@[simp] theorem Dev.window_mapLoadEffect (d : Dev) (q : HostReq) : (d.mapLoadEffect q).1.window = d.window := by simp [Dev.mapLoadEffect]

@[simp] theorem Dev.window_patchEffect (d : Dev) (q : HostReq) : (d.patchEffect q).1.window = d.window := by simp [Dev.patchEffect]

@[simp] theorem Dev.window_ringWithdraw (d : Dev) : d.ringWithdraw.window = d.window := by simp [Dev.ringWithdraw]

@[simp] theorem Dev.window_ringStops (d : Dev) : d.ringStops.window = d.window := rfl

@[simp] theorem Dev.window_ringEffect (d : Dev) (q : HostReq) : (d.ringEffect q).1.window = d.window := by
  unfold Dev.ringEffect
  repeat' split
  all_goals simp

@[simp] theorem Dev.window_mailboxEffect (d : Dev) (q : HostReq) : (d.mailboxEffect q).1.window = d.window := rfl

/-! ## The window under the functions of `CmdTime` -/

@[simp] theorem Dev.window_timeSetEffect (d : Dev) (q : HostReq) : (d.timeSetEffect q).1.window = d.window := rfl

@[simp] theorem Dev.window_makeSteps (d : Dev) : d.makeSteps.window = d.window := by simp [Dev.makeSteps]

@[simp] theorem Dev.window_captureEffect (d : Dev) (q : HostReq) : (d.captureEffect q).1.window = d.window := rfl

/-! ## The window under the functions of `LogRows` -/

@[simp] theorem Dev.window_toHostOnly (d : Dev) (e : Ev) : (d.toHostOnly e).window = d.window := rfl

@[simp] theorem Dev.window_logOwn (d : Dev) (code : Nat) (args : List Byte) : (d.logOwn code args).window = d.window := rfl

@[simp] theorem Dev.window_flashOp (d : Dev) : d.flashOp.1.window = d.window := by
  unfold Dev.flashOp
  split <;> rfl

@[simp] theorem Dev.window_recordPut (d : Dev) : d.recordPut.window = d.window := rfl

@[simp] theorem Dev.window_persistNow (d : Dev) : d.persistNow.window = d.window := by simp [Dev.persistNow]

@[simp] theorem Dev.window_keepRes (d : Dev) : d.keepRes.window = d.window := by
  unfold Dev.keepRes
  extract_lets r
  have hr : r.window = d.window := by
    dsimp only [r]
    split
    · rfl
    · rw [Dev.window_persistNow, Dev.window_mk]
      rfl
  split
  · rfl
  · split
    · rw [Dev.window_logOwn, Dev.window_mk]
      exact hr
    · exact hr

@[simp] theorem Dev.window_logPersist (d : Dev) : d.logPersist.window = d.window := by
  unfold Dev.logPersist
  split <;> rfl

@[simp] theorem Dev.window_logFault (d : Dev) : d.logFault.window = d.window := rfl

@[simp] theorem Dev.window_logPersistNow (d : Dev) : d.logPersistNow.window = d.window := by simp [Dev.logPersistNow]

@[simp] theorem Dev.window_logWrite (d : Dev) : d.logWrite.window = d.window := by
  unfold Dev.logWrite
  extract_lets r d1 d2
  have h2 : d2.window = d.window := by
    dsimp only [d2]
    split <;> simp [d1]
  rw [Dev.window_keepRes, h2]

@[simp] theorem Dev.window_logErased (d0 : Dev) : d0.logErased.window = d0.window := by
  unfold Dev.logErased
  split
  · rfl
  · extract_lets r d
    have hd : d.window = d0.window := Dev.window_flashOp d0
    split
    · rw [Dev.window_opsEnd, Dev.window_mk, Dev.window_eta, hd]
    · rw [Dev.window_opsEnd, Dev.window_mk, Dev.window_eta, hd]

@[simp] theorem Dev.window_recordTimer (d : Dev) (opsec : Nat) (ok again : Bool) : (d.recordTimer opsec ok again).window = d.window := by simp [Dev.recordTimer]

@[simp] theorem Dev.window_liveEnds (d : Dev) (l : Live) (idx : Nat) : (d.liveEnds l idx).window = d.window := by simp [Dev.liveEnds]

/-! ## The window under the functions of `CmdRecord` -/

@[simp] theorem Dev.window_chrConfEffect (d : Dev) (q : HostReq) : (d.chrConfEffect q).1.window = d.window := rfl

@[simp] theorem Dev.window_armEffect (d : Dev) (q : HostReq) : (d.armEffect q).1.window = d.window := rfl

@[simp] theorem Dev.window_disarmEffect (d : Dev) (q : HostReq) : (d.disarmEffect q).1.window = d.window := by simp [Dev.disarmEffect]

@[simp] theorem Dev.window_forceEffect (d : Dev) (q : HostReq) : (d.forceEffect q).1.window = d.window := rfl

@[simp] theorem Dev.window_chrReadEffect (d : Dev) (q : HostReq) : (d.chrReadEffect q).1.window = d.window := by
  unfold Dev.chrReadEffect
  split <;> rfl

@[simp] theorem Dev.window_logReadEffect (d : Dev) (q : HostReq) : (d.logReadEffect q).1.window = d.window := by simp [Dev.logReadEffect]

@[simp] theorem Dev.window_markEffect (d : Dev) (q : HostReq) : (d.markEffect q).1.window = d.window := rfl

@[simp] theorem Dev.window_logChallenge (d : Dev) (q : HostReq) : (d.logChallenge q).1.window = d.window := rfl

@[simp] theorem Dev.window_clearLog (d : Dev) (q : HostReq) : (d.clearLog q).1.window = d.window := rfl

@[simp] theorem Dev.window_clearRefused (d : Dev) (st : Nat) : (d.clearRefused st).window = d.window := rfl

/-! ## The window under the functions of `SafetyRows` -/

@[simp] theorem Dev.window_siAct (d : Dev) (f : Si → Si × List Ev) : (d.siAct f).window = d.window := by simp [Dev.siAct]

@[simp] theorem Dev.window_siStart (d : Dev) (pass : Bool) : (d.siStart pass).window = d.window := by simp [Dev.siStart]

@[simp] theorem Dev.window_siRestarted (d : Dev) : d.siRestarted.window = d.window := by
  simp only [Dev.siRestarted]
  repeat' split
  all_goals simp

/-! ## The window under the functions of `Lea` -/

@[simp] theorem Dev.window_handlerFailed (d : Dev) (e : Nat) : (d.handlerFailed e).window = d.window := by simp [Dev.handlerFailed]

@[simp] theorem Dev.window_trap (d : Dev) (e : Nat) : (d.trap e).window = d.window := by
  simp only [Dev.trap]
  repeat' split
  all_goals simp

@[simp] theorem Dev.window_part (d : Dev) (e : Nat) (f : Bundle → Bundle) (fin : Bool) : (d.part e f fin).window = d.window := by
  simp only [Dev.part]
  repeat' split
  all_goals simp

@[simp] theorem Dev.window_mac (d : Dev) (e kind lane psh sign acc a b : Nat) (fin : Bool) : (d.mac e kind lane psh sign acc a b fin).window = d.window := by simp [Dev.mac]

@[simp] theorem Dev.window_mem (d : Dev) (e bus : Nat) (store wide : Bool) (reg amode ptr : Nat) (ofs : Int) (fin : Bool) : (d.mem e bus store wide reg amode ptr ofs fin).window = d.window := by simp [Dev.mem]

@[simp] theorem Dev.window_alu (d : Dev) (e op dst a b sh imm : Nat) (fin : Bool) : (d.alu e op dst a b sh imm fin).window = d.window := by simp [Dev.alu]

@[simp] theorem Dev.window_ctlOp (d : Dev) (e op dst a b sh imm addr : Nat) (fin : Bool) : (d.ctlOp e op dst a b sh imm addr fin).window = d.window := by simp [Dev.ctlOp]

@[simp] theorem Dev.window_slotStart (d : Dev) (e slot pass : Nat) : (d.slotStart e slot pass).window = d.window := by
  simp only [Dev.slotStart]
  repeat' split
  all_goals simp

@[simp] theorem Dev.window_axisDone (d : Dev) (e : Nat) (g : Engine) (r : Run) (elapsed : Nat) : (d.axisDone e g r elapsed).window = d.window := by
  unfold Dev.axisDone
  split <;> simp

@[simp] theorem Dev.window_engineDone (d : Dev) (e elapsed : Nat) : (d.engineDone e elapsed).window = d.window := by
  simp only [Dev.engineDone]
  repeat' split
  all_goals simp

/-! ## The window under the functions of `TruRows` -/

@[simp] theorem Dev.window_askTest (d : Dev) (e : Nat) (owner : Option OpenOp) : (d.askTest e owner).window = d.window := rfl

@[simp] theorem Dev.window_testAsked (d0 : Dev) : d0.testAsked.window = d0.window := by
  simp only [Dev.testAsked]
  repeat' split
  all_goals simp

@[simp] theorem Dev.window_scheduled (d : Dev) (kind : Nat) : (d.scheduled kind).window = d.window := by
  unfold Dev.scheduled
  repeat' split
  all_goals simp

@[simp] theorem Dev.window_bistRuns (d : Dev) : d.bistRuns.window = d.window := by
  unfold Dev.bistRuns
  split <;> simp

@[simp] theorem Dev.window_fenceNow (d : Dev) (e : Nat) : (d.fenceNow e).window = d.window := by simp [Dev.fenceNow]

@[simp] theorem Dev.window_testReply (d : Dev) (o : Option (OpenOp × List Byte)) (status : Nat) : (d.testReply o status).window = d.window := by
  unfold Dev.testReply
  split <;> simp

@[simp] theorem Dev.window_logicEnds (d : Dev) (first again : Bool) : (d.logicEnds first again).window = d.window := by
  unfold Dev.logicEnds
  split <;> simp

@[simp] theorem Dev.window_logicStops (d : Dev) (cause : Nat) : (d.logicStops cause).window = d.window := by
  unfold Dev.logicStops
  split <;> simp

@[simp] theorem Dev.window_memStops (d : Dev) (cause : Nat) : (d.memStops cause).window = d.window := by simp [Dev.memStops]

@[simp] theorem Dev.window_krnNext (d : Dev) : d.krnNext.window = d.window := by
  unfold Dev.krnNext
  repeat' split
  all_goals simp

@[simp] theorem Dev.window_krnReload (d : Dev) (e : Nat) : (d.krnReload e).window = d.window := by
  unfold Dev.krnReload
  split <;> rfl

@[simp] theorem Dev.window_reloaded (d : Dev) (e : Nat) : (d.reloaded e).window = d.window := by
  simp only [Dev.reloaded]
  repeat' split
  all_goals simp

@[simp] theorem Dev.window_poisonAxis (d : Dev) (a : Nat) : (d.poisonAxis a).window = d.window := by
  unfold Dev.poisonAxis
  split <;> rfl

@[simp] theorem Dev.window_poisonRead (d : Dev) (addr kind index : Nat) : (d.poisonRead addr kind index).window = d.window := by
  unfold Dev.poisonRead
  repeat' split
  all_goals simp

@[simp] theorem Dev.window_fabric (d : Dev) (path : FabricHop) (ok ok2 : Bool) : (d.fabric path ok ok2).window = d.window := by
  simp only [Dev.fabric]
  repeat' split
  all_goals simp

/-! ## The window under the functions of `PowerRows` -/

@[simp] theorem Dev.window_fromRecord (d : Dev) (w : Nat) (x : List Byte) : (d.fromRecord w x).window = d.window := rfl

@[simp] theorem Dev.window_bootCounts (d : Dev) : d.bootCounts.window = d.window := by simp [Dev.bootCounts]

@[simp] theorem Dev.window_bootFail (d : Dev) (block : Nat) : (d.bootFail block).window = d.window := by simp [Dev.bootFail]

@[simp] theorem Dev.window_bootTests (d : Dev) (badLogic badBanks : List Nat) : (d.bootTests badLogic badBanks).window = d.window := by simp [Dev.bootTests]

@[simp] theorem Dev.window_bootRestore (d : Dev) (logBad : Bool) : (d.bootRestore logBad).window = d.window := by simp [Dev.bootRestore]

@[simp] theorem Dev.window_bootReady (d : Dev) : d.bootReady.window = d.window := by simp [Dev.bootReady]

@[simp] theorem Dev.window_bootFlash (d : Dev) (reads : BootReads) : (d.bootFlash reads).window = d.window := rfl

@[simp] theorem Dev.window_bootRun (d : Dev) (bootSel : Nat) (reads : BootReads) (badLogic badBanks : List Nat) : (d.bootRun bootSel reads badLogic badBanks).window = d.window := by simp [Dev.bootRun]

@[simp] theorem Dev.window_clockFault (d : Dev) (cause : Nat) : (d.clockFault cause).window = d.window := by simp [Dev.clockFault]

@[simp] theorem Dev.window_tbLoss (d : Dev) : d.tbLoss.window = d.window := by simp [Dev.tbLoss]

@[simp] theorem Dev.window_sdLoss (d : Dev) : d.sdLoss.window = d.window := by simp [Dev.sdLoss]

@[simp] theorem Dev.window_domainOff (d : Dev) (domain : Nat) : (d.domainOff domain).window = d.window := by
  unfold Dev.domainOff
  repeat' split
  all_goals simp

@[simp] theorem Dev.window_mgtReadyNow (d : Dev) : d.mgtReadyNow.window = d.window := by
  unfold Dev.mgtReadyNow
  split <;> simp

@[simp] theorem Dev.window_mgtRollback (d : Dev) : d.mgtRollback.window = d.window := by
  unfold Dev.mgtRollback
  split <;> simp

@[simp] theorem Dev.window_keyFused (d : Dev) (readBack : List Byte) : (d.keyFused readBack).window = d.window := by
  unfold Dev.keyFused
  split <;> rfl

/-! ## The window under the functions of `CmdDevice` -/

@[simp] theorem Dev.window_authTaken (d : Dev) (q : HostReq) (st : Nat) : (d.authTaken q st).window = d.window := by
  unfold Dev.authTaken
  split <;> simp

@[simp] theorem Dev.window_safeStatusEffect (d : Dev) (q : HostReq) : (d.safeStatusEffect q).1.window = d.window := by simp [Dev.safeStatusEffect]

@[simp] theorem Dev.window_safeResetEffect (d : Dev) (q : HostReq) : (d.safeResetEffect q).1.window = d.window := by simp [Dev.safeResetEffect]

@[simp] theorem Dev.window_safeChallenge (d : Dev) (q : HostReq) : (d.safeChallenge q).1.window = d.window := rfl

@[simp] theorem Dev.window_siConfEffect (d : Dev) (q : HostReq) : (d.siConfEffect q).1.window = d.window := by simp [Dev.siConfEffect]

@[simp] theorem Dev.window_stEffect (d : Dev) (q : HostReq) : (d.stEffect q).1.window = d.window := by simp [Dev.stEffect]

@[simp] theorem Dev.window_stStatusEffect (d : Dev) (q : HostReq) : (d.stStatusEffect q).1.window = d.window := rfl

@[simp] theorem Dev.window_schedEffect (d : Dev) (q : HostReq) : (d.schedEffect q).1.window = d.window := rfl

@[simp] theorem Dev.window_withFlash (d : Dev) {f : Dev → Dev × CmdRes} (h : ∀ d, (f d).1.window = d.window) : (d.withFlash f).1.window = d.window := by
  simp [Dev.withFlash, h]

@[simp] theorem Dev.window_repairEffect (d : Dev) (q : HostReq) : (d.repairEffect q).1.window = d.window :=
  Dev.window_withFlash d (fun d => by simp)

@[simp] theorem Dev.window_imgOpenEffect (d : Dev) (q : HostReq) : (d.imgOpenEffect q).1.window = d.window :=
  Dev.window_withFlash d (fun d => by simp)

@[simp] theorem Dev.window_imgWriteEffect (d : Dev) (q : HostReq) : (d.imgWriteEffect q).1.window = d.window :=
  Dev.window_withFlash d (fun d => by simp)

@[simp] theorem Dev.window_imgVerifyEffect (d : Dev) (q : HostReq) : (d.imgVerifyEffect q).1.window = d.window :=
  Dev.window_withFlash d (fun d => by simp)

@[simp] theorem Dev.window_updateStops (d : Dev) (idx : Nat) : (d.updateStops idx).window = d.window := by
  unfold Dev.updateStops
  repeat' split
  all_goals simp

@[simp] theorem Dev.window_liveBegin (d : Dev) (q : HostReq) (bank idx : Nat) : (d.liveBegin q bank idx).window = d.window := by
  unfold Dev.liveBegin
  split <;> simp

@[simp] theorem Dev.window_safEffect (d : Dev) (q : HostReq) : (d.safEffect q).1.window = d.window := by
  unfold Dev.safEffect
  extract_lets t
  split
  · exact Dev.window_liveBegin d q t.1 3
  · exact Dev.window_withFlash d (fun d => by simp)

@[simp] theorem Dev.window_imageStatusEffect (d : Dev) (q : HostReq) : (d.imageStatusEffect q).1.window = d.window := rfl

/-! ## The window under the functions of `Commands` -/

@[simp] theorem Dev.window_admits (d : Dev) (q : HostReq) (late room : Nat) : (d.admits q late room).1.window = d.window := by
  unfold Dev.admits
  split <;> simp

@[simp] theorem Dev.window_lastCommand (d : Dev) (q : HostReq) : (d.lastCommand q).window = d.window := by
  unfold Dev.lastCommand
  split <;> simp

@[simp] theorem Dev.window_goesOn (d : Dev) (q : HostReq) : (d.goesOn q).window = d.window := by simp [Dev.goesOn]

@[simp] theorem Dev.window_finish (d : Dev) (q : HostReq) (res : Nat) (r : CmdRes) (hold : Nat) : (d.finish q res r hold).window = d.window := by simp [Dev.finish]

@[simp] theorem Dev.window_homeReplaced (d : Dev) (q : HostReq) : (d.homeReplaced q).window = d.window := by simp [Dev.homeReplaced]

@[simp] theorem Dev.window_batchFails (d : Dev) (ss : List Staged) (bad : List (Staged × CmdRes)) : (d.batchFails ss bad).window = d.window := by
  refine (Dev.window_foldl (fun d s => ?_) ss _).trans (Dev.window_batchCount d)
  split <;> simp

@[simp] theorem Dev.window_counted (d : Dev) (ss : List Staged) (batch : Bool) : (d.counted ss batch).window = d.window := rfl

@[simp] theorem Dev.window_domainOn (d : Dev) (q : HostReq) : (d.domainOn q).window = d.window := by
  unfold Dev.domainOn
  split <;> rfl

@[simp] theorem Dev.window_batchGrows (d : Dev) (q : HostReq) : (d.batchGrows q).window = d.window := by
  simp only [Dev.batchGrows]
  repeat' split
  all_goals simp

@[simp] theorem Dev.window_rejectedMember (d : Dev) (q : HostReq) (st : Nat) : (d.rejectedMember q st).window = d.window := by simp [Dev.rejectedMember]

@[simp] theorem Dev.window_joins (d : Dev) (q : HostReq) : (d.joins q).window = d.window := rfl

/-! ## The window under the functions of `GatherRows` -/

@[simp] theorem Dev.window_gateClose (d : Dev) : d.gateClose.window = d.window := by simp [Dev.gateClose]

@[simp] theorem Dev.window_inputImage (d : Dev) : d.inputImage.window = d.window := rfl

@[simp] theorem Dev.window_gatherCaps (d : Dev) : d.gatherCaps.window = d.window := rfl

@[simp] theorem Dev.window_takeInputs (d0 : Dev) : d0.takeInputs.window = d0.window := by
  unfold Dev.takeInputs
  simp

@[simp] theorem Dev.window_gather (d : Dev) : d.gather.window = d.window := by
  unfold Dev.gather
  split
  · rfl
  · exact ((Dev.window_takeInputs _).trans (Dev.window_foldl Dev.window_returnDeadline _ _)).trans (Dev.window_tu d _)

@[simp] theorem Dev.window_corrPack (d : Dev) : d.corrPack.window = d.window := by
  unfold Dev.corrPack
  split <;> rfl

@[simp] theorem Dev.window_corrOn (d : Dev) (seg : Nat) : (d.corrOn seg).window = d.window := by simp [Dev.corrOn]

@[simp] theorem Dev.window_corrLaunch (d : Dev) : d.corrLaunch.window = d.window := by
  unfold Dev.corrLaunch
  split
  · rfl
  · extract_lets d1 d2
    have h2 : d2.window = d1.window := Dev.window_foldl Dev.window_corrOn _ d1
    rw [Dev.window_mk, Dev.window_eta, h2]
    exact Dev.window_tu d _

/-! ## The window under the functions of `SealRows` -/

@[simp] theorem Dev.window_onSlot (d : Dev) (e s : Nat) (f : Slot → Slot) : (d.onSlot e s f).window = d.window := rfl

@[simp] theorem Dev.window_freeSlot (d : Dev) (e s : Nat) : (d.freeSlot e s).window = d.window := rfl

@[simp] theorem Dev.window_migrated (d : Dev) (a e s used : Nat) : (d.migrated a e s used).window = d.window := by simp [Dev.migrated]

@[simp] theorem Dev.window_mismatched (d : Dev) (a e s f t : Nat) : (d.mismatched a e s f t).window = d.window := rfl

@[simp] theorem Dev.window_freeShadows (d : Dev) (a : Nat) : (d.freeShadows a).window = d.window := rfl

@[simp] theorem Dev.window_sealSlots (d : Dev) (a pass : Nat) : (d.sealSlots a pass).window = d.window := by
  simp only [Dev.sealSlots]
  repeat' split
  all_goals simp

@[simp] theorem Dev.window_countLate (d : Dev) (e : Nat) : (d.countLate e).window = d.window := by
  simp only [Dev.countLate]
  repeat' split
  all_goals simp

@[simp] theorem Dev.window_runEnds (d : Dev) (before : List Engine) : (d.runEnds before).window = d.window := by
  unfold Dev.runEnds
  split <;> rfl

@[simp] theorem Dev.window_sealNotes (d : Dev) (key st : Nat) (fault blend : Bool) : (d.sealNotes key st fault blend).window = d.window := by simp [Dev.sealNotes]

@[simp] theorem Dev.window_settles (d : Dev) (a : Nat) (ax : Axis) : (d.settles a ax).window = d.window := by simp [Dev.settles]

@[simp] theorem Dev.window_sealServo (d : Dev) (a : Nat) : (d.sealServo a).window = d.window := by
  unfold Dev.sealServo
  split <;> simp

@[simp] theorem Dev.window_sealStepper (d : Dev) (a : Nat) : (d.sealStepper a).window = d.window := by
  unfold Dev.sealStepper
  split <;> simp

@[simp] theorem Dev.window_cutAll (d : Dev) : d.cutAll.window = d.window := rfl

@[simp] theorem Dev.window_testBegins (d : Dev) : d.testBegins.window = d.window := by
  unfold Dev.testBegins
  split <;> simp

@[simp] theorem Dev.window_packSlots (d : Dev) : d.packSlots.window = d.window := rfl

@[simp] theorem Dev.window_placeTouts (d : Dev) : d.placeTouts.window = d.window := rfl

@[simp] theorem Dev.window_seal (d : Dev) : d.seal.window = d.window := by
  unfold Dev.seal
  split
  · rfl
  · extract_lets d1 d2 es d3 d4 d5
    have h2 : d2.window = d.window := (Dev.window_advance d1).trans (Dev.window_tu d _)
    have h3 : d3.window = d2.window := Dev.window_foldl Dev.window_sealServo _ d2
    have h4 : d4.window = d3.window := Dev.window_foldl Dev.window_sealStepper _ d3
    have h5 : d5.window = d4.window := by simp only [d5, Dev.window_homeEnds, Dev.window_placeTouts, Dev.window_packSlots, Dev.window_testBegins, Dev.window_cutAll, Dev.window_runEnds]
    rw [Dev.window_mk, Dev.window_eta, h5, h4, h3, h2]

/-! ## The window under the functions of `PlateRows` -/

@[simp] theorem Dev.window_probeAll (d : Dev) : d.probeAll.window = d.window := rfl

@[simp] theorem Dev.window_regBlocks (d : Dev) : d.regBlocks.window = d.window := rfl

@[simp] theorem Dev.window_chrSample (d : Dev) : d.chrSample.window = d.window := by simp [Dev.chrSample]

@[simp] theorem Dev.window_chrAuto (d : Dev) : d.chrAuto.window = d.window := by simp [Dev.chrAuto]

@[simp] theorem Dev.window_chrFlush (d : Dev) (timeUp : Bool) : (d.chrFlush timeUp).window = d.window := by
  unfold Dev.chrFlush
  repeat' split
  all_goals simp

/-! ## The window under the functions of `Meridian` -/

@[simp] theorem Dev.window_atMeridian (d : Dev) (n : Nat) : (d.atMeridian n).window = d.window := by
  unfold Dev.atMeridian
  split
  · rfl
  · exact Dev.window_tu d _

@[simp] theorem Dev.window_newCycle (d0 : Dev) (n : Nat) : (d0.newCycle n).window = d0.window := by simp [Dev.newCycle]

@[simp] theorem Dev.window_paceAt (d : Dev) (n : Nat) : (d.paceAt n).window = d.window := by simp [Dev.paceAt]

@[simp] theorem Dev.window_lossStops (d : Dev) (n : Nat) : (d.lossStops n).window = d.window := by
  unfold Dev.lossStops
  repeat' split
  all_goals simp

@[simp] theorem Dev.window_safeServo (d : Dev) (a : Nat) : (d.safeServo a).window = d.window := by
  unfold Dev.safeServo
  split <;> simp

@[simp] theorem Dev.window_safeStepper (d : Dev) (a : Nat) : (d.safeStepper a).window = d.window := by
  unfold Dev.safeStepper
  split <;> simp

@[simp] theorem Dev.window_limitServo (d : Dev) (a : Nat) : (d.limitServo a).window = d.window := by
  unfold Dev.limitServo
  repeat' split
  all_goals simp

@[simp] theorem Dev.window_safetyAt (d : Dev) : d.safetyAt.window = d.window := by
  unfold Dev.safetyAt
  simp

@[simp] theorem Dev.window_launchOn (d : Dev) (n seg : Nat) : (d.launchOn n seg).window = d.window := by simp [Dev.launchOn]

@[simp] theorem Dev.window_aliveOn (d : Dev) (n seg : Nat) : (d.aliveOn n seg).window = d.window := by simp [Dev.aliveOn]

@[simp] theorem Dev.window_launchAll (d : Dev) (n : Nat) : (d.launchAll n).window = d.window := by simp [Dev.launchAll]

@[simp] theorem Dev.window_twinFrame (d : Dev) (n : Nat) (records : List Byte) : (d.twinFrame n records).window = d.window := by simp [Dev.twinFrame]

@[simp] theorem Dev.window_imageCount (d : Dev) (due : List Staged) : (d.imageCount due).window = d.window := by
  unfold Dev.imageCount
  split <;> rfl

@[simp] theorem Dev.window_paramBlocks (d : Dev) : d.paramBlocks.window = d.window := rfl

@[simp] theorem Dev.window_deposedNow (d : Dev) : d.deposedNow.window = d.window := rfl

/-! ## The window under the functions of `Twin` -/

@[simp] theorem Dev.window_twinPhased (d : Dev) (c : List Byte) : (d.twinPhased c).window = d.window := by
  simp only [Dev.twinPhased]
  repeat' split
  all_goals simp

@[simp] theorem Dev.window_twinStops (d : Dev) (c : List Byte) : (d.twinStops c).window = d.window := by
  unfold Dev.twinStops
  simp

@[simp] theorem Dev.window_diverged (d : Dev) (cause : Nat) : (d.diverged cause).window = d.window := by simp [Dev.diverged]

@[simp] theorem Dev.window_twinDigest (d : Dev) (k axis digest : Nat) : (d.twinDigest k axis digest).window = d.window := by simp [Dev.twinDigest]

@[simp] theorem Dev.window_twinStep (d : Dev) (k : Nat) (f : List Byte) : (d.twinStep k f).window = d.window := by simp [Dev.twinStep]

@[simp] theorem Dev.window_twinPass (d : Dev) (a pass : Nat) : (d.twinPass a pass).window = d.window := by
  unfold Dev.twinPass
  split <;> simp

@[simp] theorem Dev.window_twinServo (d : Dev) (a : Nat) : (d.twinServo a).window = d.window := by
  unfold Dev.twinServo
  repeat' split
  all_goals simp

@[simp] theorem Dev.window_twinCompute (d : Dev) : d.twinCompute.window = d.window := by
  unfold Dev.twinCompute
  simp

@[simp] theorem Dev.window_silenceCheck (d : Dev) : d.silenceCheck.window = d.window := by
  unfold Dev.silenceCheck
  split
  · rfl
  · split
    · rfl
    · extract_lets d1 d2
      have h1 : d1.window = d.window := Dev.window_foldl (f := fun (d : Dev) i => { d with ring := d.ring.missSlots i true }) (fun _ _ => rfl) _ d
      split
      · rw [Dev.window_emit]
        exact h1
      · exact h1

@[simp] theorem Dev.window_takeoverStale (d : Dev) (m : Nat) : (d.takeoverStale m).window = d.window := rfl

end Sys2Proof.Machine

/-! PROOFS. What a step can do to the Plate buffers and the pin (O2, O3): a Plate goes into a free buffer, a reset empties the buffers and drops the pin, and the end of ownership or
of the pin touches no byte. Each function built from these is guarded, and so is each command. -/

namespace Sys2Proof.Machine

open Sys2Proof

/-- What a part of a command may do to the Plate buffers: they stay in order, and unless the pin goes, it stays and so do the bytes that it covers (R17, R394). -/
structure Dev.Guarded (d e : Dev) : Prop where
  ok : d.PlatesOk → e.PlatesOk
  pin : e.host.pin = none ∨ (e.host.pin = d.host.pin ∧ ∀ p, d.host.pin = some p → e.plates.getD p.1 [] = d.plates.getD p.1 [])

theorem Dev.plates_of_window {d e : Dev} (h : e.window = d.window) : e.plates = d.plates := congrArg Prod.fst h

theorem Dev.pin_of_window {d e : Dev} (h : e.window = d.window) : e.host.pin = d.host.pin := congrArg Prod.snd h

theorem Dev.PlatesOk.of_plates {d e : Dev} (h : e.plates = d.plates) (hd : d.PlatesOk) : e.PlatesOk := by
  unfold Dev.PlatesOk at *
  rwa [h]

theorem Dev.Guarded.of_window {d e : Dev} (h : e.window = d.window) : d.Guarded e :=
  ⟨.of_plates (Dev.plates_of_window h), .inr ⟨Dev.pin_of_window h, fun _ _ => by rw [Dev.plates_of_window h]⟩⟩

theorem Dev.Guarded.refl (d : Dev) : d.Guarded d := .of_window rfl

theorem Dev.Guarded.trans {d e f : Dev} (h : d.Guarded e) (k : e.Guarded f) : d.Guarded f := by
  refine ⟨fun hd => k.ok (h.ok hd), ?_⟩
  rcases k.pin with k0 | ⟨kp, kb⟩
  · exact .inl k0
  · rcases h.pin with h0 | ⟨hp, hb⟩
    · exact .inl (kp.trans h0)
    · exact .inr ⟨kp.trans hp, fun p hpin => (kb p (hp.trans hpin)).trans (hb p hpin)⟩

/-- A step that keeps the window follows. -/
theorem Dev.Guarded.window {d e f : Dev} (h : d.Guarded e) (hw : f.window = e.window) : d.Guarded f := h.trans (.of_window hw)

/-- A step that keeps the window comes first. -/
theorem Dev.Guarded.after {d e f : Dev} (h : e.Guarded f) (hw : e.window = d.window) : d.Guarded f := (Dev.Guarded.of_window hw).trans h

/-- A fold that guards the device at each step, whatever it carries beside the device. -/
theorem Dev.Guarded.foldl {α β : Type} {p : β → Dev} {f : β → α → β} (h : ∀ b x, (p b).Guarded (p (f b x))) (l : List α) (b : β) : (p b).Guarded (p (l.foldl f b)) := by
  induction l generalizing b with
  | nil => exact .refl _
  | cons x l ih => exact (h b x).trans (ih _)

theorem Dev.Guarded.ite {c : Prop} [Decidable c] {d e f : Dev} (he : d.Guarded e) (hf : d.Guarded f) : d.Guarded (if c then e else f) := by
  split <;> assumption

/-! ## Resets -/

/-- Four empty buffers are in order. -/
theorem Dev.PlatesOk.of_empty {d : Dev} (h : d.plates = List.replicate 4 []) : d.PlatesOk := by
  unfold Dev.PlatesOk
  rw [h]
  exact ⟨rfl, fun m hm => by rw [List.eq_of_mem_replicate hm]; rfl⟩

theorem Dev.guarded_afterPowerOn (d : Dev) : d.Guarded d.afterPowerOn := ⟨fun _ => .of_empty rfl, .inl rfl⟩

theorem Dev.guarded_afterReset (d : Dev) (cause : Nat) : d.Guarded (d.afterReset cause) := ⟨fun _ => .of_empty rfl, .inl rfl⟩

theorem Dev.guarded_resetPin (d : Dev) (lowNs : Nat) : d.Guarded (d.resetPin lowNs) := by
  unfold Dev.resetPin
  extract_lets held
  have hh (d : Dev) : (held d).window = d.window := rfl
  split
  · exact .refl d
  · split
    · split
      · exact .of_window d.window_took
      · exact (Dev.guarded_afterReset _ 3).after ((hh _).trans d.window_took)
    · exact (Dev.guarded_afterReset _ 3).after (hh d)

theorem Dev.guarded_bootWatchdog (d : Dev) : d.Guarded d.bootWatchdog := by
  unfold Dev.bootWatchdog
  split
  · exact .refl d
  · exact Dev.Guarded.after (Dev.guarded_afterReset _ 4) rfl

/-! ## Publication (R17) -/

theorem Memory.wf_foldl_writeList {α : Type} (a : α → Nat) (b : α → List Byte) (l : List α) {m : Memory} (h : Memory.wf 0 m = true) :
    Memory.wf 0 (l.foldl (fun m x => Memory.writeList 0 m (a x) (b x)) m) = true := by
  induction l generalizing m with
  | nil => exact h
  | cons x l ih => exact ih (Memory.wf_writeList 0 _ _ h)

theorem Memory.wf_foldl_write {α : Type} (a : α → Nat) (b : α → Byte) (l : List α) {m : Memory} (h : Memory.wf 0 m = true) :
    Memory.wf 0 (l.foldl (fun m x => Memory.write 0 m (a x) (b x)) m) = true := by
  induction l generalizing m with
  | nil => exact h
  | cons x l ih => exact ih (Memory.wf_write 0 _ _ h)

/-- The bytes of a Plate are a byte memory in canonical form. -/
theorem Dev.wf_plateBytes (d : Dev) : Memory.wf 0 d.plateBytes = true :=
  Memory.wf_foldl_writeList Prod.fst Prod.snd _ (Memory.wf_foldl_write (fun c => 0x20000 + c.1) Prod.snd _ rfl)

/-- The first of the least: the search of `Dev.plateBuffer` over a list in rising order. -/
theorem foldl_least_spec {age : Nat → Nat} {l : List Nat} {b r : Nat} (hs : (b :: l).Pairwise (· ≤ ·)) (hr : l.foldl (fun b k => if age k < age b then k else b) b = r) :
    r ∈ b :: l ∧ ∀ j ∈ b :: l, age r ≤ age j ∧ (age j = age r → r ≤ j) := by
  induction l generalizing b with
  | nil =>
    obtain rfl : b = r := hr
    simp
  | cons k l ih =>
    obtain ⟨hb, hk, hl⟩ : (∀ j ∈ k :: l, b ≤ j) ∧ (∀ j ∈ l, k ≤ j) ∧ l.Pairwise (· ≤ ·) := by simpa using hs
    rw [List.foldl_cons] at hr
    split at hr
    · obtain ⟨hm, hall⟩ := ih (List.pairwise_cons.mpr ⟨hk, hl⟩) hr
      refine ⟨List.mem_cons_of_mem b hm, fun j hj => ?_⟩
      rcases List.mem_cons.mp hj with rfl | hj
      · have := (hall k List.mem_cons_self).1
        omega
      · exact hall j hj
    · obtain ⟨hm, hall⟩ := ih (List.pairwise_cons.mpr ⟨fun j hj => hb j (List.mem_cons_of_mem k hj), hl⟩) hr
      obtain ⟨h1, h2⟩ := hall b List.mem_cons_self
      have hkb := hb k List.mem_cons_self
      simp only [List.mem_cons] at hm hall ⊢
      refine ⟨by tauto, fun j hj => ?_⟩
      rcases hj with rfl | rfl | hj
      · exact ⟨h1, h2⟩
      · exact ⟨by omega, fun h => by have := h2 (by omega); omega⟩
      · exact hall j (.inr hj)

/-- The buffers that the next Plate may take (R17). -/
def Dev.freeBuffers (d : Dev) : List Nat :=
  (List.range 4).filter (fun k => !(d.ctl.published ≠ 0 && k = d.ctl.latest) && (d.host.pin.map (fun p => p.1)) ≠ some k)

theorem Dev.plateBuffer_eq (d : Dev) :
    d.plateBuffer = d.freeBuffers.foldl (fun b k => if plateCycle (d.plates.getD k []) < plateCycle (d.plates.getD b []) then k else b) (d.freeBuffers.headD 0) := by
  unfold Dev.plateBuffer Dev.freeBuffers
  rfl

theorem Dev.mem_freeBuffers {d : Dev} {j : Nat} :
    j ∈ d.freeBuffers ↔ j < 4 ∧ ¬(d.ctl.published ≠ 0 ∧ j = d.ctl.latest) ∧ ∀ p, d.host.pin = some p → p.1 ≠ j := by
  cases hp : d.host.pin with
  | none => simp [Dev.freeBuffers, hp, imp_iff_not_or]
  | some q =>
    have hq : (∀ p, some q = some p → p.1 ≠ j) ↔ q.1 ≠ j := ⟨fun h => h q rfl, fun h p e => Option.some.inj e ▸ h⟩
    rw [hq]
    simp [Dev.freeBuffers, hp, imp_iff_not_or]

/-- Of four buffers the latest and the pinned one leave at least two. -/
theorem Dev.freeBuffers_ne_nil (d : Dev) : d.freeBuffers ≠ [] := by
  intro hnil
  have hno (j : Nat) (hj : j < 3) : j = d.ctl.latest ∨ ∃ p, d.host.pin = some p ∧ p.1 = j := by
    have hm : j ∉ d.freeBuffers := by simp [hnil]
    rw [Dev.mem_freeBuffers] at hm
    by_contra hc
    push Not at hc
    exact hm ⟨by omega, fun h => hc.1 h.2, hc.2⟩
  rcases hno 0 (by omega) with h0 | ⟨p, hp, h0⟩ <;> rcases hno 1 (by omega) with h1 | ⟨q, hq, h1⟩ <;> rcases hno 2 (by omega) with h2 | ⟨r, hr, h2⟩
  all_goals simp_all
  all_goals omega

/-- The buffer of the next Plate is free, of no later cycle than any other free one, and the lowest-numbered of its age (R17). -/
theorem Dev.plateBuffer_spec (d : Dev) :
    d.plateBuffer ∈ d.freeBuffers ∧ ∀ j ∈ d.freeBuffers, plateCycle (d.plates.getD d.plateBuffer []) ≤ plateCycle (d.plates.getD j []) ∧
      (plateCycle (d.plates.getD j []) = plateCycle (d.plates.getD d.plateBuffer []) → d.plateBuffer ≤ j) := by
  obtain ⟨b, l, hl⟩ := List.exists_cons_of_ne_nil d.freeBuffers_ne_nil
  have hs : (b :: l).Pairwise (· ≤ ·) := by
    rw [← hl]
    exact (List.pairwise_le_range (n := 4)).filter _
  have hb : l.foldl (fun b k => if plateCycle (d.plates.getD k []) < plateCycle (d.plates.getD b []) then k else b) b = d.plateBuffer := by
    rw [Dev.plateBuffer_eq, hl, List.headD_cons, List.foldl_cons, if_neg (Nat.lt_irrefl _)]
  rw [hl]
  exact foldl_least_spec (age := fun k => plateCycle (d.plates.getD k [])) hs hb

@[simp] theorem Hif.pin_streamTake (h : Hif) (i cycle layout : Nat) (m : Memory) : (h.streamTake i cycle layout m).pin = h.pin := by
  unfold Hif.streamTake
  split
  · rfl
  · split
    · rfl
    · split <;> rfl

theorem Hif.pin_streamsTake (is : List Nat) (cycle layout : Nat) (m : Memory) (h : Hif) : (is.foldl (fun h i => h.streamTake i cycle layout m) h).pin = h.pin := by
  induction is generalizing h with
  | nil => rfl
  | cons i is ih => rw [List.foldl_cons, ih, Hif.pin_streamTake]

@[simp] theorem Hif.pin_plateSignal (h : Hif) : h.plateSignal.pin = h.pin := by
  unfold Hif.plateSignal
  extract_lets
  split
  · split
    · rw [Hif.pin_raise]
    · rfl
  · rfl

theorem Dev.plates_publishPlate (d : Dev) : d.publishPlate.plates = d.plates.set d.plateBuffer d.probeAll.regBlocks.plateBytes := rfl

theorem Dev.pin_publishPlate (d : Dev) : d.publishPlate.host.pin = d.host.pin := by
  unfold Dev.publishPlate
  extract_lets d1 k m _ d2 h d3
  exact (Hif.pin_plateSignal h).trans (Hif.pin_streamsTake _ _ _ _ _)

/-- The Plate goes into a buffer that is not pinned (R17). -/
theorem Dev.guarded_publishPlate (d : Dev) : d.Guarded d.publishPlate := by
  refine ⟨fun ⟨hl, hw⟩ => ?_, .inr ⟨d.pin_publishPlate, fun p hp => ?_⟩⟩
  · rw [Dev.PlatesOk, Dev.plates_publishPlate, List.length_set]
    refine ⟨hl, fun m hm => ?_⟩
    rcases List.mem_or_eq_of_mem_set hm with hm | rfl
    · exact hw m hm
    · exact Dev.wf_plateBytes _
  · have hk := (Dev.mem_freeBuffers.mp d.plateBuffer_spec.1).2.2 p hp
    rw [Dev.plates_publishPlate, List.getD_eq_getElem?_getD, List.getElem?_set_ne (Ne.symm hk), List.getD_eq_getElem?_getD]

theorem Dev.guarded_publish (d : Dev) : d.Guarded d.publish := .ite (.refl d) d.guarded_publishPlate

theorem Dev.guarded_takeoverPlates (d : Dev) (k n : Nat) : d.Guarded (d.takeoverPlates k n) := by
  induction k generalizing d n with
  | zero => exact .refl d
  | succ k ih =>
    rw [Dev.takeoverPlates]
    refine Dev.Guarded.trans ?_ (ih _ (n + 1))
    exact (Dev.guarded_publishPlate _).after rfl

theorem Dev.guarded_takeover (d0 : Dev) : d0.Guarded d0.takeover := by
  unfold Dev.takeover
  extract_lets m l n d1 d2 d3 _ d4
  have h1 : d1.window = d0.window := Dev.window_takeoverStale _ m
  have h2 : d1.Guarded d2 := Dev.guarded_takeoverPlates d1 m (l + 1)
  have h3 : d3.window = d2.window := Dev.window_planInForce d2 _
  have h4 : d4.window = d3.window := Dev.window_newCycle _ n
  refine .ite (.refl d0) ((h2.after h1).window ?_)
  rw [Dev.window_emit, Dev.window_launchAll, Dev.window_packSlots, h4, h3]

/-! ## The end of ownership takes the pin away (R368, R395) -/

theorem Dev.plates_ownEnds (d : Dev) (cause : Nat) : (d.ownEnds cause).plates = d.plates := by
  unfold Dev.ownEnds
  split
  · rfl
  · extract_lets m d1
    have h1 : d1.plates = d.plates := (Dev.plates_of_window (Dev.window_chrStreamEnds _ none)).trans rfl
    split <;> rw [Dev.plates_emit] <;> exact h1

theorem Dev.plates_hostReset (d : Dev) : d.hostReset.plates = d.plates := Dev.plates_ownEnds d 3

theorem Dev.plates_leaseEnds (d : Dev) : d.leaseEnds.plates = d.plates := by
  unfold Dev.leaseEnds
  split
  · exact Dev.plates_ownEnds _ 2
  · rfl

theorem Dev.plates_ownRelease (d : Dev) (token : Nat) : (d.ownRelease token).plates = d.plates := by
  unfold Dev.ownRelease
  split
  · exact Dev.plates_ownEnds d 1
  · rfl

theorem Dev.plates_pinExpires (d : Dev) : d.pinExpires.plates = d.plates := by
  unfold Dev.pinExpires
  split
  · rw [Dev.plates_emit]
  · rfl

theorem Dev.plates_pinWrite (d : Dev) (v : Nat) : (d.pinWrite v).plates = d.plates := by
  unfold Dev.pinWrite
  split <;> rfl

theorem Dev.plates_write32 (d : Dev) (o v : Nat) : (d.write32 o v).plates = d.plates := by
  unfold Dev.write32
  split
  · extract_lets
    split
    · rfl
    · split <;> rfl
  · split
    · extract_lets
      split
      · exact Dev.plates_of_window (d.window_qctrl _ v)
      · rfl
    · split
      · rfl
      · exact Dev.plates_of_window (d.window_ownClaim v)
      · exact Dev.plates_of_window (d.window_heartbeat v)
      · exact d.plates_ownRelease v
      · exact d.plates_pinWrite v
      all_goals rfl

theorem Dev.plates_regWrite (d : Dev) (o n v : Nat) : (d.regWrite o n v).plates = d.plates := by
  unfold Dev.regWrite
  split
  · rfl
  · split
    · exact Dev.plates_of_window (d.window_write64 o v)
    · split
      · rfl
      · split
        · rfl
        · split
          · exact (Dev.plates_of_window (Dev.window_write64 _ _ _)).trans rfl
          · exact d.plates_write32 o _

/-! ## Commands that take effect: only IMG_ACTIVATE, which can restart the device, touches the buffers -/

theorem Dev.guarded_activateEffect (d : Dev) (q : HostReq) : d.Guarded (d.activateEffect q).1 := by
  unfold Dev.activateEffect
  extract_lets t w
  split
  · exact .of_window (d.window_liveBegin q _ _)
  · unfold Dev.withFlash
    extract_lets r
    have hr : r.1.window = d.window := d.window_flashOp
    clear_value r
    split
    · exact .of_window hr
    · refine Dev.Guarded.after ?_ hr
      beta_reduce
      extract_lets d1 d2
      split
      · have h2 : r.1.Guarded d2 := (Dev.guarded_afterReset d1 4).after rfl
        exact h2.window rfl
      · exact .of_window (d1.window_done.trans (Dev.window_mk ..))

theorem Dev.guarded_effOf (d : Dev) (q : HostReq) : d.Guarded (d.effOf q).1 := by
  unfold Dev.effOf
  split
  case h_74 => exact d.guarded_activateEffect q
  all_goals exact .of_window (by simp)

theorem Dev.guarded_takes (d : Dev) (q : HostReq) (res hold : Nat) : d.Guarded (d.takes q res hold) := by
  unfold Dev.takes
  extract_lets r m d1
  have hr : d.Guarded r.1 := (Dev.guarded_effOf _ q).after (d.window_homeEnds _)
  refine hr.window ((Dev.window_finish ..).trans ?_)
  show (if _ then _ else _ : Dev).window = _
  split
  · rw [Dev.window_homeEnds]
    split
    · rw [Dev.window_lastCommand, Dev.window_homeReplaced]
    · rfl
  · rfl

theorem Dev.guarded_takeOne (d : Dev) (hold : Nat) (s : Staged) : d.Guarded (d.takeOne hold s).1 := by
  unfold Dev.takeOne
  extract_lets c
  split
  · exact d.guarded_takes ..
  · exact .of_window (d.window_reply ..)

theorem Dev.guarded_takeBatch (d : Dev) (hold : Nat) (ss : List Staged) : d.Guarded (d.takeBatch hold ss).1 := by
  have hm (x : Dev × List (Staged × CmdRes)) (s : Staged) : x.1.Guarded (Dev.member hold x s).1 := by
    unfold Dev.member
    extract_lets c
    split
    · exact Dev.guarded_takes ..
    · exact .refl _
  unfold Dev.takeBatch
  extract_lets r
  split
  · exact Dev.Guarded.foldl (p := Prod.fst) hm ss (d, [])
  · exact .of_window (d.window_batchFails ss _)

theorem Dev.guarded_takeGroup (d : Dev) (hold : Nat) (ss : List Staged) : d.Guarded (d.takeGroup hold ss) := by
  unfold Dev.takeGroup
  split
  · exact .refl d
  · split
    · extract_lets r
      have hr : d.Guarded r.1 := d.guarded_takeOne ..
      exact .ite (hr.window (Dev.window_counted ..)) hr
    · extract_lets r
      have hr : d.Guarded r.1 := d.guarded_takeBatch ..
      exact .ite (hr.window (Dev.window_counted ..)) hr

/-! ## Admission and fetch -/

theorem Dev.guarded_stageOne (d : Dev) (q : HostReq) (res : Nat) : d.Guarded (d.stageOne q res) := by
  unfold Dev.stageOne
  extract_lets m w d1
  have h1 : d1.window = d.window := d.window_domainOn q
  split
  · exact .of_window h1
  · exact (Dev.guarded_takes ..).after h1

theorem Dev.guarded_closeBatch (d : Dev) (q : HostReq) (m : Nat) : d.Guarded (d.closeBatch q m) := by
  unfold Dev.closeBatch
  extract_lets id eff ss rest n k _ d1
  have h1 : d1.window = d.window := Dev.window_dropBatch ..
  split
  · exact .of_window h1
  · exact (Dev.guarded_takeBatch ..).after h1

theorem Dev.guarded_admitMember (d : Dev) (q : HostReq) (res : Nat) (c : CmdRes) : d.Guarded (d.admitMember q res c) := by
  unfold Dev.admitMember
  extract_lets id eff close drop m d1 _ d2
  have hdrop (e : Dev) : (drop e).window = e.window := by
    show (if _ then _ else _ : Dev).window = _
    split
    · exact e.window_dropBatch ..
    · rfl
  have h2 : d2.window = d.window := (show d2.window = d1.window from rfl).trans ((Dev.window_domainOn ..).trans (d.window_batchGrows q))
  refine .ite (.of_window ?_) (.ite (.of_window ?_) (.ite (.of_window ?_) (.ite ((Dev.guarded_closeBatch ..).after h2) (.of_window h2))))
  · rw [hdrop, Dev.window_failBatch, Dev.window_reply]
  · rw [hdrop, Dev.window_reject]
  · rw [hdrop, Dev.window_failBatch, Dev.window_reject]

theorem Dev.guarded_admission (d : Dev) : d.Guarded d.admission := by
  unfold Dev.admission
  split
  · exact .refl d
  · split
    · exact .refl d
    · extract_lets q used _ d1 imm r
      have hr : r.1.window = d.window := (d1.window_admits ..).trans rfl
      split
      · exact (Dev.guarded_admitMember ..).after hr
      · split
        · exact .of_window ((Dev.window_reply ..).trans hr)
        · exact .ite ((Dev.guarded_takes ..).after hr) ((Dev.guarded_stageOne ..).after hr)

theorem Dev.guarded_admitStop (d : Dev) (q : HostReq) : d.Guarded (d.admitStop q) := by
  unfold Dev.admitStop
  extract_lets c r
  exact .ite (.of_window (d.window_reply ..)) (.ite (.of_window (d.window_reject ..)) (.ite (.of_window rfl) (d.guarded_takes ..)))

theorem Hif.pin_fetch (h : Hif) (i : Nat) (b : List Byte) : (h.fetch i b).1.pin = h.pin := by
  unfold Hif.fetch
  split
  · rfl
  · extract_lets p plen q est res big st h1 h2
    split
    · rfl
    · have h1p : h1.pin = h.pin := Hif.pin_onPair ..
      have h2p : h2.pin = h.pin := by
        show (if _ then _ else _ : Hif).pin = _
        split
        · exact (Hif.pin_onPair ..).trans h1p
        · exact h1p
      split
      · exact h1p
      · split
        · exact h1p
        · split
          · exact h1p
          · split
            · exact h1p
            · exact h2p

theorem Dev.guarded_fetch (d : Dev) (pair : Nat) (bytes : List Byte) : d.Guarded (d.fetch pair bytes) := by
  unfold Dev.fetch
  extract_lets r d1
  have h1 : d1.window = d.window := congrArg (Prod.mk d.plates) (Hif.pin_fetch ..)
  split
  · exact .of_window h1
  · exact .of_window (by rw [Dev.window_rejectedMember, Dev.window_reply, h1])
  · exact (Dev.guarded_admitStop ..).after h1
  · exact .of_window h1

theorem Dev.guarded_runs (d : Dev) (q : HostReq) : d.Guarded (d.runs q) := by
  unfold Dev.runs
  extract_lets st d1 r d2
  have h1 : d1.window = d.window := d.window_joins q
  have hr : r.1.window = d.window := (d1.window_admits ..).trans h1
  have h2 : d.Guarded d2 := (Dev.guarded_takes ..).after ((Dev.window_domainOn ..).trans hr)
  split
  · exact .of_window ((Dev.window_reject ..).trans h1)
  · split
    · exact .of_window ((Dev.window_reply ..).trans hr)
    · exact .ite (h2.window (Dev.window_makeSteps _)) h2

/-! ## The Meridian -/

theorem Dev.guarded_commandsAt (d : Dev) (n : Nat) : d.Guarded (d.commandsAt n) := by
  unfold Dev.commandsAt
  extract_lets due _ d1 d2
  have h2 : d1.Guarded d2 := .foldl (p := id) (fun d g => d.guarded_takeGroup n g) _ _
  refine Dev.Guarded.window (e := (due.filter Staged.stop).foldl (fun d s => d.takeGroup n [s]) d2) ?_ ?_
  · exact (Dev.Guarded.after (d := d) h2 rfl).trans (Dev.Guarded.foldl (p := id) (f := fun d s => d.takeGroup n [s]) (fun d s => d.guarded_takeGroup n [s]) _ d2)
  · rw [Dev.window_watchStyle, Dev.window_lossStops]

theorem Dev.window_clearGroup (d : Dev) (n : Nat) (g : List Staged) : (d.clearGroup n g).window = d.window := by
  unfold Dev.clearGroup
  extract_lets cs ok
  split
  · rfl
  · refine Dev.window_foldl (fun d s => ?_) cs d
    exact Eq.trans rfl (Dev.window_clearTarget d s.req.h.kind s.req.h.index)

theorem Dev.window_clearAt (d : Dev) (n : Nat) : (d.clearAt n).window = d.window := Dev.window_foldl (fun d g => d.window_clearGroup n g) _ _

theorem Dev.guarded_effectsAt (d : Dev) (n : Nat) : d.Guarded (d.effectsAt n) := by
  unfold Dev.effectsAt
  extract_lets d1
  have h0 : (((d.newCycle n).clearAt n).paceAt n).window = d.window := by
    rw [Dev.window_paceAt, Dev.window_clearAt, Dev.window_newCycle]
  have h1 : d.Guarded d1 := ((Dev.guarded_commandsAt _ n).after h0).window ((Dev.window_makeSteps _).trans (Dev.window_safetyAt _))
  clear_value d1
  exact h1.window ((Dev.window_paramBlocks _).trans rfl)

theorem Dev.guarded_meridian (d : Dev) : d.Guarded d.meridian := by
  unfold Dev.meridian
  extract_lets n first d1 due loss d2 d3
  have h2 : d.Guarded d2 := (Dev.guarded_effectsAt d1 n).after (Dev.window_gateClose d)
  have h3 : d3.window = d2.window := (Dev.window_launchAll ..).trans (by split <;> simp only [Dev.window_packSlots])
  clear_value d3 d2
  refine .ite (.refl d) (.ite (.of_window d.window_deposedNow) (.ite (h2.window rfl) (h2.window (.trans ?_ h3))))
  split
  · rw [Dev.window_twinFrame, Dev.window_imageCount]
  · rfl

/-! ## The standby (R326 to R329) -/

theorem Dev.guarded_twinTake (d : Dev) (q : HostReq) : d.Guarded (d.twinTake q) := by
  unfold Dev.twinTake
  extract_lets r
  exact .ite (.refl d) (.ite ((d.guarded_effOf q).window (Dev.window_lastCommand ..)) (.refl d))

theorem Dev.guarded_twinOne (d : Dev) (q : HostReq) : d.Guarded (d.twinOne q) := .ite (d.guarded_twinTake q) (.refl d)

theorem Dev.guarded_twinBatch (d : Dev) (qs : List HostReq) : d.Guarded (d.twinBatch qs) := by
  unfold Dev.twinBatch
  refine List.foldlRecOn qs _ (motive := fun (x : Option Dev) => d.Guarded (x.getD d)) (.refl d) fun x hx q _ => ?_
  cases x with
  | none => exact .refl d
  | some e =>
    rw [Option.bind_some]
    split
    · exact hx.trans (e.guarded_twinTake q)
    · exact .refl d

theorem Dev.guarded_twinRecordsTake (d : Dev) (rs : List (Nat × List Byte)) : d.Guarded (d.twinRecordsTake rs) := by
  unfold Dev.twinRecordsTake
  refine Dev.Guarded.foldl (p := Prod.fst) (fun x r => ?_) rs (d, [])
  split
  · extract_lets q _ _ d1
    split
    · exact (Dev.guarded_twinOne d1 q).after rfl
    · exact .of_window rfl
  · split
    · exact (Dev.guarded_twinBatch _ _).after rfl
    · split
      · exact .of_window (Dev.window_twinPhased ..)
      · exact .refl _

theorem Dev.guarded_twinCycle (d : Dev) (k : Nat) (rs : List (Nat × List Byte)) : d.Guarded (d.twinCycle k rs) := by
  unfold Dev.twinCycle
  extract_lets d1 d2
  have h1 : d.Guarded d1 := (Dev.guarded_twinRecordsTake ..).after (d.window_newCycle k)
  have h2 : d2.window = d1.window := Dev.window_foldl (fun d r => d.window_twinStops _) _ _
  exact h1.window (by rw [Dev.window_takeInputs, Dev.window_makeSteps, Dev.window_safetyAt, h2])

theorem Dev.guarded_twinFrameIn (d : Dev) (f : List Byte) : d.Guarded (d.twinFrameIn f) :=
  .ite (.refl d) ((d.guarded_twinCycle _ _).window (Dev.window_twinStep ..))

theorem Dev.guarded_standbySeal (d : Dev) : d.Guarded d.standbySeal := by
  unfold Dev.standbySeal
  extract_lets m d1 d2
  have h1 : d1.window = d.window := by
    show (if _ then _ else _ : Dev).window = _
    split
    · split
      · exact d.window_diverged 2
      · rfl
    · rfl
  have h2 : d.Guarded d2 := ((Dev.guarded_twinCycle ..).after h1).window (Dev.window_twinCompute _)
  exact .ite (.refl d) (.ite ((Dev.guarded_publishPlate _).after d.window_twinCompute) (.ite (.ite (h2.trans (Dev.guarded_publishPlate _)) h2) (.refl d)))

/-! ## Every command -/

/-- What the invariant and the pin ask of a step from `d` to `e`. -/
def Dev.Holds (d e : Dev) : Prop :=
  (d.PlatesOk → e.PlatesOk) ∧ ∀ b c, d.host.pin = some (b, c) → e.host.pin = some (b, c) → e.plates.getD b [] = d.plates.getD b []

theorem Dev.Guarded.holds {d e : Dev} (h : d.Guarded e) : d.Holds e := by
  refine ⟨h.ok, fun b c hd he => ?_⟩
  rcases h.pin with hn | ⟨-, hb⟩
  · simp [hn] at he
  · exact hb (b, c) hd

/-- A step that leaves every buffer as it was, whatever it does to the pin. -/
theorem Dev.Holds.of_plates {d e : Dev} (h : e.plates = d.plates) : d.Holds e := ⟨.of_plates h, fun _ _ _ _ => by rw [h]⟩

theorem Dev.Holds.satCheck {d e : Dev} (h : d.Holds e) (b : Dev) : d.Holds (Dev.satCheck b e) := by
  refine ⟨fun hd => Dev.PlatesOk.of_plates (Dev.plates_satCheck b e) (h.1 hd), fun i c hd he => ?_⟩
  rw [Dev.plates_satCheck]
  exact h.2 i c hd ((Dev.pin_satCheck b e).symm.trans he)

/-- The outcome of a command is as the invariant and the pin ask. -/
def State.Holds (s : State) (r : Host.Outcome State Fault Refusal) : Prop := ∀ t, r = .next t → s.dev.Holds t.dev

theorem State.holds_next {s : State} {e : Dev} (h : s.dev.Holds e) : s.Holds (.next { s with dev := e }) := by
  rintro t ⟨⟩
  exact h

/-- What the interface does only with its link up. -/
theorem Dev.Holds.hiu {d : Dev} (f : Dev → Dev) (h : d.Holds (f d)) : d.Holds (d.hiu f) := by
  unfold Dev.hiu
  split
  · exact h
  · exact (Dev.Guarded.refl d).holds

@[simp] theorem Hif.pin_modTimeout (h : Hif) (i : Nat) : (h.modTimeout i).pin = h.pin := by
  unfold Hif.modTimeout
  extract_lets
  split
  · rw [Hif.pin_signal]
  · rfl

@[simp] theorem Hif.pin_streamWrite (h : Hif) (mem : Memory) (i : Nat) : (h.streamWrite mem i).1.pin = h.pin := by
  unfold Hif.streamWrite
  split
  · rfl
  · split
    · rfl
    · extract_lets
      split
      · rw [Hif.pin_write]
      · rfl

@[simp] theorem Hif.pin_postReply (h : Hif) (mem : Memory) (published i : Nat) : (h.postReply mem published i).1.pin = h.pin := by
  unfold Hif.postReply
  extract_lets
  split
  · rfl
  · split
    · rfl
    · extract_lets h1 h2
      split
      · split
        · rw [Hif.pin_resized, Hif.pin_onPair]
        · rw [Hif.pin_write, Hif.pin_resized, Hif.pin_onPair]
      · rfl

theorem exec_holds (c : Instr) (s : State) : s.Holds (exec c s) := by
  cases c
  all_goals apply State.holds_next
  case powerOn => exact (Dev.guarded_afterPowerOn _).holds
  case vddAonFall => exact ((Dev.guarded_afterPowerOn _).window rfl).holds
  case supplyReset => exact (Dev.guarded_afterReset _ 2).holds
  case resetNPin lowNs => exact (Dev.guarded_resetPin _ lowNs).holds
  case bootWatchdogExpiry => exact (Dev.guarded_bootWatchdog _).holds
  case peRefclkLoss => 
    refine .satCheck (.of_plates ?_) _
    exact Dev.plates_hostReset s.dev
  case meridian => exact (Dev.guarded_meridian _).holds.satCheck _
  case platePublish => exact (Dev.guarded_publish _).holds
  case twin frame => exact (Dev.guarded_twinFrameIn _ frame).holds.satCheck _
  case standbyPlateSeal => exact (Dev.guarded_standbySeal _).holds.satCheck _
  case takeover => exact (Dev.guarded_takeover _).holds.satCheck _
  case ownRelease token => exact .satCheck (.hiu (fun d => d.ownRelease token) (.of_plates (Dev.plates_ownRelease _ token))) _
  case ownerLeaseExpiry => exact .satCheck (.of_plates (Dev.plates_leaseEnds _)) _
  case hostReset => exact .satCheck (.of_plates (Dev.plates_hostReset _)) _
  case pinRequest value =>
    refine .hiu _ (.of_plates ?_)
    split
    exacts [Dev.plates_pinWrite _ value, rfl]
  case pinRelease value =>
    refine .hiu _ (.of_plates ?_)
    split
    exacts [rfl, Dev.plates_pinWrite _ value]
  case pinExpiry => exact .satCheck (.of_plates (Dev.plates_pinExpires _)) _
  case registerWrite ofs size value => exact .satCheck (.hiu (fun d => d.regWrite ofs size value) (.of_plates (Dev.plates_regWrite _ ofs size value))) _
  case commandFetch pair bytes => exact .satCheck (.hiu (fun d => d.fetch pair bytes) (Dev.guarded_fetch _ pair bytes).holds) _
  case commandAdmission => exact (Dev.guarded_admission _).holds.satCheck _
  case mgmtSetParams | mgmtGetParams | getInfo | setOwnership | abort | queueResize | streamStart | streamStop | clearCounters | paceStatus | bulkOpen | bulkWrite |
    bulkClose | axisSetParams | axisGetParams | axisAdd | axisRemove | axisEnable | axisDisable | faultClear | tableLoad | bindSwitch | axisStatus | stepStatus |
    setPosition | mode | estop | processWrite | orrerySetParams | orreryGetParams | orrConfigure | orrRemove | orrSpeed | orrStop | camLoad | camDelete | regRemove |
    netSetParams | netGetParams | mapLoad | mapPatch | ringStart | segStatus | collimation | mailbox | timeSetParams | timeGetParams | timeSet | timeStatus | captureRead
    | ioStatus | chrConfig | chrArm | chrDisarm | chrForce | chrRead | chrStatus | logRead | logStatus | logMark | logChallenge | logClear | safeStatus | safeReset |
    safeChallenge | safeConfig | stRun | stStatus | stSchedule | repairCommit | imageOpen | imageWrite | imageVerify | imageActivate | imageStatus | safActivate =>
    exact (Dev.guarded_runs ..).holds.satCheck _
  all_goals refine (Dev.Guarded.of_window ?_).holds
  case tableReadReturn =>
    dsimp only
    split
    · rfl
    · rw [Dev.window_onEngine]
      split <;> simp
  case preemptOverrun | kernelOverBudget | eventIngress | bistBurst => 
    dsimp only
    split <;> simp
  case plateLatestRead | cqTailDoorbell | rqHeadDoorbell | bar2Write | replyPost => 
    apply Dev.window_hiu
    simp
  all_goals simp

/-- Settles O3: a Plate is written into a free buffer only, a reset empties the buffers and drops the pin, the end of ownership and of a pin touch no bytes, and every other
command leaves both alone. -/
theorem stepKeepsInv : Obligations.StepKeepsInv := by
  intro s t ht
  unfold step at ht
  split at ht
  next =>
    cases ht
    exact ⟨Dev.PlatesOk.of_plates rfl, fun _ _ _ _ => rfl⟩
  next c cs _ => exact exec_holds c { s with pending := cs } t ht

/-- Settles O2: the four buffers are empty. -/
theorem resetMeetsInv : Obligations.ResetMeetsInv := ⟨rfl, Dev.PlatesOk.of_empty rfl⟩

end Sys2Proof.Machine

/-! PROOFS. The publication of a Plate (R17, R18): the buffer that it takes is specified with O3 above; here the bytes that it begins with. -/

namespace Sys2Proof.Machine

open Sys2Proof

/-- Fewer bytes read from the same address are the first of those. -/
theorem Memory.take_readList (d : Byte) (m : Memory) (a n k : Nat) (h : n ≤ k) : (Memory.readList d m a k).take n = Memory.readList d m a n := by
  induction n generalizing a k with
  | zero => rw [List.take_zero, Memory.readList]
  | succ n ih =>
    obtain ⟨k, rfl⟩ : ∃ j, k = j + 1 := ⟨k - 1, by omega⟩
    rw [Memory.readList, Memory.readList, List.take_succ_cons, ih (a + 1) k (by omega)]

/-- The header begins with CYCLE (Table 1.6). -/
theorem Dev.take_plateHeader (d : Dev) : d.plateHeader.take 8 = leBytes 8 d.ctl.cycle ∧ 8 ≤ d.plateHeader.length := by
  unfold Dev.plateHeader
  constructor
  · simp only [List.append_assoc]
    exact List.take_left' (leBytes_length 8 _)
  · simp only [List.length_append, leBytes_length]
    omega

/-- The header is the last part to be written, at the front of the Plate. -/
theorem Dev.plateBytes_header (d : Dev) : ∃ m, Memory.wf 0 m = true ∧ d.plateBytes = Memory.writeList 0 m 0 d.plateHeader := by
  obtain ⟨ps, hps⟩ : ∃ ps, d.plateParts = (0, d.plateHeader) :: ps := ⟨_, rfl⟩
  have himg : Memory.wf 0 (d.image.reverse.foldl (fun m c => Memory.write 0 m (0x20000 + c.1) c.2) []) = true :=
    Memory.wf_foldl_write (fun c => 0x20000 + c.1) Prod.snd _ rfl
  refine ⟨ps.reverse.foldl (fun m p => Memory.writeList 0 m p.1 p.2) _, Memory.wf_foldl_writeList Prod.fst Prod.snd _ himg, ?_⟩
  rw [Dev.plateBytes, hps, List.reverse_cons, List.foldl_append, List.foldl_cons, List.foldl_nil]

/-- CYCLE of a Plate is the cycle in progress (Table 1.6). -/
theorem Dev.plateCycle_plateBytes (d : Dev) (h : d.ctl.cycle < 2 ^ 64) : plateCycle d.plateBytes = d.ctl.cycle := by
  obtain ⟨m, hm, he⟩ := d.plateBytes_header
  obtain ⟨ht, hl⟩ := d.take_plateHeader
  have hr : Memory.readList 0 d.plateBytes 0 8 = leBytes 8 d.ctl.cycle := by
    rw [← Memory.take_readList 0 d.plateBytes 0 8 _ hl, he, Memory.readList_writeList 0 0 _ hm, ht]
  rw [plateCycle, hr, leNat_leBytes]
  exact Nat.mod_eq_of_lt h

theorem Dev.publish_sealed {d : Dev} (hr : d.ctl.running = true) (hs : d.ctl.sealed = true) (hp : d.ctl.published ≠ d.ctl.cycle) : d.publish = d.publishPlate := by
  simp [Dev.publish, hr, hs, hp]

/-- Settles O12: the buffer is the first of the oldest free ones, the Plate's first bytes are its header, and nothing but the buffer, the streams and the Plate's interrupt changes. -/
theorem platePublication : Obligations.PlatePublication := by
  intro s hr hs hp hl hc
  refine completes_does (f := Dev.publish) rfl ?_
  rw [Dev.publish_sealed hr hs hp]
  obtain ⟨hfree, hleast⟩ := s.dev.plateBuffer_spec
  have hk := Dev.mem_freeBuffers.mp hfree
  have hget : s.dev.publishPlate.plates.getD s.dev.plateBuffer [] = s.dev.probeAll.regBlocks.plateBytes := by
    rw [Dev.plates_publishPlate, List.getD_eq_getElem?_getD, List.getElem?_set_self (by omega), Option.getD_some]
  refine ⟨hk, fun j hj => hleast j (Dev.mem_freeBuffers.mpr hj), rfl, rfl, ?_, fun j hj => ?_, ?_, rfl, rfl, rfl, rfl, rfl, rfl, rfl, rfl⟩
  · exact (congrArg plateCycle hget).trans (Dev.plateCycle_plateBytes _ hc)
  · rw [Dev.plates_publishPlate, List.getD_eq_getElem?_getD, List.getElem?_set_ne (show s.dev.plateBuffer ≠ j from Ne.symm hj),
      List.getD_eq_getElem?_getD]
  · rw [Dev.plates_publishPlate, List.length_set, hl]

end Sys2Proof.Machine

/-! PROOFS. Pace plans (R15, R242, R243, R255): what a plan names, and what its completion makes of the Pace Unit. -/

namespace Sys2Proof.Machine

open Sys2Proof

/-! ## Plans -/

theorem Dev.pace_carrySet (d : Dev) (c : Nat × Nat × Int) : (d.carrySet c).pace = d.pace := by
  unfold Dev.carrySet
  extract_lets i
  split
  · rfl
  · split <;> rfl

theorem Dev.pace_carryAll (cs : List (Nat × Nat × Int)) (d : Dev) : (d.carryAll cs).pace = d.pace := by
  induction cs generalizing d with
  | nil => rfl
  | cons c cs ih => exact (ih _).trans (d.pace_carrySet c)

/-- The plan for a Meridian names it, follows the plan in force and carries what waits (R242). -/
theorem Dev.makePlan_names (d : Dev) (m : Nat) : (d.makePlan m).1.cycle = m ∧ (d.makePlan m).1.seq = incWrap 32 d.pace.plan.seq ∧ (d.makePlan m).1.carries = d.pace.carry := by
  have h : (d.makePlan m).1.seq = incWrap 32 (d.carryAll d.pace.carry).pace.plan.seq := rfl
  have hc : (d.makePlan m).1.carries = (d.carryAll d.pace.carry).pace.carry := rfl
  rw [Dev.pace_carryAll] at h hc
  exact ⟨rfl, h, hc⟩

theorem Dev.planComplete_dropped {d : Dev} {m : Nat} (hr : d.ctl.running = true) (hb : d.pace.building = some m) (hm : d.ctl.cycle < m)
    (ha : d.planAdmitted (d.makePlan m).1 (d.makePlan m).2 = false) : d.planComplete = { d with pace := { d.pace with building := none, trigger := true, lateServed := false } } := by
  simp [Dev.planComplete, hr, hb, ha, Nat.not_le.mpr hm]

/-- What an admitted plan makes of the Pace Unit: it waits, and nothing is left to carry; MARGIN_LOW begins where the plan needs it, once, and with its event (R242, R255). -/
theorem Dev.planComplete_admitted {d : Dev} {m : Nat} (hr : d.ctl.running = true) (hb : d.pace.building = some m) (hm : d.ctl.cycle < m)
    (ha : d.planAdmitted (d.makePlan m).1 (d.makePlan m).2 = true) :
    ∃ (p : Pace) (st : List (Nat × Bool)) (es : List Ev), d.planComplete = Dev.emits { d with pace := p, tru := { d.tru with stops := st } } es ∧
      p.building = none ∧ p.carry = [] ∧ p.plan = d.pace.plan ∧ p.done = some (d.makePlan m).1 ∧ p.marginLow = (d.pace.marginLow || (d.makePlan m).2) ∧
      (d.pace.marginLow = true → p.marginEntries = d.pace.marginEntries) ∧
      (d.pace.marginLow = false → p.marginLow = true → p.marginEntries = incSat 16 d.pace.marginEntries ∧ ∃ rest, es = evM srcPac eMARGIN_LOW_ENTER :: rest) := by
  unfold Dev.planComplete
  split
  next h => simp [hb] at h
  next k h =>
  obtain rfl : k = m := by simpa [hb] using h.symm
  extract_lets _ r enter refused p stop
  rw [if_neg (by simp [hr, hm]), if_neg (by simp [ha])]
  refine ⟨p, if stop then d.tru.stops ++ [(3, false)] else d.tru.stops,
    (if enter then [evM srcPac eMARGIN_LOW_ENTER] else []) ++ (if refused && !d.pace.suspended then [evM srcPac eSELFTEST_SUSPENDED] else []), ?_, rfl, rfl, rfl, rfl, rfl, fun hl => ?_, fun hl hp => ?_⟩
  · congr 1
    cases stop <;> rfl
  · have he : enter = false := by simp [enter, hl]
    simp [p, he]
  · have he : enter = true := by simpa [enter, hl, p] using hp
    simp [p, he]

/-- Settles O30: a plan in work is the only one, the plan made names its Meridian and carries what waits, and MARGIN_LOW begins with a plan that needs it. -/
theorem pacePlansAreBuilt : Obligations.PacePlansAreBuilt := by
  intro s m e
  refine ⟨fun hr ht hb hd hm => completes_does rfl ?_, fun hr hb hm ha => completes_act rfl ?_, fun hr hb hm ha => completes_act rfl ?_, fun hr => completes_does rfl ?_,
    fun hl hc => completes_act rfl ?_, fun hp hm => ?_⟩
  · simp [hr, ht, hb, hd, hm]
  · rw [Dev.planComplete_dropped hr hb hm ha]
    exact Dev.core_satCheck _ _
  · obtain ⟨p, st, es, hd, hbld, hcarry, hplan, hdone, hlow, hkept, henter⟩ := Dev.planComplete_admitted hr hb hm ha
    rw [hd]
    obtain ⟨hcyc, hseq, hcar⟩ := s.dev.makePlan_names m
    have hcore := (Dev.core_satCheck s.dev (Dev.emits { s.dev with pace := p, tru := { s.dev.tru with stops := st } } es)).trans (Dev.core_emits _ es)
    have hpace : (Dev.satCheck s.dev (Dev.emits { s.dev with pace := p, tru := { s.dev.tru with stops := st } } es)).pace = p := congrArg Dev.pace hcore
    have htru : (Dev.satCheck s.dev (Dev.emits { s.dev with pace := p, tru := { s.dev.tru with stops := st } } es)).tru.stops = st := congrArg (fun d => d.tru.stops) hcore
    rw [hpace, htru]
    refine ⟨hcore, hbld, hcarry, hplan, ⟨_, hdone, hcyc, hseq, hcar⟩, fun hl => ⟨by rw [hlow, hl, Bool.true_or], hkept hl⟩, fun hl hp => ?_⟩
    obtain ⟨hcount, rest, rfl⟩ := henter hl hp
    exact ⟨hcount, Dev.reports_satCheck _ _ (Dev.reports_emits_mono rest _ (Dev.reports_emit _ (evM srcPac eMARGIN_LOW_ENTER) (fun h => nomatch h)))⟩
  · simp [hr]
  · rw [if_pos (by simp [hl, hc])]
    exact ⟨(Dev.core_satCheck _ _).trans (Dev.core_emit _ _), Dev.reports_satCheck _ _ (Dev.reports_emit _ (evM srcPac eMARGIN_LOW_EXIT) (fun h => nomatch h))⟩
  · refine completes_act (f := fun d => if 1000 ≤ (d.engine e).mismPasses && !(d.engine e).mismatch then
      (d.onEngine e (fun g => { g with mismatch := true })).emit (evM srcPac eSEEING_MISMATCH (leBytes 1 e)) else d) rfl ?_
    rw [if_pos (by simp [hp, hm])]
    exact ⟨(Dev.core_satCheck _ _).trans (Dev.core_emit _ _), Dev.reports_satCheck _ _ (Dev.reports_emit _ (evM srcPac eSEEING_MISMATCH (leBytes 1 e)) (fun h => nomatch h))⟩

end Sys2Proof.Machine

/-! PROOFS. Scrubbing (R499, R509, R512): a state that refutes the statement of O50 about a scrubber that is off. -/

namespace Sys2Proof.Machine

open Sys2Proof

/-- The management plane runs, the scrubber is off, and row 0 of bank 0 has asked for its test. -/
def scrubOffAsked : State := { dev := { ({} : Dev) with host := { ({} : Hif) with mgtReady := true }, tru := { ({} : Tru) with sched := [], asked := [(0, 0)] } } }

/-- SCRUB_READ with the scrubber off still starts the memory test that a row has asked for. -/
theorem scrubOffAsked_starts_test : ∃ t, exec (.scrubRead 0 false false) scrubOffAsked = .next t ∧ t.dev.tru.mem.isSome = true := by
  refine ⟨_, rfl, ?_⟩
  decide +kernel

/-- Refutes O50: with the scrubber off, SCRUB_READ is to change nothing, but where a row has asked for the test of its bank the test starts (R499, R509). -/
theorem not_faultsAreContained : ¬ Obligations.FaultsAreContained := by
  intro h
  obtain ⟨-, hoff, -⟩ := h scrubOffAsked 0 0 0 [] [] 0 0
  obtain ⟨t, ht, -, his⟩ := hoff 0 false false rfl
  obtain ⟨u, hu, hmem⟩ := scrubOffAsked_starts_test
  obtain rfl : t = u := by simpa using ht.symm.trans hu
  have hnone : t.dev.tru.mem = none := congrArg (fun d => d.tru.mem) his
  simp [hnone] at hmem

end Sys2Proof.Machine

/-! PROOFS. Fetch and admission of commands (R26 to R28, R66, R374 to R378, R403): what completions leave as it was, one equation for each outcome of a fetch and of an admission. -/

namespace Sys2Proof.Machine

open Sys2Proof

/-! ## What completions leave as it was -/

/-- The pair has kept its place in the command ring, its mark of a refused header and its waiting replies; more may wait. -/
structure Pair.Kept (p q : Pair) : Prop where
  active : q.active = p.active
  slotErr : q.slotErr = p.slotErr
  cqHead : q.cqHead = p.cqHead
  out : p.out ⊆ q.out

theorem Pair.Kept.refl (p : Pair) : p.Kept p := ⟨rfl, rfl, rfl, List.Subset.refl _⟩

theorem Pair.Kept.trans {p q r : Pair} (h : p.Kept q) (k : q.Kept r) : p.Kept r :=
  ⟨k.active.trans h.active, k.slotErr.trans h.slotErr, k.cqHead.trans h.cqHead, List.Subset.trans h.out k.out⟩

/-- Every pair is kept, and so are the turn and the fetched commands. -/
structure Hif.Kept (h k : Hif) : Prop where
  pair : ∀ j, (h.pair j).Kept (k.pair j)
  rr : k.rr = h.rr
  fetched : k.fetched = h.fetched

theorem Hif.Kept.refl (h : Hif) : h.Kept h := ⟨fun _ => .refl _, rfl, rfl⟩

theorem Hif.Kept.trans {h k l : Hif} (a : h.Kept k) (b : k.Kept l) : h.Kept l :=
  ⟨fun j => (a.pair j).trans (b.pair j), b.rr.trans a.rr, b.fetched.trans a.fetched⟩

theorem Hif.kept_onPair (h : Hif) (i : Nat) {f : Pair → Pair} (hf : ∀ p : Pair, p.Kept (f p)) : h.Kept (h.onPair i f) := by
  refine ⟨fun j => ?_, rfl, rfl⟩
  rw [Hif.pair_onPair]
  split
  · exact hf _
  · exact .refl _

theorem Hif.kept_resized (h : Hif) (op key : Nat) : h.Kept (h.resized op key) := by
  unfold Hif.resized
  split
  · exact h.kept_onPair _ fun p => ⟨rfl, rfl, rfl, List.Subset.refl _⟩
  · exact .refl h

theorem Hif.kept_complete (h : Hif) (q : HostReq) (res : Nat) (r : CmdRes) (done hold : Nat) (dup : Bool) : h.Kept (h.complete q res r done hold dup) := by
  unfold Hif.complete
  extract_lets key t quiet
  split
  · refine .trans ?_ (Hif.kept_resized _ _ _)
    exact h.kept_onPair _ fun p => ⟨rfl, rfl, rfl, List.Subset.refl _⟩
  · exact h.kept_onPair _ fun p => ⟨rfl, rfl, rfl, List.subset_append_left _ _⟩

theorem Dev.kept_reply (d : Dev) (q : HostReq) (res : Nat) (r : CmdRes) (done hold : Nat) (dup : Bool) : d.host.Kept (d.reply q res r done hold dup).host := by
  unfold Dev.reply
  rw [Hif.releaseHandle_eq]
  exact (d.host.kept_complete q res r done hold dup).trans ⟨fun _ => .refl _, rfl, rfl⟩

@[simp] theorem Dev.staged_reply (d : Dev) (q : HostReq) (res : Nat) (r : CmdRes) (done hold : Nat) (dup : Bool) : (d.reply q res r done hold dup).host.staged = d.host.staged :=
  congrArg (fun e => e.host.staged) (d.reply_past q res r done hold dup)

theorem Dev.kept_rejects (st : Staged → Nat) (l : List Staged) (d : Dev) :
    d.host.Kept (l.foldl (fun d s => d.reject s.req s.res (st s)) d).host ∧ (l.foldl (fun d s => d.reject s.req s.res (st s)) d).host.staged = d.host.staged := by
  induction l generalizing d with
  | nil => exact ⟨.refl _, rfl⟩
  | cons s l ih =>
    obtain ⟨hk, hs⟩ := ih (d.reject s.req s.res (st s))
    exact ⟨(d.kept_reply ..).trans hk, hs.trans (d.staged_reply ..)⟩

theorem Dev.kept_withdraw (d : Dev) (p : Staged → Bool) (st : Staged → Nat) :
    d.host.Kept (d.withdraw p st).host ∧ (d.withdraw p st).host.staged = d.host.staged.filter (fun s => !p s) := by
  obtain ⟨hk, hs⟩ := Dev.kept_rejects st (d.host.staged.filter p) { d with host := { d.host with staged := d.host.staged.filter (fun s => !p s) } }
  exact ⟨.trans (k := { d.host with staged := d.host.staged.filter (fun s => !p s) }) ⟨fun _ => .refl _, rfl, rfl⟩ hk, hs⟩

theorem Dev.kept_batchMark (d : Dev) (id eff pair : Nat) : d.host.Kept (d.batchMark id eff pair).host ∧ (d.batchMark id eff pair).host.staged = d.host.staged := by
  unfold Dev.batchMark
  split
  · split
    · exact ⟨.refl _, rfl⟩
    · exact ⟨⟨fun _ => .refl _, rfl, rfl⟩, rfl⟩
  · exact ⟨⟨fun _ => .refl _, rfl, rfl⟩, rfl⟩

/-- A batch that fails loses its open members, and nothing else of the interface but completions (R27). -/
theorem Dev.kept_failBatch (d : Dev) (id eff pair : Nat) :
    d.host.Kept (d.failBatch id eff pair).host ∧ (d.failBatch id eff pair).host.staged = d.host.staged.filter (fun s => !s.member id eff 0) := by
  obtain ⟨hm, hms⟩ := d.kept_batchMark id eff pair
  obtain ⟨hw, hws⟩ := (d.batchMark id eff pair).kept_withdraw (fun s => s.member id eff 0) (fun _ => 0x0502)
  exact ⟨hm.trans hw, hws.trans (by rw [hms])⟩

theorem Dev.kept_rejectedMember (d : Dev) (q : HostReq) (st : Nat) : d.host.Kept (d.rejectedMember q st).host := by
  unfold Dev.rejectedMember
  split
  · exact .refl _
  · exact (d.kept_failBatch ..).1

theorem Dev.rejectedMember_alone (d : Dev) {q : HostReq} (st : Nat) (h : q.h.batch = 0) : d.rejectedMember q st = d := by
  simp [Dev.rejectedMember, h]

theorem Dev.Answers.kept {d e : Dev} {q : HostReq} {st : Nat} (h : d.Answers q st) (k : d.host.Kept e.host) : e.Answers q st := by
  obtain ⟨o, ho, hq⟩ := h
  exact ⟨o, (k.pair _).out ho, hq⟩

theorem Dev.answers_reply (d : Dev) {q : HostReq} (res : Nat) {r : CmdRes} (done hold : Nat) (dup : Bool) (ha : (d.host.pair q.h.pair).active = true) (hs : r.status ≠ 0) :
    (d.reply q res r done hold dup).Answers q r.status := (d.reply_waits q res r done hold dup ha (.inr hs)).1

@[simp] theorem Dev.host_satCheck (b d : Dev) : (Dev.satCheck b d).host = d.host := congrArg (fun e => e.host) (show (Dev.satCheck b d).core = d.core from Dev.core_satCheck b d)

/-! ## Fetch (R374 to R378) -/

/-- The pair whose turn it is is in use. -/
theorem Hif.active_of_turn {h : Hif} {i : Nat} (ht : h.turn = some i) : (h.pair i).active = true := by
  have hr : h.ready i = true := by
    unfold Hif.turn at ht
    extract_lets order at ht
    split at ht
    next j hj =>
      obtain rfl : j = i := by simpa using ht
      have := List.find?_some hj
      simp only [Bool.and_eq_true] at this
      exact this.1
    next => exact List.find?_some ht
  simp only [Hif.ready, Bool.and_eq_true] at hr
  exact hr.1.1.1

/-- The next command of the pair is all there, and finds its reply slots (R374, R378). -/
def Hif.Whole (h : Hif) (i : Nat) (b : List Byte) : Prop := 64 * slotsOf (fieldLE b 18 2) ≤ b.length ∧ (h.pair i).blocked (headOf i b) (fieldLE b 18 2) = false

/-- The status that the header in `b` gets from the checks of R377. -/
def Hif.headStatus (h : Hif) (i : Nat) (b : List Byte) : Nat := h.headCheck (headOf i b) (fieldLE b 18 2) (fieldLE b 28 4)

/-- The pair once a command of it is taken: its slots are free, and the reservation stands (R374, R378). -/
def Pair.taken (p : Pair) (q : HostReq) (plen st res : Nat) : Pair :=
  { p with cqHead := (p.cqHead + slotsOf plen) % p.cqSlots, slotErr := p.slotErr || decide (st ≠ 0), reserved := p.reserved + res,
           awaiting := if st = 0x0106 then p.awaiting else p.awaiting ++ [{ tag := q.h.tag, op := q.op, batch := q.h.batch }] }

/-- The interface once it has taken the command in `b` from its ring: the turn goes on (R375). -/
def Hif.slotsTaken (h : Hif) (i : Nat) (b : List Byte) (res : Nat) : Hif :=
  Hif.onPair { h with rr := i, passed := [] } i (fun p => p.taken (headOf i b) (fieldLE b 18 2) (h.headStatus i b) res)

theorem Hif.pair_slotsTaken {h : Hif} {i : Nat} (b : List Byte) (res : Nat) (ha : (h.pair i).active = true) :
    (h.slotsTaken i b res).pair i = (h.pair i).taken (headOf i b) (fieldLE b 18 2) (h.headStatus i b) res := by
  rw [Hif.slotsTaken, Hif.pair_onPair, if_pos ⟨rfl, Hif.pair_lt (h := h) ha⟩]
  rfl

/-- What follows for a command that passes the checks of its header (R66, R377, R388). -/
def Hif.passes (h : Hif) (q : HostReq) (g : Hif) : Hif × FetchRes :=
  if q.op = 0x2100 then (g, .estop q)
  else if h.mgtRestart then (g, .reply q (reserveOf q) 0x0201 false)
  else
    let k := if q.op = 0x0006 then g.onPair q.h.index (fun p => { p with resizing := true }) else g
    ({ k with fetched := k.fetched ++ [{ req := q, res := reserveOf q }] }, .pass q (reserveOf q))

theorem Hif.fetch_idle {h : Hif} {i : Nat} {b : List Byte} (ht : h.turn ≠ some i) : h.fetch i b = (h, .none) := if_pos ht

theorem Hif.fetch_waits {h : Hif} {i : Nat} {b : List Byte} (ht : h.turn = some i) (hw : ¬h.Whole i b) : h.fetch i b = ({ h with rr := i, passed := i :: h.passed }, .none) := by
  unfold Hif.fetch
  rw [if_neg (by simp [ht])]
  extract_lets p plen q
  refine if_pos ?_
  by_cases hl : 64 * slotsOf plen ≤ b.length
  · have hb : p.blocked q plen = true := by simpa using fun h => hw ⟨hl, h⟩
    simp [hb]
  · simp [Nat.lt_of_not_le hl]

theorem Hif.fetch_rejected {h : Hif} {i : Nat} {b : List Byte} (ht : h.turn = some i) (hw : h.Whole i b) (hs : h.headStatus i b ≠ 0) :
    ∃ res, h.fetch i b = (h.slotsTaken i b res, .reply (headOf i b) res (h.headStatus i b) (h.headStatus i b = 0x0106)) := by
  unfold Hif.fetch
  rw [if_neg (by simp [ht])]
  extract_lets p plen q est res big st h1
  rw [if_neg (by simp [p, plen, q, hw.1, hw.2]), if_pos (show st ≠ 0 from hs)]
  exact ⟨_, rfl⟩

theorem Hif.fetch_passes {h : Hif} {i : Nat} {b : List Byte} (ht : h.turn = some i) (hw : h.Whole i b) (hs : h.headStatus i b = 0)
    (hr : reserveOf (headOf i b) ≤ (h.pair i).rqSlots - 1) : h.fetch i b = h.passes (headOf i b) (h.slotsTaken i b (reserveOf (headOf i b))) := by
  have hbig : decide ((h.pair i).rqSlots - 1 < reserveOf (headOf i b)) = false := by simpa using hr
  unfold Hif.fetch
  rw [if_neg (by simp [ht])]
  extract_lets p plen q est res big st h1
  have hb : big = false := hbig
  clear_value big
  subst hb
  rw [if_neg (by simp [p, plen, q, hw.1, hw.2]), if_neg (show ¬st ≠ 0 from fun h => h hs)]
  rfl

/-- A command that passes joins those fetched, with its reservation; a QUEUE_RESIZE begins the interval of R385 for the pair that it names. -/
theorem Hif.fetch_joins {h : Hif} {i : Nat} {b : List Byte} (ht : h.turn = some i) (hw : h.Whole i b) (hs : h.headStatus i b = 0)
    (hr : reserveOf (headOf i b) ≤ (h.pair i).rqSlots - 1) (ho : (headOf i b).op ≠ 0x2100) (hm : h.mgtRestart = false) :
    ∃ g : Hif, h.fetch i b = ({ g with fetched := h.fetched ++ [{ req := headOf i b, res := reserveOf (headOf i b) }] }, .pass (headOf i b) (reserveOf (headOf i b))) ∧
      g.staged = h.staged ∧ (g.pair i).cqHead = ((h.pair i).cqHead + slotsOf (fieldLE b 18 2)) % (h.pair i).cqSlots ∧
      (g.pair i).reserved = (h.pair i).reserved + reserveOf (headOf i b) := by
  have hfetch := Hif.fetch_passes ht hw hs hr
  have hpair := Hif.pair_slotsTaken b (reserveOf (headOf i b)) (Hif.active_of_turn ht)
  rw [Hif.passes, if_neg ho, if_neg (Bool.eq_false_iff.mp hm)] at hfetch
  dsimp only at hfetch
  split at hfetch
  · refine ⟨_, hfetch, rfl, ?_, ?_⟩ <;> rw [Hif.pair_onPair] <;> split <;> rw [hpair] <;> rfl
  · refine ⟨_, hfetch, rfl, ?_, ?_⟩ <;> rw [hpair] <;> rfl

theorem Dev.kept_satCheck (b d : Dev) : d.host.Kept (Dev.satCheck b d).host := by
  rw [Dev.host_satCheck]
  exact .refl _

/-- A command that is answered at its fetch: its reply waits, and only completions follow (R27, R377, R388). -/
theorem Dev.fetch_answers {d : Dev} {i : Nat} {b : List Byte} {g : Hif} {q : HostReq} {res st : Nat} {dup : Bool} (h : d.host.fetch i b = (g, .reply q res st dup))
    (ha : (g.pair q.h.pair).active = true) (hs : st ≠ 0) :
    (d.fetch i b).Answers q st ∧ g.Kept (d.fetch i b).host ∧ (q.h.batch = 0 → (d.fetch i b).host.staged = g.staged) := by
  unfold Dev.fetch
  simp only [h]
  have hr := Dev.kept_reply { d with host := g } q res (.st st) d.ctl.cycle 0 dup
  have hm := (Dev.reply { d with host := g } q res (.st st) d.ctl.cycle 0 dup).kept_rejectedMember q st
  have hans : (Dev.reply { d with host := g } q res (.st st) d.ctl.cycle 0 dup).Answers q st := Dev.answers_reply _ res (r := .st st) _ 0 dup ha hs
  refine ⟨hans.kept hm, hr.trans hm, fun hb => ?_⟩
  rw [Dev.rejectedMember_alone _ st hb, Dev.staged_reply]

theorem Dev.fetch_silent {d : Dev} {i : Nat} {b : List Byte} {g : Hif} (h : d.host.fetch i b = (g, .none)) : d.fetch i b = { d with host := g } := by
  unfold Dev.fetch
  simp only [h]

theorem Dev.fetch_passed {d : Dev} {i : Nat} {b : List Byte} {g : Hif} {q : HostReq} {res : Nat} (h : d.host.fetch i b = (g, .pass q res)) : d.fetch i b = { d with host := g } := by
  unfold Dev.fetch
  simp only [h]

theorem Dev.fetch_stop {d : Dev} {i : Nat} {b : List Byte} {g : Hif} {q : HostReq} (h : d.host.fetch i b = (g, .estop q)) : d.fetch i b = Dev.admitStop { d with host := g } q := by
  unfold Dev.fetch
  simp only [h]

/-- An emergency stop that passes its checks is staged for the first Meridian whose gate is open (R66). -/
theorem Dev.admitStop_staged {d : Dev} {q : HostReq} (ho : q.op = 0x2100) (hp : plenOk 0x2100 q.pay = true) (hk : [0, 1, 2, 5].contains q.h.kind = true)
    (hg : targetOk q.h.kind q.h.index = true) (hc : (d.estopCheck q).status = 0) (hrec : d.host.recovery = false) (hrole : d.ring.role ≠ 5) (hrun : d.ctl.running = true) :
    d.admitStop q = { d with host := { d.host with staged := d.host.staged ++ [{ req := q, meridian := d.openMeridian, res := 0 }] } } := by
  have hr : (match opDesc q.op with | some o => d.roleCheck o q.h.pair | none => 0) = 0 := by
    split
    · simp [Dev.roleCheck, hrec, hrole]
    · rfl
  unfold Dev.admitStop
  refine (if_neg ?_).trans ((if_neg ?_).trans (if_pos hrun))
  · rw [ho, hp, hk, hg]
    simpa using hc
  · exact fun h => h hr

theorem completes_fetch {i : Nat} {b : List Byte} {s : State} {P : Dev → Prop} (hl : s.dev.host.linkUp = true) (h : P (Dev.satCheck s.dev (s.dev.fetch i b))) :
    Completes (.commandFetch i b) s P :=
  completes_act (f := fun d => d.hiu (fun d => d.fetch i b)) rfl (by rw [Dev.hiu_up hl]; exact h)

/-! ## Admission (R26 to R29, R375, R403) -/

/-- The check of a command changes nothing but the nonces and the Logbook's own record of a refusal (R462). -/
theorem Dev.core_admits (d : Dev) (q : HostReq) (late room : Nat) :
    ∃ a b l, (d.admits q late room).1.core = ({ d with host := { d.host with nonceLog := a, nonceSafe := b }, log := l } : Dev).core := by
  have ht (st : Nat) : ∃ a b l, (d.authTaken q st).core = ({ d with host := { d.host with nonceLog := a, nonceSafe := b }, log := l } : Dev).core := by
    unfold Dev.authTaken
    split
    · extract_lets
      split <;> exact ⟨_, _, _, rfl⟩
    · exact ⟨_, _, _, rfl⟩
    · exact ⟨_, _, _, rfl⟩
    · exact ⟨_, _, _, rfl⟩
  have hd : ∃ a b l, d.core = ({ d with host := { d.host with nonceLog := a, nonceSafe := b }, log := l } : Dev).core := ⟨_, _, _, rfl⟩
  unfold Dev.admits
  split
  · exact hd
  · split
    · exact hd
    · extract_lets c p a d1 r
      split
      · exact hd
      · have h1 := ht a
        repeat' split
        all_goals exact h1

/-- What admission reads of the device after the check is as it was. -/
structure Dev.Admitting (d e : Dev) : Prop where
  staged : e.host.staged = d.host.staged
  fetched : e.host.fetched = d.host.fetched
  batches : e.host.batches = d.host.batches
  pairs : e.host.pairs = d.host.pairs
  running : e.ctl.running = d.ctl.running
  meridian : e.openMeridian = d.openMeridian

theorem Dev.admitting_admits (d : Dev) (q : HostReq) (late room : Nat) : d.Admitting (d.admits q late room).1 := by
  obtain ⟨a, b, l, h⟩ := d.core_admits q late room
  have hg : (d.admits q late room).1.ctl.gate = d.ctl.gate := congrArg (fun e => e.ctl.gate) h
  have hc : (d.admits q late room).1.ctl.cycle = d.ctl.cycle := congrArg (fun e => e.ctl.cycle) h
  exact ⟨congrArg (fun e => e.host.staged) h, congrArg (fun e => e.host.fetched) h, congrArg (fun e => e.host.batches) h, congrArg (fun e => e.host.pairs) h,
    congrArg (fun e => e.ctl.running) h, by rw [Dev.openMeridian, hg, hc, ← Dev.openMeridian]⟩

/-- A command whose EFFECTIVE its opcode does not accept is rejected (R400). -/
theorem Dev.headParams_of_not_effOk (d : Dev) {o : OpDesc} {q : HostReq} (c : Nat) (h : effOk o.eff q.h.effective = false) : d.headParams o q c ≠ 0 := by
  unfold Dev.headParams
  split
  · omega
  · split
    · decide
    · rw [if_pos (by simp [h])]
      decide

/-- A command that passes and is not immediate does not name the immediate EFFECTIVE (R30, R400). -/
theorem Dev.effective_of_admits {d : Dev} {o : OpDesc} {q : HostReq} {late room : Nat} (ho : opDesc q.op = some o) (hi : immediateOp o.eff = false)
    (hs : (d.admits q late room).2.status = 0) : q.h.effective ≠ immediate := by
  intro he
  have hok : effOk o.eff q.h.effective = false := by
    rw [he]
    cases hf : o.eff <;> simp_all [effOk, immediateOp]
  have hp := d.headParams_of_not_effOk (d.chkOf q).status hok
  unfold Dev.admits at hs
  simp only [ho] at hs
  split at hs
  · simp [CmdRes.st] at hs
  · dsimp only at hs
    split at hs
    next h => exact hp (h.trans hs)
    next => exact hp hs

theorem Dev.domainOn_eq (d : Dev) (q : HostReq) : ∃ p, d.domainOn q = { d with power := p } := by
  unfold Dev.domainOn
  split
  · exact ⟨_, rfl⟩
  · exact ⟨_, rfl⟩

theorem Dev.le_twinMeridian (d : Dev) (n k m : Nat) : m ≤ d.twinMeridian n k m := by
  induction k generalizing m with
  | zero => exact Nat.le_refl m
  | succ k ih =>
    rw [Dev.twinMeridian]
    split
    · exact Nat.le_refl m
    · exact Nat.le_trans (Nat.le_succ m) (ih (m + 1))

theorem Dev.openMeridian_le_soonest (d : Dev) (q : HostReq) : d.openMeridian ≤ d.soonest q := by
  unfold Dev.soonest
  split
  · exact Nat.le_max_left _ _
  · exact Nat.le_refl _

/-- While cycles run, a command of kind M is staged for EFFECTIVE, or for a Meridian whose gate is open (R28, R403). -/
theorem Dev.stageOne_running {d : Dev} (q : HostReq) (res : Nat) (hr : d.ctl.running = true) :
    ∃ m, (d.stageOne q res).host = { d.host with staged := d.host.staged ++ [{ req := q, meridian := m, res := res }] } ∧
      (q.h.effective ≠ 0 → m = q.h.effective) ∧ (q.h.effective = 0 → d.openMeridian ≤ m) := by
  unfold Dev.stageOne
  extract_lets m w d1
  obtain ⟨p, hp⟩ := d.domainOn_eq q
  have h1 : d1.host = d.host := congrArg (fun e => e.host) hp
  rw [if_pos (show w = true by simp [w, Dev.waits, hr])]
  exact ⟨m, congrArg (fun h : Hif => { h with staged := h.staged ++ [({ req := q, meridian := m, res := res } : Staged)] }) h1, fun he => if_neg he, fun he =>
    Nat.le_trans (d.openMeridian_le_soonest q) (by rw [show m = _ from if_pos he]; exact d.le_twinMeridian _ _ _)⟩

/-- While cycles run, the members of a batch that closes get one Meridian (R26, R31). -/
theorem Dev.closeBatch_running {d : Dev} (q : HostReq) (m0 : Nat) (hr : d.ctl.running = true) :
    (d.closeBatch q m0).host.fetched = d.host.fetched ∧
    ∃ m, (d.closeBatch q m0).host.staged = d.host.staged.filter (fun x => !x.member q.h.batch q.h.effective 0) ++
        (d.host.staged.filter (fun x => x.member q.h.batch q.h.effective 0)).map (fun (x : Staged) => { x with meridian := m }) ∧
      (q.h.effective ≠ 0 → m = q.h.effective) ∧ (q.h.effective = 0 → m0 ≤ m) := by
  unfold Dev.closeBatch
  extract_lets id eff ss rest n m _ d1
  have hw : d1.waits eff = true := by simp [Dev.waits, show d1.ctl.running = true from hr]
  rw [if_pos hw]
  exact ⟨rfl, m, rfl, fun he => if_neg he, fun he => by rw [show m = _ from if_pos he]; exact d.le_twinMeridian _ _ _⟩

/-- The open batch takes one more member (R27, R29). -/
def Dev.BatchTakes (d : Dev) (id eff : Nat) : Prop :=
  match d.host.batch? id eff with
  | some b => b.failed = false ∧ b.count < 256
  | none => (d.host.batches.filter (fun b => !b.failed)).length < 64

/-- The device with one more member of an open batch. -/
def Dev.withMember (d : Dev) (q : HostReq) (res : Nat) : Dev :=
  let d := (d.batchGrows q).domainOn q
  { d with host := { d.host with staged := d.host.staged ++ [{ req := q, meridian := 0, res := res }] } }

theorem Dev.withMember_keeps (d : Dev) (q : HostReq) (res : Nat) :
    (d.withMember q res).host.staged = d.host.staged ++ [{ req := q, meridian := 0, res := res }] ∧ (d.withMember q res).host.fetched = d.host.fetched ∧
    (d.withMember q res).ctl.running = d.ctl.running := by
  have hg : (d.batchGrows q).host.staged = d.host.staged ∧ (d.batchGrows q).host.fetched = d.host.fetched ∧ (d.batchGrows q).ctl = d.ctl := by
    unfold Dev.batchGrows
    extract_lets
    split <;> exact ⟨rfl, rfl, rfl⟩
  obtain ⟨hs, hf, hc⟩ := hg
  unfold Dev.withMember
  obtain ⟨p, hp⟩ := (d.batchGrows q).domainOn_eq q
  rw [hp]
  exact ⟨congrArg (· ++ _) hs, hf, congrArg Ctl.running hc⟩

theorem Dev.admitMember_taken {d : Dev} {q : HostReq} (res : Nat) {c : CmdRes} (hc : c.status = 0) (hb : d.BatchTakes q.h.batch q.h.effective) :
    d.admitMember q res c = if bit q.h.flags 0 then (d.withMember q res).closeBatch q (d.soonest q) else d.withMember q res := by
  unfold Dev.BatchTakes at hb
  unfold Dev.admitMember
  refine (if_neg (by simp [hc])).trans ((if_neg ?_).trans ((if_neg ?_).trans rfl))
  · cases hq : d.host.batch? q.h.batch q.h.effective with
    | none => simp
    | some b =>
      simp only [hq] at hb
      simp [hb.1]
  · unfold Dev.batchLimit
    cases hq : d.host.batch? q.h.batch q.h.effective with
    | none =>
      simp only [hq] at hb
      simpa using hb
    | some b =>
      simp only [hq] at hb
      simp [hb.2]

/-- A member whose own checks fail is answered, and takes the open members with it (R27). -/
theorem Dev.admitMember_rejected {d : Dev} {q : HostReq} (res : Nat) {c : CmdRes} (hc : c.status ≠ 0) (ha : (d.host.pair q.h.pair).active = true) :
    (d.admitMember q res c).Answers q c.status ∧ (d.admitMember q res c).host.fetched = d.host.fetched ∧
    (d.admitMember q res c).host.staged = d.host.staged.filter (fun x => !x.member q.h.batch q.h.effective 0) := by
  unfold Dev.admitMember
  extract_lets id eff close drop
  rw [if_pos hc]
  obtain ⟨hk, hs⟩ := (d.reply q res c d.ctl.cycle 0).kept_failBatch id eff q.h.pair
  have hd (e : Dev) : e.host.Kept (drop e).host ∧ (drop e).host.staged = e.host.staged := by
    show e.host.Kept (if _ then _ else _ : Dev).host ∧ (if _ then _ else _ : Dev).host.staged = _
    split
    · exact ⟨⟨fun _ => .refl _, rfl, rfl⟩, rfl⟩
    · exact ⟨.refl _, rfl⟩
  obtain ⟨hdk, hds⟩ := hd ((d.reply q res c d.ctl.cycle 0).failBatch id eff q.h.pair)
  refine ⟨(d.answers_reply res d.ctl.cycle 0 false ha hc).kept (hk.trans hdk), ?_, ?_⟩
  · exact (hdk.fetched.trans hk.fetched).trans (d.kept_reply ..).fetched
  · rw [hds, hs, Dev.staged_reply]

theorem Dev.admission_none {d : Dev} (h : d.host.fetched = [] ∨ d.host.mgtRestart = true) : d.admission = d := by
  unfold Dev.admission
  split
  · rfl
  next f fs hf => exact if_pos (h.resolve_left (by simp [hf]))

/-- The device that checks the oldest fetched command, and what it finds in it. -/
def Dev.checksFront (d : Dev) (f : Fetched) (fs : List Fetched) : Dev × CmdRes :=
  let e : Dev := { d with host := { d.host with fetched := fs } }
  e.admits f.req (e.gateCheck f.req) (e.roomCheck f.req d.host.stagingUsed)

theorem Dev.admission_front {d : Dev} {f : Fetched} {fs : List Fetched} (hf : d.host.fetched = f :: fs) (hr : d.host.mgtRestart = false) :
    d.admission =
      (let r := d.checksFront f fs
       if f.req.h.effective ≠ immediate && f.req.h.batch ≠ 0 then r.1.admitMember f.req f.res r.2
       else if r.2.status ≠ 0 then r.1.reply f.req f.res r.2 d.ctl.cycle 0
       else if (match opDesc f.req.op with | some o => immediateOp o.eff | none => true) then r.1.takes f.req f.res 0
       else r.1.stageOne f.req f.res) := by
  unfold Dev.admission
  rw [hf]
  exact if_neg (Bool.eq_false_iff.mp hr)

section
variable {d : Dev} {f : Fetched} {fs : List Fetched}

theorem Dev.admitting_checksFront : Dev.Admitting { d with host := { d.host with fetched := fs } } (d.checksFront f fs).1 := Dev.admitting_admits _ _ _ _

theorem Dev.active_checksFront (ha : (d.host.pair f.req.h.pair).active = true) : ((d.checksFront f fs).1.host.pair f.req.h.pair).active = true := by
  have hp : (d.checksFront f fs).1.host.pairs = d.host.pairs := (Dev.admitting_checksFront (d := d)).pairs
  unfold Hif.pair
  rw [hp]
  exact ha

variable (hf : d.host.fetched = f :: fs) (hm : d.host.mgtRestart = false)
include hf hm

/-- A command that is no member of a batch and fails its checks is answered, and nothing is staged (R403). -/
theorem Dev.admission_rejected (ha : (d.host.pair f.req.h.pair).active = true) (hn : f.req.h.effective = immediate ∨ f.req.h.batch = 0) (hs : (d.checksFront f fs).2.status ≠ 0) :
    d.admission.Answers f.req (d.checksFront f fs).2.status ∧ d.admission.host.fetched = fs ∧ d.admission.host.staged = d.host.staged := by
  have hk := Dev.admitting_checksFront (d := d) (f := f) (fs := fs)
  rw [Dev.admission_front hf hm]
  dsimp only
  rw [if_neg (by rcases hn with h | h <;> simp [h]), if_pos hs]
  exact ⟨Dev.answers_reply _ _ _ _ _ (Dev.active_checksFront ha) hs, (Dev.kept_reply ..).fetched.trans hk.fetched, (Dev.staged_reply ..).trans hk.staged⟩

/-- A member of a batch that fails its checks is answered, and the open members go with it (R27). -/
theorem Dev.admission_memberRejected (ha : (d.host.pair f.req.h.pair).active = true) (he : f.req.h.effective ≠ immediate) (hb : f.req.h.batch ≠ 0)
    (hs : (d.checksFront f fs).2.status ≠ 0) :
    d.admission.Answers f.req (d.checksFront f fs).2.status ∧ d.admission.host.fetched = fs ∧
      d.admission.host.staged = d.host.staged.filter (fun x => !x.member f.req.h.batch f.req.h.effective 0) := by
  have hk := Dev.admitting_checksFront (d := d) (f := f) (fs := fs)
  rw [Dev.admission_front hf hm]
  dsimp only
  rw [if_pos (by simp [he, hb])]
  obtain ⟨h1, h2, h3⟩ := Dev.admitMember_rejected f.res hs (Dev.active_checksFront ha)
  exact ⟨h1, h2.trans hk.fetched, h3.trans (by rw [hk.staged])⟩

/-- A command of kind M by itself that passes is staged while cycles run (R28, R403). -/
theorem Dev.admission_staged {o : OpDesc} (ho : opDesc f.req.op = some o) (hi : immediateOp o.eff = false) (hb : f.req.h.batch = 0) (hs : (d.checksFront f fs).2.status = 0)
    (hr : d.ctl.running = true) :
    d.admission.host.fetched = fs ∧ ∃ m, d.admission.host.staged = d.host.staged ++ [{ req := f.req, meridian := m, res := f.res }] ∧
      (f.req.h.effective ≠ 0 → m = f.req.h.effective) ∧ (f.req.h.effective = 0 → d.openMeridian ≤ m) := by
  have hk := Dev.admitting_checksFront (d := d) (f := f) (fs := fs)
  obtain ⟨m, hh, hm1, hm2⟩ := (d.checksFront f fs).1.stageOne_running f.req f.res (hk.running.trans hr)
  rw [Dev.admission_front hf hm]
  simp only [ho, hi]
  rw [if_neg (by simp [hb]), if_neg (fun h => h hs), if_neg Bool.false_ne_true, hh]
  refine ⟨hk.fetched, m, congrArg (· ++ _) hk.staged, hm1, fun he => ?_⟩
  have := hm2 he
  rwa [hk.meridian] at this

/-- A member of kind M that passes joins its open batch, or closes it (R26). -/
theorem Dev.admission_member {o : OpDesc} (ho : opDesc f.req.op = some o) (hi : immediateOp o.eff = false) (hb : f.req.h.batch ≠ 0) (hs : (d.checksFront f fs).2.status = 0)
    (ht : d.BatchTakes f.req.h.batch f.req.h.effective) :
    d.admission = if bit f.req.h.flags 0 then ((d.checksFront f fs).1.withMember f.req f.res).closeBatch f.req ((d.checksFront f fs).1.soonest f.req)
      else (d.checksFront f fs).1.withMember f.req f.res := by
  have hk := Dev.admitting_checksFront (d := d) (f := f) (fs := fs)
  have he : f.req.h.effective ≠ immediate := Dev.effective_of_admits ho hi hs
  have ht' : (d.checksFront f fs).1.BatchTakes f.req.h.batch f.req.h.effective := by
    unfold Dev.BatchTakes Hif.batch? at ht ⊢
    rw [hk.batches]
    exact ht
  rw [Dev.admission_front hf hm]
  dsimp only
  rw [if_pos (by simp [he, hb]), Dev.admitMember_taken _ hs ht']

end

/-- Settles O54: each outcome of a fetch and of an admission in turn. -/
theorem commandsFetchedAndAdmitted : Obligations.CommandsFetchedAndAdmitted := by
  intro s
  refine ⟨fun i b hl ht => completes_fetch hl ?_, fun i b hl ht => ?_, fun h => completes_act (f := Dev.admission) rfl ?_, fun f fs hf hm ha => ?_⟩
  · rw [Dev.fetch_silent (Hif.fetch_idle ht)]
    exact Dev.core_satCheck _ _
  · have hact := Hif.active_of_turn ht
    refine ⟨fun hw => completes_fetch hl ?_, fun hw hs => completes_fetch hl ?_, fun hw hs hr ho => ⟨fun hm => completes_fetch hl ?_, fun hm => completes_fetch hl ?_⟩,
      fun hw hs ho hp hk hg hc hrec hrole hrun => completes_fetch hl ?_⟩
    · rw [Dev.fetch_silent (Hif.fetch_waits ht hw)]
      exact Dev.core_satCheck _ _
    · obtain ⟨res, hfetch⟩ := Hif.fetch_rejected ht hw hs
      have hpair := Hif.pair_slotsTaken b res hact
      obtain ⟨hans, hkept, -⟩ := Dev.fetch_answers hfetch (by rw [show (headOf i b).h.pair = i from rfl, hpair]; exact hact) hs
      have hkept := hkept.trans (Dev.kept_satCheck s.dev _)
      refine ⟨hans.kept (Dev.kept_satCheck s.dev _), ?_, ?_, hkept.fetched, hkept.rr⟩
      · rw [(hkept.pair i).slotErr, hpair]
        exact Bool.or_eq_true_iff.mpr (.inr (decide_eq_true hs))
      · rw [(hkept.pair i).cqHead, hpair]
        rfl
    · have hfetch := Hif.fetch_passes ht hw hs hr
      rw [Hif.passes, if_neg ho, if_pos hm] at hfetch
      have hpair := Hif.pair_slotsTaken b (reserveOf (headOf i b)) hact
      obtain ⟨hans, hkept, hstaged⟩ := Dev.fetch_answers hfetch (by rw [show (headOf i b).h.pair = i from rfl, hpair]; exact hact) (by decide)
      refine ⟨hans.kept (Dev.kept_satCheck s.dev _), (hkept.trans (Dev.kept_satCheck s.dev _)).fetched, fun hb => ?_⟩
      rw [Dev.host_satCheck]
      exact hstaged hb
    · obtain ⟨g, hfetch, hstaged, hhead, hres⟩ := Hif.fetch_joins ht hw hs hr ho hm
      rw [Dev.fetch_passed hfetch, Dev.host_satCheck]
      exact ⟨Dev.core_satCheck _ _, rfl, hstaged, hhead, hres⟩
    · have hr : reserveOf (headOf i b) = 0 := if_pos ho
      have hfetch := Hif.fetch_passes ht hw hs (by omega)
      rw [Hif.passes, if_pos ho] at hfetch
      rw [Dev.fetch_stop hfetch, Dev.admitStop_staged (d := { s.dev with host := s.dev.host.slotsTaken i b (reserveOf (headOf i b)) }) ho hp hk hg hc hrec hrole hrun, Dev.host_satCheck]
      exact ⟨Dev.core_satCheck _ _, rfl, rfl⟩
  · rw [Dev.admission_none h]
    exact Dev.core_satCheck _ _
  · refine ⟨fun hid hs => completes_act (f := Dev.admission) rfl ?_, fun ⟨o, ho, hi⟩ hid hs hr => completes_act (f := Dev.admission) rfl ?_,
      fun ⟨o, ho, hi⟩ hid hs ht hb => completes_act (f := Dev.admission) rfl ?_, fun ⟨o, ho, hi⟩ hid hs ht hb hr => completes_act (f := Dev.admission) rfl ?_,
      fun he hid hs => completes_act (f := Dev.admission) rfl ?_, fun he hs => completes_act (f := Dev.admission) rfl ?_⟩
    · obtain ⟨h1, h2⟩ := Dev.admission_rejected hf hm ha (.inr hid) hs
      exact ⟨h1.kept (Dev.kept_satCheck s.dev _), by rwa [Dev.host_satCheck]⟩
    · rw [Dev.host_satCheck]
      exact Dev.admission_staged hf hm ho hi hid hs hr
    · rw [Dev.host_satCheck, Dev.admission_member hf hm ho hi hid hs ht, if_neg (Bool.eq_false_iff.mp hb)]
      have hk := Dev.admitting_checksFront (d := s.dev) (f := f) (fs := fs)
      obtain ⟨hst, hfe, -⟩ := (s.dev.checksFront f fs).1.withMember_keeps f.req f.res
      exact ⟨hfe.trans hk.fetched, hst.trans (by rw [hk.staged])⟩
    · rw [Dev.host_satCheck, Dev.admission_member hf hm ho hi hid hs ht, if_pos hb]
      have hk := Dev.admitting_checksFront (d := s.dev) (f := f) (fs := fs)
      obtain ⟨hst, hfe, hrun⟩ := (s.dev.checksFront f fs).1.withMember_keeps f.req f.res
      obtain ⟨hcf, m, hcs, hm1, hm2⟩ := ((s.dev.checksFront f fs).1.withMember f.req f.res).closeBatch_running f.req ((s.dev.checksFront f fs).1.soonest f.req) (hrun.trans (hk.running.trans hr))
      refine ⟨hcf.trans (hfe.trans hk.fetched), m, hcs.trans ?_, hm1, fun he => ?_⟩
      · have hself : ({ req := f.req, meridian := 0, res := f.res } : Staged).member f.req.h.batch f.req.h.effective 0 = true := by simp [Staged.member, hid]
        rw [hst, hk.staged, List.filter_append, List.filter_append]
        simp [hself]
      · exact Nat.le_trans (Nat.le_of_eq hk.meridian.symm) (Nat.le_trans (Dev.openMeridian_le_soonest _ _) (hm2 he))
    · obtain ⟨h1, h2⟩ := Dev.admission_memberRejected hf hm ha he hid hs
      exact ⟨h1.kept (Dev.kept_satCheck s.dev _), by rwa [Dev.host_satCheck]⟩
    · obtain ⟨h1, h2⟩ := Dev.admission_rejected hf hm ha (.inl he) hs
      exact ⟨h1.kept (Dev.kept_satCheck s.dev _), by rwa [Dev.host_satCheck]⟩

end Sys2Proof.Machine

/-! PROOFS. Gate, Gather and the correction frame (R26, R27, R52, R279, R284, R295). -/

namespace Sys2Proof.Machine

open Sys2Proof

/-! ## What Gather keeps of the slots' feedback -/

/-- What Gather stores of an input slot with a servo axis. -/
def Axis.slotView (ax : Axis) : Feedback × Bool × Bool := (ax.fb, ax.fbMissed, ax.fbHeld)

theorem Axis.slotView_onWork (ax : Axis) (f : Work → Work) : (ax.onWork f).slotView = ax.slotView := by
  unfold Axis.onWork
  split <;> rfl

/-- The part of the device that only the taking of a cycle's inputs changes. -/
structure GatherView where
  cycle : Nat
  gathered : Bool
  plates : List Memory
  flash : Memory
  engines : List Engine
  map : FrameMap
  stats : Tab SlotStat
  axes : List Nat
  slots : Nat → Option (Feedback × Bool × Bool)

/-- That part of a device. -/
def Dev.gatherView (d : Dev) : GatherView :=
  { cycle := d.ctl.cycle, gathered := d.ctl.gathered, plates := d.plates, flash := d.flash, engines := d.engines, map := d.ring.map, stats := d.ring.stats,
    axes := d.motion.axes.map Prod.fst, slots := fun a => (d.axis? a).map Axis.slotView }

theorem Dev.gatherView_of_core {d e : Dev} (h : d.core = e.core) : d.gatherView = e.gatherView := show d.core.gatherView = e.core.gatherView from congrArg Dev.gatherView h

theorem Dev.gatherView_foldl {α : Type} {f : Dev → α → Dev} (h : ∀ d x, (f d x).gatherView = d.gatherView) (l : List α) (d : Dev) : (l.foldl f d).gatherView = d.gatherView := by
  induction l generalizing d with
  | nil => rfl
  | cons x l ih => rw [List.foldl_cons, ih, h]

theorem Tab.map_fst_upd {α : Type} (t : Tab α) (k : Nat) (f : α → α) : (Tab.upd t k f).map Prod.fst = t.map Prod.fst := by
  unfold Tab.upd
  rw [List.map_map]
  refine List.map_congr_left fun e _ => ?_
  rw [Function.comp]
  split <;> rfl

theorem Tab.map_fst_mapAll {α : Type} (t : Tab α) (f : Nat → α → α) : (Tab.mapAll t f).map Prod.fst = t.map Prod.fst := by
  unfold Tab.mapAll
  rw [List.map_map]
  rfl

theorem Tab.find_mapAll {α : Type} (t : Tab α) (f : Nat → α → α) (k : Nat) : Tab.find (Tab.mapAll t f) k = (Tab.find t k).map (f k) := by
  induction t with
  | nil => rfl
  | cons e r ih =>
    obtain ⟨j, b⟩ := e
    simp only [Tab.mapAll, List.map_cons, Tab.find] at ih ⊢
    split
    next h => rw [h, Option.map_some]
    next => exact ih

/-- A change of an axis that keeps what it has of its slot. -/
theorem Dev.gatherView_onAxis (d : Dev) (a : Nat) {f : Axis → Axis} (h : ∀ ax, d.axis? a = some ax → (f ax).slotView = ax.slotView) : (d.onAxis a f).gatherView = d.gatherView := by
  have hs : (fun b => ((d.onAxis a f).axis? b).map Axis.slotView) = fun b => (d.axis? b).map Axis.slotView := by
    funext b
    rw [Dev.axis?_onAxis]
    split
    next hb =>
      rw [hb]
      cases hx : d.axis? a with
      | none => rfl
      | some ax => exact congrArg some (h ax hx)
    next => rfl
  have hk : (d.onAxis a f).motion.axes.map Prod.fst = d.motion.axes.map Prod.fst := Tab.map_fst_upd _ _ _
  unfold Dev.gatherView
  rw [hs, hk]
  rfl

@[simp] theorem Dev.gatherView_emit (d : Dev) (e : Ev) : (d.emit e).gatherView = d.gatherView := Dev.gatherView_of_core (Dev.core_emit d e)
@[simp] theorem Dev.gatherView_emits (d : Dev) (es : List Ev) : (d.emits es).gatherView = d.gatherView := Dev.gatherView_of_core (Dev.core_emits d es)
@[simp] theorem Dev.gatherView_satCheck (b d : Dev) : (Dev.satCheck b d).gatherView = d.gatherView := Dev.gatherView_of_core (Dev.core_satCheck b d)

@[simp] theorem Dev.gatherView_reply (d : Dev) (q : HostReq) (res : Nat) (r : CmdRes) (done hold : Nat) (dup : Bool) : (d.reply q res r done hold dup).gatherView = d.gatherView :=
  (Dev.gatherView_of_core (d.reply_past q res r done hold dup)).trans rfl

@[simp] theorem Dev.gatherView_opEnd (d : Dev) (o : Option OpenOp) (r : CmdRes) (hold : Nat) : (d.opEnd o r hold).gatherView = d.gatherView := by
  unfold Dev.opEnd
  split
  · split
    · exact (Dev.gatherView_reply _ _ _ _ _ _ _).trans rfl
    · rfl
  · rfl

theorem Dev.gatherView_opsEnd (d : Dev) (p : HostReq → Bool) (r : CmdRes) (hold : Nat) : (d.opsEnd p r hold).gatherView = d.gatherView :=
  Dev.gatherView_foldl (fun d o => Dev.gatherView_opEnd d (some o) r hold) _ d

@[simp] theorem Dev.gatherView_retract (d : Dev) (a cause : Nat) : (d.retract a cause).gatherView = d.gatherView := by
  unfold Dev.retract
  split
  · split
    · exact d.gatherView_onAxis a fun _ _ => rfl
    · rfl
  · rfl

@[simp] theorem Dev.gatherView_ephemeris (d : Dev) : d.ephemeris.gatherView = d.gatherView := rfl

@[simp] theorem Dev.gatherView_respoint (d : Dev) (a : Nat) : (d.respoint a).gatherView = d.gatherView := by
  unfold Dev.respoint
  split
  · rfl
  next ax hax =>
    extract_lets o cam r nc ax1
    split
    · rfl
    · rw [Dev.gatherView_ephemeris, Dev.gatherView_emits]
      refine d.gatherView_onAxis a fun x hx => ?_
      obtain rfl : ax = x := Option.some.inj (hax.symm.trans hx)
      exact ax.slotView_onWork _

@[simp] theorem Dev.gatherView_refresh (d : Dev) (a : Nat) : (d.refresh a).gatherView = d.gatherView := by
  unfold Dev.refresh
  split
  · split
    · exact Dev.gatherView_ephemeris d
    · exact Dev.gatherView_respoint d a
  · rfl

theorem Dev.gatherView_retractIf (d : Dev) (a : Nat) {f : Dev → Dev} (h : (f d).gatherView = d.gatherView) : (d.retractIf a f).gatherView = d.gatherView := by
  unfold Dev.retractIf
  extract_lets e
  split
  · exact h
  · exact (Dev.gatherView_retract _ _ _).trans h

theorem Axis.slotView_reEngage (ax : Axis) (f : Follower) (o : Orrery) (tcyc n0 : Nat) : (ax.reEngage f o tcyc n0).slotView = ax.slotView := by
  unfold Axis.reEngage Axis.engageRun
  split
  · rfl
  · extract_lets
    split <;> rfl

theorem Axis.slotView_phaseMove (ax : Axis) (tcyc n0 : Nat) (tgt : Int) : (ax.phaseMove tcyc n0 tgt).slotView = ax.slotView := by
  unfold Axis.phaseMove Axis.phaseMoveN
  split <;> rfl

@[simp] theorem Dev.gatherView_replanOrr (d : Dev) (i n0 : Nat) (f : Orrery → Orrery) : (d.replanOrr i n0 f).gatherView = d.gatherView := by
  unfold Dev.replanOrr
  extract_lets d1 fs d2
  refine (Dev.gatherView_foldl (fun (d : Dev) (e : Nat × Axis) => d.gatherView_retractIf e.1 (d.gatherView_refresh e.1)) _ _).trans ?_
  refine Eq.trans (Dev.gatherView_foldl (fun (d : Dev) (e : Nat × Axis) => d.gatherView_onAxis e.1 fun ax _ => ?_) _ _) (rfl : d1.gatherView = d.gatherView)
  split
  · exact ax.slotView_reEngage _ _ _ _
  · rfl

@[simp] theorem Dev.gatherView_limitOrr (d : Dev) (i n0 : Nat) : (d.limitOrr i n0).gatherView = d.gatherView := by
  unfold Dev.limitOrr
  split
  · rfl
  · extract_lets b o1 t f e
    have he : e.gatherView = d.gatherView := d.gatherView_replanOrr i n0 f
    clear_value e f t o1 b
    split
    · rfl
    · split
      · exact (e.gatherView_emit _).trans he
      · exact he

theorem Dev.gatherView_orrFaults (d : Dev) (n : Nat) : (d.orrFaults n).gatherView = d.gatherView := by
  refine Dev.gatherView_foldl (fun d e => ?_) _ d
  split
  · have hx := d.gatherView_onAxis e.1 (f := fun ax => { ax with leftOrr := none, orrTold := ax.leftOrr.isNone }) fun _ _ => rfl
    unfold Dev.orrFault
    extract_lets o act
    split
    · exact hx
    · exact (Dev.gatherView_replanOrr _ _ _ _).trans hx
  · rfl

theorem Dev.gatherView_camSwitch (d : Dev) (n c : Nat) : (d.camSwitch n c).gatherView = d.gatherView := by
  unfold Dev.camSwitch
  split
  · rfl
  · extract_lets s put
    split
    · rfl
    · extract_lets us
      split
      · rfl
      · split
        · exact (Dev.gatherView_opsEnd _ _ _ _).trans rfl
        · exact (Dev.gatherView_opsEnd _ _ _ _).trans
            (Dev.gatherView_foldl (fun (d : Dev) (e : Nat × Axis) => d.gatherView_retractIf e.1 (d.gatherView_respoint e.1)) _ _)

theorem Dev.gatherView_advance (d : Dev) : d.advance.gatherView = d.gatherView := by
  unfold Dev.advance
  extract_lets n d1 _ _ d2 d3
  split
  · have h1 : d1.gatherView = d.gatherView := d.gatherView_orrFaults n
    have h3 : d3.gatherView = d2.gatherView := Dev.gatherView_foldl (fun d c => d.gatherView_camSwitch n c) _ _
    exact (Dev.gatherView_foldl (fun d i => d.gatherView_limitOrr i n) _ _).trans (h3.trans h1)
  · rfl

theorem Dev.gatherView_regChannel (d : Dev) (n c : Nat) : (d.regChannel n c).gatherView = d.gatherView := by
  unfold Dev.regChannel
  split
  · rfl
  · extract_lets a put off
    split
    · rfl
    · split
      · extract_lets r d1 d2
        have h2 : d2.gatherView = d.gatherView := by
          show (if _ then _ else _ : Dev).gatherView = _
          split
          · refine Eq.trans (d1.gatherView_onAxis a fun ax _ => ?_) (rfl : d1.gatherView = d.gatherView)
            exact ax.slotView_onWork _
          · rfl
        split
        · rfl
        · split
          · rfl
          · split
            · exact h2
            · rw [Dev.gatherView_refresh]
              exact (d2.gatherView_onAxis a fun ax _ => ax.slotView_phaseMove _ _ _).trans h2
      · rfl

theorem Dev.gatherView_regChannels (d : Dev) : d.regChannels.gatherView = d.gatherView := Dev.gatherView_foldl (fun d c => d.gatherView_regChannel _ c) _ d

/-! ## The gate: late batches fail -/

/-- The device but for its host interface and what events touch. -/
def Dev.offHost (d : Dev) : Dev := { d.core with host := {} }

theorem Dev.offHost_of_past {d e : Dev} (h : e.Past d) : e.offHost = d.offHost := congrArg (fun x : Dev => { x with host := {} }) (show e.core = _ from h)

theorem Dev.gated_of_offHost {d e : Dev} (h : e.offHost = d.offHost) :
    ({ e with ctl := { e.ctl with gate := true } } : Dev).Is { d with ctl := { d.ctl with gate := true }, host := e.host } := by
  have hg : ({ e.offHost with host := e.host, ctl := { e.offHost.ctl with gate := true } } : Dev) = { d.offHost with host := e.host, ctl := { d.offHost.ctl with gate := true } } := by rw [h]
  exact hg

theorem Dev.offHost_withdraw (d : Dev) (p : Staged → Bool) (st : Staged → Nat) : (d.withdraw p st).offHost = d.offHost := by
  have hr : ∀ (l : List Staged) (d : Dev), (l.foldl (fun d s => d.reject s.req s.res (st s)) d).offHost = d.offHost := fun l => by
    induction l with
    | nil => exact fun _ => rfl
    | cons s l ih => exact fun d => (ih _).trans (Dev.offHost_of_past (d.reply_past ..))
  exact (hr _ _).trans rfl

theorem Dev.offHost_batchMark (d : Dev) (id eff pair : Nat) : (d.batchMark id eff pair).offHost = d.offHost := by
  unfold Dev.batchMark
  split
  · split <;> rfl
  · rfl

theorem Dev.offHost_failBatch (d : Dev) (id eff pair : Nat) : (d.failBatch id eff pair).offHost = d.offHost :=
  (Dev.offHost_withdraw _ _ _).trans (d.offHost_batchMark id eff pair)

/-- Batches that fail lose their open members, and the device changes in nothing but its host interface (R27). -/
theorem Dev.failBatches (l : List Batch) (d : Dev) :
    (l.foldl (fun (d : Dev) b => d.failBatch b.id b.effective b.pair) d).offHost = d.offHost ∧
      ∀ x ∈ (l.foldl (fun (d : Dev) b => d.failBatch b.id b.effective b.pair) d).host.staged, x ∈ d.host.staged ∧ ∀ b ∈ l, x.member b.id b.effective 0 = false := by
  induction l generalizing d with
  | nil => exact ⟨rfl, fun x hx => ⟨hx, by simp⟩⟩
  | cons b l ih =>
    obtain ⟨ho, hs⟩ := ih (d.failBatch b.id b.effective b.pair)
    refine ⟨ho.trans (d.offHost_failBatch ..), fun x hx => ?_⟩
    obtain ⟨hx1, hx2⟩ := hs x hx
    rw [(d.kept_failBatch b.id b.effective b.pair).2, List.mem_filter] at hx1
    exact ⟨hx1.1, List.forall_mem_cons.mpr ⟨by simpa using hx1.2, hx2⟩⟩

theorem Dev.offHost_watchStyle (d : Dev) : d.watchStyle.offHost = d.offHost := by
  unfold Dev.watchStyle
  split <;> rfl

/-- The mark of R34 leaves a staged command's header and Meridian. -/
theorem Dev.mem_staged_watchStyle {d : Dev} {x : Staged} (h : x ∈ d.watchStyle.host.staged) :
    ∃ y ∈ d.host.staged, y.req.h = x.req.h ∧ y.meridian = x.meridian := by
  unfold Dev.watchStyle at h
  split at h
  · exact ⟨x, h, rfl, rfl⟩
  · obtain ⟨y, hy, rfl⟩ := List.mem_map.mp h
    exact ⟨y, hy, rfl, rfl⟩

/-- The gate closes, and no member stays of an open batch that named the Meridian (R26 to R28). -/
theorem Dev.gateClose_open {d : Dev} (hr : d.ctl.running = true) (hg : d.ctl.gate = false) :
    d.gateClose.Is { d with ctl := { d.ctl with gate := true }, host := d.gateClose.host } ∧
      ∀ b ∈ d.host.batches, b.failed = false → 0 < b.effective → b.effective ≤ d.ctl.cycle + 1 → b.id ≠ 0 →
        ∀ x ∈ d.gateClose.host.staged, ¬(x.req.h.batch = b.id ∧ x.req.h.effective = b.effective ∧ x.meridian = 0) := by
  unfold Dev.gateClose
  rw [if_neg (by simp [hr, hg])]
  extract_lets n late e
  obtain ⟨ho, hs⟩ := Dev.failBatches late d
  have he : e.offHost = d.offHost := (Dev.offHost_watchStyle _).trans ho
  refine ⟨Dev.gated_of_offHost he, fun b hb hf h0 h1 hi x hx hm => ?_⟩
  obtain ⟨y, hy, hyh, hym⟩ := Dev.mem_staged_watchStyle hx
  have hb' : b ∈ late := List.mem_filter.mpr ⟨hb, by simp [hf, h0, h1, n]⟩
  have hn := (hs y hy).2 b hb'
  simp [Staged.member, hyh, hym, hm, hi] at hn

/-! ## Gather: the frames that have not returned -/

/-- What the judging of a frame's return leaves: the cycle, the Plates, the store, the engines and the axes. -/
def Dev.offRing (d : Dev) : Nat × List Memory × Memory × List Engine × Motion := (d.ctl.cycle, d.plates, d.flash, d.engines, d.motion)

theorem Dev.offRing_of_core {d e : Dev} (h : d.core = e.core) : d.offRing = e.offRing := show d.core.offRing = e.core.offRing from congrArg Dev.offRing h

theorem Dev.offRing_foldl {α : Type} {f : Dev → α → Dev} (h : ∀ d x, (f d x).offRing = d.offRing) (l : List α) (d : Dev) : (l.foldl f d).offRing = d.offRing := by
  induction l generalizing d with
  | nil => rfl
  | cons x l ih => rw [List.foldl_cons, ih, h]

theorem Dev.offRing_opEnd (d : Dev) (o : Option OpenOp) (r : CmdRes) (hold : Nat) : (d.opEnd o r hold).offRing = d.offRing := by
  unfold Dev.opEnd
  split
  · split
    · exact (Dev.offRing_of_core (Dev.reply_past _ _ _ _ _ _ _)).trans rfl
    · rfl
  · rfl

theorem Dev.offRing_ringReplies (d : Dev) : d.ringReplies.offRing = d.offRing := by
  refine Dev.offRing_foldl (fun d o => ?_) _ d
  dsimp only
  split
  · exact d.offRing_opEnd _ _ _
  · rfl

theorem Dev.offRing_enter (d : Dev) (seg st : Nat) : (d.enter seg st).offRing = d.offRing := by
  unfold Dev.enter
  extract_lets old _ d2
  refine d2.offRing_ringReplies.trans ?_
  show (if _ then _ else _ : Dev).offRing = _
  split
  · split <;> rfl
  · split <;> rfl

theorem Dev.offRing_broken (d : Dev) (seg pos : Nat) : (d.broken seg pos).offRing = d.offRing := by
  unfold Dev.broken
  rw [Dev.offRing_of_core (Dev.core_emit _ _)]
  exact d.offRing_enter seg 8

theorem Dev.offRing_returnDeadline (d : Dev) (seg : Nat) : (d.returnDeadline seg).offRing = d.offRing := by
  unfold Dev.returnDeadline
  extract_lets s d1 _
  split
  · rfl
  · split
    · split <;> rfl
    · have h1 : d1.offRing = d.offRing := by
        show (if _ then _ else _ : Dev).offRing = _
        split <;> rfl
      clear_value d1
      split
      · exact h1
      · split
        · exact (Dev.offRing_broken _ _ _).trans h1
        · exact h1

/-! ## Gather: every axis takes its slot -/

/-- The feedback of an axis without an input entry (R295): missed. -/
theorem Dev.feedServo_none {d : Dev} {a : Nat} (ax : Axis) (h : d.ring.map.inputOf 0 a = none) :
    (d.feedServo a ax).fb.fresh = false ∧ (d.feedServo a ax).fb.missed = true ∧ (d.feedServo a ax).fbMissed = true := by
  unfold Dev.feedServo
  rw [h]
  exact ⟨rfl, rfl, rfl⟩

/-- The feedback of an axis with an input entry is that of its slot (R295, R576). -/
theorem Dev.feedServo_some {d : Dev} {a i : Nat} {m : MapEntry} (ax : Axis) (h : d.ring.map.inputOf 0 a = some (i, m)) :
    (d.feedServo a ax).slotView = (d.slotFeedback ax m (Tab.getD d.ring.stats i {}), (Tab.getD d.ring.stats i {}).missed, (Tab.getD d.ring.stats i {}).held) := by
  unfold Dev.feedServo
  rw [h]
  rfl

/-- The device with the feedback, marks and switches of its judged slots taken, before anything follows from them. -/
def Dev.fed (d0 : Dev) : Dev :=
  let d := d0.inputImage.gatherCaps
  { d with
    motion := { d.motion with
      axes := Tab.mapAll d.motion.axes (fun a ax => d.gatherAxis d0.image (d.feedServo a ax))
      steppers := Tab.mapAll d.motion.steppers (fun a s => d.gatherStepper d0.image (d.feedStepper a s))
      regs := Tab.mapAll d.motion.regs (fun _ ch => d.gatherReg d0.image ch) }
    ctl := { d.ctl with gathered := true, missed := d.missedSlots } }

theorem Dev.takeInputs_eq (d : Dev) : d.takeInputs = d.fed.advance.regChannels := rfl

theorem Dev.gatherView_takeInputs (d : Dev) : d.takeInputs.gatherView = d.fed.gatherView :=
  (Dev.gatherView_regChannels _).trans (Dev.gatherView_advance _)

theorem Dev.axis?_fed (d : Dev) (a : Nat) : d.fed.axis? a = (d.axis? a).map (fun ax => d.inputImage.gatherCaps.gatherAxis d.image (d.inputImage.gatherCaps.feedServo a ax)) :=
  Tab.find_mapAll d.inputImage.gatherCaps.motion.axes (fun a ax => d.inputImage.gatherCaps.gatherAxis d.image (d.inputImage.gatherCaps.feedServo a ax)) a

theorem Dev.map_fst_axes_fed (d : Dev) : d.fed.motion.axes.map Prod.fst = d.motion.axes.map Prod.fst :=
  Tab.map_fst_mapAll d.inputImage.gatherCaps.motion.axes (fun a ax => d.inputImage.gatherCaps.gatherAxis d.image (d.inputImage.gatherCaps.feedServo a ax))

/-- What an axis takes of its slot at Gather depends on the map and the judged slots alone. -/
def SlotTaken (map : FrameMap) (stats : Tab SlotStat) (a : Nat) (v : Feedback × Bool × Bool) : Prop :=
  (map.inputOf 0 a = none → v.1.fresh = false ∧ v.1.missed = true ∧ v.2.1 = true) ∧
    ∀ i m, map.inputOf 0 a = some (i, m) →
      (let st := Tab.getD stats i {}
       let bad := st.missed || bit (fieldLE st.content 0 2) 4
       v.2.1 = st.missed ∧ v.2.2 = st.held ∧ v.1.held = st.held ∧ v.1.missed = bad ∧ v.1.fresh = !bad ∧ v.1.count = fieldLE st.content 2 4 ∧
       v.1.fault = bit (fieldLE st.content 0 2) 0 ∧ v.1.trqAct = fieldLES st.content 10 4)

theorem Dev.slotTaken_feedServo (d : Dev) (a : Nat) (ax : Axis) : SlotTaken d.ring.map d.ring.stats a (d.feedServo a ax).slotView := by
  refine ⟨fun h => d.feedServo_none ax h, fun i m h => ?_⟩
  rw [Dev.feedServo_some ax h]
  dsimp only [Dev.slotFeedback]
  exact ⟨rfl, rfl, rfl, rfl, rfl, rfl, rfl, rfl⟩

/-- Every axis has what Gather takes of its slot. -/
def Dev.SlotsTaken (d : Dev) : Prop := ∀ a ax, d.axis? a = some ax → SlotTaken d.ring.map d.ring.stats a ax.slotView

theorem Dev.SlotsTaken.of_gatherView {d e : Dev} (h : d.SlotsTaken) (hv : e.gatherView = d.gatherView) : e.SlotsTaken := by
  intro a ax hax
  have hs : (e.axis? a).map Axis.slotView = (d.axis? a).map Axis.slotView := congrArg (fun v => v.slots a) hv
  have hm : e.ring.map = d.ring.map := congrArg GatherView.map hv
  have ht : e.ring.stats = d.ring.stats := congrArg GatherView.stats hv
  obtain ⟨ax0, hx0, hx⟩ : ∃ ax0, d.axis? a = some ax0 ∧ ax0.slotView = ax.slotView := by simpa [hax] using hs.symm
  rw [hm, ht, ← hx]
  exact h a ax0 hx0

theorem Dev.slotsTaken_fed (d : Dev) : d.fed.SlotsTaken := by
  intro a ax hax
  rw [Dev.axis?_fed] at hax
  obtain ⟨ax0, -, rfl⟩ := Option.map_eq_some_iff.mp hax
  exact d.inputImage.gatherCaps.slotTaken_feedServo a ax0

/-- The device at Gather with the frames judged that have not returned (R313). -/
def Dev.judgedAtGather (d : Dev) : Dev :=
  let e := { d with tu := d.tu.reach (d.mer d.ctl.cycle + d.tringMax + gatherNs) }
  e.segNos.foldl Dev.returnDeadline e

theorem Dev.offRing_withTime (d : Dev) (t : Tu) : { d with tu := t }.offRing = d.offRing := rfl

theorem Dev.offRing_judgedAtGather (d : Dev) : d.judgedAtGather.offRing = d.offRing :=
  (Dev.offRing_foldl Dev.offRing_returnDeadline _ _).trans (d.offRing_withTime _)

theorem Dev.gather_running {d : Dev} (hr : d.ctl.running = true) (hf : d.ctl.first = false) (hg : d.ctl.gathered = false) :
    d.gather = d.judgedAtGather.takeInputs := by
  unfold Dev.gather
  rw [if_neg (by simp [hr, hf, hg])]
  rfl

/-- Gather marks its instant and leaves the cycle, the Plates, the store, the engines and the axes that there are. -/
theorem Dev.gather_keeps {d : Dev} (hr : d.ctl.running = true) (hf : d.ctl.first = false) (hg : d.ctl.gathered = false) :
    d.gather.ctl.gathered = true ∧ d.gather.ctl.cycle = d.ctl.cycle ∧ d.gather.plates = d.plates ∧ d.gather.flash = d.flash ∧ d.gather.engines = d.engines ∧
      d.gather.motion.axes.map Prod.fst = d.motion.axes.map Prod.fst := by
  rw [Dev.gather_running hr hf hg]
  have h := d.offRing_judgedAtGather
  generalize d.judgedAtGather = e at h
  have hv := e.gatherView_takeInputs
  refine ⟨congrArg GatherView.gathered hv, (congrArg GatherView.cycle hv).trans (congrArg (fun x => x.1) h), (congrArg GatherView.plates hv).trans (congrArg (fun x => x.2.1) h),
    (congrArg GatherView.flash hv).trans (congrArg (fun x => x.2.2.1) h), (congrArg GatherView.engines hv).trans (congrArg (fun x => x.2.2.2.1) h),
    (congrArg GatherView.axes hv).trans ?_⟩
  exact e.map_fst_axes_fed.trans (congrArg (fun x => x.2.2.2.2.axes.map Prod.fst) h)

theorem Dev.slotsTaken_gather {d : Dev} (hr : d.ctl.running = true) (hf : d.ctl.first = false) (hg : d.ctl.gathered = false) : d.gather.SlotsTaken := by
  rw [Dev.gather_running hr hf hg]
  exact (Dev.slotsTaken_fed _).of_gatherView (Dev.gatherView_takeInputs _)

/-! ## The correction frame -/

theorem Dev.corrPack_due {d : Dev} (hr : d.ctl.running = true) (hf : d.ctl.first = false) (ha : d.runAhead = true) (hg : d.ctl.gathered = true)
    (hp : d.ctl.corrPacked = false) (hs : d.ctl.sealed = false) :
    ∃ t : Tu, d.corrPack =
      (let axes := Tab.mapAll d.motion.axes (fun a ax => d.packAxis a ax)
       { d with
         tu := t
         motion := { d.motion with axes := axes }
         ring := { d.ring with corrs := axes.map (fun e => (e.1, if e.2.out.retract then retractMark else e.2.out.corr)) }
         ctl := { d.ctl with corrPacked := true } }) := by
  unfold Dev.corrPack
  rw [if_neg (by simp [hr, hf, ha, hg, hp, hs])]
  generalize d.tu.reach _ = t
  exact ⟨t, rfl⟩

/-- Without SPEC the entry carries nothing. -/
theorem Dev.packAxis_plain (d : Dev) (a : Nat) {ax : Axis} (h : ax.out.spec = false) : d.packAxis a ax = { ax with out := { ax.out with corr := 0, retract := false } } := by
  unfold Dev.packAxis
  rw [if_pos (by simp [h])]

/-- A complete correction that asks for no retract is packed (R92). -/
theorem Dev.packAxis_corrects {d : Dev} {a : Nat} {ax : Axis} (h : ax.out.spec = true) (hp : d.passDone a 2 = true) (hc : ax.spec.retract = []) :
    (d.packAxis a ax).out.retract = false ∧ (d.packAxis a ax).out.corr = max (-2147483647) ax.out.corr ∧ (d.packAxis a ax).retractCnt = ax.retractCnt := by
  unfold Dev.packAxis
  simp [h, hp, hc]

/-- A correction that is not complete, or asks for it, is a retract (R52). -/
theorem Dev.packAxis_retracts {d : Dev} {a : Nat} {ax : Axis} (h : ax.out.spec = true) (hc : d.passDone a 2 = false ∨ ax.spec.retract ≠ []) :
    (d.packAxis a ax).out.retract = true ∧ (d.packAxis a ax).retractCnt = incSat 32 ax.retractCnt ∧ (d.packAxis a ax).retractFlag = true := by
  unfold Dev.packAxis
  rw [if_neg (by simp [h])]
  extract_lets cs c
  have hcs : cs ≠ [] := by
    rcases hc with hc | hc
    · simp [cs, hc]
    · show (if _ then _ else _) ≠ []
      split
      · exact hc
      · exact List.cons_ne_nil _ _
  rw [if_neg hcs]
  exact ⟨rfl, rfl, rfl⟩

/-! ## The launch of the correction frame -/

/-- A device on which only the segments changed, and of those none that `keep` holds of. -/
def Dev.SegsFrom (d e : Dev) (keep : Nat → Prop) : Prop :=
  e = { d with ring := { d.ring with segs := e.ring.segs } } ∧ ∀ i, keep i → e.ring.seg i = d.ring.seg i

/-- The segment carries no correction frame: it has no correction entries, or no cycle frame left on it. -/
def Ring.NoCorr (r : Ring) (i : Nat) : Prop := (r.map.desc i).corrLength = 0 ∨ (r.seg i).launched = []

theorem Ring.seg_onSeg_ne (r : Ring) {i j : Nat} (f : Segment → Segment) (h : i ≠ j) : (r.onSeg j f).seg i = r.seg i := by
  unfold Ring.onSeg Ring.seg
  rw [List.getD_eq_getElem?_getD, List.getD_eq_getElem?_getD]
  exact congrArg (fun x => Option.getD x {}) (List.getElem?_modify_ne f r.segs (Ne.symm h))

theorem Dev.segsFrom_corrOn (d : Dev) (i : Nat) : d.SegsFrom (d.corrOn i) d.ring.NoCorr := by
  unfold Dev.corrOn
  extract_lets s
  split
  · exact ⟨rfl, fun _ _ => rfl⟩
  next hc =>
    refine ⟨rfl, fun j hj => Ring.seg_onSeg_ne _ _ fun h => hc ?_⟩
    subst h
    simpa [Ring.NoCorr, s] using hj

theorem Dev.segsFrom_corrOns (l : List Nat) (d : Dev) : d.SegsFrom (l.foldl Dev.corrOn d) d.ring.NoCorr := by
  induction l generalizing d with
  | nil => exact ⟨rfl, fun _ _ => rfl⟩
  | cons i l ih =>
    obtain ⟨h1, k1⟩ := d.segsFrom_corrOn i
    obtain ⟨h2, k2⟩ := ih (d.corrOn i)
    have hm : (d.corrOn i).ring.map = d.ring.map := by rw [h1]
    refine ⟨?_, fun j hj => ?_⟩
    · rw [List.foldl_cons]
      generalize l.foldl Dev.corrOn (d.corrOn i) = e at h2 ⊢
      rw [h2, h1]
    · have hj' : (d.corrOn i).ring.NoCorr j := by
        rw [Ring.NoCorr, hm, k1 j hj]
        exact hj
      exact (k2 j hj').trans (k1 j hj)

/-- The device with the correction frames of its segments on their way. -/
def Dev.corrSent (d : Dev) : Dev :=
  let e := { d with tu := d.tu.reach (d.mer d.ctl.cycle + d.tcl) }
  e.segNos.foldl Dev.corrOn e

theorem Dev.segsFrom_corrSent (d : Dev) : Dev.SegsFrom { d with tu := d.tu.reach (d.mer d.ctl.cycle + d.tcl) } d.corrSent d.ring.NoCorr := Dev.segsFrom_corrOns _ _

theorem Dev.corrLaunch_due {d : Dev} (hr : d.ctl.running = true) (hp : d.ctl.corrPacked = true) (hl : d.ctl.corrLaunched = false) (hs : d.ctl.sealed = false) :
    d.corrLaunch =
      { d.corrSent with ctl := { d.corrSent.ctl with corrLaunched := true } } := by
  unfold Dev.corrLaunch
  rw [if_neg (by simp [hr, hp, hl, hs])]
  rfl

/-- The correction frame leaves on the segments that carry one, and its instant is done. -/
theorem Dev.corrLaunch_changes {d : Dev} (hr : d.ctl.running = true) (hp : d.ctl.corrPacked = true) (hl : d.ctl.corrLaunched = false) (hs : d.ctl.sealed = false) :
    d.corrLaunch = { d with tu := d.corrLaunch.tu, ring := { d.ring with segs := d.corrLaunch.ring.segs }, ctl := { d.ctl with corrLaunched := true } } ∧
      ∀ i, d.ring.NoCorr i → d.corrLaunch.ring.seg i = d.ring.seg i := by
  rw [Dev.corrLaunch_due hr hp hl hs]
  obtain ⟨h, hk⟩ := d.segsFrom_corrSent
  generalize d.corrSent = e at h hk
  generalize d.tu.reach _ = t at h hk
  obtain ⟨ss, rfl⟩ : ∃ ss, e = { d with tu := t, ring := { d.ring with segs := ss } } := ⟨_, h⟩
  exact ⟨rfl, hk⟩

/-- Settles O9: each row's operation, taken apart above, on a device that runs cycles. -/
theorem gateGatherAndCorrection : Obligations.GateGatherAndCorrection := by
  intro s hr n
  refine ⟨fun hg => completes_act (f := Dev.gateClose) rfl ?_, fun hf hg => completes_act (f := Dev.gather) rfl ?_,
    fun hf ha hg hp hs => completes_does (f := Dev.corrPack) rfl ?_, fun hp hl hs => completes_does (f := Dev.corrLaunch) rfl (Dev.corrLaunch_changes hr hp hl hs)⟩
  · rw [Dev.host_satCheck]
    obtain ⟨hi, hb⟩ := Dev.gateClose_open hr hg
    exact ⟨(Dev.core_satCheck _ _).trans hi, hb⟩
  · obtain ⟨h1, h2, h3, h4, h5, h6⟩ := Dev.gather_keeps hr hf hg
    have hv := Dev.gatherView_satCheck s.dev s.dev.gather
    have ht := (Dev.slotsTaken_gather hr hf hg).of_gatherView hv
    generalize Dev.satCheck s.dev s.dev.gather = e at hv ht
    exact ⟨(congrArg GatherView.gathered hv).trans h1, (congrArg GatherView.cycle hv).trans h2, (congrArg GatherView.plates hv).trans h3,
      (congrArg GatherView.flash hv).trans h4, (congrArg GatherView.engines hv).trans h5, (congrArg GatherView.axes hv).trans h6, ht⟩
  · obtain ⟨t, hd⟩ := Dev.corrPack_due hr hf ha hg hp hs
    rw [hd]
    refine ⟨rfl, rfl, fun a ax hax => ⟨s.dev.packAxis a ax, ?_, s.dev.packAxis_plain a, Dev.packAxis_corrects, Dev.packAxis_retracts⟩⟩
    exact (Tab.find_mapAll _ _ _).trans (congrArg (Option.map (s.dev.packAxis a)) hax)

end Sys2Proof.Machine

/-! PROOFS. Conditions of a servo axis that rows of their own report (R95, R97; Tables 3.3 to 3.5): the reaction of the condition's class, its event, and what both leave alone. -/

namespace Sys2Proof.Machine

open Sys2Proof

/-! ## The reaction -/

/-- What a reaction decides of a result: state, latched code, mode, the conditions of class WARN that hold, and the torque. -/
def Work.outcome (w : Work) : Nat × Nat × Nat × List Nat × Int := (w.sup.state, w.sup.fault, w.sup.mode, w.sup.warnHold, w.r.trq)

/-- The start of the QS timer decides nothing of the reaction. -/
@[simp] theorem Work.outcome_timed (w : Work) : w.timed.outcome = w.outcome := by
  unfold Work.timed
  split <;> rfl

theorem Sup.mem_addWarn (s : Sup) (code : Nat) : code ∈ (s.addWarn code).warnHold := by
  show code ∈ if s.warnHold.contains code then s.warnHold else code :: s.warnHold
  split
  next h => exact List.contains_iff_mem.mp h
  next => exact List.mem_cons_self

/-- The outcome `w'` of a condition of class `cls` that meets `w` in OK or FE_TIMING (Table 3.3). -/
def Reacted (code cls : Nat) (w w' : Work) : Prop :=
  (cls = 1 → w'.sup.state = w.sup.state ∧ code ∈ w'.sup.warnHold) ∧ (cls = 2 → w'.sup.state = 3 ∧ w'.sup.fault = code ∧ w'.sup.mode = 7) ∧
    (cls = 3 → w'.sup.state = 5 ∧ w'.sup.fault = code ∧ w'.r.trq = 0)

theorem Work.reacted_raise {w : Work} (h : w.sup.state = 1 ∨ w.sup.state = 2) (code cls : Nat) : Reacted code cls w (w.raise code cls) := by
  have h0 : w.sup.state ≠ 0 := by omega
  have h5 : w.sup.state ≠ 5 := by omega
  refine ⟨?_, ?_, ?_⟩ <;> rintro rfl
  · have hr : w.raise code 1 = { w with sup := w.sup.addWarn code } := by simp [Work.raise, h0, h]
    rw [hr]
    exact ⟨rfl, w.sup.mem_addWarn code⟩
  · have hr : w.raise code 2 = w.enterQuickStop code := by simp [Work.raise, h0, h]
    rw [hr]
    exact ⟨rfl, rfl, rfl⟩
  · have hr : w.raise code 3 = w.enterTorqueOff code := by simp [Work.raise, h0, h5]
    rw [hr]
    exact ⟨rfl, rfl, rfl⟩

theorem Reacted.of_outcome {code cls : Nat} {w w' w'' : Work} (h : Reacted code cls w w') (e : w''.outcome = w'.outcome) : Reacted code cls w w'' := by
  simp only [Work.outcome, Prod.mk.injEq] at e
  obtain ⟨hs, hf, hm, hw, ht⟩ := e
  unfold Reacted
  rw [hs, hf, hm, hw, ht]
  exact h

/-! ## The condition acts on the device -/

theorem Dev.axis?_of_core {d e : Dev} (h : d.core = e.core) (a : Nat) : d.axis? a = e.axis? a := show d.core.axis? a = e.core.axis? a from congrArg (fun x => x.axis? a) h

theorem Dev.motion_of_core {d e : Dev} (h : d.core = e.core) : d.motion = e.motion := show d.core.motion = e.core.motion from congrArg (fun x => x.motion) h

/-- The condition `code` of the axis `ax`, number `a`, has acted on `d`: its event is reported, the axis has the outcome of the code's class, and nothing else differs. -/
def Dev.Fired (d e : Dev) (a code : Nat) (ax : Axis) : Prop :=
  e.Is { d with motion := { d.motion with axes := e.motion.axes } } ∧ (∀ b, b ≠ a → e.axis? b = d.axis? b) ∧
    ∃ ax', e.axis? a = some ax' ∧ ax'.now.outcome = (ax.now.raise code (classOf ax.prm pREACT_code code)).outcome ∧
      e.Reports code (srcAxis a) [BitVec.ofNat 8 (classOf ax.prm pREACT_code code), BitVec.ofNat 8 ax'.now.sup.state]

section

variable {d e : Dev} {a code : Nat} {ax : Axis}

/-- An axis of which an update leaves the outcome has had the condition act on it as before. -/
theorem Dev.Fired.onAxis (h : d.Fired e a code ax) {f : Axis → Axis} (hf : ∀ x, (f x).now.outcome = x.now.outcome) : d.Fired (e.onAxis a f) a code ax := by
  obtain ⟨hi, ho, ax', hax, hout, hr⟩ := h
  refine ⟨?_, fun b hb => ?_, f ax', ?_, (hf ax').trans hout, ?_⟩
  · exact congrArg (fun x : Dev => { x with motion := { x.motion with axes := Tab.upd e.motion.axes a f } }) hi
  · rw [Dev.axis?_onAxis, if_neg hb]
    exact ho b hb
  · rw [Dev.axis?_onAxis, if_pos rfl, hax]
    rfl
  · rw [show (f ax').now.sup.state = ax'.now.sup.state from congrArg Prod.fst (hf ax')]
    exact hr

theorem Dev.Fired.satCheck (h : d.Fired e a code ax) (b : Dev) : d.Fired (Dev.satCheck b e) a code ax := by
  obtain ⟨hi, ho, ax', hax, hout, hr⟩ := h
  have hc := Dev.core_satCheck b e
  refine ⟨?_, fun c hc' => (Dev.axis?_of_core hc c).trans (ho c hc'), ax', (Dev.axis?_of_core hc a).trans hax, hout, Dev.reports_satCheck b e hr⟩
  rw [Dev.motion_of_core hc]
  exact hc.trans hi

theorem Dev.fired_axisCond (hax : d.axis? a = some ax) (hroom : d.EventRoom 1) (code : Nat) : d.Fired (d.axisCond a code) a code ax := by
  unfold Dev.axisCond
  rw [hax]
  dsimp only
  generalize hf : (fun x : Axis => x.onWork _) = f
  have hout : (f ax).now.outcome = (ax.now.raise code (classOf ax.prm pREACT_code code)).outcome := by
    rw [← hf, Axis.now_onWork]
    split
    · exact Work.outcome_timed _
    · rfl
  have hc := Dev.core_emit (d.onAxis a f) (condEvent (srcAxis a) code (classOf ax.prm pREACT_code code) (ax.now.raise code (classOf ax.prm pREACT_code code)).sup.state)
  have hr := Dev.reports_emit (d.onAxis a f) (condEvent (srcAxis a) code (classOf ax.prm pREACT_code code) (ax.now.raise code (classOf ax.prm pREACT_code code)).sup.state)
    fun _ => Nat.lt_of_succ_le hroom
  generalize Dev.emit _ _ = e at hc hr ⊢
  refine ⟨?_, fun b hb => ?_, f ax, ?_, hout, ?_⟩
  · rw [Dev.motion_of_core hc]
    exact hc
  · rw [Dev.axis?_of_core hc, Dev.axis?_onAxis, if_neg hb]
  · rw [Dev.axis?_of_core hc, Dev.axis?_onAxis, if_pos rfl, hax]
    rfl
  · rw [show (f ax).now.sup.state = _ from congrArg Prod.fst hout]
    exact hr

/-- A condition that is not held yet acts (R95, R97). -/
theorem Dev.fired_axisFires (hax : d.axis? a = some ax) (hroom : d.EventRoom 1) (hheld : ax.held.contains code = false) : d.Fired (d.axisFires a code) a code ax := by
  unfold Dev.axisFires
  rw [hax]
  simp only [hheld, Bool.false_eq_true, if_false]
  refine (Dev.fired_axisCond hax hroom code).onAxis fun x => ?_
  rfl

/-- The reaction that `ServoConditionsReact` asks of a row whose condition has acted. -/
theorem Dev.Fired.reacted (h : d.Fired e a code ax) (hst : ax.now.sup.state = 1 ∨ ax.now.sup.state = 2) :
    ∃ ax', e.axis? a = some ax' ∧ Reacted code (classOf ax.prm pREACT_code code) ax.now ax'.now ∧
      e.Reports code (srcAxis a) [BitVec.ofNat 8 (classOf ax.prm pREACT_code code), BitVec.ofNat 8 ax'.now.sup.state] := by
  obtain ⟨_, _, ax', hax, hout, hr⟩ := h
  exact ⟨ax', hax, (Work.reacted_raise hst code _).of_outcome hout, hr⟩

end

/-! ## The rows -/

section

variable {d : Dev} {a : Nat} {ax : Axis}

theorem reached_of_exists {c : Option Nat} {n : Nat} (h : ∃ k, c = some k ∧ n ≤ k) : reached c n = true := by
  obtain ⟨k, rfl, hk⟩ := h
  exact decide_eq_true hk

theorem Dev.fired_feTimer (hax : d.axis? a = some ax) (hroom : d.EventRoom 1) (hst : ax.now.sup.state = 2)
    (hk : ∃ k, ax.now.sup.feCnt = some k ∧ cyclesOf (ax.prm.nat pFE_TIME) (d.period ax) ≤ k) (hw : ax.now.sup.warnHold.contains fFOLLOWING = false) :
    d.Fired (d.feTimer a) a fFOLLOWING ax := by
  have hdue : ax.feDue (d.period ax) = true := by
    unfold Axis.feDue
    rw [hw, reached_of_exists hk, hst]
    rfl
  unfold Dev.feTimer
  rw [hax]
  dsimp only
  rw [if_pos hdue]
  exact Dev.fired_axisCond hax hroom fFOLLOWING

theorem Dev.fired_torqueSat (hax : d.axis? a = some ax) (hroom : d.EventRoom 1) (hen : ax.prm.nat pTRQ_SAT_TIME ≠ 0)
    (hk : ∃ k, ax.now.sup.satCnt = some k ∧ cyclesOf (ax.prm.nat pTRQ_SAT_TIME) (d.period ax) ≤ k) (hheld : ax.held.contains fTORQUE_SAT = false) :
    d.Fired (d.torqueSat a) a fTORQUE_SAT ax := by
  have hdue : ax.satDue (d.period ax) = true := by
    unfold Axis.satDue
    rw [reached_of_exists hk, decide_eq_true hen]
    rfl
  unfold Dev.torqueSat
  rw [hax]
  dsimp only
  rw [if_pos hdue]
  exact Dev.fired_axisFires hax hroom hheld

theorem Dev.fired_feedbackLost (hax : d.axis? a = some ax) (hroom : d.EventRoom 1) (hn : ax.prm.nat pFB_MISS_LIMIT ≤ ax.now.sup.fbMissRun)
    (hheld : ax.held.contains fFEEDBACK_LOST = false) : d.Fired (d.feedbackLost a) a fFEEDBACK_LOST ax := by
  unfold Dev.feedbackLost
  rw [hax]
  dsimp only
  rw [if_pos (show ax.fbLost = true from decide_eq_true hn)]
  exact Dev.fired_axisFires hax hroom hheld

theorem Dev.fired_splitLost (hax : d.axis? a = some ax) (hroom : d.EventRoom 1) (hn : ax.prm.nat pSPLIT_RETRACT_LIMIT ≤ ax.now.sup.retractRun)
    (hheld : ax.held.contains fSPLIT_LOST = false) : d.Fired (d.splitLost a) a fSPLIT_LOST ax := by
  unfold Dev.splitLost
  rw [hax]
  dsimp only
  rw [if_pos (show ax.splitLost = true from decide_eq_true hn)]
  exact Dev.fired_axisFires hax hroom hheld

theorem Dev.fired_overrun (hax : d.axis? a = some ax) (hroom : d.EventRoom 1) (hsealed : d.ctl.sealed = true) (hstale : ax.stale = true)
    (hn : ax.prm.nat pOVR_LIMIT ≤ ax.staleRun) (hheld : ax.held.contains fOVERRUN = false) : d.Fired (d.overrun a) a fOVERRUN ax := by
  have hdue : ax.overrunDue = true := by simp [Axis.overrunDue, hstale, hn]
  unfold Dev.overrun
  rw [hax]
  dsimp only
  rw [if_pos (by rw [hsealed, hdue, hheld]; rfl)]
  refine (Dev.fired_axisFires hax hroom hheld).onAxis fun x => ?_
  rw [Axis.now_onWork]
  rfl

/-- A mark on a switch leaves the result of the axis. -/
theorem Axis.now_onSwitch (ax : Axis) (w : Nat) (f : Switch → Switch) : (ax.onSwitch w f).now = ax.now := by
  unfold Axis.onSwitch
  repeat' split
  all_goals rfl

theorem Dev.fired_chatter (hax : d.axis? a = some ax) (hroom : d.EventRoom 1) {w : Nat} (hw : w < 3) (hsrc : (ax.switch w).src.isSome = true)
    (hn : (ax.switch w).chatterLimit < (ax.switch w).burst) (hcond : (ax.switch w).chatterCond = false) (hheld : ax.held.contains fSWITCH_CHATTER = false) :
    d.Fired (d.chatter false a w) a fSWITCH_CHATTER ax := by
  have hdue : (ax.switch w).chatters = true := by
    unfold Switch.chatters
    rw [hsrc, hcond, decide_eq_true hn]
    rfl
  unfold Dev.chatter
  rw [hax]
  dsimp only
  rw [if_neg (by simp), if_pos (by rw [hdue, decide_eq_true hw]; rfl)]
  exact (Dev.fired_axisFires hax hroom hheld).onAxis fun x => congrArg Work.outcome (x.now_onSwitch w _)

/-- The condition of a register channel acts on the axis of the channel, in the device where the channel is lost. -/
theorem Dev.fired_regLost {c : Nat} {ch : RegCh} (hch : Tab.find d.motion.regs c = some ch) (hax : d.axis? (ch.prm.nat pREG_AXIS) = some ax) (hroom : d.EventRoom 1)
    (hn : ch.prm.nat pREG_MISS_LIMIT ≤ ch.missRun) (hlost : ch.lost = false) (hst : ch.stateNow = 1) (hheld : ax.held.contains fREG_LOST = false) :
    Dev.Fired { d with motion := { d.motion with regs := Tab.set d.motion.regs c { ch with lost := true } } } (d.regLost c) (ch.prm.nat pREG_AXIS) fREG_LOST ax := by
  unfold Dev.regLost
  rw [hch]
  dsimp only
  rw [if_pos (by simp [hn, hlost, hst])]
  exact Dev.fired_axisFires (d := { d with motion := { d.motion with regs := Tab.set d.motion.regs c { ch with lost := true } } }) hax hroom hheld

end

/-- Settles O15: each row's condition acts on its axis with the reaction of its class, whatever class that is. -/
theorem servoConditionsReact : Obligations.ServoConditionsReact := by
  intro s a ax hax hst hroom cls one reacts
  have done : ∀ {d e : Dev} {code : Nat}, d.Fired e a code ax → reacts code (Dev.satCheck s.dev e) := fun h => by
    obtain ⟨ax', hax', ⟨h1, h2, h3⟩, hr⟩ := (h.satCheck s.dev).reacted hst
    exact ⟨ax', hax', fun _ _ => ⟨h1, h2, h3, hr⟩⟩
  have row : ∀ {c : Instr} {f : Dev → Dev} {code : Nat}, exec c s = s.act f → s.dev.Fired (f s.dev) a code ax → Completes c s (fun d => one d ∧ reacts code d) := fun hc h => by
    obtain ⟨hi, ho, -⟩ := h.satCheck s.dev
    exact completes_act hc ⟨⟨hi, ho⟩, done h⟩
  refine ⟨fun h2 hk hw => row (f := fun d => d.feTimer a) rfl (Dev.fired_feTimer hax hroom h2 hk hw),
    fun hen hk hh => row (f := fun d => d.torqueSat a) rfl (Dev.fired_torqueSat hax hroom hen hk hh),
    fun hn hh => row (f := fun d => d.feedbackLost a) rfl (Dev.fired_feedbackLost hax hroom hn hh),
    fun hn hh => row (f := fun d => d.splitLost a) rfl (Dev.fired_splitLost hax hroom hn hh),
    fun hs ht hn hh => row (f := fun d => d.overrun a) rfl (Dev.fired_overrun hax hroom hs ht hn hh),
    fun w hw hsrc hn hc hh => row (f := fun d => d.chatter false a w) rfl (Dev.fired_chatter hax hroom hw hsrc hn hc hh), fun c ch hch ha hn hl hs hh => ?_⟩
  subst ha
  have h := Dev.fired_regLost hch hax hroom hn hl hs hh
  obtain ⟨hi, ho, -⟩ := h.satCheck s.dev
  exact completes_act (f := fun d => d.regLost c) rfl ⟨hi, ho, done h⟩

end Sys2Proof.Machine

/-! PROOFS. The Seal of a servo axis (R43, R56, R58): what the banks of its slots leave alone, and what an on-time result, a late one and an idle cycle make of the axis. -/

namespace Sys2Proof.Machine

open Sys2Proof

/-! ## What the Seal settles of an axis -/

/-- What the Seal decides of an axis: its ages and counts, the result that waits, the position and the state committed, and the command. -/
structure SealView where
  stale : Bool
  staleRun : Nat
  cmdAge : Nat
  overrunCnt : Nat
  cand : Option Work
  pAct : Int
  state : Nat
  out : OutCmd

/-- That part of an axis. -/
def Axis.sealView (ax : Axis) : SealView :=
  { stale := ax.stale, staleRun := ax.staleRun, cmdAge := ax.cmdAge, overrunCnt := ax.overrunCnt, cand := ax.cand, pAct := ax.w.k.pAct, state := ax.w.sup.state, out := ax.out }

theorem Axis.sealView_track (ax : Axis) (s : Sup) (n : Nat) : (ax.track s n).sealView = ax.sealView := by
  unfold Axis.track
  split
  · split <;> rfl
  · rfl

/-- Conditions that no longer hold change nothing that the Seal has decided. -/
theorem Axis.sealView_prune {ax : Axis} (h : ax.cand = none) (T : Rat) : (ax.prune T).sealView = ax.sealView := by
  have hd : ∀ (l : List Nat) (ax : Axis), ax.cand = none → (l.foldl (fun (ax : Axis) c => ax.onWork (fun w => { w with sup := w.sup.dropWarn c })) ax).sealView = ax.sealView := by
    intro l
    induction l with
    | nil => exact fun _ _ => rfl
    | cons c l ih =>
      intro ax h
      have ho : ax.onWork (fun w => { w with sup := w.sup.dropWarn c }) = { ax with w := { ax.w with sup := ax.w.sup.dropWarn c } } := by
        unfold Axis.onWork
        rw [h]
      rw [List.foldl_cons, ho]
      exact ih _ h
  exact hd _ ax h

theorem Axis.sealView_settleDefer (ax : Axis) (tcyc n : Nat) : (ax.settleDefer tcyc n).sealView = ax.sealView := by
  unfold Axis.settleDefer
  split
  · split <;> rfl
  · rfl

/-- The end of plans changes nothing that the Seal has decided. -/
theorem Axis.sealView_settle (ax : Axis) (tcyc n : Nat) : (ax.settle tcyc n).1.sealView = ax.sealView := by
  unfold Axis.settle
  extract_lets ax1
  have h1 : ax1.sealView = ax.sealView := by
    show (if _ then _ else _ : Axis).sealView = _
    split
    · exact ax.sealView_settleDefer tcyc n
    · rfl
  clear_value ax1
  split
  · exact h1
  · extract_lets f ax2
    split
    · split <;> exact h1
    · exact h1

/-! ## The device around the axis -/

theorem Dev.axis?_emit (d : Dev) (e : Ev) (a : Nat) : (d.emit e).axis? a = d.axis? a := Dev.axis?_of_core (Dev.core_emit d e) a

theorem Dev.axis?_onAxis_same {d : Dev} {a : Nat} {ax : Axis} (h : d.axis? a = some ax) (f : Axis → Axis) : (d.onAxis a f).axis? a = some (f ax) := by
  rw [Dev.axis?_onAxis, if_pos rfl, h]
  rfl

theorem Dev.axis_of_axis? {d : Dev} {a : Nat} {ax : Axis} (h : d.axis? a = some ax) : d.axis a = ax := congrArg (fun x => x.getD {}) h

/-- An axis that has settled keeps what the Seal has decided. -/
theorem Dev.axis?_settles {d : Dev} {a : Nat} (h : (d.axis? a).isSome = true) (ax : Axis) : ∃ ax', (d.settles a ax).axis? a = some ax' ∧ ax'.sealView = ax.sealView := by
  obtain ⟨x, hx⟩ := Option.isSome_iff_exists.mp h
  unfold Dev.settles
  extract_lets r
  refine ⟨r.1, ?_, ?_⟩
  · rw [Dev.axis?_of_core (Dev.core_emits _ _), Dev.axis?_onAxis_same hx]
  · show (if _ then _ else _ : Axis × List AxEvent).1.sealView = _
    split
    · exact ax.sealView_settle _ _
    · rfl

/-- Without a shadow the banks of an axis's slots exchange and a migration ends (R230, R249); every axis stays as it was. -/
theorem Dev.axis?_sealSlots {d : Dev} {a : Nat} (h : ∀ x ∈ d.slotsOf a, x.2.2.shadow = false) (pass b : Nat) : (d.sealSlots a pass).axis? b = d.axis? b := by
  unfold Dev.sealSlots
  extract_lets xs old new
  have hold : old = none := List.find?_eq_none.mpr fun x hx => by simp [h x hx]
  rw [hold]
  cases new with
  | none =>
    dsimp only
    split <;> rfl
  | some x =>
    obtain ⟨f, t, sl⟩ := x
    dsimp only
    generalize hd1 : (if sl.onTime pass = true then d.onSlot f t Slot.commit else d) = d1
    have h1 : d1.axis? b = d.axis? b := by
      rw [← hd1]
      split <;> rfl
    split
    · exact (Dev.axis?_emit _ _ _).trans h1
    · exact h1

theorem Dev.axis?_sealNotes (d : Dev) (key st : Nat) (fault blend : Bool) (a : Nat) : (d.sealNotes key st fault blend).axis? a = d.axis? a := by
  unfold Dev.sealNotes
  split <;> split <;> rfl

theorem Dev.axis?_countLate (d : Dev) (e a : Nat) : (d.countLate e).axis? a = d.axis? a := by
  unfold Dev.countLate
  dsimp only
  split <;> rfl

/-! ## On time, late, idle -/

theorem Axis.sealView_stepHand (ax : Axis) (o : OutCmd) : ({ ax.stepHand with out := o } : Axis).sealView = { ax.sealView with out := o } := by
  unfold Axis.stepHand
  split <;> rfl

/-- The waiting result of `ax` is committed, and the ages are clear (R56, R58). -/
def SealView.Committed (v : SealView) (ax : Axis) : Prop :=
  v.stale = false ∧ v.staleRun = 0 ∧ v.cmdAge = 0 ∧ v.cand = none ∧ v.overrunCnt = ax.overrunCnt ∧ v.pAct = ax.now.k.pAct ∧ v.state = ax.now.sup.state

theorem Axis.sealFresh_committed (ax : Axis) (split next : Bool) : (ax.sealFresh split next).sealView.Committed ax := by
  rw [show (ax.sealFresh split next).sealView = _ from Axis.sealView_stepHand _ _]
  exact ⟨rfl, rfl, rfl, rfl, rfl, rfl, rfl⟩

/-! The position committed is none of what a late axis's supervision changes (R56). -/

theorem Work.pAct_escalate (w : Work) : w.escalate.k.pAct = w.k.pAct := rfl

theorem Work.pAct_countRetract (w : Work) : w.countRetract.k.pAct = w.k.pAct := rfl

theorem Work.pAct_keepCorr (w c : Work) : (w.keepCorr c).k.pAct = w.k.pAct := rfl

theorem Work.pAct_keepFault (w c : Work) : (w.keepFault c).k.pAct = w.k.pAct := by
  unfold Work.keepFault
  split
  · split <;> rfl
  · rfl

/-- The command of `ax` with the stale flag, one cycle older, and with the same torque where the axis has torque, is not split and was not launched with SPEC (R56, R61). -/
def OutCmd.Repeats (o : OutCmd) (ax : Axis) (split : Bool) (state : Nat) : Prop :=
  o.stale = true ∧ o.age = incSat 8 ax.cmdAge ∧ (state ≠ 0 → state ≠ 5 → split = false → ax.out.spec = false → o.trq = ax.out.trq)

/-- Nothing of `ax` is committed, and it ages (R56, R58). -/
def SealView.Aged (v : SealView) (ax : Axis) (split : Bool) : Prop :=
  v.stale = true ∧ v.staleRun = incSat 4 ax.staleRun ∧ v.cmdAge = incSat 8 ax.cmdAge ∧ v.overrunCnt = incSat 32 ax.overrunCnt ∧ v.cand = none ∧ v.pAct = ax.w.k.pAct ∧
    v.out.Repeats ax split v.state

theorem Axis.nextOut_repeats {ax : Axis} {next : Bool} (h0 : ax.w.sup.state ≠ 0) (h5 : ax.w.sup.state ≠ 5) (hs : ax.shed = false) (hspec : ax.out.spec = false) :
    (ax.nextOut false false true next).trq = ax.out.trq := by
  simp [Axis.nextOut, h0, h5, hs, hspec]

theorem Axis.sealLate_aged {ax : Axis} (hs : ax.shed = false) (split next noCorr : Bool) : (ax.sealLate split next noCorr).sealView.Aged ax split := by
  unfold Axis.sealLate
  extract_lets w1 w2 w3 ax1
  have h1 : w1.k.pAct = ax.w.k.pAct := by
    show (match ax.cand with | some c => ax.w.keepFault c | none => ax.w : Work).k.pAct = _
    split
    · exact Work.pAct_keepFault _ _
    · rfl
  have h2 : w2.k.pAct = w1.k.pAct := by
    show (if _ then _ else _ : Work).k.pAct = _
    split
    · split
      · exact w1.pAct_countRetract
      · split
        · exact w1.pAct_keepCorr _
        · rfl
    · rfl
  have h3 : w3.k.pAct = w2.k.pAct := by
    show (if _ then _ else _ : Work).k.pAct = _
    split
    · exact w2.pAct_escalate
    · rfl
  refine ⟨rfl, rfl, rfl, rfl, rfl, h3.trans (h2.trans h1), rfl, rfl, fun h0 h5 hsplit hspec => ?_⟩
  subst hsplit
  exact Axis.nextOut_repeats h0 h5 hs hspec

/-- An axis outside its phase keeps its ages and counts (R43). -/
theorem Dev.sealServo_idle {d : Dev} {a : Nat} {ax : Axis} (hax : d.axis? a = some ax) (hp : ax.inPhase d.ctl.cycle = false) (hm : ax.migrating = false) :
    (d.sealServo a).axis? a = some (ax.sealIdle (d.split ax) (ax.inPhase (d.ctl.cycle + 1))) := by
  unfold Dev.sealServo
  rw [hax]
  dsimp only
  rw [if_pos (by simp [hp]), if_neg (by simp [hm])]
  exact Dev.axis?_onAxis_same hax _

section

variable {d : Dev} {a : Nat} {ax : Axis} (hax : d.axis? a = some ax) (hp : ax.inPhase d.ctl.cycle = true) (hs : ax.shed = false) (hpl : Tab.has d.pace.plan.place a = true)
  (hsh : ∀ x ∈ d.slotsOf a, x.2.2.shadow = false)

include hax hp hs hpl hsh

theorem Dev.sealServo_fresh (hf : (d.slotsOf a).any (fun x => x.2.2.onTime (finalPass (d.split ax))) = true) :
    ∃ ax', (d.sealServo a).axis? a = some ax' ∧ ax'.sealView.Committed ax := by
  unfold Dev.sealServo
  rw [hax]
  dsimp only
  rw [if_neg (by simp [hp, hs, hpl]), if_pos hf]
  generalize hd : d.sealSlots a _ = e
  have he : e.axis? a = some ax := by rw [← hd, Dev.axis?_sealSlots hsh, hax]
  rw [Dev.axis_of_axis? he, Dev.axis?_sealNotes]
  generalize hx : Axis.track _ _ _ = x
  have hc : x.sealView.Committed ax := by
    rw [← hx, Axis.sealView_track]
    exact (e.placeSwitches ax).sealFresh_committed _ _
  obtain ⟨ax', hax', hv⟩ := Dev.axis?_settles (d := e) (a := a) (he ▸ rfl) (x.prune (e.period ax))
  have ⟨_, _, _, hcand, _⟩ := hc
  refine ⟨ax', hax', ?_⟩
  rw [hv, Axis.sealView_prune hcand]
  exact hc

theorem Dev.sealServo_late (hf : (d.slotsOf a).any (fun x => x.2.2.onTime (finalPass (d.split ax))) = false) :
    ∃ ax', (d.sealServo a).axis? a = some ax' ∧ ax'.sealView.Aged ax (d.split ax) := by
  unfold Dev.sealServo
  rw [hax]
  dsimp only
  rw [if_neg (by simp [hp, hs, hpl]), if_neg (by simp [hf])]
  generalize hd : d.sealSlots a _ = e
  have he : e.axis? a = some ax := by rw [← hd, Dev.axis?_sealSlots hsh, hax]
  rw [Dev.axis_of_axis? he]
  have hc := ax.sealLate_aged hs (d.split ax) (ax.inPhase (d.ctl.cycle + 1)) (!d.passDone a 2)
  generalize Axis.sealLate _ _ _ _ = x at hc ⊢
  obtain ⟨ax', hax', hv⟩ := Dev.axis?_settles (d := e) (a := a) (he ▸ rfl) (x.prune (e.period ax))
  rw [← Dev.axis?_countLate _ ax.engine] at hax'
  have ⟨_, _, _, _, hcand, _⟩ := hc
  refine ⟨ax', ?_, ?_⟩
  · split
    · exact (Dev.axis?_emit _ _ _).trans hax'
    · exact hax'
  · rw [hv, Axis.sealView_prune hcand]
    exact hc

end

/-- Settles O10: the Seal of an axis on time, of a late one, and of one outside its phase. -/
theorem sealCommitsOrRepeats : Obligations.SealCommitsOrRepeats := by
  intro d a ax hax
  refine ⟨fun hp hs hpl hsh => ?_, fun hp hm => ⟨_, Dev.sealServo_idle hax hp hm, rfl, rfl, rfl, rfl, rfl, rfl⟩⟩
  cases hf : (d.slotsOf a).any (fun x => x.2.2.onTime (finalPass (d.split ax))) with
  | true =>
    obtain ⟨ax', hax', hc⟩ := Dev.sealServo_fresh hax hp hs hpl hsh hf
    exact ⟨ax', hax', fun _ => hc, fun h => absurd hf (Bool.eq_false_iff.mp h)⟩
  | false =>
    obtain ⟨ax', hax', h1, h2, h3, h4, h5, h6, h7⟩ := Dev.sealServo_late hax hp hs hpl hsh hf
    exact ⟨ax', hax', fun h => absurd h (Bool.eq_false_iff.mp hf), fun _ => ⟨h1, h2, h3, h4, h5, h6, h7⟩⟩

end Sys2Proof.Machine

/-! PROOFS. The Seal deadline as a whole (R56, R223, R224): what it leaves alone of the device, and the engines that it cuts. -/

namespace Sys2Proof.Machine

open Sys2Proof

/-! ## What the Seal leaves alone -/

/-- The device without the parts that the Seal works on: motion, the engines, the Pace Unit, the tests, the host's commands, the time base, the output slots, the cycle of the
set-points, and what events touch. -/
def Dev.bystanders (d : Dev) : Dev :=
  { d.core with motion := {}, engines := [], pace := {}, tru := {}, host := {}, tu := {}, ring := { d.ring with slots := [] }, ctl := { d.core.ctl with spCycle := 0 } }

theorem Dev.bystanders_of_core {d e : Dev} (h : d.core = e.core) : d.bystanders = e.bystanders := show d.core.bystanders = e.core.bystanders from congrArg Dev.bystanders h

theorem Dev.bystanders_foldl {α : Type} {f : Dev → α → Dev} (h : ∀ d x, (f d x).bystanders = d.bystanders) (l : List α) (d : Dev) : (l.foldl f d).bystanders = d.bystanders := by
  induction l generalizing d with
  | nil => rfl
  | cons x l ih => rw [List.foldl_cons, ih, h]

/-! Changes of the parts taken away, events and replies. -/

@[simp] theorem Dev.bystanders_motion (d : Dev) (m : Motion) : ({ d with motion := m } : Dev).bystanders = d.bystanders := rfl
@[simp] theorem Dev.bystanders_engines (d : Dev) (gs : List Engine) : ({ d with engines := gs } : Dev).bystanders = d.bystanders := rfl
@[simp] theorem Dev.bystanders_pace (d : Dev) (p : Pace) : ({ d with pace := p } : Dev).bystanders = d.bystanders := rfl
@[simp] theorem Dev.bystanders_tru (d : Dev) (t : Tru) : ({ d with tru := t } : Dev).bystanders = d.bystanders := rfl
@[simp] theorem Dev.bystanders_host (d : Dev) (h : Hif) : ({ d with host := h } : Dev).bystanders = d.bystanders := rfl
@[simp] theorem Dev.bystanders_tu (d : Dev) (t : Tu) : ({ d with tu := t } : Dev).bystanders = d.bystanders := rfl
@[simp] theorem Dev.bystanders_onAxis (d : Dev) (a : Nat) (f : Axis → Axis) : (d.onAxis a f).bystanders = d.bystanders := rfl
@[simp] theorem Dev.bystanders_onStepper (d : Dev) (a : Nat) (f : Stepper → Stepper) : (d.onStepper a f).bystanders = d.bystanders := rfl
@[simp] theorem Dev.bystanders_onEngine (d : Dev) (e : Nat) (f : Engine → Engine) : (d.onEngine e f).bystanders = d.bystanders := rfl
@[simp] theorem Dev.bystanders_emit (d : Dev) (e : Ev) : (d.emit e).bystanders = d.bystanders := Dev.bystanders_of_core (Dev.core_emit d e)
@[simp] theorem Dev.bystanders_emits (d : Dev) (es : List Ev) : (d.emits es).bystanders = d.bystanders := Dev.bystanders_of_core (Dev.core_emits d es)
@[simp] theorem Dev.bystanders_satCheck (b d : Dev) : (Dev.satCheck b d).bystanders = d.bystanders := Dev.bystanders_of_core (Dev.core_satCheck b d)

@[simp] theorem Dev.bystanders_reply (d : Dev) (q : HostReq) (res : Nat) (r : CmdRes) (done hold : Nat) (dup : Bool) : (d.reply q res r done hold dup).bystanders = d.bystanders :=
  (Dev.bystanders_of_core (d.reply_past q res r done hold dup)).trans rfl

@[simp] theorem Dev.bystanders_opEnd (d : Dev) (o : Option OpenOp) (r : CmdRes) (hold : Nat) : (d.opEnd o r hold).bystanders = d.bystanders := by
  unfold Dev.opEnd
  split
  · split
    · exact (Dev.bystanders_reply _ _ _ _ _ _ _).trans rfl
    · rfl
  · rfl

theorem Dev.bystanders_opsEnd (d : Dev) (p : HostReq → Bool) (r : CmdRes) (hold : Nat) : (d.opsEnd p r hold).bystanders = d.bystanders :=
  Dev.bystanders_foldl (fun d o => d.bystanders_opEnd (some o) r hold) _ d

theorem Dev.bystanders_homeEnds (d : Dev) (st : Nat) : (d.homeEnds st).bystanders = d.bystanders := by
  refine Dev.bystanders_foldl (fun d o => ?_) _ d
  split
  · exact d.bystanders_opEnd _ _ _
  · exact d.bystanders_opEnd _ _ _
  · exact d.bystanders_opEnd _ _ _
  · rfl

/-! ## The advance of motion -/

@[simp] theorem Dev.bystanders_retract (d : Dev) (a cause : Nat) : (d.retract a cause).bystanders = d.bystanders := by
  unfold Dev.retract
  split
  · split <;> rfl
  · rfl

@[simp] theorem Dev.bystanders_ephemeris (d : Dev) : d.ephemeris.bystanders = d.bystanders := rfl

@[simp] theorem Dev.bystanders_respoint (d : Dev) (a : Nat) : (d.respoint a).bystanders = d.bystanders := by
  unfold Dev.respoint
  split
  · rfl
  · extract_lets
    split
    · rfl
    · rw [Dev.bystanders_ephemeris, Dev.bystanders_emits, Dev.bystanders_onAxis]

@[simp] theorem Dev.bystanders_refresh (d : Dev) (a : Nat) : (d.refresh a).bystanders = d.bystanders := by
  unfold Dev.refresh
  split
  · split
    · exact d.bystanders_ephemeris
    · exact d.bystanders_respoint a
  · rfl

theorem Dev.bystanders_retractIf (d : Dev) (a : Nat) {f : Dev → Dev} (h : (f d).bystanders = d.bystanders) : (d.retractIf a f).bystanders = d.bystanders := by
  unfold Dev.retractIf
  extract_lets e
  split
  · exact h
  · exact (Dev.bystanders_retract _ _ _).trans h

@[simp] theorem Dev.bystanders_replanOrr (d : Dev) (i n0 : Nat) (f : Orrery → Orrery) : (d.replanOrr i n0 f).bystanders = d.bystanders := by
  unfold Dev.replanOrr
  extract_lets d1 fs d2
  have h2 : d2.bystanders = d1.bystanders := by
    refine Dev.bystanders_foldl (fun d e => ?_) fs d1
    exact d.bystanders_onAxis e.1 _
  exact (Dev.bystanders_foldl (fun (d : Dev) (e : Nat × Axis) => d.bystanders_retractIf e.1 (d.bystanders_refresh e.1)) fs d2).trans h2

@[simp] theorem Dev.bystanders_limitOrr (d : Dev) (i n0 : Nat) : (d.limitOrr i n0).bystanders = d.bystanders := by
  unfold Dev.limitOrr
  split
  · rfl
  · extract_lets b o1 t f e
    have he : e.bystanders = d.bystanders := d.bystanders_replanOrr i n0 f
    clear_value e f t o1 b
    split
    · rfl
    · split
      · exact (e.bystanders_emit _).trans he
      · exact he

theorem Dev.bystanders_orrFaults (d : Dev) (n : Nat) : (d.orrFaults n).bystanders = d.bystanders := by
  refine Dev.bystanders_foldl (fun d e => ?_) _ d
  split
  · unfold Dev.orrFault
    extract_lets
    split
    · rfl
    · exact Dev.bystanders_replanOrr _ _ _ _
  · rfl

theorem Dev.bystanders_camSwitch (d : Dev) (n c : Nat) : (d.camSwitch n c).bystanders = d.bystanders := by
  unfold Dev.camSwitch
  split
  · rfl
  · extract_lets s put
    split
    · rfl
    · extract_lets us
      split
      · rfl
      · split
        · exact Dev.bystanders_opsEnd _ _ _ _
        · exact (Dev.bystanders_opsEnd _ _ _ _).trans
            (Dev.bystanders_foldl (fun (d : Dev) (e : Nat × Axis) => d.bystanders_retractIf e.1 (d.bystanders_respoint e.1)) _ _)

theorem Dev.bystanders_advance (d : Dev) : d.advance.bystanders = d.bystanders := by
  unfold Dev.advance
  extract_lets n d1 _ _ d2 d3
  split
  · have h1 : d1.bystanders = d.bystanders := d.bystanders_orrFaults n
    clear_value d1
    have h2 : d2.bystanders = d1.bystanders := rfl
    clear_value d2
    have h3 : d3.bystanders = d2.bystanders := Dev.bystanders_foldl (fun d c => d.bystanders_camSwitch n c) _ _
    exact (Dev.bystanders_foldl (fun d i => d.bystanders_limitOrr i n) _ _).trans (h3.trans (h2.trans h1))
  · rfl

/-! ## The axes at the Seal -/

theorem Dev.bystanders_migrated (d : Dev) (a e s used : Nat) : (d.migrated a e s used).bystanders = d.bystanders := Dev.bystanders_emit _ _

theorem Dev.bystanders_mismatched (d : Dev) (a e s f t : Nat) : (d.mismatched a e s f t).bystanders = d.bystanders := Dev.bystanders_emit _ _

theorem Dev.bystanders_sealSlots (d : Dev) (a pass : Nat) : (d.sealSlots a pass).bystanders = d.bystanders := by
  simp only [Dev.sealSlots]
  repeat' split
  all_goals simp [Dev.bystanders_migrated, Dev.bystanders_mismatched, Dev.onSlot, Dev.freeShadows]

theorem Dev.bystanders_settles (d : Dev) (a : Nat) (ax : Axis) : (d.settles a ax).bystanders = d.bystanders := Dev.bystanders_emits _ _

theorem Dev.bystanders_sealNotes (d : Dev) (key st : Nat) (fault blend : Bool) : (d.sealNotes key st fault blend).bystanders = d.bystanders := by
  have hf : (if fault && (st = 3 || st = 5) then d.noteReply 0x1014 key d.ctl.cycle 0x0020 else d).bystanders = d.bystanders := by
    split
    · exact Dev.bystanders_host d _
    · rfl
  unfold Dev.sealNotes
  extract_lets e
  split
  · exact (Dev.bystanders_host _ _).trans ((Dev.bystanders_host e _).trans hf)
  · exact hf

theorem Dev.bystanders_countLate (d : Dev) (e : Nat) : (d.countLate e).bystanders = d.bystanders := by
  unfold Dev.countLate
  dsimp only
  split <;> rfl

theorem Dev.bystanders_sealServo (d : Dev) (a : Nat) : (d.sealServo a).bystanders = d.bystanders := by
  unfold Dev.sealServo
  split
  · rfl
  · extract_lets n split next pass fresh noCorr d1 ax
    have h1 : d1.bystanders = d.bystanders := d.bystanders_sealSlots a pass
    split
    · rw [Dev.bystanders_onAxis]
      split
      · exact d.bystanders_sealSlots a 15
      · rfl
    · split
      · exact (Dev.bystanders_sealNotes _ _ _ _ _).trans ((Dev.bystanders_settles _ _ _).trans h1)
      · split
        · exact (Dev.bystanders_emit _ _).trans ((Dev.bystanders_countLate _ _).trans ((Dev.bystanders_settles _ _ _).trans h1))
        · exact (Dev.bystanders_countLate _ _).trans ((Dev.bystanders_settles _ _ _).trans h1)

theorem Dev.bystanders_sealStepper (d : Dev) (a : Nat) : (d.sealStepper a).bystanders = d.bystanders := by
  unfold Dev.sealStepper
  split
  · rfl
  · dsimp only
    split <;> rfl

/-! ## The engines at the deadline -/

theorem Dev.bystanders_runEnds (d : Dev) (before : List Engine) : (d.runEnds before).bystanders = d.bystanders := by
  unfold Dev.runEnds
  split <;> rfl

theorem Dev.bystanders_cutAll (d : Dev) : d.cutAll.bystanders = d.bystanders := rfl

/-- The start of a test is the Test and Repair Unit's alone. -/
theorem Dev.testBegins_eq (d : Dev) : d.testBegins = { d with tru := d.testBegins.tru } := by
  unfold Dev.testBegins
  split
  · split <;> rfl
  · rfl

/-- What an engine runs after the cut is its preemption handler (R223, R224). -/
theorem Engine.run_cut {g : Engine} {cause w : Nat} {r : Run} (h : (g.cut cause w).run = some r) : r.kind = 2 := by
  unfold Engine.cut at h
  split at h
  next r0 hr0 =>
    split at h
    next hk =>
      obtain rfl : r0 = r := Option.some.inj (hr0.symm.trans h)
      exact hk
    next =>
      obtain rfl := Option.some.inj h
      rfl
  next hr0 =>
    split at h
    next => exact absurd (hr0.symm.trans h) (Option.some_ne_none r).symm
    next =>
      obtain rfl := Option.some.inj h
      rfl

/-- No engine runs anything but its preemption handler. -/
def Dev.OnlyHandlers (d : Dev) : Prop := ∀ g ∈ d.engines, ∀ r, g.run = some r → r.kind = 2

theorem Dev.onlyHandlers_cutAll (d : Dev) : d.cutAll.OnlyHandlers := by
  intro g hg r hr
  obtain ⟨x, -, rfl⟩ := List.mem_map.mp hg
  exact Engine.run_cut hr

theorem Dev.OnlyHandlers.of_engines {d e : Dev} (h : d.OnlyHandlers) (he : e.engines = d.engines) : e.OnlyHandlers := by
  unfold Dev.OnlyHandlers
  rw [he]
  exact h

theorem Dev.engines_homeEnds (d : Dev) (st : Nat) : (d.homeEnds st).engines = d.engines := by
  refine congrArg GatherView.engines (show (d.homeEnds st).gatherView = d.gatherView from Dev.gatherView_foldl (fun d o => ?_) _ d)
  split
  · exact d.gatherView_opEnd _ _ _
  · exact d.gatherView_opEnd _ _ _
  · exact d.gatherView_opEnd _ _ _
  · rfl

/-! ## The deadline -/

/-- The Seal after its axes: the engines are cut, a test begins, the next Meridian's frames are packed, and homing runs that are over are answered. -/
def Dev.sealEnds (d : Dev) (es : List Engine) : Dev := ((d.runEnds es).cutAll.testBegins.packSlots.placeTouts).homeEnds 0x0601

theorem Dev.bystanders_sealEnds (d : Dev) (es : List Engine) : (d.sealEnds es).bystanders = d.bystanders := by
  refine (Dev.bystanders_homeEnds _ _).trans ?_
  show (d.runEnds es).cutAll.testBegins.bystanders = _
  rw [Dev.testBegins_eq, Dev.bystanders_tru, Dev.bystanders_cutAll, Dev.bystanders_runEnds]

theorem Dev.onlyHandlers_sealEnds (d : Dev) (es : List Engine) : (d.sealEnds es).OnlyHandlers := by
  refine (d.runEnds es).onlyHandlers_cutAll.of_engines ((Dev.engines_homeEnds _ _).trans ?_)
  show (d.runEnds es).cutAll.testBegins.engines = _
  rw [Dev.testBegins_eq]

/-- Every axis at the Seal, after the advance of motion. -/
def Dev.sealAxes (d : Dev) : Dev :=
  let e := (d.motion.axes.map (fun x => x.1)).foldl Dev.sealServo d
  (e.motion.steppers.map (fun x => x.1)).foldl Dev.sealStepper e

theorem Dev.bystanders_sealAxes (d : Dev) : d.sealAxes.bystanders = d.bystanders :=
  (Dev.bystanders_foldl Dev.bystanders_sealStepper _ _).trans (Dev.bystanders_foldl Dev.bystanders_sealServo _ d)

/-- The cycle is sealed. -/
def Dev.markSealed (d : Dev) : Dev := { d with ctl := { d.ctl with sealed := true } }

theorem Dev.OnlyHandlers.markSealed {d : Dev} (h : d.OnlyHandlers) : d.markSealed.OnlyHandlers := h

theorem Dev.OnlyHandlers.satCheck {d : Dev} (h : d.OnlyHandlers) (b : Dev) : (Dev.satCheck b d).OnlyHandlers :=
  h.of_engines (congrArg GatherView.engines (Dev.gatherView_satCheck b d))

theorem Dev.bystanders_markSealed {d e : Dev} (h : d.bystanders = e.bystanders) : d.markSealed.bystanders = e.markSealed.bystanders :=
  show d.bystanders.markSealed = e.bystanders.markSealed from congrArg Dev.markSealed h

theorem Dev.seal_due {d : Dev} (hr : d.ctl.running = true) (hg : d.ctl.gathered = true) (hs : d.ctl.sealed = false) :
    ∃ e : Dev, e.bystanders = d.bystanders ∧ d.seal = (e.sealAxes.sealEnds e.engines).markSealed := by
  unfold Dev.seal
  rw [if_neg (by simp [hr, hg, hs])]
  extract_lets d1 d2 es d3 d4 d5
  have h4 : d4 = d2.sealAxes := rfl
  have h5 : d5 = d4.sealEnds es := rfl
  refine ⟨d2, (Dev.bystanders_advance d1).trans (d.bystanders_tu _), ?_⟩
  rw [← h4, ← h5]
  rfl

/-- The fields that `SealDeadlineSeals` names are the bystanders'. -/
theorem Dev.fields_of_bystanders {d e : Dev} (h : d.bystanders = e.bystanders) :
    d.ctl.sealed = e.ctl.sealed ∧ d.ctl.cycle = e.ctl.cycle ∧ d.ctl.published = e.ctl.published ∧ d.plates = e.plates ∧ d.flash = e.flash ∧ d.hostMem = e.hostMem ∧ d.log = e.log ∧
      d.si = e.si ∧ d.boot = e.boot ∧ d.chr.conf = e.chr.conf ∧ d.ring.map = e.ring.map :=
  ⟨(congrArg (fun x => x.ctl.sealed) h :), (congrArg (fun x => x.ctl.cycle) h :), (congrArg (fun x => x.ctl.published) h :), (congrArg Dev.plates h :), (congrArg Dev.flash h :),
    (congrArg Dev.hostMem h :), (congrArg Dev.log h :), (congrArg Dev.si h :), (congrArg Dev.boot h :), (congrArg (fun x => x.chr.conf) h :), (congrArg (fun x => x.ring.map) h :)⟩

/-- Settles O11: no step of the Seal touches its bystanders, and the cut of the engines stands to its end. -/
theorem sealDeadlineSeals : Obligations.SealDeadlineSeals := by
  intro s hr hg hs
  obtain ⟨e, he, hseal⟩ := Dev.seal_due hr hg hs
  have hb : (Dev.satCheck s.dev s.dev.seal).bystanders = s.dev.markSealed.bystanders := by
    rw [Dev.bystanders_satCheck, hseal]
    exact Dev.bystanders_markSealed ((Dev.bystanders_sealEnds _ _).trans (e.bystanders_sealAxes.trans he))
  have hh : (Dev.satCheck s.dev s.dev.seal).OnlyHandlers := by
    rw [hseal]
    exact (e.sealAxes.onlyHandlers_sealEnds e.engines).markSealed.satCheck s.dev
  obtain ⟨h1, h2, h3, h4, h5, h6, h7, h8, h9, h10, h11⟩ := Dev.fields_of_bystanders hb
  exact completes_act (f := Dev.seal) rfl ⟨h1, h2, h3, h4, h5, h6, h7, h8, h9, h10, h11, hh⟩

end Sys2Proof.Machine

/-! PROOFS. Acyclic traffic of a segment (R50, R287, R320, R418): a launch in the quiet window, the return of a LINK_TEST, the mailbox, and the links. Each row changes one segment, and
the end of a mailbox operation the host's commands. -/

namespace Sys2Proof.Machine

open Sys2Proof

/-! ## A segment replaced -/

/-- The device with `x` for its segment `i`. -/
def Dev.withSeg (d : Dev) (i : Nat) (x : Segment) : Dev := d.onSeg i (fun _ => x)

/-- A segment that is not in its reset state is one of the device's. -/
theorem Ring.lt_of_seg_ne {r : Ring} {i : Nat} (h : r.seg i ≠ {}) : i < r.segs.length := by
  by_contra hl
  refine h ?_
  unfold Ring.seg
  rw [List.getD_eq_getElem?_getD, List.getElem?_eq_none (Nat.le_of_not_lt hl)]
  rfl

theorem Dev.seg_onSeg_same {d : Dev} {i : Nat} (hi : i < d.ring.segs.length) (f : Segment → Segment) : (d.onSeg i f).ring.seg i = f (d.ring.seg i) :=
  (Ring.seg_onSeg d.ring i i f).trans (if_pos ⟨rfl, hi⟩)

theorem Dev.seg_onSeg_ne (d : Dev) {i j : Nat} (f : Segment → Segment) (h : j ≠ i) : (d.onSeg i f).ring.seg j = d.ring.seg j := Ring.seg_onSeg_ne d.ring f h

theorem Dev.onSeg_eq_withSeg (d : Dev) (i : Nat) (f : Segment → Segment) : d.onSeg i f = d.withSeg i (f (d.ring.seg i)) := by
  have h : d.ring.segs.modify i f = d.ring.segs.modify i (fun _ => f (d.ring.seg i)) := by
    refine List.ext_getElem? fun j => ?_
    rw [List.getElem?_modify, List.getElem?_modify]
    by_cases hj : i = j
    · subst hj
      unfold Ring.seg
      rw [List.getD_eq_getElem?_getD]
      cases d.ring.segs[i]? <;> rfl
    · simp [hj]
  unfold Dev.withSeg Dev.onSeg Ring.onSeg
  rw [h]

theorem Dev.seg_withSeg {d : Dev} {i : Nat} (hi : i < d.ring.segs.length) (x : Segment) : (d.withSeg i x).ring.seg i = x := Dev.seg_onSeg_same hi _

/-- The time unit is not the ring's: stated apart, so that nothing unfolds where RC is led to. -/
theorem Dev.seg_withSeg_tu {d : Dev} {i : Nat} (hi : i < d.ring.segs.length) (t : Tu) (x : Segment) : (Dev.withSeg { d with tu := t } i x).ring.seg i = x := Dev.seg_withSeg hi x

theorem Dev.onSeg_withSeg {d : Dev} {i : Nat} (x : Segment) (f : Segment → Segment) : (d.withSeg i x).onSeg i f = d.withSeg i (f x) := by
  unfold Dev.withSeg Dev.onSeg Ring.onSeg
  rw [List.modify_modify_eq]
  rfl

theorem Dev.withSeg_self (d : Dev) (i : Nat) : d.withSeg i (d.ring.seg i) = d := by
  refine (d.onSeg_eq_withSeg i id).symm.trans ?_
  unfold Dev.onSeg Ring.onSeg
  rw [List.modify_id]

/-- What a replaced segment leaves. -/
theorem Dev.withSeg_rest {d e : Dev} {i : Nat} {x : Segment} (he : e = d.withSeg i x) :
    e = { d with ring := e.ring } ∧ e.ring = { d.ring with segs := e.ring.segs } ∧ ∀ j, j ≠ i → e.ring.seg j = d.ring.seg j := by
  subst he
  exact ⟨rfl, rfl, fun _ hj => Ring.seg_onSeg_ne d.ring _ hj⟩

/-- The device is `n` with the segment `z` for `i`, the host's part `h`, and what events touch. -/
def Dev.SegRow (n d : Dev) (i : Nat) (z : Segment) (h : Hif) : Prop :=
  d.Is { n with ring := { n.ring with segs := d.ring.segs }, host := h } ∧ d.host = h ∧ (∀ j, j ≠ i → d.ring.seg j = n.ring.seg j) ∧ d.ring.seg i = z

theorem Dev.segRow_withSeg {n : Dev} {i : Nat} (hi : i < n.ring.segs.length) (z : Segment) (h : Hif) : n.SegRow (Dev.withSeg { n with host := h } i z) i z h :=
  ⟨rfl, rfl, fun _ hj => Ring.seg_onSeg_ne n.ring _ hj, Dev.seg_withSeg (d := { n with host := h }) hi z⟩

theorem Dev.SegRow.of_core {n d e : Dev} {i : Nat} {z : Segment} {h : Hif} (hr : n.SegRow e i z h) (hc : d.core = e.core) : n.SegRow d i z h := by
  obtain ⟨hi, hh, hj, hz⟩ := hr
  have hring : d.ring = e.ring := (congrArg Dev.ring hc :)
  have hhost : d.host = e.host := (congrArg Dev.host hc :)
  unfold Dev.SegRow
  rw [hring, hhost]
  exact ⟨hc.trans hi, hh, hj, hz⟩

/-! ## Acyclic frames -/

/-- The instant `ofs` lies in the quiet window of segment `i`, and a frame of `len` bytes launched then returns before it closes (R50). -/
def Dev.QuietFits (d : Dev) (i ofs len : Nat) : Prop := d.quietOpen i ≤ ofs ∧ ofs + returnNs (d.ring.seg i) (d.ring.map.desc i).length len < d.quietClose

/-- The first waiting frame launches where it fits (R50), and a TWIN frame is not waited for (R326). -/
theorem Dev.acyclicLaunch_fits {d : Dev} {i ofs : Nat} {g : List Byte} {r : List (List Byte)} (hr : d.ctl.running = true) (hf : d.ctl.first = false) (hl : d.ring.role = 3)
    (hq : (d.ring.seg i).queue = g :: r) (hw : d.QuietFits i ofs g.length) :
    ∃ z, d.acyclicLaunch i ofs = Dev.withSeg { d with tu := d.tu.reach (d.mer d.ctl.cycle + ofs) } i z ∧ z.queue = r ∧
      (service g = 0x18 → z.sent = (d.ring.seg i).sent) ∧ (service g ≠ 0x18 → z.sent.length = (d.ring.seg i).sent.length + 1) := by
  unfold Dev.acyclicLaunch
  dsimp only
  rw [hq]
  dsimp only
  obtain ⟨ho, hc⟩ := hw
  rw [if_pos (by simp [hr, hf, hl, ho, hc]), Dev.onSeg_eq_withSeg]
  refine ⟨_, rfl, rfl, fun h18 => if_pos h18, fun h18 => ?_⟩
  dsimp only
  rw [if_neg h18, List.length_append]
  rfl

theorem Dev.acyclicLaunch_waits {d : Dev} {i ofs : Nat} {g : List Byte} {r : List (List Byte)} (hq : (d.ring.seg i).queue = g :: r) (hw : ¬d.QuietFits i ofs g.length) :
    d.acyclicLaunch i ofs = d := by
  unfold Dev.acyclicLaunch
  dsimp only
  rw [hq]
  dsimp only
  refine if_neg fun h => hw ?_
  simp only [Bool.and_eq_true, decide_eq_true_eq] at h
  obtain ⟨⟨-, ho⟩, hc⟩ := h
  exact ⟨ho, hc⟩

/-! ## LINK_TEST -/

/-- A returned frame that a takeover forwards changes nothing but the copy forwarded (R330). -/
theorem Dev.onward_eq (d : Dev) (i : Nat) (portA : Bool) (f : List Byte) : ∃ w, d.onward i portA f = d.withSeg i { d.ring.seg i with fwd := w } := by
  unfold Dev.onward
  split
  · exact ⟨_, d.onSeg_eq_withSeg i _⟩
  · exact ⟨(d.ring.seg i).fwd, (d.withSeg_self i).symm⟩

/-- The test of a segment's nodes touches none of the segment's own counts. -/
theorem linkTested_counts (s : Segment) (f : List Byte) : (linkTested s f).linkTransient = s.linkTransient ∧ (linkTested s f).linkLasting = s.linkLasting := by
  unfold linkTested
  generalize s.nodes = l
  induction l generalizing s with
  | nil => exact ⟨rfl, rfl⟩
  | cons e l ih =>
    rw [List.foldl_cons]
    split
    · exact ih s
    · exact ih _

theorem Segment.outstanding_fwd (x : Segment) (w : List Byte) (svc : Nat) (f : List Byte) : ({ x with fwd := w } : Segment).outstanding svc f = x.outstanding svc f := rfl

/-- A segment with a frame outstanding is one of the device's. -/
theorem Ring.lt_of_outstanding {r : Ring} {i svc : Nat} {f g : List Byte} (h : (r.seg i).outstanding svc f = some g) : i < r.segs.length := by
  refine Ring.lt_of_seg_ne fun he => ?_
  rw [he] at h
  unfold Segment.outstanding at h
  split at h <;> cases h

section

variable {n : Dev} {i : Nat} {f g : List Byte}

/-- A LINK_TEST that returns whole counts a transient fault (R320). -/
theorem Dev.linkTest_transient (hg : (n.ring.seg i).outstanding 0x17 f = some g) (hf : fcsOk f = true) :
    ∃ z, n.SegRow ((n.onward i false f).linkTest i f) i z n.host ∧ z.linkTransient = incSat 32 (n.ring.seg i).linkTransient ∧ z.linkLasting = (n.ring.seg i).linkLasting := by
  have hi := Ring.lt_of_outstanding hg
  obtain ⟨w, hw⟩ := n.onward_eq i false f
  rw [hw]
  unfold Dev.linkTest
  rw [Dev.seg_withSeg hi, Segment.outstanding_fwd, hg]
  dsimp only
  rw [if_pos hf, Dev.onSeg_withSeg, Dev.onSeg_withSeg]
  obtain ⟨ht, hl⟩ := linkTested_counts (Segment.took { n.ring.seg i with fwd := w } g) f
  exact ⟨_, Dev.segRow_withSeg hi _ n.host, congrArg (incSat 32) ht, hl⟩

/-- One with a wrong FCS counts a lasting fault, with its event (R320). -/
theorem Dev.linkTest_lasting (hg : (n.ring.seg i).outstanding 0x17 f = some g) (hf : fcsOk f = false) (hroom : n.EventRoom 1) :
    ∃ z, n.SegRow ((n.onward i false f).linkTest i f) i z n.host ∧ z.linkLasting = incSat 16 (n.ring.seg i).linkLasting ∧
      ((n.onward i false f).linkTest i f).Reports eLINK_LASTING (srcSeg i) [] := by
  have hi := Ring.lt_of_outstanding hg
  obtain ⟨w, hw⟩ := n.onward_eq i false f
  rw [hw]
  unfold Dev.linkTest
  rw [Dev.seg_withSeg hi, Segment.outstanding_fwd, hg]
  dsimp only
  rw [if_neg (by simp [hf]), Dev.onSeg_withSeg, Dev.onSeg_withSeg]
  obtain ⟨-, hl⟩ := linkTested_counts (Segment.took { n.ring.seg i with fwd := w } g) f
  exact ⟨_, (Dev.segRow_withSeg hi _ n.host).of_core (Dev.core_emit _ _), congrArg (incSat 16) hl, Dev.reports_emit _ (evSeg i eLINK_LASTING) fun _ => Nat.lt_of_succ_le hroom⟩

end

/-! ## The mailbox -/

/-- An acyclic frame takes the next sequence number, and waits or leaves. -/
theorem Dev.acyclic_withSeg {d : Dev} {i : Nat} (hi : i < d.ring.segs.length) (y : Segment) (svc dest : Nat) (pay : List Byte) :
    ∃ z, (d.withSeg i y).acyclic i svc dest pay = d.withSeg i z ∧ z.mail = y.mail ∧ z.seq = incWrap 16 y.seq := by
  unfold Dev.acyclic
  dsimp only
  rw [Dev.onSeg_withSeg, Dev.seg_withSeg hi]
  refine ⟨_, rfl, ?_⟩
  split <;> exact ⟨rfl, rfl⟩

/-- The response of an exchange is solicited: the exchange goes on (R287). -/
theorem Dev.mailSolicit_withSeg {d : Dev} {i : Nat} (hi : i < d.ring.segs.length) {y : Segment} {m : MailReq} (hm : y.mail = some m) :
    ∃ z, (d.withSeg i y).mailSolicit i = d.withSeg i z ∧ z.mail = some m ∧ z.seq = incWrap 16 y.seq := by
  unfold Dev.mailSolicit
  rw [Dev.seg_withSeg hi, hm]
  dsimp only
  split
  next o ho =>
    obtain ⟨z, hz, hzm, hzs⟩ := Dev.acyclic_withSeg hi y 0x01 m.node (mailPayload (mailBytes o) m.cap m.seq)
    rw [hz, Dev.onSeg_withSeg]
    exact ⟨_, rfl, hzm.trans hm, hzs⟩
  next =>
    obtain ⟨z, hz, hzm, hzs⟩ := Dev.acyclic_withSeg hi y 0x01 m.node (mailPayload [] m.cap m.seq)
    exact ⟨z, hz, hzm.trans hm, hzs⟩

/-- The next request of the segment goes out, where one waits (R287). -/
theorem Dev.mailStart_withSeg {d : Dev} {i : Nat} (hi : i < d.ring.segs.length) (y : Segment) : ∃ z, (d.withSeg i y).mailStart i = d.withSeg i z := by
  unfold Dev.mailStart
  rw [Dev.seg_withSeg hi]
  split
  · exact ⟨y, rfl⟩
  · split
    · exact ⟨y, rfl⟩
    next o _ _ =>
      extract_lets m
      obtain ⟨z, hz, -, -⟩ := Dev.acyclic_withSeg hi y 0x01 m.node (mailPayload (mailBytes o) m.cap 0)
      rw [hz, Dev.onSeg_withSeg]
      exact ⟨_, rfl⟩

/-- The operation `o` of `d` is over: it is open no more, and its reply waits with status `st` (R380). -/
def Hif.Ended (h : Hif) (d : Dev) (o : OpenOp) (st : Nat) : Prop :=
  o ∉ h.openOps ∧ ((d.host.pair o.req.h.pair).active = true → bit o.req.h.flags 1 = false → Dev.Answers { d with host := h } o.req st)

/-- A completion, and the release of the handle that it consumed, leave the open operations. -/
theorem Hif.openOps_replied (h : Hif) (q : HostReq) (res : Nat) (r : CmdRes) (done hold : Nat) (dup b : Bool) :
    ((h.complete q res r done hold dup).releaseHandle q b).openOps = h.openOps := by
  obtain ⟨ps, hp⟩ := Hif.complete_pairs h q res r done hold dup
  rw [Hif.releaseHandle_eq, hp]

/-- The end of an open operation is the host's alone. -/
theorem Dev.opEnd_ended {d : Dev} {o : OpenOp} (ho : o ∈ d.host.openOps) (r : CmdRes) (hold : Nat) :
    ∃ h, d.opEnd (some o) r hold = { d with host := h } ∧ h.Ended d o r.status := by
  obtain ⟨x, hx⟩ : ∃ x, d.host.openOps.find? (fun x => x.req = o.req) = some x :=
    Option.isSome_iff_exists.mp (List.find?_isSome.mpr ⟨o, ho, decide_eq_true rfl⟩)
  have hxo : x.req = o.req := of_decide_eq_true (List.find?_some hx :)
  unfold Dev.opEnd
  dsimp only
  rw [hx]
  dsimp only
  rw [hxo]
  have hn : o ∉ (d.host.openOps.filter (fun y => y.req ≠ o.req)) := by simp
  refine ⟨_, rfl, ?_, fun ha hq => ?_⟩
  · rw [Hif.openOps_replied]
    exact hn
  · exact (Dev.reply_waits { d with host := { d.host with openOps := d.host.openOps.filter (fun y => y.req ≠ o.req) } } o.req x.res r d.ctl.cycle hold false ha (Or.inl hq)).1

/-- A mailbox exchange of an open request ends with the request's operation, and the next one goes on (R287, R418). -/
theorem Dev.mailEnd_withSeg {d : Dev} {i : Nat} (hi : i < d.ring.segs.length) {y : Segment} {m : MailReq} (hm : y.mail = some m) {o : OpenOp} (ho : d.mailOp m = some o) (r : CmdRes) :
    ∃ h z, (d.withSeg i y).mailEnd i r = Dev.withSeg { d with host := h } i z ∧ h.Ended d o r.status := by
  obtain ⟨h, he, hend⟩ := Dev.opEnd_ended (d := d.withSeg i y) (List.mem_of_find?_eq_some ho) r 0
  refine ⟨h, ?_⟩
  have ho' : (d.withSeg i y).mailOp m = some o := ho
  have hs : ({ d.withSeg i y with host := h } : Dev).ring.seg i = y := Dev.seg_withSeg hi y
  have ha (f : Segment → Segment) : ({ d.withSeg i y with host := h } : Dev).onSeg i f = Dev.withSeg { d with host := h } i (f y) := Dev.onSeg_withSeg (d := { d with host := h }) y f
  unfold Dev.mailEnd
  rw [Dev.seg_withSeg hi, hm]
  dsimp only
  rw [ho', he, hs]
  split
  next q _ =>
    rw [ha]
    obtain ⟨z, hz, -, -⟩ := Dev.mailSolicit_withSeg (d := { d with host := h }) hi (y := { y with mail := some q, mailNext := none }) rfl
    exact ⟨z, hz, hend⟩
  next =>
    rw [ha]
    obtain ⟨z, hz⟩ := Dev.mailStart_withSeg (d := { d with host := h }) hi { y with mail := none }
    exact ⟨z, hz, hend⟩

section

variable {n : Dev} {i : Nat} {f g : List Byte} {m : MailReq}

/-- A mailbox frame that was outstanding is the segment's no more, and the exchange is as the frame answers it (R287, R418). -/
theorem Dev.mailFrame_returned (hg : (n.ring.seg i).outstanding 0x01 f = some g) (hm : (n.ring.seg i).mail = some m) :
    ∃ y : Segment, y.mail = some m ∧ y.seq = (n.ring.seg i).seq ∧ (n.onward i false f).mailFrame i f =
      if !m.sent then (n.withSeg i { y with mail := some { m with sent := true } }).mailSolicit i
      else if fcsOk f && pay f 48 2 = m.seq && (pay f 50 1 = 1 || pay f 50 1 = 3) then (n.withSeg i y).mailEnd i { pay := mailReply f m.cap }
      else (n.withSeg i y).mailSolicit i := by
  obtain ⟨w, hw⟩ := n.onward_eq i false f
  refine ⟨Segment.took { n.ring.seg i with fwd := w } g, hm, rfl, ?_⟩
  rw [hw]
  unfold Dev.mailFrame
  dsimp only
  rw [Dev.seg_withSeg (Ring.lt_of_outstanding hg), Segment.outstanding_fwd, hg, hm]
  dsimp only
  rw [Dev.onSeg_withSeg, Dev.onSeg_withSeg]

/-- The first return of a request solicits the response (R287). -/
theorem Dev.mailFrame_request (hg : (n.ring.seg i).outstanding 0x01 f = some g) (hm : (n.ring.seg i).mail = some m) (hs : m.sent = false) :
    ∃ z, (n.onward i false f).mailFrame i f = n.withSeg i z ∧ z.mail = some { m with sent := true } ∧ z.seq = incWrap 16 (n.ring.seg i).seq := by
  obtain ⟨y, -, hy, he⟩ := Dev.mailFrame_returned hg hm
  rw [he, if_pos (by simp [hs]), ← hy]
  exact Dev.mailSolicit_withSeg (Ring.lt_of_outstanding hg) rfl

/-- A response that is not done or rejected is solicited again (R287). -/
theorem Dev.mailFrame_pending (hg : (n.ring.seg i).outstanding 0x01 f = some g) (hm : (n.ring.seg i).mail = some m) (hs : m.sent = true) (h1 : pay f 50 1 ≠ 1) (h3 : pay f 50 1 ≠ 3) :
    ∃ z, (n.onward i false f).mailFrame i f = n.withSeg i z ∧ z.mail = some m := by
  obtain ⟨y, hy, -, he⟩ := Dev.mailFrame_returned hg hm
  rw [he, if_neg (by simp [hs]), if_neg (by simp [h1, h3])]
  obtain ⟨z, hz, hzm, -⟩ := Dev.mailSolicit_withSeg (Ring.lt_of_outstanding hg) hy
  exact ⟨z, hz, hzm⟩

/-- A response done or rejected ends the request (R418). -/
theorem Dev.mailFrame_answered {o : OpenOp} (hg : (n.ring.seg i).outstanding 0x01 f = some g) (hm : (n.ring.seg i).mail = some m) (hs : m.sent = true) (hf : fcsOk f = true)
    (hq : pay f 48 2 = m.seq) (ht : pay f 50 1 = 1 ∨ pay f 50 1 = 3) (ho : n.mailOp m = some o) :
    ∃ h z, (n.onward i false f).mailFrame i f = Dev.withSeg { n with host := h } i z ∧ h.Ended n o 0 := by
  obtain ⟨y, hy, -, he⟩ := Dev.mailFrame_returned hg hm
  rw [he, if_neg (by simp [hs]), if_pos (by simpa [hf, hq] using ht)]
  exact Dev.mailEnd_withSeg (Ring.lt_of_outstanding hg) hy ho _

/-- An exchange that times out ends with 0x0603 (R418). -/
theorem Dev.mailTimeout_ends {o : OpenOp} (hm : (n.ring.seg i).mail = some m) (ho : n.mailOp m = some o) :
    ∃ h z, n.mailTimeout i = Dev.withSeg { n with host := h } i z ∧ h.Ended n o 0x0603 := by
  have hi : i < n.ring.segs.length := Ring.lt_of_seg_ne fun he => by rw [he] at hm; cases hm
  obtain ⟨h, z, he, hend⟩ := Dev.mailEnd_withSeg hi hm ho { status := 0x0603 }
  refine ⟨h, z, ?_, hend⟩
  rw [n.withSeg_self] at he
  unfold Dev.mailTimeout
  rw [if_pos (by rw [hm]; rfl), he]

end

/-! ## Links -/

/-- No link comes up without SD_REFCLK (R562). -/
theorem Dev.linkState_sdLost {d : Dev} (h : d.power.sdLost = true) (plant : Bool) (i : Nat) (sideB : Bool) : d.linkState plant i sideB true = d :=
  if_pos (by rw [h]; rfl)

theorem Dev.linkState_segment {d : Dev} {i : Nat} (h : d.power.sdLost = false) (hb : 4 ≤ i → d.power.segb = true) (sideB up : Bool) :
    d.linkState false i sideB up = d.onSeg i (fun y => if sideB then { y with upB := up } else { y with upA := up }) := by
  unfold Dev.linkState
  rw [if_neg (by simpa [h] using fun _ => hb), if_neg (by simp)]

theorem Dev.linkState_plant {d : Dev} (h : d.power.sdLost = false) (hp : d.power.plant = true) (i : Nat) (sideB up : Bool) :
    d.linkState true i sideB up = { d with tu := { d.tu with ports := d.tu.ports.modify i (fun p => { p with up := up }) } } := by
  unfold Dev.linkState
  rw [if_neg (by simp [h, hp]), if_pos rfl]

/-! ## The obligation -/

/-- A row of a segment, counters that filled and all, leaves the rest of the device. -/
theorem Dev.SegRow.satCheck {n e : Dev} {i : Nat} {z : Segment} {h : Hif} (hr : n.SegRow e i z h) (b : Dev) : n.SegRow (Dev.satCheck b e) i z h :=
  hr.of_core (Dev.core_satCheck b e)

/-- What a row of a segment leaves of the device, with the host's part that it reached. -/
theorem Dev.SegRow.rest {n d : Dev} {i : Nat} {z : Segment} {h : Hif} (hr : n.SegRow d i z h) :
    d.Is { n with ring := { n.ring with segs := d.ring.segs }, host := d.host } ∧ ∀ j, j ≠ i → d.ring.seg j = n.ring.seg j := by
  obtain ⟨hi, rfl, hj, -⟩ := hr
  exact ⟨hi, hj⟩

/-- The reply of an operation that ended waits in every device with that host's part. -/
theorem Hif.Ended.answers {n d : Dev} {o : OpenOp} {st : Nat} (he : d.host.Ended n o st) :
    o ∉ d.host.openOps ∧ ((n.host.pair o.req.h.pair).active = true → bit o.req.h.flags 1 = false → d.Answers o.req st) := he

/-- Settles O35: each row replaces one segment of the ring (`Dev.SegRow`); the end of a mailbox exchange is the host's part besides (`Hif.Ended`). -/
theorem ringAcyclicTraffic : Obligations.RingAcyclicTraffic := by
  intro s i ofs f g m o hroom n x fits rest answered
  have hrow {z : Segment} {h : Hif} (hi : i < n.ring.segs.length) : n.SegRow (Dev.satCheck n (Dev.withSeg { n with host := h } i z)) i z h := (Dev.segRow_withSeg hi z h).satCheck n
  have hans {h : Hif} {z : Segment} {st : Nat} (hi : i < n.ring.segs.length) (he : h.Ended n o st) : answered st (Dev.satCheck n (Dev.withSeg { n with host := h } i z)) := by
    have hr := hrow (z := z) (h := h) hi
    have hh : (Dev.satCheck n (Dev.withSeg { n with host := h } i z)).host = h := Dev.host_satCheck _ _
    rw [← hh] at he
    exact ⟨hr.rest, he.answers⟩
  refine ⟨fun r hrun hfirst hrole hq => ⟨fun hw => ?_, fun hw => ?_⟩, fun hg => ⟨fun hf => ?_, fun hf => ?_⟩,
    fun hg hm => ⟨fun hs => ?_, fun hs hf hseq ht ho => ?_, fun hs h1 h3 => ?_⟩, fun hm ho => ?_, fun sideB up hsd hb => ?_, fun sideB up hsd hp => ?_, fun hsd plant sideB => ?_⟩
  · have hi : i < n.ring.segs.length := Ring.lt_of_seg_ne fun he => by
      rw [show x.queue = ({} : Segment).queue from congrArg Segment.queue he] at hq
      cases hq
    obtain ⟨z, he, hzq, hzl, hzs⟩ := Dev.acyclicLaunch_fits hrun hfirst hrole hq hw
    obtain ⟨hd, hr, hj⟩ := Dev.withSeg_rest he
    refine completes_does (f := fun d => d.acyclicLaunch i ofs) rfl ⟨hd, hr, hj, ?_⟩
    have hz : (n.acyclicLaunch i ofs).ring.seg i = z := by
      rw [he]
      exact Dev.seg_withSeg_tu hi _ z
    rw [hz]
    exact ⟨hzq, hzl, hzs⟩
  · exact completes_does (f := fun d => d.acyclicLaunch i ofs) rfl (Dev.acyclicLaunch_waits hq hw)
  · obtain ⟨z, hr, ht, hl⟩ := Dev.linkTest_transient hg hf
    obtain ⟨his, hh, hj, hz⟩ := hr.satCheck n
    refine completes_act (f := fun d => (d.onward i false f).linkTest i f) rfl ⟨his, hj, ?_, ?_⟩
    · rw [hz, ht]
    · rw [hz, hl]
  · obtain ⟨z, hr, hl, hrep⟩ := Dev.linkTest_lasting hg hf hroom
    obtain ⟨his, hh, hj, hz⟩ := hr.satCheck n
    refine completes_act (f := fun d => (d.onward i false f).linkTest i f) rfl ⟨his, hj, ?_, Dev.reports_satCheck _ _ hrep⟩
    rw [hz, hl]
  · obtain ⟨z, he, hzm, hzs⟩ := Dev.mailFrame_request hg hm hs
    have hr := hrow (z := z) (h := n.host) (Ring.lt_of_outstanding hg)
    refine completes_act (f := fun d => (d.onward i false f).mailFrame i f) rfl ?_
    rw [he]
    refine ⟨hr.rest, ?_⟩
    obtain ⟨-, hh, -, hz⟩ := hr
    exact ⟨hh, (congrArg Segment.mail hz).trans hzm, (congrArg Segment.seq hz).trans hzs⟩
  · obtain ⟨h, z, he, hend⟩ := Dev.mailFrame_answered hg hm hs hf hseq ht ho
    refine completes_act (f := fun d => (d.onward i false f).mailFrame i f) rfl ?_
    rw [he]
    exact hans (Ring.lt_of_outstanding hg) hend
  · obtain ⟨z, he, hzm⟩ := Dev.mailFrame_pending hg hm hs h1 h3
    have hr := hrow (z := z) (h := n.host) (Ring.lt_of_outstanding hg)
    refine completes_act (f := fun d => (d.onward i false f).mailFrame i f) rfl ?_
    rw [he]
    refine ⟨hr.rest, ?_⟩
    obtain ⟨-, hh, -, hz⟩ := hr
    exact ⟨hh, (congrArg Segment.mail hz).trans hzm⟩
  · have hi : i < n.ring.segs.length := Ring.lt_of_seg_ne fun he => by
      rw [show x.mail = ({} : Segment).mail from congrArg Segment.mail he] at hm
      cases hm
    obtain ⟨h, z, he, hend⟩ := Dev.mailTimeout_ends hm ho
    refine completes_act (f := fun d => d.mailTimeout i) rfl ?_
    rw [he]
    exact hans hi hend
  · exact completes_does (f := fun d => d.linkState false i sideB up) rfl (Dev.linkState_segment hsd hb sideB up)
  · exact completes_does (f := fun d => d.linkState true i sideB up) rfl (Dev.linkState_plant hsd hp i sideB up)
  · exact completes_does (f := fun d => d.linkState plant i sideB true) rfl (Dev.linkState_sdLost hsd plant i sideB)

end Sys2Proof.Machine

/-! PROOFS. Reactions and timers of a servo axis that go on by themselves (R97, R98, R146, R167, R574; Tables 3.5 and 4.10): each changes its one axis, and two of them report it. -/

namespace Sys2Proof.Machine

open Sys2Proof

/-! ## One axis of a device -/

/-- Of `d`, `e` differs in its axis `a` alone, which is `x`. -/
def Dev.OnlyAxis (d e : Dev) (a : Nat) (x : Axis) : Prop :=
  e = { d with motion := { d.motion with axes := e.motion.axes } } ∧ (∀ b, b ≠ a → e.axis? b = d.axis? b) ∧ e.axis? a = some x

/-- Of `d`, `e` differs in its axis `a`, which is `x`, and in what events touch, with `ev` reported. -/
def Dev.AxisReports (d e : Dev) (a : Nat) (x : Axis) (ev : Ev) : Prop :=
  e.Is { d with motion := { d.motion with axes := e.motion.axes } } ∧ (∀ b, b ≠ a → e.axis? b = d.axis? b) ∧ e.axis? a = some x ∧ e.Reports ev.code ev.src ev.args

section

variable {d : Dev} {a : Nat} {ax : Axis}

theorem Dev.onlyAxis_onAxis (hax : d.axis? a = some ax) (f : Axis → Axis) : d.OnlyAxis (d.onAxis a f) a (f ax) :=
  ⟨rfl, fun b hb => by rw [Dev.axis?_onAxis, if_neg hb], Dev.axis?_onAxis_same hax f⟩

theorem Dev.axisReports_emit (hax : d.axis? a = some ax) (hroom : d.EventRoom 1) (b : Dev) (f : Axis → Axis) (ev : Ev) :
    d.AxisReports (Dev.satCheck b ((d.onAxis a f).emit ev)) a (f ax) ev := by
  have hr := Dev.reports_satCheck b _ (Dev.reports_emit (d.onAxis a f) ev fun _ => Nat.lt_of_succ_le hroom)
  have hc := (Dev.core_satCheck b _).trans (Dev.core_emit (d.onAxis a f) ev)
  obtain ⟨he, ho, hx⟩ := Dev.onlyAxis_onAxis hax f
  generalize Dev.satCheck b _ = e at hr hc ⊢
  refine ⟨?_, fun c hn => (Dev.axis?_of_core hc c).trans (ho c hn), (Dev.axis?_of_core hc a).trans hx, hr⟩
  rw [Dev.motion_of_core hc]
  exact hc.trans (congrArg Dev.core he)

/-! ## The end of a quick stop (Table 3.5, R97, R98) -/

theorem Dev.standstill_halts (hax : d.axis? a = some ax) (hst : ax.now.sup.state = 3)
    (hk : ∃ k, ax.now.sup.stillCnt = some k ∧ cyclesOf (ax.prm.nat pSTANDSTILL_TIME) (d.period ax) ≤ k) :
    d.standstill a = d.onAxis a (fun ax => ax.onWork Work.halt) := by
  have hdue : ax.stillDue (d.period ax) = true := by
    unfold Axis.stillDue
    rw [hst, reached_of_exists hk]
    rfl
  unfold Dev.standstill
  rw [hax]
  dsimp only
  rw [if_pos hdue]

theorem not_reached_of_not_exists {c : Option Nat} {n : Nat} (h : ¬∃ k, c = some k ∧ n ≤ k) : reached c n = false := by
  cases c with
  | none => rfl
  | some k => exact decide_eq_false fun hk => h ⟨k, rfl, hk⟩

theorem Dev.qsTimeout_escalates (hax : d.axis? a = some ax) (hst : ax.now.sup.state = 3)
    (hk : ∃ k, ax.now.sup.qsCnt = some k ∧ cyclesOf (ax.prm.nat pQS_TIMEOUT) (d.period ax) ≤ k)
    (hs : ¬∃ k, ax.now.sup.stillCnt = some k ∧ cyclesOf (ax.prm.nat pSTANDSTILL_TIME) (d.period ax) ≤ k) :
    d.qsTimeout a = (d.onAxis a (fun ax => ax.onWork Work.escalate)).emit (evC (srcAxis a) eQS_TIMEOUT) := by
  have hdue : ax.qsDue (d.period ax) = true := by
    unfold Axis.qsDue Axis.stillDue
    rw [hst, reached_of_exists hk, not_reached_of_not_exists hs]
    rfl
  unfold Dev.qsTimeout
  rw [hax]
  dsimp only
  rw [if_pos hdue]

/-! ## Blend, switch and hard stop -/

theorem Axis.onWork_congr (ax : Axis) {f g : Work → Work} (h : f ax.now = g ax.now) : ax.onWork f = ax.onWork g := by
  unfold Axis.onWork Axis.now at *
  split <;> simp_all

theorem Work.endBlend_ended {w : Work} {b : Blend} (hb : w.k.blend = some b) (hk : b.h ≤ b.k) (hr : w.r.blending = false) :
    w.endBlend = { w with k := { w.k with blend := none } } := by
  unfold Work.endBlend
  rw [hb]
  dsimp only
  rw [if_pos (by simp [hk, hr])]

theorem Axis.onSwitch_congr (ax : Axis) {w : Nat} (hw : w < 3) {f g : Switch → Switch} (h : f (ax.switch w) = g (ax.switch w)) : ax.onSwitch w f = ax.onSwitch w g := by
  obtain rfl | rfl | rfl : w = 0 ∨ w = 1 ∨ w = 2 := by omega
  · exact congrArg (fun sw => { ax with swPos := sw }) h
  · exact congrArg (fun sw => { ax with swNeg := sw }) h
  · exact congrArg (fun sw => { ax with swHome := sw }) h

theorem Switch.settle_settled {sw : Switch} {tcyc : Nat} {limit : Bool} (hsrc : sw.src.isSome = true) (hraw : sw.raw ≠ sw.active)
    (hrun : sw.debounceCycles tcyc ≤ sw.runCycles) (hl : limit = false ∨ sw.raw = false) : sw.settle tcyc limit = { sw with active := sw.raw } := by
  have hlr : (limit && sw.raw) = false := by rcases hl with h | h <;> simp [h]
  unfold Switch.settle
  rw [if_pos (by simp [hsrc, hraw, hrun, hlr])]

theorem Axis.pressEnd_done {T : Rat} (hst : ax.home.state = 5) (hk : ∃ k, ax.now.sup.hsCnt = some k ∧ cyclesOf (ax.prm.nat pHOME_HS_TIME) T ≤ k) :
    ax.pressEnd T = { ax with home := { ax.home with pressDone := true } } := by
  unfold Axis.pressEnd
  rw [if_pos (by simp [hst, reached_of_exists hk])]

/-! ## HOME_TIMEOUT (Table 4.10) -/

/-- The failure of a homing with cause TIMEOUT, for the work in progress. -/
def Axis.homeTimedOut (ax : Axis) : Axis × List AxEvent := ax.through (fun ax => (ax.homeFail 3, [{ code := 11, a := 3 }]))

theorem Axis.homeTimedOut_eq (ax : Axis) :
    ax.homeTimedOut.2 = [{ code := 11, a := 3 }] ∧ ax.homeTimedOut.1.home = { ax.home with state := 9, cause := 3 } ∧ ax.homeTimedOut.1.trqOvr = none ∧
      ax.homeTimedOut.1.prm = ax.prm := by
  unfold Axis.homeTimedOut Axis.through
  split <;> exact ⟨rfl, rfl, rfl, rfl⟩

/-- HOME_FAILED with the class, the state after the failure, HOME_STATE 9 and REFERENCED. -/
def Axis.homeTimedOutEvent (ax : Axis) (a : Nat) : Ev :=
  evC (srcAxis a) fHOME_FAILED
    [BitVec.ofNat 8 (classOf ax.prm pREACT_code fHOME_FAILED), BitVec.ofNat 8 ax.homeTimedOut.1.now.sup.state, 9, if ax.home.referenced then 1 else 0]

theorem Axis.events_homeTimedOut (ax : Axis) (a : Nat) : ax.homeTimedOut.1.events a ax.homeTimedOut.2 = [ax.homeTimedOutEvent a] := by
  obtain ⟨hev, hhome, -, hprm⟩ := ax.homeTimedOut_eq
  unfold Axis.events
  rw [hev, hprm, hhome]
  rfl

theorem Dev.homeTimeout_fails (hax : d.axis? a = some ax) (hm : ax.now.sup.mode = 5) (hst : ax.now.sup.state = 1 ∨ ax.now.sup.state = 2) (hs : ax.home.searching = true)
    (ht : ax.prm.nat pHOME_TIMEOUT * 1000000 ≤ (d.ctl.cycle - ax.home.began) * d.tcyc) :
    d.homeTimeout false a = (d.onAxis a (fun _ => ax.homeTimedOut.1)).emit (ax.homeTimedOutEvent a) := by
  have hdue : (ax.now.sup.mode = 5 && (ax.now.sup.state = 1 || ax.now.sup.state = 2) && ax.home.searching &&
      ax.home.timedOut (ax.prm.nat pHOME_TIMEOUT) d.tcyc d.ctl.cycle) = true := by
    simp [hm, hst, hs, Homing.timedOut, ht]
  unfold Dev.homeTimeout
  rw [if_neg Bool.false_ne_true, hax]
  dsimp only
  rw [if_pos hdue]
  exact congrArg (Dev.emits _) (ax.events_homeTimedOut a)

end

/-- Settles O16: each row, once its count has been reached, makes the one change that its table gives it. -/
theorem servoReactionsProceed : Obligations.ServoReactionsProceed := by
  intro s a ax hax hroom only still
  have reports := Dev.axisReports_emit hax hroom s.dev
  refine ⟨fun hst hk => ?_, fun hst hk hn => ?_, fun b hb hk hr => ?_, fun w hw hsrc hraw hrun hl => ?_, fun hst hk => ?_, fun hm hst hs ht => ?_⟩
  · refine completes_does (f := fun d => d.standstill a) rfl ?_
    rw [Dev.standstill_halts hax hst hk]
    exact Dev.onlyAxis_onAxis hax _
  · refine completes_act (f := fun d => d.qsTimeout a) rfl ?_
    rw [Dev.qsTimeout_escalates hax hst hk hn]
    obtain ⟨hi, ho, hx, hr⟩ := reports (fun ax => ax.onWork Work.escalate) (evC (srcAxis a) eQS_TIMEOUT)
    refine ⟨hi, ho, hr, _, hx, ?_⟩
    rw [Axis.now_onWork]
    exact ⟨rfl, rfl, rfl, rfl⟩
  · refine completes_does (f := fun d => d.onAxis a (fun ax => ax.onWork Work.endBlend)) rfl ?_
    rw [← ax.onWork_congr (Work.endBlend_ended hb hk hr)]
    exact Dev.onlyAxis_onAxis hax _
  · refine completes_does (f := fun d => d.onAxis a (fun ax => ax.onSwitch w (fun sw => sw.settle d.tcyc (w ≠ 2)))) rfl ?_
    have hsw := Switch.settle_settled (limit := decide (w ≠ 2)) hsrc hraw hrun (hl.imp_left fun h => by simp [h])
    rw [← ax.onSwitch_congr hw (f := fun sw => sw.settle s.dev.tcyc (w ≠ 2)) hsw]
    exact Dev.onlyAxis_onAxis hax _
  · refine completes_does (f := fun d => d.onAxis a (fun ax => ax.pressEnd (d.period ax))) rfl ?_
    rw [← Axis.pressEnd_done hst hk]
    exact Dev.onlyAxis_onAxis hax _
  · refine completes_act (f := fun d => d.homeTimeout false a) rfl ?_
    rw [Dev.homeTimeout_fails hax hm hst hs ht]
    obtain ⟨-, hhome, htrq, -⟩ := ax.homeTimedOut_eq
    obtain ⟨hi, ho, hx, hr⟩ := reports (fun _ => ax.homeTimedOut.1) (ax.homeTimedOutEvent a)
    exact ⟨hi, ho, _, hx, hhome, htrq, hr⟩

end Sys2Proof.Machine

/-! PROOFS. AXIS_DISABLE on a servo axis whose state number Table 3.5 does not have: a state that refutes the statement of O58. -/

namespace Sys2Proof.Machine

open Sys2Proof

/-- The header of AXIS_DISABLE for servo axis 0, on pair 0. -/
def disableHead : CmdHead := { kind := 1, index := 0, auth := 1, effective := 0 }

/-- The command itself. -/
def disableReq : HostReq := { op := 0x1013, h := disableHead, pay := [] }

/-- A servo axis in state 6; Table 3.5 ends with 5, TORQUE_OFF. -/
def axisOffTable : Axis := { ({} : Axis) with w := { ({} : Work) with sup := { ({} : Sup) with state := 6 } } }

/-- The owner's pair is in use, and that axis is configured. -/
def disableOffTable : State :=
  { dev := { ({} : Dev) with
      host := { ({} : Hif) with owned := true, token := 1, linkUp := true, mgtReady := true, pairs := [{ ({} : Pair) with active := true }] }
      motion := { ({} : Motion) with axes := [(0, axisOffTable)] } } }

theorem disableOffTable_accepts : disableOffTable.dev.accepts disableReq := by
  unfold Dev.accepts
  decide +kernel

/-- AXIS_DISABLE takes the axis from state 6 to OFF. -/
theorem disableOffTable_ends_off : ∃ t, exec (.axisDisable disableHead []) disableOffTable = .next t ∧ (t.dev.axis 0).now.sup.state = 0 := by
  refine ⟨_, rfl, ?_⟩
  decide +kernel

/-- Refutes O58: AXIS_DISABLE is to leave every state but OK, FE_TIMING, QUICKSTOP and HALTED as it is, and the statement does not say that the state is one of Table 3.5; an axis with
state number 6 goes to OFF. -/
theorem not_axisAndParameterCommandsAct : ¬ Obligations.AxisAndParameterCommandsAct := by
  intro h
  obtain ⟨-, -, -, -, -, hdisable, -⟩ := h disableOffTable disableHead []
  obtain ⟨t, ht, -, -, -, -, hst, -⟩ := (hdisable disableOffTable_accepts).1 rfl
  obtain ⟨u, hu, hoff⟩ := disableOffTable_ends_off
  obtain rfl : t = u := by simpa using ht.symm.trans hu
  exact absurd (hst.symm.trans hoff) (by decide +kernel)

end Sys2Proof.Machine

/-! PROOFS. The delivery of the set-points of a cycle to a servo axis (R103 to R105, R112, R157): what it leaves of the axis, and the set-point without torque and under a plan. -/

namespace Sys2Proof.Machine

open Sys2Proof

/-! ## What a delivery leaves of an axis -/

/-- The command in an axis's output slot and the feedback of its input slot. -/
def Axis.slotData (ax : Axis) : OutCmd × Feedback := (ax.out, ax.fb)

theorem Axis.slotData_takeDecisions (ax : Axis) (tcyc n : Nat) (ahead : Bool) : (ax.takeDecisions tcyc n ahead).slotData = ax.slotData := by
  unfold Axis.takeDecisions
  repeat' split
  all_goals rfl

theorem Axis.slotData_applyReference (ax : Axis) (n : Nat) (ahead : Bool) : (ax.applyReference n ahead).slotData = ax.slotData := by
  unfold Axis.applyReference
  dsimp only
  repeat' split
  all_goals rfl

theorem Axis.slotData_homeStep (ax : Axis) (tcyc n : Nat) (ahead : Bool) : (ax.homeStep tcyc n ahead).1.slotData = ax.slotData := by
  unfold Axis.homeStep
  dsimp only
  repeat' refine iteInduction (motive := fun r : Axis × List AxEvent => r.1.slotData = ax.slotData) (fun _ => ?_) (fun _ => ?_)
  any_goals rfl
  exact Axis.slotData_applyReference _ _ _

/-- What the set-points of a cycle make of an axis before the planner looks at its jerk limits. -/
def Axis.handed (ax : Axis) : OutCmd × Feedback × SetPoint × SetPoint × Nat × Work := (ax.out, ax.fb, ax.sp, ax.spPrev, ax.spCycle, ax.w)

theorem Axis.handed_jerkPoint (ax : Axis) (tcyc n : Nat) : (ax.jerkPoint tcyc n).handed = ax.handed ∧ (ax.jerkPoint tcyc n).prm = ax.prm ∧ ((ax.jerkPoint tcyc n).fol = ax.fol) := by
  unfold Axis.jerkPoint
  repeat' split
  all_goals exact ⟨rfl, rfl, rfl⟩

theorem Axis.handed_phaseMoveN (ax : Axis) (tcyc n0 : Nat) (tgt oldD oldJ : Int) (lowered held : Bool) :
    (ax.phaseMoveN tcyc n0 tgt oldD oldJ lowered held).1.handed = ax.handed := by
  unfold Axis.phaseMoveN
  split <;> rfl

theorem Axis.handed_phaseMMoveN (ax : Axis) (o : Orrery) (cam : Option Cam) (tcyc n0 : Nat) (tgt oldD oldJ : Int) (lowered held : Bool) :
    (ax.phaseMMoveN o cam tcyc n0 tgt oldD oldJ lowered held).1.handed = ax.handed := by
  unfold Axis.phaseMMoveN
  split <;> rfl

theorem Axis.handed_phasePoint (ax : Axis) (o : Option Orrery) (cam : Option Cam) (tcyc n : Nat) : (ax.phasePoint o cam tcyc n).handed = ax.handed := by
  unfold Axis.phasePoint
  extract_lets j d x
  have hx : x.handed = ax.handed := by
    show (match ax.fol with | some _ => _ | none => ax : Axis).handed = ax.handed
    split
    · split
      · exact ax.handed_phaseMoveN ..
      · rfl
    · rfl
  clear_value x
  repeat' split
  any_goals exact hx
  exact (x.handed_phaseMMoveN ..).trans hx

theorem Axis.phasePoint_uncoupled {ax : Axis} (h : ax.fol = none) (o : Option Orrery) (cam : Option Cam) (tcyc n : Nat) : ax.phasePoint o cam tcyc n = ax := by
  unfold Axis.phasePoint
  simp only [h]

/-! ## The delivery of an axis -/

/-- The axis whose set-points a delivery makes: reactions have acted, and the homing sequencer has decided (R104). -/
def Axis.decided (ax : Axis) (tcyc n : Nat) (ahead : Bool) : Axis :=
  let x := ax.takeDecisions tcyc n ahead
  (if x.w.sup.mode = 5 && x.w.sup.state ≠ 0 && x.w.sup.state ≠ 5 then (x.homeStep tcyc n ahead).1 else x).takeDecisions tcyc n ahead

theorem Axis.slotData_decided (ax : Axis) (tcyc n : Nat) (ahead : Bool) : (ax.decided tcyc n ahead).slotData = ax.slotData := by
  unfold Axis.decided
  dsimp only
  rw [Axis.slotData_takeDecisions]
  split
  · rw [Axis.slotData_homeStep, Axis.slotData_takeDecisions]
  · rw [Axis.slotData_takeDecisions]

theorem Axis.takeDecisions_none {ax : Axis} (hq : ax.w.sup.qsNew = false) (ho : ax.w.sup.offNew = false) (tcyc n : Nat) (ahead : Bool) :
    ax.takeDecisions tcyc n ahead = ax := by
  simp only [Axis.takeDecisions, hq, ho, Bool.false_eq_true, if_false]

/-- Outside HOME and without a reaction to take up, nothing is decided. -/
theorem Axis.decided_none {ax : Axis} (hq : ax.w.sup.qsNew = false) (ho : ax.w.sup.offNew = false) (hm : ax.w.sup.mode ≠ 5) (tcyc n : Nat) (ahead : Bool) :
    ax.decided tcyc n ahead = ax := by
  simp only [Axis.decided, Axis.takeDecisions_none hq ho, hm, decide_false, Bool.false_and, Bool.false_eq_true, if_false]

/-- The Orrery has source AXIS_ACT. -/
def actSource (o : Option Orrery) : Bool := match o with | some o => o.axisSrc | none => false

/-- The set-point that an axis gets in cycle `n`, with the conditions that it meets. -/
def Axis.judged (ax : Axis) (tcyc n : Nat) (o : Option Orrery) (cam : Option Cam) : SetPoint × List (Nat × Nat) := ax.judge (ax.sourceSp tcyc n o cam) (actSource o)

/-- An axis takes over a set-point of cycle `n` and the conditions that it meets. -/
def Axis.given (ax : Axis) (n : Nat) (j : SetPoint × List (Nat × Nat)) : Axis :=
  { ax.spRaise j.2 with spPrev := ax.sp, sp := j.1, spCycle := n, deferPrev := ax.deferNow, overPrev := ax.overNow }

theorem Axis.ax_deliver (ax : Axis) (tcyc n : Nat) (ahead : Bool) (o : Option Orrery) (cam : Option Cam) :
    (ax.deliver tcyc n ahead o cam).ax =
      (((ax.decided tcyc n ahead).given n ((ax.decided tcyc n ahead).judged tcyc n o cam)).jerkPoint tcyc n).phasePoint o cam tcyc n := by
  have hd : ax.decided tcyc n ahead = Axis.takeDecisions (if (ax.takeDecisions tcyc n ahead).w.sup.mode = 5 && (ax.takeDecisions tcyc n ahead).w.sup.state ≠ 0 &&
      (ax.takeDecisions tcyc n ahead).w.sup.state ≠ 5 then (ax.takeDecisions tcyc n ahead).homeStep tcyc n ahead else (ax.takeDecisions tcyc n ahead, [])).1 tcyc n ahead := by
    rw [apply_ite Prod.fst]
    rfl
  rw [hd]
  rfl

theorem Axis.handed_deliver (ax : Axis) (tcyc n : Nat) (ahead : Bool) (o : Option Orrery) (cam : Option Cam) :
    (ax.deliver tcyc n ahead o cam).ax.handed = ((ax.decided tcyc n ahead).given n ((ax.decided tcyc n ahead).judged tcyc n o cam)).handed := by
  rw [Axis.ax_deliver, Axis.handed_phasePoint, (Axis.handed_jerkPoint _ tcyc n).1]

/-- Every delivery of cycle `n` is marked with it, and leaves command and feedback alone. -/
theorem Axis.slotData_deliver (ax : Axis) (tcyc n : Nat) (ahead : Bool) (o : Option Orrery) (cam : Option Cam) :
    (ax.deliver tcyc n ahead o cam).ax.slotData = ax.slotData ∧ (ax.deliver tcyc n ahead o cam).ax.spCycle = n := by
  have h := ax.handed_deliver tcyc n ahead o cam
  simp only [Axis.handed, Prod.mk.injEq] at h
  obtain ⟨hout, hfb, -, -, hcycle, -⟩ := h
  exact ⟨(Prod.ext hout hfb).trans (ax.slotData_decided tcyc n ahead), hcycle⟩

/-- An axis without a coupling keeps its parameters where nothing is decided. -/
theorem Axis.prm_deliver {ax : Axis} {tcyc n : Nat} {ahead : Bool} (hd : ax.decided tcyc n ahead = ax) (hf : ax.fol = none) (o : Option Orrery) (cam : Option Cam) :
    (ax.deliver tcyc n ahead o cam).ax.prm = ax.prm := by
  obtain ⟨-, hprm, hfol⟩ := Axis.handed_jerkPoint (ax.given n (ax.judged tcyc n o cam)) tcyc n
  rw [Axis.ax_deliver, hd, Axis.phasePoint_uncoupled (hfol.trans hf), hprm]
  rfl

/-! ## The set-point without torque, and under a plan -/

theorem Axis.judged_unpowered {ax : Axis} (h : ax.w.sup.state = 0 ∨ ax.w.sup.state = 5) (tcyc n : Nat) (o : Option Orrery) (cam : Option Cam) :
    (ax.judged tcyc n o cam).1 = { p := satS 64 ax.w.k.pAct } := by
  have hsrc : ax.sourceSp tcyc n o cam = { p := ax.w.k.pAct } := by
    unfold Axis.sourceSp
    dsimp only
    rw [if_pos (by rcases h with h | h <;> simp [h])]
  have hsoft : ax.softLimit { p := ax.w.k.pAct } = ({ p := ax.w.k.pAct }, false) := by
    unfold Axis.softLimit
    dsimp only
    rw [if_neg (by rcases h with h | h <;> simp [h])]
  unfold Axis.judged Axis.judge
  rw [hsrc, hsoft]

/-- The set-point that a plan gives in cycle `n`, reduced by MODULUS (R103). -/
def Axis.plannedSp (ax : Axis) (pl : Plan) (tcyc n : Nat) : SetPoint := { pl.setPoint tcyc n with p := reduceMod (ax.prm.val pMODULUS) (pl.setPoint tcyc n).p }

theorem Axis.judged_planned {ax : Axis} {pl : Plan} (hpl : ax.plan = some pl) (hst : ax.w.sup.state = 1 ∨ ax.w.sup.state = 2) (hm : ax.w.sup.mode = 0 ∨ ax.w.sup.mode = 1)
    (hlim : ax.prm.nat pSW_LIM_EN ≠ 1) (hpos : ax.swPos.active = false) (hneg : ax.swNeg.active = false) (tcyc n : Nat) (o : Option Orrery) (cam : Option Cam) :
    ax.judged tcyc n o cam = ({ ax.plannedSp pl tcyc n with p := satS 64 (ax.plannedSp pl tcyc n).p }, []) := by
  have h0 : ax.w.sup.state ≠ 0 := by omega
  have h5 : ax.w.sup.state ≠ 5 := by omega
  have hsrc : ax.sourceSp tcyc n o cam = ax.plannedSp pl tcyc n := by
    unfold Axis.sourceSp
    rcases hm with hm | hm <;> simp [h0, h5, hm, hpl, Axis.plannedSp]
  have hsoft (sp : SetPoint) : ax.softLimit sp = (sp, false) := by
    unfold Axis.softLimit
    dsimp only
    rw [if_neg (by simp [hlim])]
  have hconds (raw sp : SetPoint) (act : Bool) : ax.spConds raw sp false act = [] := by
    unfold Axis.spConds
    rcases hm with hm | hm <;> simp [hm, hpos, hneg]
  unfold Axis.judged Axis.judge
  rw [hsrc, hsoft]
  exact Prod.ext rfl (hconds _ _ _)

theorem Axis.w_spRaise_nil (ax : Axis) : (ax.spRaise []).w = { ax.w with sup := ax.w.sup.dropWarn fFOLLOW_OVERSPEED } := rfl

/-! ## SETPOINT_DELIVERY on the device -/

/-- Of `d`, `e` differs in its axis `a`, which is `x`, in the Ephemeris, and in what events touch. -/
def Dev.HandsTo (d e : Dev) (a : Nat) (x : Axis) : Prop :=
  e.Is { d with motion := { d.motion with axes := e.motion.axes, eph := e.motion.eph } } ∧ (∀ b, b ≠ a → e.axis? b = d.axis? b) ∧ e.axis? a = some x

theorem Dev.handsTo_of_core {d e f : Dev} {a : Nat} {x : Axis} (h : d.HandsTo e a x) (hc : f.core = e.core) : d.HandsTo f a x := by
  obtain ⟨hi, ho, hx⟩ := h
  refine ⟨?_, fun b hb => (Dev.axis?_of_core hc b).trans (ho b hb), (Dev.axis?_of_core hc a).trans hx⟩
  rw [Dev.motion_of_core hc]
  exact hc.trans hi

theorem Dev.handsTo_onAxis {d : Dev} {a : Nat} {ax : Axis} (hax : d.axis? a = some ax) (x : Axis) (es : List Ev) :
    d.HandsTo (((d.onAxis a (fun _ => x)).emits es).ephemeris) a x := by
  have hc := Dev.core_emits (d.onAxis a (fun _ => x)) es
  generalize Dev.emits _ _ = e at hc ⊢
  refine ⟨?_, fun b hb => ?_, ?_⟩
  · show e.ephemeris.core = Dev.core { d with motion := { d.motion with axes := e.motion.axes, eph := e.ephemeris.motion.eph } }
    rw [Dev.motion_of_core hc]
    exact congrArg (fun y : Dev => { y with motion := { y.motion with eph := e.ephemeris.motion.eph } }) hc
  · exact (Dev.axis?_of_core hc b).trans (by rw [Dev.axis?_onAxis, if_neg hb])
  · exact (Dev.axis?_of_core hc a).trans (Dev.axis?_onAxis_same hax _)

/-- An Orrery's state of the cycle in progress is final (R120). -/
theorem Dev.orrFinal_now (d : Dev) (i : Nat) : d.orrFinal i d.ctl.cycle = true := by
  unfold Dev.orrFinal
  split
  · simp
  · rfl

theorem Dev.handsTo_deliverAt {d : Dev} {a : Nat} {ax : Axis} (hax : d.axis? a = some ax) :
    ∃ o cam held, d.HandsTo (d.deliverAt a d.ctl.cycle ax) a { (ax.deliverNow d.tcyc d.ctl.cycle false o cam).ax with held := held } := by
  unfold Dev.deliverAt
  rw [decide_eq_false (Nat.lt_irrefl d.ctl.cycle)]
  extract_lets o cam final r nc x
  have hfinal : final = true := by
    show (match ax.fol with | some f => _ | none => true : Bool) = true
    split
    · exact d.orrFinal_now _
    · rfl
  rw [hfinal]
  exact ⟨o, cam, nc.2, Dev.handsTo_onAxis hax _ _⟩

/-- In a cycle into which the Orreries have advanced, an axis of the phase that has not its set-points gets them. -/
theorem Dev.deliver_due {d : Dev} {a : Nat} {ax : Axis} (hax : d.axis? a = some ax) (hrun : d.ctl.running = true) (hfirst : d.ctl.first = false) (hsealed : d.ctl.sealed = false)
    (horr : d.ctl.spCycle = d.ctl.cycle) (hb : ax.blocked = false) (hp : ax.inPhase d.ctl.cycle = true) (hsp : ax.spCycle < d.ctl.cycle) :
    d.deliver a = d.deliverAt a d.ctl.cycle ax := by
  have hadv : d.advance = d := by
    unfold Dev.advance
    dsimp only
    rw [if_neg (by omega)]
  unfold Dev.deliver
  rw [hax]
  dsimp only
  rw [if_neg (by simp [hrun, hfirst, hsealed, hb, hp]), hadv, Dev.axis_of_axis? hax, if_pos hsp]

/-- A delivery on the result in work is marked with its cycle, and leaves command and feedback alone. -/
theorem Axis.slotData_deliverNow (ax : Axis) (tcyc n : Nat) (ahead : Bool) (o : Option Orrery) (cam : Option Cam) :
    (ax.deliverNow tcyc n ahead o cam).ax.slotData = ax.slotData ∧ (ax.deliverNow tcyc n ahead o cam).ax.spCycle = n := by
  unfold Axis.deliverNow
  split
  · next c _ => exact Axis.slotData_deliver { ax with w := c } tcyc n ahead o cam
  · exact ax.slotData_deliver tcyc n ahead o cam

/-- Settles O14: the axis gets the set-point that its mode's source gives, through the decisions of its reactions and of homing, where it has any. -/
theorem setpointsDelivered : Obligations.SetpointsDelivered := by
  intro s a ax hax hrun hfirst hsealed horr hb hp hsp
  refine completes_act (f := fun d => d.deliver a) rfl ?_
  rw [Dev.deliver_due hax hrun hfirst hsealed horr hb hp hsp]
  obtain ⟨o, cam, held, h⟩ := Dev.handsTo_deliverAt hax
  obtain ⟨hi, ho, hx⟩ := Dev.handsTo_of_core h (Dev.core_satCheck s.dev _)
  obtain ⟨hslot, hcycle⟩ := ax.slotData_deliverNow s.dev.tcyc s.dev.ctl.cycle false o cam
  obtain ⟨hout, hfb⟩ := Prod.mk.inj hslot
  refine ⟨hi, ho, _, hx, hcycle, hout, hfb, fun hcand hq hoff hm hf => ?_⟩
  have hd : ax.decided s.dev.tcyc s.dev.ctl.cycle false = ax := Axis.decided_none hq hoff hm _ _ _
  have hnow : ax.deliverNow s.dev.tcyc s.dev.ctl.cycle false o cam = ax.deliver s.dev.tcyc s.dev.ctl.cycle false o cam := by
    unfold Axis.deliverNow
    rw [hcand]
  have hh := ax.handed_deliver s.dev.tcyc s.dev.ctl.cycle false o cam
  rw [hd, ← hnow] at hh
  simp only [Axis.handed, Prod.mk.injEq] at hh
  obtain ⟨-, -, hspNew, hspPrev, -, hw⟩ := hh
  refine ⟨hspPrev, (congrArg (fun r : Delivery => r.ax.prm) hnow).trans (Axis.prm_deliver hd hf o cam), fun hst => ?_, fun pl hpl hst hmode hlim hpos hneg => ?_⟩
  · exact hspNew.trans (Axis.judged_unpowered hst ..)
  · have hj := Axis.judged_planned hpl hst hmode hlim hpos hneg s.dev.tcyc s.dev.ctl.cycle o cam
    refine ⟨hspNew.trans (congrArg Prod.fst hj), (congrArg Work.sup hw).trans ?_⟩
    show (ax.spRaise (ax.judged s.dev.tcyc s.dev.ctl.cycle o cam).2).w.sup = _
    rw [hj]
    exact congrArg Work.sup ax.w_spRaise_nil

end Sys2Proof.Machine

/-! PROOFS. The rows of a stepper axis (chapter 6: R177, R179, R184, R185, R190, R191, R193, R194, R198): each changes its one axis, and its faults are those of Table 6.5. -/

namespace Sys2Proof.Machine

open Sys2Proof

/-! ## One stepper axis of a device -/

/-- Of `d`, `e` differs in its stepper axis `a` alone, which is `x`. -/
def Dev.OnlyStepper (d e : Dev) (a : Nat) (x : Stepper) : Prop :=
  e = { d with motion := { d.motion with steppers := e.motion.steppers } } ∧ (∀ b, b ≠ a → e.stepper? b = d.stepper? b) ∧ e.stepper? a = some x

/-- Of `d`, `e` differs in its stepper axis `a` and in what events touch. -/
def Dev.StepperAlone (d e : Dev) (a : Nat) : Prop :=
  e.Is { d with motion := { d.motion with steppers := e.motion.steppers } } ∧ ∀ b, b ≠ a → e.stepper? b = d.stepper? b

theorem Dev.stepper?_of_core {d e : Dev} (h : d.core = e.core) (a : Nat) : d.stepper? a = e.stepper? a :=
  show d.core.stepper? a = e.core.stepper? a from congrArg (fun x => x.stepper? a) h

theorem Dev.StepperAlone.of_core {d e f : Dev} {a : Nat} (h : d.StepperAlone e a) (hc : f.core = e.core) : d.StepperAlone f a := by
  obtain ⟨hi, ho⟩ := h
  refine ⟨?_, fun b hb => (Dev.stepper?_of_core hc b).trans (ho b hb)⟩
  rw [Dev.motion_of_core hc]
  exact hc.trans hi

theorem Dev.StepperAlone.onStepper {d e : Dev} {a : Nat} (h : d.StepperAlone e a) (f : Stepper → Stepper) : d.StepperAlone (e.onStepper a f) a := by
  obtain ⟨hi, ho⟩ := h
  constructor
  · exact congrArg (fun y : Dev => { y with motion := { y.motion with steppers := Tab.upd e.motion.steppers a f } }) hi
  · intro b hb
    rw [Dev.stepper?_onStepper, if_neg hb, ho b hb]

theorem Dev.stepper?_onStepper_same {d : Dev} {a : Nat} {x : Stepper} (h : d.stepper? a = some x) (f : Stepper → Stepper) : (d.onStepper a f).stepper? a = some (f x) := by
  rw [Dev.stepper?_onStepper, if_pos rfl, h]
  rfl

/-! ## A fault acts on a stepper axis -/

/-- The fault `code` of the stepper axis `y`, number `a`, has acted on `d`: its event is reported, the axis has the state and fault of the code's class, and no other axis differs. -/
def Dev.StepFired (d e : Dev) (a code : Nat) (y : Stepper) : Prop :=
  d.StepperAlone e a ∧ ∃ x', e.stepper? a = some x' ∧ x'.state = (y.raise d.tcyc d.ctl.cycle code (y.cls code)).state ∧
    x'.fault = (y.raise d.tcyc d.ctl.cycle code (y.cls code)).fault ∧ e.Reports code (srcStepper a) [BitVec.ofNat 8 (y.cls code), BitVec.ofNat 8 x'.state]

section

variable {d e : Dev} {a code : Nat} {x y : Stepper}

theorem Dev.onlyStepper_onStepper (hx : d.stepper? a = some x) (f : Stepper → Stepper) : d.OnlyStepper (d.onStepper a f) a (f x) :=
  ⟨rfl, fun b hb => by rw [Dev.stepper?_onStepper, if_neg hb], Dev.stepper?_onStepper_same hx f⟩

theorem Dev.stepperAlone_onStepper (d : Dev) (a : Nat) (f : Stepper → Stepper) : d.StepperAlone (d.onStepper a f) a :=
  Dev.StepperAlone.onStepper ⟨rfl, fun _ _ => rfl⟩ f

/-- A stepper axis becomes `x'` with events. -/
theorem Dev.stepperAlone_emits (hx : d.stepper? a = some x) (x' : Stepper) (es : List Ev) :
    d.StepperAlone ((d.onStepper a (fun _ => x')).emits es) a ∧ ((d.onStepper a (fun _ => x')).emits es).stepper? a = some x' := by
  have hc := Dev.core_emits (d.onStepper a (fun _ => x')) es
  exact ⟨(d.stepperAlone_onStepper a _).of_core hc, (Dev.stepper?_of_core hc a).trans (Dev.stepper?_onStepper_same hx _)⟩

theorem Dev.stepper_emit_reports (hx : d.stepper? a = some x) (hroom : d.EventRoom 1) (f : Stepper → Stepper) (ev : Ev) :
    d.StepperAlone ((d.onStepper a f).emit ev) a ∧ ((d.onStepper a f).emit ev).stepper? a = some (f x) ∧ ((d.onStepper a f).emit ev).Reports ev.code ev.src ev.args := by
  have hc := Dev.core_emit (d.onStepper a f) ev
  exact ⟨(d.stepperAlone_onStepper a f).of_core hc, (Dev.stepper?_of_core hc a).trans (Dev.stepper?_onStepper_same hx f),
    Dev.reports_emit (d.onStepper a f) ev fun _ => Nat.lt_of_succ_le hroom⟩

theorem Dev.fired_stepperCond (hx : d.stepper? a = some x) (hroom : d.EventRoom 1) (code : Nat) : d.StepFired (d.stepperCond a code) a code x := by
  unfold Dev.stepperCond
  rw [hx]
  obtain ⟨hone, hx', hr⟩ := Dev.stepper_emit_reports hx hroom (fun s => s.raise d.tcyc d.ctl.cycle code (x.cls code))
    (condEvent (srcStepper a) code (x.cls code) (x.raise d.tcyc d.ctl.cycle code (x.cls code)).state)
  exact ⟨hone, _, hx', rfl, rfl, hr⟩

/-- An update that leaves state and fault leaves a fault that has acted. -/
theorem Dev.StepFired.onStepper (h : d.StepFired e a code y) {f : Stepper → Stepper} (hf : ∀ x, (f x).state = x.state ∧ (f x).fault = x.fault) :
    d.StepFired (e.onStepper a f) a code y := by
  obtain ⟨hone, x', hx', hst, hfault, hr⟩ := h
  obtain ⟨hs, hfl⟩ := hf x'
  refine ⟨hone.onStepper f, f x', Dev.stepper?_onStepper_same hx' f, hs.trans hst, hfl.trans hfault, ?_⟩
  rw [hs]
  exact hr

theorem Dev.StepFired.satCheck (h : d.StepFired e a code y) (b : Dev) : d.StepFired (Dev.satCheck b e) a code y := by
  obtain ⟨hone, x', hx', hst, hfault, hr⟩ := h
  have hc := Dev.core_satCheck b e
  exact ⟨hone.of_core hc, x', (Dev.stepper?_of_core hc a).trans hx', hst, hfault, Dev.reports_satCheck b e hr⟩

theorem Stepper.onSwitch_congr (x : Stepper) {w : Nat} (hw : w < 3) {f g : Switch → Switch} (h : f (x.switch w) = g (x.switch w)) : x.onSwitch w f = x.onSwitch w g := by
  obtain rfl | rfl | rfl : w = 0 ∨ w = 1 ∨ w = 2 := by omega
  · exact congrArg (fun sw => { x with swPos := sw }) h
  · exact congrArg (fun sw => { x with swNeg := sw }) h
  · exact congrArg (fun sw => { x with swHome := sw }) h

/-! ## The faults with rows of their own (R147, R179, R198) -/

theorem Dev.fired_stepFbLost (hx : d.stepper? a = some x) (hroom : d.EventRoom 1) (hn : 16 ≤ x.missRun) (hen : x.prm.nat pST_STALL_EN = 1)
    (hheld : x.held.contains fSTEP_FB_LOST = false) : d.StepFired (d.stepFbLost a) a fSTEP_FB_LOST x := by
  unfold Dev.stepFbLost
  rw [hx]
  dsimp only
  rw [if_pos (by simp only [hn, hen, hheld]; rfl)]
  exact (Dev.fired_stepperCond hx hroom _).onStepper fun _ => ⟨rfl, rfl⟩

theorem Dev.fired_stepOverrun (hx : d.stepper? a = some x) (hroom : d.EventRoom 1) (hsealed : d.ctl.sealed = true) (hstale : x.stale = true)
    (hn : x.prm.nat pST_OVR_LIMIT ≤ x.staleRun) (hheld : x.held.contains fSTEP_OVERRUN = false) : d.StepFired (d.stepOverrun a) a fSTEP_OVERRUN x := by
  unfold Dev.stepOverrun
  rw [hx]
  dsimp only
  rw [if_pos (by simp only [hsealed, hstale, hn, hheld]; rfl)]
  exact (Dev.fired_stepperCond hx hroom _).onStepper fun _ => ⟨rfl, rfl⟩

/-- A switch of a stepper axis says nothing of its state and fault. -/
theorem Stepper.state_onSwitch (x : Stepper) (w : Nat) (f : Switch → Switch) : (x.onSwitch w f).state = x.state ∧ (x.onSwitch w f).fault = x.fault := by
  unfold Stepper.onSwitch
  repeat' split
  all_goals exact ⟨rfl, rfl⟩

theorem Dev.fired_stepChatter (hx : d.stepper? a = some x) (hroom : d.EventRoom 1) {w : Nat} (hw : w < 3) (hsrc : (x.switch w).src.isSome = true)
    (hn : (x.switch w).chatterLimit < (x.switch w).burst) (hcond : (x.switch w).chatterCond = false) : d.StepFired (d.chatter true a w) a fSWITCH_CHATTER x := by
  have hdue : (x.switch w).chatters = true := by
    unfold Switch.chatters
    rw [hsrc, hcond, decide_eq_true hn]
    rfl
  unfold Dev.chatter
  rw [hx]
  dsimp only
  rw [if_pos rfl, if_pos (by rw [hdue, decide_eq_true hw]; rfl)]
  exact (Dev.fired_stepperCond hx hroom _).onStepper fun y => y.state_onSwitch w _

/-! ## STALL_DECLARED (R190, R191, R194) -/

/-- What a fault's reaction leaves of a stepper axis: its parameters and the counts of its stalls. -/
def Stepper.stallMarks (s : Stepper) : Params × Nat × Nat := (s.prm, s.stallCnt, s.stallRun)

theorem Stepper.stallMarks_raise (s : Stepper) (tcyc n code cls : Nat) : (s.raise tcyc n code cls).stallMarks = s.stallMarks := by
  unfold Stepper.raise
  repeat' split
  all_goals rfl

/-- The stepper axis whose stall is counted. -/
def Stepper.stalled (s : Stepper) : Stepper := { s with stallDue := false, stallCnt := incSat 16 s.stallCnt }

theorem Dev.stall_due (hx : d.stepper? a = some x) (hst : x.state = 1 ∨ x.state = 2) (hen : x.prm.nat pST_STALL_EN = 1) (hn : x.prm.nat pST_STALL_COUNT ≤ x.stallRun)
    (hdue : x.stallDue = true) :
    d.stall a = if x.hardStop then d.onStepper a (fun _ => x.declareStall d.tcyc d.ctl.cycle)
      else (d.onStepper a (fun _ => x.declareStall d.tcyc d.ctl.cycle)).emit (condEvent (srcStepper a) fSTALL (x.cls fSTALL) (x.declareStall d.tcyc d.ctl.cycle).state) := by
  unfold Dev.stall
  rw [hx]
  dsimp only
  rw [if_pos (by simp [hst, hen, hn, hdue])]

/-- Outside the search and the rest of HARD_STOP homing a stall is the fault STALL. -/
theorem Stepper.declareStall_fault (h : x.hardStop = false) (tcyc n : Nat) : x.declareStall tcyc n = x.stalled.raise tcyc n fSTALL (x.stalled.cls fSTALL) := by
  unfold Stepper.declareStall
  exact if_neg (by rw [show ({ x with stallDue := false, stallCnt := incSat 16 x.stallCnt } : Stepper).hardStop = x.hardStop from rfl, h]; exact Bool.false_ne_true)

/-- In the search of HARD_STOP homing it is the capture. -/
theorem Stepper.declareStall_capture (h : x.hardStop = true) (hs : x.home.state = 5) (tcyc n : Nat) :
    ∃ cap, x.declareStall tcyc n = { x.stalled with home := { x.home with state := 6, capture := cap }, plan := none, sp := { p := x.sp.p } } := by
  unfold Stepper.declareStall
  dsimp only
  rw [if_pos (show ({ x with stallDue := false, stallCnt := incSat 16 x.stallCnt } : Stepper).hardStop = true from h), if_pos hs]
  exact ⟨_, rfl⟩

theorem Stepper.not_hardStop (h : x.mode = 5 → x.prm.nat pST_HOME_METHOD = 3 → x.home.state < 5 ∨ 7 < x.home.state) : x.hardStop = false := by
  rw [Bool.eq_false_iff]
  intro hh
  simp only [Stepper.hardStop, Bool.and_eq_true, Bool.or_eq_true, decide_eq_true_eq] at hh
  obtain ⟨⟨hm, hme⟩, hs⟩ := hh
  have := h hm hme
  omega

theorem Dev.fired_stall (hx : d.stepper? a = some x) (hroom : d.EventRoom 1) (hst : x.state = 1 ∨ x.state = 2) (hen : x.prm.nat pST_STALL_EN = 1)
    (hn : x.prm.nat pST_STALL_COUNT ≤ x.stallRun) (hdue : x.stallDue = true) (hh : x.hardStop = false) :
    d.StepFired (d.stall a) a fSTALL x.stalled ∧ ∃ x', (d.stall a).stepper? a = some x' ∧ x'.stallCnt = incSat 16 x.stallCnt ∧ x'.stallRun = x.stallRun := by
  rw [Dev.stall_due hx hst hen hn hdue, hh, if_neg Bool.false_ne_true, Stepper.declareStall_fault hh]
  obtain ⟨hone, hx', hr⟩ := Dev.stepper_emit_reports hx hroom (fun _ => x.stalled.raise d.tcyc d.ctl.cycle fSTALL (x.stalled.cls fSTALL))
    (condEvent (srcStepper a) fSTALL (x.cls fSTALL) (x.stalled.raise d.tcyc d.ctl.cycle fSTALL (x.stalled.cls fSTALL)).state)
  have hmarks := x.stalled.stallMarks_raise d.tcyc d.ctl.cycle fSTALL (x.stalled.cls fSTALL)
  simp only [Stepper.stallMarks, Prod.mk.injEq] at hmarks
  obtain ⟨-, hcnt, hrun⟩ := hmarks
  exact ⟨⟨hone, _, hx', rfl, rfl, hr⟩, _, hx', hcnt, hrun⟩

/-! ## HOLD_DELAY_EXPIRY and HOME_TIMEOUT (R184, R194) -/

theorem Stepper.holdDelay_holds {tcyc : Nat} (hu : x.updated = true) (h0 : x.state ≠ 0) (h5 : x.state ≠ 5)
    (hk : ∃ k, x.restRun = some k ∧ cyclesOf (x.prm.nat pST_HOLD_DELAY) (x.period tcyc) ≤ k) (hv : x.sp.v = 0) (ha : x.sp.a = 0)
    (hs : x.mode = 5 → x.home.searching = false) : x.holdDelay tcyc = { x with holding := true, amp := x.prm.nat pST_I_HOLD } := by
  have hamp : ({ x with holding := true } : Stepper).amplitude = x.prm.nat pST_I_HOLD := by
    have hsearch : (x.mode = 5 && x.home.searching) = false := by
      by_cases hm : x.mode = 5
      · simp [hs hm]
      · simp [hm]
    simp [Stepper.amplitude, h0, h5, hsearch, hv, ha]
  unfold Stepper.holdDelay Stepper.holdPeriods
  rw [if_pos (by simp [hu, h0, h5, reached_of_exists hk]), hamp]

/-- A homing that has failed stays failed through the reaction. -/
theorem Stepper.home_raise_failed (h : x.home.state = 9) (tcyc n code cls : Nat) : (x.raise tcyc n code cls).home = x.home := by
  have hl : x.home.leave = x.home := by simp [Homing.leave, h]
  unfold Stepper.raise Stepper.torqueOff
  repeat' split
  any_goals rfl
  all_goals exact hl

theorem Dev.stepHomeTimeout_fails (hx : d.stepper? a = some x) (hm : x.mode = 5) (hst : x.state = 1) (hs : x.home.searching = true)
    (ht : x.prm.nat pST_HOME_TIMEOUT * 1000000 ≤ (d.ctl.cycle - x.home.began) * d.tcyc) :
    d.homeTimeout true a = (d.onStepper a (fun _ => x.homeFail d.tcyc d.ctl.cycle 3)).emits ((x.homeFail d.tcyc d.ctl.cycle 3).events a [{ code := 11, a := 3 }]) := by
  unfold Dev.homeTimeout
  rw [if_pos rfl, hx]
  dsimp only
  rw [if_pos (by simp [hm, hst, hs, Homing.timedOut, ht])]

end

/-! ## STEP_UPDATE (R185 to R190) -/

theorem Stepper.prm_raise (s : Stepper) (tcyc n code cls : Nat) : (s.raise tcyc n code cls).prm = s.prm := (Prod.mk.inj (s.stallMarks_raise tcyc n code cls)).1

theorem Stepper.prm_raiseAll (s : Stepper) (tcyc n : Nat) (cs : List (Nat × Nat)) : (s.raiseAll tcyc n cs).prm = s.prm := by
  unfold Stepper.raiseAll
  generalize orderConds cs = l
  induction l generalizing s with
  | nil => rfl
  | cons c l ih => exact (ih _).trans (s.prm_raise tcyc n c.1 c.2)

theorem Stepper.prm_homeStep (s : Stepper) (tcyc n : Nat) : (s.homeStep tcyc n).1.prm = s.prm := by
  unfold Stepper.homeStep
  extract_lets h n0 k rest neg ahead x
  repeat' refine iteInduction (motive := fun r : Stepper × List AxEvent => r.1.prm = s.prm) (fun _ => ?_) (fun _ => ?_)
  any_goals rfl
  all_goals exact Stepper.prm_raise _ _ _ _ _

/-- What an update's set-point and its conditions are read from: parameters, set-point, fresh feedback and the limit switches. -/
def Stepper.inputs (s : Stepper) : Params × SetPoint × Bool × Switch × Switch := (s.prm, s.sp, s.fbFresh, s.swPos, s.swNeg)

theorem Stepper.inputs_watch (s : Stepper) (tcyc : Nat) (v : Int) : (s.watch tcyc v).inputs = s.inputs := by
  unfold Stepper.watch
  extract_lets e s1
  have h1 : s1.inputs = s.inputs := rfl
  clear_value e s1
  repeat' split
  all_goals exact h1

theorem Stepper.inputs_settle (s : Stepper) (tcyc n : Nat) : (s.settle tcyc n).inputs = s.inputs := by
  unfold Stepper.settle
  repeat' split
  all_goals rfl

theorem Stepper.inputs_stepLevel (s : Stepper) (theta v : Int) : (s.stepLevel theta v).inputs = s.inputs := by
  unfold Stepper.stepLevel
  dsimp only
  repeat' split
  all_goals rfl

/-- The axis whose set-point an update computes: in HOME the sequencer has decided (R194, R195). -/
def Stepper.sequenced (s : Stepper) (tcyc n : Nat) : Stepper := if s.mode = 5 && s.state = 1 then (s.homeStep tcyc n).1 else s

theorem Stepper.prm_sequenced (s : Stepper) (tcyc n : Nat) : (s.sequenced tcyc n).prm = s.prm := by
  unfold Stepper.sequenced
  split
  · exact s.prm_homeStep tcyc n
  · rfl

/-- An update is a set-point, conditions and their reactions: `y` is the axis before the reactions. -/
theorem Stepper.update_eq (s : Stepper) (tcyc n : Nat) :
    ∃ y : Stepper, y.inputs = ((s.sequenced tcyc n).prm, (s.sequenced tcyc n).setPoint tcyc n, (s.sequenced tcyc n).fbFresh, (s.sequenced tcyc n).swPos, (s.sequenced tcyc n).swNeg) ∧
      (s.update tcyc n).1 =
        { y.raiseAll tcyc n (y.updConds (s.mode = 5) tcyc n) with
          amp := (y.raiseAll tcyc n (y.updConds (s.mode = 5) tcyc n)).amplitude
          enabled := (y.raiseAll tcyc n (y.updConds (s.mode = 5) tcyc n)).state ≠ 0 && (y.raiseAll tcyc n (y.updConds (s.mode = 5) tcyc n)).state ≠ 5
          updated := true } := by
  unfold Stepper.update
  extract_lets hs q sp x th x1 z rest y cs
  have hq : q = s.sequenced tcyc n := apply_ite Prod.fst ..
  have hx : x.inputs = (q.prm, sp, q.fbFresh, q.swPos, q.swNeg) := by
    rw [show x.inputs = ((q.watch tcyc sp.v).takeSp sp n).inputs from Stepper.inputs_settle _ _ _]
    have hw := q.inputs_watch tcyc sp.v
    simp only [Stepper.inputs, Prod.mk.injEq] at hw
    obtain ⟨hprm, -, hfresh, hpos, hneg⟩ := hw
    simp only [Stepper.inputs, Stepper.takeSp, hprm, hfresh, hpos, hneg]
  have hz : z.inputs = x.inputs := by
    show (if _ then _ else _ : Stepper).inputs = _
    split
    · rfl
    · exact x.inputs_stepLevel th sp.v
  have hy : y.inputs = z.inputs := by
    show (if _ then _ else _ : Stepper).inputs = _
    split <;> rfl
  exact ⟨y, (hy.trans hz).trans (hx.trans (congrArg (fun w : Stepper => (w.prm, w.setPoint tcyc n, w.fbFresh, w.swPos, w.swNeg)) hq)), rfl⟩

theorem Stepper.updConds_none {y : Stepper} (hf : y.fbFresh = false) (hp : y.swPos.active = false) (hn : y.swNeg.active = false) (homing : Bool) (tcyc n : Nat) :
    y.updConds homing tcyc n = [] := by
  simp [Stepper.updConds, hf, hp, hn]

/-- Outside HOME, with no condition to meet, the set-point is the axis's own. -/
theorem Stepper.sp_update {x : Stepper} (hm : x.mode ≠ 5) (hf : x.fbFresh = false) (hp : x.swPos.active = false) (hn : x.swNeg.active = false) (tcyc n : Nat) :
    (x.update tcyc n).1.sp = x.setPoint tcyc n := by
  have hq : x.sequenced tcyc n = x := if_neg (by simp [hm])
  obtain ⟨y, hy, hu⟩ := x.update_eq tcyc n
  rw [hq] at hy
  simp only [Stepper.inputs, Prod.mk.injEq] at hy
  obtain ⟨-, hsp, hfy, hpy, hny⟩ := hy
  rw [hu, Stepper.updConds_none (hfy.trans hf) (hpy ▸ hp) (hny ▸ hn)]
  exact hsp

/-- Every update marks the axis as updated, keeps its parameters and enables it exactly with torque. -/
theorem Stepper.update_marks (x : Stepper) (tcyc n : Nat) :
    (x.update tcyc n).1.updated = true ∧ (x.update tcyc n).1.prm = x.prm ∧
      ((x.update tcyc n).1.enabled = true ↔ (x.update tcyc n).1.state ≠ 0 ∧ (x.update tcyc n).1.state ≠ 5) := by
  obtain ⟨y, hy, hu⟩ := x.update_eq tcyc n
  rw [hu]
  refine ⟨rfl, ?_, by simp⟩
  calc (y.raiseAll tcyc n _).prm = y.prm := y.prm_raiseAll tcyc n _
    _ = (x.sequenced tcyc n).prm := congrArg Prod.fst hy
    _ = x.prm := x.prm_sequenced tcyc n

theorem Switch.active_place (sw : Switch) (m t0 t1 p0 p1 : Int) : (sw.place m t0 t1 p0 p1).active = sw.active := by
  unfold Switch.place
  split <;> rfl

/-- What STEP_UPDATE makes of a stepper axis in a cycle of its phase. -/
theorem Dev.stepUpdate_due {d : Dev} {a : Nat} {x : Stepper} (hx : d.stepper? a = some x) (hrun : d.ctl.running = true) (hg : d.ctl.gathered = true)
    (hsealed : d.ctl.sealed = false) (hu : x.updated = false) (hb : x.blocked = false) (hp : x.inPhase d.ctl.cycle = true) :
    ∃ held es, d.stepUpdate a = (d.onStepper a (fun _ => { ((d.placeSteps x).update d.tcyc d.ctl.cycle).1 with held := held })).emits es := by
  unfold Dev.stepUpdate
  rw [hx]
  dsimp only
  rw [if_neg (by simp [hrun, hg, hsealed, hu, hb, hp])]
  exact ⟨_, _, rfl⟩

/-- Settles O17: each row makes the change of its table on its one axis; the faults go through `Stepper.raise`, the update through the sequencer of homing. -/
theorem stepperRowsAct : Obligations.StepperRowsAct := by
  intro s a x hx hroom one only n faulted
  have fault : ∀ {c : Instr} {f : Dev → Dev} {code : Nat}, exec c s = s.act f → s.dev.StepFired (f s.dev) a code x → Completes c s (faulted x code) :=
    fun hc h => completes_act hc (h.satCheck s.dev)
  have alone : ∀ {e : Dev} {x' : Stepper}, s.dev.StepperAlone e a → e.stepper? a = some x' → one (Dev.satCheck s.dev e) ∧ (Dev.satCheck s.dev e).stepper? a = some x' :=
    fun h hx' => ⟨h.of_core (Dev.core_satCheck s.dev _), (Dev.stepper?_of_core (Dev.core_satCheck s.dev _) a).trans hx'⟩
  refine ⟨fun hrun hg hsealed hu hb hp => ?_, fun hst hen hn hdue hh => ?_, fun hst hen hn hdue hm hme hs => ?_, fun hu h0 h5 hk hv ha hs => ?_,
    fun hn hen hheld => fault (f := fun d => d.stepFbLost a) rfl (Dev.fired_stepFbLost hx hroom hn hen hheld),
    fun hsealed hstale hn hheld => fault (f := fun d => d.stepOverrun a) rfl (Dev.fired_stepOverrun hx hroom hsealed hstale hn hheld),
    fun w hw hsrc hn hcond => fault (f := fun d => d.chatter true a w) rfl (Dev.fired_stepChatter hx hroom hw hsrc hn hcond),
    fun w hw hsrc hraw hrun hl => ?_, fun hm hst hs ht => ?_⟩
  · refine completes_act (f := fun d => d.stepUpdate a) rfl ?_
    obtain ⟨held, es, he⟩ := Dev.stepUpdate_due hx hrun hg hsealed hu hb hp
    obtain ⟨hupd, hprm, hen⟩ := (s.dev.placeSteps x).update_marks s.dev.tcyc n
    have hsp := Stepper.sp_update (x := s.dev.placeSteps x) (tcyc := s.dev.tcyc) (n := n)
    rw [he]
    generalize ((s.dev.placeSteps x).update s.dev.tcyc s.dev.ctl.cycle).1 = u at *
    obtain ⟨hone, hx'⟩ := Dev.stepperAlone_emits hx { u with held := held } es
    obtain ⟨hone, hx'⟩ := alone hone hx'
    exact ⟨hone, _, hx', hupd, hprm, hen, fun hm _ _ _ hpos hneg hf _ => hsp hm hf ((Switch.active_place ..).trans hpos) ((Switch.active_place ..).trans hneg)⟩
  · refine completes_act (f := fun d => d.stall a) rfl ?_
    obtain ⟨hf, x', hx', hcnt, hrun⟩ := Dev.fired_stall hx hroom hst hen hn hdue (Stepper.not_hardStop hh)
    exact ⟨hf.satCheck s.dev, x', (Dev.stepper?_of_core (Dev.core_satCheck s.dev _) a).trans hx', hcnt, hrun⟩
  · refine completes_act (f := fun d => d.stall a) rfl ?_
    have hh : x.hardStop = true := by simp [Stepper.hardStop, hm, hme, hs]
    obtain ⟨cap, hcap⟩ := Stepper.declareStall_capture hh hs s.dev.tcyc n
    rw [Dev.stall_due hx hst hen hn hdue, hh, if_pos rfl, hcap]
    obtain ⟨hone, hx'⟩ := alone (s.dev.stepperAlone_onStepper a _) (Dev.stepper?_onStepper_same hx _)
    exact ⟨hone, _, hx', rfl, rfl, rfl, rfl, rfl⟩
  · refine completes_does (f := fun d => d.onStepper a (fun x => x.holdDelay d.tcyc)) rfl ?_
    rw [← Stepper.holdDelay_holds hu h0 h5 hk hv ha hs]
    exact Dev.onlyStepper_onStepper hx _
  · refine completes_does (f := fun d => d.onStepper a (fun x => x.onSwitch w (fun sw => sw.settle d.tcyc (w ≠ 2)))) rfl ?_
    have hsw := Switch.settle_settled (limit := decide (w ≠ 2)) hsrc hraw hrun (hl.imp_left fun h => by simp [h])
    rw [← x.onSwitch_congr hw (f := fun sw => sw.settle s.dev.tcyc (w ≠ 2)) hsw]
    exact Dev.onlyStepper_onStepper hx _
  · refine completes_act (f := fun d => d.homeTimeout true a) rfl ?_
    rw [Dev.stepHomeTimeout_fails hx hm hst hs ht]
    obtain ⟨hone, hx'⟩ := Dev.stepperAlone_emits hx (x.homeFail s.dev.tcyc n 3) ((x.homeFail s.dev.tcyc n 3).events a [{ code := 11, a := 3 }])
    obtain ⟨hone, hx'⟩ := alone hone hx'
    have hhome : (x.homeFail s.dev.tcyc n 3).home = { x.home with state := 9, cause := 3 } := Stepper.home_raise_failed rfl _ _ _ _
    exact ⟨hone, _, hx', by rw [hhome], by rw [hhome], rfl⟩

end Sys2Proof.Machine

/-! PROOFS. CAM_DELETE on a cam table that lists a number twice: a state that refutes the statement of O59. -/

namespace Sys2Proof.Machine

open Sys2Proof

/-- The header of CAM_DELETE for cam table 0, on pair 0. -/
def camDelHead : CmdHead := { kind := 7, index := 0, auth := 1, effective := 0 }

/-- The command itself. -/
def camDelReq : HostReq := { op := 0x3021, h := camDelHead, pay := [] }

/-- The owner's pair is in use, and the list of cam tables has two entries under number 0; the canonical form of a table lists each number once. -/
def camTwice : State :=
  { dev := { ({} : Dev) with
      host := { ({} : Hif) with owned := true, token := 1, linkUp := true, mgtReady := true, pairs := [{ ({} : Pair) with active := true }] }
      motion := { ({} : Motion) with cams := [(0, {}), (0, {})] } } }

theorem camTwice_accepts : camTwice.dev.accepts camDelReq := by
  unfold Dev.accepts
  decide +kernel

/-- CAM_DELETE takes the first entry of the two, and the second is still found. -/
theorem camTwice_keeps_table : ∃ t, exec (.camDelete camDelHead []) camTwice = .next t ∧ (Tab.find t.dev.motion.cams 0).isSome = true := by
  refine ⟨_, rfl, ?_⟩
  decide +kernel

/-- Refutes O59: CAM_DELETE is to leave no table under the number, and the statement does not say that the list of tables has its canonical form (numbers strictly rising); of two
entries under one number only the first goes. The refutation rests on that missing premise alone: such a list is not one that CAM_LOAD writes. -/
theorem not_motionCommandsAct : ¬ Obligations.MotionCommandsAct := by
  intro h
  obtain ⟨-, -, -, -, -, -, -, -, hdel, -⟩ := h camTwice camDelHead []
  obtain ⟨t, ht, -, -, hnone, -⟩ := hdel camTwice_accepts
  obtain ⟨u, hu, hsome⟩ := camTwice_keeps_table
  obtain rfl : t = u := by simpa using ht.symm.trans hu
  exact absurd hsome (by simp [show Tab.find t.dev.motion.cams 0 = none from hnone])

end Sys2Proof.Machine

/-! PROOFS. Words of an engine (R203, R206, R209): bits of a status word, results that do not collide, and what a bundle that issues leaves of its engine. -/

namespace Sys2Proof.Machine

open Sys2Proof

/-! ## Bits of a status word (Table 7.3) -/

/-- A bit added where it was clear carries into no other bit. -/
theorem bit_add_two_pow {x n : Nat} (h : bit x n = false) (k : Nat) : bit (x + 2 ^ n) k = (decide (k = n) || bit x k) := by
  have he : x / 2 ^ n % 2 = 0 := by simp only [bit, decide_eq_false_iff_not] at h; omega
  have hs : (x + 2 ^ n) / 2 ^ n = x / 2 ^ n + 1 := Nat.add_div_right _ (Nat.two_pow_pos n)
  unfold bit
  rcases Nat.lt_trichotomy k n with hk | rfl | hk
  · obtain ⟨j, rfl⟩ := Nat.exists_eq_add_of_lt hk
    have h2 : 2 ^ (k + j + 1) = 2 ^ k * (2 * 2 ^ j) := by rw [Nat.add_assoc, Nat.pow_add, Nat.pow_succ, Nat.mul_comm 2]
    rw [h2, Nat.add_mul_div_left _ _ (Nat.two_pow_pos k), Nat.add_mul_mod_self_left]
    simp [Nat.ne_of_lt hk]
  · rw [hs]
    simp only [decide_true, Bool.true_or, decide_eq_true_eq]
    omega
  · obtain ⟨j, rfl⟩ := Nat.exists_eq_add_of_lt hk
    have hd (y : Nat) : y / 2 ^ (n + j + 1) = y / 2 ^ n / 2 / 2 ^ j := by
      rw [Nat.div_div_eq_div_mul, Nat.div_div_eq_div_mul, Nat.add_assoc, Nat.pow_add, Nat.pow_succ, Nat.mul_comm (2 ^ j) 2]
    have hh : (x / 2 ^ n + 1) / 2 = x / 2 ^ n / 2 := by omega
    rw [hd, hd, hs, hh]
    simp [Nat.ne_of_gt hk]

@[simp] theorem bit_setBit (x n k : Nat) : bit (setBit x n) k = (decide (k = n) || bit x k) := by
  unfold setBit
  split
  next h => by_cases hk : k = n <;> simp [hk, h]
  next h => exact bit_add_two_pow (by simpa using h) k

@[simp] theorem bit_clrBit (x n k : Nat) : bit (clrBit x n) k = (!decide (k = n) && bit x k) := by
  unfold clrBit
  split
  next h =>
    have hx : x / 2 ^ n % 2 = 1 := by simpa [bit] using h
    have hle : 2 ^ n ≤ x := by
      by_contra hlt
      rw [Nat.div_eq_of_lt (by omega)] at hx
      omega
    obtain ⟨y, rfl⟩ := Nat.exists_eq_add_of_le' hle
    have hy : bit y n = false := by
      rw [Nat.add_div_right _ (Nat.two_pow_pos n)] at hx
      simp only [bit, decide_eq_false_iff_not]
      omega
    rw [Nat.add_sub_cancel, bit_add_two_pow hy]
    by_cases hk : k = n <;> simp [hk, hy]
  next h => by_cases hk : k = n <;> simp [hk, h]

/-- ESTAT is set within the register file, and a file too short for it reads zero before and after. -/
theorem bit_getD_set (l : List Nat) (n v k : Nat) (h : bit v k = bit (l.getD n 0) k) : bit ((l.set n v).getD n 0) k = bit (l.getD n 0) k := by
  by_cases hl : n < l.length
  · simpa [List.getD_eq_getElem?_getD, List.getElem?_set, hl] using h
  · rw [List.set_eq_of_length_le (by omega)]

/-- A register reads the same after another was set. -/
theorem getD_set_ne {α : Type} (l : List α) {i j : Nat} (x y : α) (h : i ≠ j) : (l.set i x).getD j y = l.getD j y := by
  simp [List.getD_eq_getElem?_getD, List.getElem?_set_ne h]

/-- A register reads what it was set to. -/
theorem getD_set_same {α : Type} (l : List α) {i : Nat} (x y : α) (h : i < l.length) : (l.set i x).getD i y = x := by
  simp [List.getD_eq_getElem?_getD, List.getElem?_set_self h]

/-! ## Collisions (R209) -/

/-- Results with destinations of their own are all kept. -/
theorem collide_of_nodup {ws : List Wr} {seen : List (Nat × Nat)} (h : (ws.filterMap Wr.dest).Nodup) (hs : ∀ k ∈ ws.filterMap Wr.dest, k ∉ seen) :
    collide ws seen = ws := by
  induction ws generalizing seen with
  | nil => rfl
  | cons w ws ih =>
    unfold collide
    cases hw : w.dest with
    | none =>
      rw [List.filterMap_cons_none hw] at h hs
      exact congrArg (w :: ·) (ih h hs)
    | some k =>
      rw [List.filterMap_cons_some hw, List.nodup_cons] at h
      rw [List.filterMap_cons_some hw] at hs
      have hk : seen.contains k = false := by simpa using hs k (List.mem_cons_self ..)
      simp only [hk, Bool.false_eq_true, if_false]
      refine congrArg (w :: ·) (ih h.2 fun q hq hmem => ?_)
      rcases List.mem_cons.mp hmem with rfl | hmem
      · exact h.1 hq
      · exact hs q (List.mem_cons_of_mem _ hq) hmem

/-- One result collides with nothing. -/
@[simp] theorem collide_singleton (w : Wr) : collide [w] [] = [w] := by
  refine collide_of_nodup ?_ (by simp)
  cases hw : w.dest <;> simp [hw]

@[simp] theorem collide_nil (seen : List (Nat × Nat)) : collide [] seen = [] := rfl

/-- The two words of a pair do not collide (R201). -/
@[simp] theorem collide_pair (r : Nat) (v w : Word) : collide [.d r v, .d (r + 1) w] [] = [.d r v, .d (r + 1) w] :=
  collide_of_nodup (by simp [Wr.dest]) (by simp)

/-- What a collision adds is WCOL. -/
theorem mem_collide {w : Wr} {ws : List Wr} {seen : List (Nat × Nat)} (h : w ∈ collide ws seen) : w ∈ ws ∨ w = .wcol := by
  induction ws generalizing seen with
  | nil => cases h
  | cons x ws ih =>
    have keep {s : List (Nat × Nat)} {y : Wr} (hy : y = x ∨ y = .wcol) (hm : w ∈ y :: collide ws s) : w ∈ x :: ws ∨ w = .wcol := by
      rcases List.mem_cons.mp hm with rfl | hm
      · exact hy.imp (fun hx => List.mem_cons.mpr (.inl hx)) id
      · exact (ih hm).imp (List.mem_cons_of_mem _) id
    unfold collide at h
    split at h
    · exact keep (.inl rfl) h
    · split at h
      · exact keep (.inr rfl) h
      · exact keep (.inl rfl) h

/-! ## A bundle issues (R206 to R210) -/

/-- What the ALU or CTL word of a bundle writes, and the branch that it takes. -/
def Engine.opResult (e : Engine) : Option OpWord → List Wr × Option Nat
  | none => ([], none)
  | some o => if o.ctl then e.ctl o else (e.aluWrites o, none)

/-- The outstanding table reads after the ALU or CTL word of a bundle (R220, R221). -/
def Engine.reqsAfter (e : Engine) : Option OpWord → List TabReq
  | none => e.reqs
  | some o => if o.ctl && o.op = 5 then e.reqs ++ [{ handle := (e.reg o.a).toNat, idx := (e.reg o.b).toNat, dst := o.dst }] else if o.ctl && o.op = 6 then [] else e.reqs

/-- The engine runs the preemption handler. -/
def Engine.inHandler (e : Engine) : Bool := match e.run with | some r => decide (r.kind = 2) | none => false

/-- The writes of a bundle, as they leave it. -/
def Engine.bundleWrites (e : Engine) (b : Bundle) : List Wr := collide (e.macWrites b.lanes ++ (e.opResult b.op).1 ++ e.memWrites e.inHandler b.accs) []

/-- The special registers `sp` after an access, whose pointer takes the value that the engine of before gives it (R207, R210). -/
def Engine.moved (e : Engine) (sp : List Nat) (x : Access) : List Nat := match e.postModify x with | some p => sp.set (ptrNum x.bus x.ptr) p | none => sp

/-- The special registers after the accesses of a bundle. -/
def Engine.pointersAfter (e : Engine) (xs : List Access) : List Nat := xs.foldl e.moved e.special

theorem Engine.postModifyAll_eq (e : Engine) (xs : List Access) : e.postModifyAll xs = { e with special := e.pointersAfter xs } := by
  have go : ∀ (l : List Access) (s : Engine),
      l.foldl (fun s x => match e.postModify x with | some p => { s with special := s.special.set (ptrNum x.bus x.ptr) p } | none => s) s = { s with special := l.foldl e.moved s.special } := by
    intro l
    induction l with
    | nil => exact fun _ => rfl
    | cons x l ih =>
      intro s
      rw [List.foldl_cons, List.foldl_cons, ih]
      unfold Engine.moved
      cases e.postModify x <;> rfl
  exact go xs e

/-- A word of class ALU or CTL is one instruction word. -/
@[simp] theorem Bundle.words_op (o : OpWord) : Bundle.words { op := some o } = 1 := by simp [Bundle.words]

/-- What a bundle leaves of its engine, beside what `Engine.stepped` says: the pointers that its accesses move, its branch, and the table reads that it asks for or ends. -/
theorem Engine.issue_eq (g : Engine) (b : Bundle) :
    g.issue b = { g.stepped b.words (g.arrived.bundleWrites b) with
      special := ((g.arrived.pointersAfter b.accs).set 21 (g.arrived.nextPc b.words).2).set 25 (Engine.tpend { g.arrived with special := g.arrived.pointersAfter b.accs } (g.arrived.reqsAfter b.op))
      brNext := (g.arrived.opResult b.op).2
      reqs := g.arrived.reqsAfter b.op
      run := g.run.map (fun r => { r with steps := r.steps + 1 + g.arrived.backSteps b.words, reads := r.reads + (if (g.arrived.reqsAfter b.op).length = g.reqs.length + 1 then 1 else 0) }) } := by
  have hr := g.arrived_run
  have hq := g.arrived_reqs
  have hn := g.arrived_brNext
  have h1 := g.arrived_w1
  have h2 := g.arrived_w2
  have hw : g.arrived.w3 = g.w3 := (Engine.applyAll_frame g.w3 g).2.2.2.2.2.2.2.2.2
  unfold Engine.issue
  rw [show g.applyAll g.w3 = g.arrived from rfl]
  simp only [Engine.postModifyAll_eq, hr, hq, hn, h1, h2]
  unfold Engine.stepped Engine.bundleWrites Engine.opResult Engine.reqsAfter Engine.inHandler
  obtain ⟨lanes, accs, op, bad⟩ := b
  cases op with
  | none => simp <;> rfl
  | some o => cases ho : o.ctl <;> simp [ho] <;> rfl

/-- A bundle that asks for no table read and ends none leaves its writes, its branch and its pointers. -/
theorem Engine.issue_off_port (g : Engine) (b : Bundle) (h : g.arrived.reqsAfter b.op = g.reqs) :
    g.issue b = { g.stepped b.words (g.arrived.bundleWrites b) with
      special := ((g.arrived.pointersAfter b.accs).set 21 (g.arrived.nextPc b.words).2).set 25 (Engine.tpend { g.arrived with special := g.arrived.pointersAfter b.accs } g.reqs)
      brNext := (g.arrived.opResult b.op).2 } := by
  have hq : (g.stepped b.words (g.arrived.bundleWrites b)).reqs = g.reqs := g.arrived_reqs
  rw [Engine.issue_eq]
  simp only [h, Nat.left_eq_add, Nat.one_ne_zero, if_false, Nat.add_zero, ← hq]
  rfl

/-- Without accesses it moves no pointer. -/
theorem Engine.issue_plain (g : Engine) (b : Bundle) (ha : b.accs = []) (h : g.arrived.reqsAfter b.op = g.reqs) :
    g.issue b = { g.stepped b.words (g.arrived.bundleWrites b) with brNext := (g.arrived.opResult b.op).2 } := by
  rw [Engine.issue_off_port g b h, ha]
  rfl

/-! ## An engine that runs is one of the device's -/

theorem Dev.lt_engines {d : Dev} {e : Nat} {r : Run} (h : (d.engine e).run = some r) : e < d.engines.length := by
  by_contra hlt
  rw [Dev.engine, List.getD_eq_default _ _ (not_lt.mp hlt)] at h
  cases h

theorem Dev.engine_onEngine_same {d : Dev} {e : Nat} {r : Run} (h : (d.engine e).run = some r) (f : Engine → Engine) : (d.onEngine e f).engine e = f (d.engine e) := by
  rw [Dev.engine_onEngine, if_pos ⟨rfl, Dev.lt_engines h⟩]

theorem Dev.onEngine_onEngine (d : Dev) (e : Nat) (f f' : Engine → Engine) : (d.onEngine e f).onEngine e f' = d.onEngine e (fun g => f' (f g)) := by
  simp only [Dev.onEngine, List.modify_modify_eq]
  rfl

/-! ## A bundle of two words (R204) -/

/-- The writes that arrive do not look at the open bundle. -/
theorem Engine.applyAll_cur (ws : List Wr) (g : Engine) (c : Bundle) : ({ g with cur := c } : Engine).applyAll ws = { g.applyAll ws with cur := c } := by
  induction ws generalizing g with
  | nil => rfl
  | cons w ws ih =>
    have hw : ({ g with cur := c } : Engine).apply w = { g.apply w with cur := c } := by
      cases w <;> simp only [Engine.apply, Engine.setAov, Engine.setEstat_eq, Engine.aov, Engine.estat, Engine.spc] <;> repeat' split
      all_goals rfl
    exact (congrArg (Engine.applyAll · ws) hw).trans (ih _)

theorem Engine.arrived_cur (g : Engine) (c : Bundle) : ({ g with cur := c } : Engine).arrived = { g.arrived with cur := c } := g.applyAll_cur g.w3 c

/-- A bundle that issues closes the open one, whatever it held. -/
theorem Engine.stepped_cur (g : Engine) (c : Bundle) (n : Nat) (ws : List Wr) : ({ g with cur := c } : Engine).stepped n ws = g.stepped n ws := by
  unfold Engine.stepped
  rw [Engine.arrived_cur]
  rfl

/-- A part that ends a legal bundle, which need not wait, on an engine that runs. -/
theorem Dev.part_ends (d : Dev) (e : Nat) (f : Bundle → Bundle) {b : Bundle} (h1 : (d.engine e).run.isSome = true) (h2 : (d.engine e).stall = none) (hb : f (d.engine e).cur = b)
    (hl : b.illegal = false) (hw : (d.engine e).mustWait b = false) : d.part e f true = d.onEngine e (fun g => g.issue b) := by
  unfold Dev.part
  simp only [h1, h2, hb, Option.isNone_none, Bool.and_self, if_true, Engine.take, Bool.not_true, Bool.false_eq_true, if_false, hl, hw]
  exact Dev.onEngine_congr d e _ _ rfl

/-- A word that joins and a word that ends the bundle: the second completes with the effect of both. -/
theorem completes_two_parts {c1 c2 : Instr} {s : State} {e : Nat} {f1 f2 : Bundle → Bundle} {P : Dev → Prop} (b : Bundle) (hc1 : exec c1 s = s.act (fun d => d.part e f1 false))
    (hc2 : ∀ t, exec c2 t = t.act (fun d => d.part e f2 true)) (h : s.dev.Ready e) (hb : f2 (f1 {}) = b) (hl : b.illegal = false)
    (hw : ∀ g : Engine, g.mustWait b = false) (hP : P (s.dev.onEngine e (fun g => ({ g with cur := f1 g.cur } : Engine).issue b))) :
    ∃ t, exec c1 s = .next t ∧ Completes c2 t P := by
  obtain ⟨hrun, hstall, hcur⟩ := h
  obtain ⟨r, hr⟩ := Option.isSome_iff_exists.mp hrun
  rw [State.act_eq, Dev.part_joins _ _ _ hrun hstall, Dev.satCheck_engine] at hc1
  refine ⟨_, hc1, completes_act (hc2 _) ?_⟩
  have he : ((s.dev.onEngine e (fun g => { g with cur := f1 g.cur })).engine e) = { s.dev.engine e with cur := f1 (s.dev.engine e).cur } := Dev.engine_onEngine_same hr _
  show P (Dev.satCheck (s.dev.onEngine e (fun g => { g with cur := f1 g.cur })) ((s.dev.onEngine e (fun g => { g with cur := f1 g.cur })).part e f2 true))
  rw [Dev.part_ends _ e f2 (by rw [he]; exact hrun) (by rw [he]; exact hstall) (by rw [he, hcur]; exact hb) hl (hw _), Dev.satCheck_engine, Dev.onEngine_onEngine]
  exact hP

end Sys2Proof.Machine

/-! PROOFS. The ALU words (Table 7.8, R203, R214 to R217): sums and differences in 32 and 64 bits, saturation, the flags of the compares, and each word as a whole bundle. -/

namespace Sys2Proof.Machine

open Sys2Proof

/-! ## Numbers of 32 and 64 bits -/

/-- The signed value of the low bits, in the library's terms. -/
theorem wrapS_32 (x : Int) : wrapS 32 x = x.bmod (2 ^ 32) := by
  unfold wrapS
  simp only [Int.bmod_def]
  norm_num

theorem wrapS_64_range (x : Int) : -(2 : Int) ^ 63 ≤ wrapS 64 x ∧ wrapS 64 x < (2 : Int) ^ 63 := by
  unfold wrapS
  dsimp only
  split <;> omega

/-- A value that the width holds is its own low part. -/
theorem wrapS_64_eq_self (x : Int) : wrapS 64 x = x ↔ -(2 : Int) ^ 63 ≤ x ∧ x < (2 : Int) ^ 63 := by
  unfold wrapS
  dsimp only
  split <;> omega

theorem wrapS_32_eq_self (x : Int) : wrapS 32 x = x ↔ -2147483648 ≤ x ∧ x ≤ 2147483647 := by
  unfold wrapS
  dsimp only
  split <;> omega

/-- A saturated value is the value itself where it fits. -/
theorem satS_72_of_range {x : Int} (h : -(2 : Int) ^ 63 ≤ x ∧ x < (2 : Int) ^ 63) : satS 72 x = x := by
  unfold satS
  omega

/-- The word of the smaller signed value. -/
theorem ofInt_min (x y : Word) : BitVec.ofInt 32 (min x.toInt y.toInt) = if x.toInt ≤ y.toInt then x else y := by
  by_cases h : x.toInt ≤ y.toInt
  · rw [min_eq_left h, if_pos h, BitVec.ofInt_toInt]
  · rw [min_eq_right (not_le.mp h).le, if_neg h, BitVec.ofInt_toInt]

/-- The word of the larger one. -/
theorem ofInt_max (x y : Word) : BitVec.ofInt 32 (max x.toInt y.toInt) = if x.toInt ≤ y.toInt then y else x := by
  by_cases h : x.toInt ≤ y.toInt
  · rw [max_eq_right h, if_pos h, BitVec.ofInt_toInt]
  · rw [max_eq_left (not_le.mp h).le, if_neg h, BitVec.ofInt_toInt]

theorem Engine.pair_lt (g : Engine) (r : Nat) : g.pair r < 2 ^ 64 := by
  have h1 := (g.reg r).isLt
  have h2 := (g.reg (r + 1)).isLt
  unfold Engine.pair
  omega

/-- A sum of pairs wraps (R217). -/
theorem lowBits_add_pairs (p q : Nat) : lowBits 64 (wrapS 64 p + wrapS 64 q) = (p + q) % 2 ^ 64 := by
  unfold lowBits wrapS
  dsimp only
  split <;> split <;> omega

/-- So does a difference. -/
theorem lowBits_sub_pairs (p : Nat) {q : Nat} (h : q < 2 ^ 64) : lowBits 64 (wrapS 64 p - wrapS 64 q) = (p + 2 ^ 64 - q) % 2 ^ 64 := by
  unfold lowBits wrapS
  dsimp only
  split <;> split <;> omega

/-- Two pairs whose signed values differ by a multiple of 2^64 are the same pair. -/
theorem wrapS_sub_pairs_eq_zero {p q : Nat} (hp : p < 2 ^ 64) (hq : q < 2 ^ 64) : wrapS 64 (wrapS 64 p - wrapS 64 q) = 0 ↔ p = q := by
  unfold wrapS
  dsimp only
  split <;> split <;> split <;> omega

/-! ## The compares (R217) -/

/-- Z, N and V of CMP, in terms of the two words. -/
theorem cmpFlags_words (x y : Word) :
    cmpFlags 32 x.toInt y.toInt = (decide (x = y), decide ((x - y).toInt < 0), decide (x.toInt - y.toInt < -2147483648 ∨ 2147483647 < x.toInt - y.toInt)) := by
  have hd : wrapS 32 (x.toInt - y.toInt) = (x - y).toInt := by rw [wrapS_32, BitVec.toInt_sub]
  have hz : (x - y).toInt = 0 ↔ x = y := by rw [← BitVec.toInt_zero (w := 32), BitVec.toInt_inj, BitVec.sub_eq_iff_eq_add, BitVec.zero_add]
  have hv := wrapS_32_eq_self (x.toInt - y.toInt)
  unfold cmpFlags
  dsimp only
  rw [hd] at hv ⊢
  simp only [hz, ne_eq, hv, Prod.mk.injEq, decide_eq_decide, true_and]
  omega

/-- Z, N and V of CMP64, in terms of the two pairs. -/
theorem cmpFlags_pairs (g : Engine) (a b : Nat) :
    cmpFlags 64 (g.spair a) (g.spair b) =
      (decide (g.pair a = g.pair b), decide (wrapS 64 (g.spair a - g.spair b) < 0), decide (g.spair a - g.spair b < -(2 : Int) ^ 63 ∨ (2 : Int) ^ 63 ≤ g.spair a - g.spair b)) := by
  have hz : wrapS 64 (g.spair a - g.spair b) = 0 ↔ g.pair a = g.pair b := wrapS_sub_pairs_eq_zero (g.pair_lt a) (g.pair_lt b)
  have hv := wrapS_64_eq_self (g.spair a - g.spair b)
  unfold cmpFlags
  dsimp only
  simp only [hz, ne_eq, hv, Prod.mk.injEq, decide_eq_decide, true_and]
  omega

/-- Three flags arrive at bits 10, 11 and 12 of ESTAT, and every other bit stays (Table 7.3). -/
theorem Engine.bit_apply_flags (g : Engine) (z n v : Bool) (k : Nat) (h : g.special.length = 26) :
    bit (g.apply (.flags z n v)).estat k = (if k = 10 then z else if k = 11 then n else if k = 12 then v else bit g.estat k) := by
  have hput (x m : Nat) (b : Bool) : bit (if b then setBit x m else clrBit x m) k = if k = m then b else bit x k := by
    cases b <;> by_cases hk : k = m <;> simp [hk]
  have hs (e : Engine) (w : Nat) (he : e.special.length = 26) : (e.setEstat w).estat = w := getD_set_same _ _ _ (by omega)
  simp only [Engine.apply, hs _ _ h, hput]
  split
  · subst k
    rfl
  · split
    · subst k
      rfl
    · rfl

/-! ## Words that leave Z, N and V alone (R217) -/

/-- The write changes no flag of a compare: it is no compare's, and the overflow bit that it sets or clears is that of one of the eight accumulators. -/
def Wr.SparesFlags : Wr → Prop
  | .flags _ _ _ => False
  | .acc n _ _ => n < 8
  | .aclr n => n < 8
  | _ => True

/-- A write of a special register other than ESTAT leaves it alone. -/
theorem Engine.estat_set_ne (g : Engine) {n : Nat} (v : Nat) (h : n ≠ 25) : ({ g with special := g.special.set n v } : Engine).estat = g.estat := getD_set_ne _ _ _ h

/-- A bit of ESTAT that a new value keeps. -/
theorem Engine.bit_setEstat (g : Engine) {v k : Nat} (h : bit v k = bit g.estat k) : bit (g.setEstat v).estat k = bit g.estat k := bit_getD_set _ _ _ _ h

theorem Wr.SparesFlags.apply {w : Wr} (h : w.SparesFlags) (g : Engine) {k : Nat} (hk : k = 10 ∨ k = 11 ∨ k = 12) : bit (g.apply w).estat k = bit g.estat k := by
  have hset (e : Engine) (n : Nat) (b : Bool) (hn : k ≠ n) : bit (e.setEstat (if b then setBit e.estat n else clrBit e.estat n)).estat k = bit e.estat k := by
    refine e.bit_setEstat ?_
    cases b <;> simp [hn]
  cases w with
  | d r v => rfl
  | acc n v o =>
    have hn : k ≠ n := by unfold Wr.SparesFlags at h; omega
    simp only [Engine.apply]
    split
    · rfl
    · split
      · exact hset { g with acc := g.acc.set n v } n true hn
      · rfl
  | aclr n =>
    have hn : k ≠ n := by unfold Wr.SparesFlags at h; omega
    exact hset { g with acc := g.acc.set n 0 } n false hn
  | mem bus a v =>
    simp only [Engine.apply]
    split
    · rfl
    · split <;> rfl
  | special n v =>
    simp only [Engine.apply]
    split
    · refine g.bit_setEstat ?_
      have h8 : k ≠ 8 := by omega
      have h9 : k ≠ 9 := by omega
      split <;> split <;> simp [h8, h9]
    · split
      · rfl
      · exact congrArg (bit · k) (g.estat_set_ne _ ‹_›)
  | flags z n v => exact h.elim
  | sov => exact hset g 8 true (by omega)
  | wcol => exact hset g 9 true (by omega)
  | loopRegs c le =>
    refine congrArg (bit · k) ?_
    show (((g.special.set 21 c).set 23 (g.pcw % 4096)).set 24 le).getD 25 0 = g.special.getD 25 0
    rw [getD_set_ne _ _ _ (by decide), getD_set_ne _ _ _ (by decide), getD_set_ne _ _ _ (by decide)]

theorem Engine.macWrites_spareFlags (g : Engine) (ls : List Lane) : ∀ w ∈ g.macWrites ls, w.SparesFlags := by
  intro w hw
  obtain ⟨n, hn, hw⟩ := List.mem_filterMap.mp hw
  dsimp only at hw
  split at hw
  · cases hw
  · cases hw
    exact List.mem_range.mp hn

theorem Engine.aluWrites_spareFlags (g : Engine) (o : OpWord) (h : o.op ≠ 0x10 ∧ o.op ≠ 0x11) : ∀ w ∈ g.aluWrites o, w.SparesFlags := by
  have hd : o.dst % 8 < 8 := Nat.mod_lt _ (by decide)
  have hsov (c : Bool) : ∀ w ∈ (if c then [Wr.sov] else []), w.SparesFlags := by cases c <;> simp [Wr.SparesFlags]
  obtain ⟨h10, h11⟩ := h
  unfold Engine.aluWrites
  dsimp only
  split
  case h_16 hop => exact absurd hop h10
  case h_17 hop => exact absurd hop h11
  case h_20 => exact List.forall_mem_cons.mpr ⟨trivial, hsov _⟩
  case h_21 => exact List.forall_mem_append.mpr ⟨by simp [pairWr, Wr.SparesFlags], hsov _⟩
  case h_22 => split <;> simp [Wr.SparesFlags, hd]
  all_goals simp [pairWr, Wr.SparesFlags, hd]

theorem Engine.ctl_spareFlags (g : Engine) (o : OpWord) : ∀ w ∈ (g.ctl o).1, w.SparesFlags := by
  unfold Engine.ctl
  split
  case h_5 =>
    intro w hw
    obtain ⟨r, -, hw⟩ := List.mem_flatMap.mp hw
    split at hw
    · simp only [List.mem_cons, List.not_mem_nil, or_false] at hw
      rcases hw with rfl | rfl <;> trivial
    · cases hw
  all_goals simp [Wr.SparesFlags]

theorem Engine.memWrites_spareFlags (g : Engine) (handler : Bool) (xs : List Access) : ∀ w ∈ g.memWrites handler xs, w.SparesFlags := by
  intro w hw
  obtain ⟨x, -, hw⟩ := List.mem_flatMap.mp hw
  have hif (c : Bool) (bus a : Nat) (v : Word) : (if c then Wr.mem bus a v else .wcol).SparesFlags := by cases c <;> trivial
  dsimp only at hw
  split at hw <;> split at hw <;> simp only [List.mem_cons, List.not_mem_nil, or_false] at hw
  · rcases hw with rfl | rfl <;> exact hif _ _ _ _
  · exact hw ▸ hif _ _ _ _
  · rcases hw with rfl | rfl <;> trivial
  · exact hw ▸ trivial

/-- A bundle without a compare leaves Z, N and V alone, now and when its writes arrive (R217). -/
theorem Engine.bundleWrites_spareFlags (g : Engine) (b : Bundle) (h : ∀ o, b.op = some o → o.ctl = false → o.op ≠ 0x10 ∧ o.op ≠ 0x11) : ∀ w ∈ g.bundleWrites b, w.SparesFlags := by
  intro w hw
  rcases mem_collide hw with hw | rfl
  · rcases List.mem_append.mp hw with hw | hw
    · rcases List.mem_append.mp hw with hw | hw
      · exact g.macWrites_spareFlags _ w hw
      · cases hop : b.op with
        | none => simp [hop, Engine.opResult] at hw
        | some o =>
          rw [hop] at hw
          unfold Engine.opResult at hw
          dsimp only at hw
          split at hw
          next => exact g.ctl_spareFlags o w hw
          next hc => exact g.aluWrites_spareFlags o (h o hop (by simpa using hc)) w hw
    · exact g.memWrites_spareFlags _ _ w hw
  · trivial

/-- The accesses of a bundle move pointers only. -/
theorem Engine.pointersAfter_getD (g : Engine) {xs : List Access} (h : ∀ x ∈ xs, 1 ≤ x.bus ∧ x.bus ≤ 3 ∧ x.ptr < 4) {n : Nat} (hn : 12 ≤ n) : (g.pointersAfter xs).getD n 0 = g.spc n := by
  have go (l : List Access) (hl : ∀ x ∈ l, 1 ≤ x.bus ∧ x.bus ≤ 3 ∧ x.ptr < 4) (sp : List Nat) : (l.foldl g.moved sp).getD n 0 = sp.getD n 0 := by
    induction l generalizing sp with
    | nil => rfl
    | cons x l ih =>
      obtain ⟨h1, h3, h4⟩ := hl x (List.mem_cons_self ..)
      rw [List.foldl_cons, ih fun y hy => hl y (List.mem_cons_of_mem _ hy)]
      unfold Engine.moved
      split
      · exact getD_set_ne _ _ _ (by unfold ptrNum; omega)
      · rfl
  exact go xs h _

/-- A bundle that issues changes of ESTAT no bit but TPEND. -/
theorem Engine.bit_estat_issue (g : Engine) (b : Bundle) (h : ∀ x ∈ b.accs, 1 ≤ x.bus ∧ x.bus ≤ 3 ∧ x.ptr < 4) {k : Nat} (hk : k ≠ 13) : bit (g.issue b).estat k = bit g.arrived.estat k := by
  have hp : (g.arrived.pointersAfter b.accs).getD 25 0 = g.arrived.estat := g.arrived.pointersAfter_getD h (by decide)
  have hl : ((g.arrived.pointersAfter b.accs).set 21 (g.arrived.nextPc b.words).2).getD 25 0 = g.arrived.estat := (getD_set_ne _ _ _ (by decide)).trans hp
  rw [Engine.issue_eq]
  refine (bit_getD_set _ 25 _ k ?_).trans (congrArg (bit · k) hl)
  rw [hl]
  have ht : (Engine.estat { g.arrived with special := g.arrived.pointersAfter b.accs }) = g.arrived.estat := hp
  unfold Engine.tpend
  rw [ht]
  split <;> simp [hk]

/-! ## The words as whole bundles -/

/-- The mark of a saturated rounding collides with nothing (R209, R216). -/
theorem collide_rounded {ws : List Wr} (h : (ws.filterMap Wr.dest).Nodup) (n : Nat) (x : Int) :
    collide (ws ++ (if decide (satS n x ≠ x) then [.sov] else [])) [] = ws ++ (if satS n x = x then [] else [.sov]) := by
  by_cases hx : satS n x = x
  · simpa [hx] using collide_of_nodup h (by simp)
  · have hd : (ws ++ [Wr.sov]).filterMap Wr.dest = ws.filterMap Wr.dest := by rw [List.filterMap_append, show [Wr.sov].filterMap Wr.dest = [] from rfl, List.append_nil]
    simpa [hx] using collide_of_nodup (ws := ws ++ [.sov]) (seen := []) (hd ▸ h) (fun _ _ => List.not_mem_nil)

/-- Settles O18: each word issues by itself with the result of its row, and of the writes that a bundle can make only those of the compares touch Z, N and V. -/
theorem engineArithmeticResults : Obligations.EngineArithmeticResults := by
  refine ⟨fun s e dst a b h => ⟨?_, ?_, ?_, ?_, ?_, ?_, ?_, fun hd ha hb => ⟨?_, ?_⟩⟩, fun g b k hk hop hacc => ⟨?_, ?_⟩⟩
  · refine completes_alu rfl h (by decide) rfl fun g => ?_
    simp [Engine.aluWrites, Engine.sreg, BitVec.ofInt_add]
  · refine completes_alu rfl h (by decide) rfl fun g => ?_
    simp [Engine.aluWrites, Engine.sreg, Int.sub_eq_add_neg, BitVec.ofInt_add, BitVec.ofInt_neg, BitVec.sub_eq_add_neg]
  · exact completes_alu rfl h (by decide) rfl fun g => collide_singleton _
  · exact completes_alu rfl h (by decide) rfl fun g => collide_singleton _
  · refine completes_alu rfl h (by decide) rfl fun g => ?_
    simp only [Engine.aluWrites, collide_singleton, Engine.sreg, ofInt_min]
    rfl
  · refine completes_alu rfl h (by decide) rfl fun g => ?_
    simp only [Engine.aluWrites, collide_singleton, Engine.sreg, ofInt_max]
    rfl
  · exact completes_alu rfl h (by decide) rfl fun g => collide_singleton _
  · refine completes_alu rfl h (by decide) (by simp [aluPairOdd, hd, ha, hb]) fun g => ?_
    simp only [Engine.aluWrites, pairWr, collide_pair, Engine.spair, lowBits_add_pairs]
  · refine completes_alu rfl h (by decide) (by simp [aluPairOdd, hd, ha, hb]) fun g => ?_
    simp only [Engine.aluWrites, pairWr, collide_pair, Engine.spair, lowBits_sub_pairs _ (g.pair_lt b)]
  · exact g.bit_estat_issue b hacc (by omega)
  · intro w hw g'
    rw [Engine.issue_eq] at hw
    exact (g.arrived.bundleWrites_spareFlags b hop w hw).apply g' hk

/-- Settles O19: each word has one result, which collides with nothing. -/
theorem engineLogicResults : Obligations.EngineLogicResults := by
  intro s e dst a b sh imm h
  have one {c : Instr} {op dst a b sh imm : Nat} {v : Engine → Word} (hc : exec c s = s.act (fun d => d.alu e op dst a b sh imm true)) (hop : op ≤ 0x19)
      (hodd : aluPairOdd { ctl := false, op := op, dst := dst, a := a, b := b, sh := sh, imm := imm } = false)
      (hv : ∀ g : Engine, g.aluWrites { ctl := false, op := op, dst := dst, a := a, b := b, sh := sh, imm := imm } = [.d dst (v g)]) :
      Completes c s (fun d => d = s.dev.Bundled e (fun g => [.d dst (v g)])) :=
    completes_alu hc h hop hodd fun g => by rw [hv, collide_singleton]
  refine ⟨one rfl (by decide) rfl fun g => rfl, one rfl (by decide) rfl fun g => rfl, one rfl (by decide) rfl fun g => rfl, one rfl (by decide) rfl fun g => rfl,
    one rfl (by decide) rfl fun g => rfl, one rfl (by decide) rfl fun g => rfl, one rfl (by decide) rfl fun g => rfl, one rfl (by decide) rfl fun g => rfl,
    one rfl (by decide) rfl fun g => ?_, completes_alu rfl h (by decide) rfl fun g => rfl⟩
  simp only [Engine.aluWrites, Engine.readSpecial, Bool.and_eq_true, decide_eq_true_eq]

/-- Settles O20: the flags are those of the difference, and nothing else is written. -/
theorem engineCompares : Obligations.EngineCompares := by
  refine ⟨fun s e a b h => ⟨?_, fun ha hb => ?_⟩, fun g z n v k hl => g.bit_apply_flags z n v k hl⟩
  · refine completes_alu rfl h (by decide) rfl fun g => ?_
    simp only [Engine.aluWrites, Engine.sreg, cmpFlags_words, collide_singleton]
    rfl
  · refine completes_alu rfl h (by decide) (by simp [aluPairOdd, ha, hb]) fun g => ?_
    simp only [Engine.aluWrites, cmpFlags_pairs, collide_singleton]

/-- Settles O21: a rounded value and the mark of its saturation do not collide, and a pair fits the 72 bits of an accumulator, so that AMOV overflows nothing. -/
theorem engineAccumulatorWords : Obligations.EngineAccumulatorWords := by
  intro s e dst a sh h
  refine ⟨?_, fun hd => ?_, fun ha => ?_, ?_, ?_⟩
  · exact completes_alu rfl h (by decide) rfl fun g => collide_rounded (ws := [.d dst _]) (List.nodup_singleton _) 32 _
  · exact completes_alu rfl h (by decide) (by simp [aluPairOdd, hd]) fun g => collide_rounded (ws := [.d dst _, .d (dst + 1) _]) (by simp [Wr.dest]) 64 _
  · refine completes_alu rfl h (by decide) (by simp [aluPairOdd, ha]) fun g => ?_
    have hs : satS 72 (g.spair a) = g.spair a := satS_72_of_range (wrapS_64_range _)
    simp only [Engine.aluWrites, acc72, hs, Engine.aov]
    cases bit g.estat (dst % 8) <;> simp
  · exact completes_alu rfl h (by decide) rfl fun g => collide_singleton _
  · exact completes_alu rfl h (by decide) rfl fun g => collide_singleton _

end Sys2Proof.Machine

/-! PROOFS. The MAC words (Table 7.5, R212 to R214): lanes that name one accumulator meet in one exact sum, alone and in one bundle. -/

namespace Sys2Proof.Machine

open Sys2Proof

/-- The value that the lanes `ls` of one accumulator leave: from the accumulator, or from 0 where one of them is an MPY, the exact products added and subtracted. -/
def Engine.macSum (g : Engine) (acc : Nat) (ls : List Lane) : Int :=
  ls.foldl (fun s l => if l.kind = 2 then s - g.product l else s + g.product l) (if ls.any (fun l => l.kind = 3) then 0 else g.acc.getD acc 0)

/-- Lanes of one accumulator write it once, unless it is frozen. -/
theorem Engine.macWrites_one (g : Engine) {ls : List Lane} {acc : Nat} (hacc : acc < 8) (hne : ls ≠ []) (hls : ∀ l ∈ ls, l.acc = acc) :
    g.macWrites ls = if bit g.estat acc then [] else [.acc acc (satS 72 (g.macSum acc ls)) (decide (satS 72 (g.macSum acc ls) ≠ g.macSum acc ls))] := by
  have hmine (n : Nat) : ls.filter (fun l => l.acc = n) = if n = acc then ls else [] := by
    split
    next hn => exact List.filter_eq_self.mpr fun l hl => by simp [hls l hl, hn]
    next hn => exact List.filter_eq_nil_iff.mpr fun l hl => by simp [hls l hl, Ne.symm hn]
  have hone : g.macWrites ls = (List.range 8).filterMap (fun n => if n = acc then (if bit g.estat acc then none else
      some (Wr.acc acc (satS 72 (g.macSum acc ls)) (decide (satS 72 (g.macSum acc ls) ≠ g.macSum acc ls)))) else none) := by
    unfold Engine.macWrites
    refine List.filterMap_congr fun n _ => ?_
    dsimp only
    rw [hmine]
    by_cases hn : n = acc
    · subst hn
      simp [hne, Engine.aov, acc72, Engine.macSum]
    · simp [hn]
  rw [hone]
  cases bit g.estat acc
  · generalize g.macSum acc ls = x
    interval_cases acc <;> rfl
  · simp

/-- A bundle of MAC lanes. -/
theorem Engine.issue_lanes (g : Engine) {ls : List Lane} {acc : Nat} (hacc : acc < 8) (hne : ls ≠ []) (hls : ∀ l ∈ ls, l.acc = acc) :
    g.issue { lanes := ls } = g.stepped 1 (if bit g.arrived.estat acc then [] else
      [.acc acc (satS 72 (g.arrived.macSum acc ls)) (decide (satS 72 (g.arrived.macSum acc ls) ≠ g.arrived.macSum acc ls))]) := by
  have hw : Bundle.words { lanes := ls } = 1 := by simp [Bundle.words, hne]
  have hb : g.arrived.bundleWrites { lanes := ls } = g.arrived.macWrites ls := by
    unfold Engine.bundleWrites
    rw [show (g.arrived.opResult none).1 = [] from rfl, show g.arrived.memWrites g.arrived.inHandler [] = [] from rfl, List.append_nil, List.append_nil, Engine.macWrites_one _ hacc hne hls]
    split <;> simp
  rw [Engine.issue_plain g { lanes := ls } rfl g.arrived_reqs, hw, hb, Engine.macWrites_one _ hacc hne hls]
  rfl

/-- Settles O22: one lane is a sum of one product; an MAC word that joins and an MSU word that ends the bundle make one sum of two. -/
theorem engineMacResults : Obligations.EngineMacResults := by
  intro s e lane psh sign acc a b h hl hacc ha hb
  have hlegal (k : Nat) : Bundle.illegal { lanes := [{ lane := lane, kind := k, psh := psh, sign := sign, acc := acc, a := a, b := b }] } = false := by
    simp [Bundle.illegal]
    omega
  have one {c : Instr} {k : Nat} (hc : exec c s = s.act (fun d => d.mac e k lane psh sign acc a b true)) {f : Engine → Int}
      (hf : ∀ g : Engine, g.macSum acc [{ lane := lane, kind := k, psh := psh, sign := sign, acc := acc, a := a, b := b }] = f g) :
      Completes c s (fun d => d = s.dev.Bundled e (fun g => if bit g.estat acc then [] else [.acc acc (satS 72 (f g)) (decide (satS 72 (f g) ≠ f g))])) := by
    refine completes_part _ hc h rfl (hlegal k) rfl (Dev.onEngine_congr s.dev e _ _ ?_)
    refine (Engine.issue_lanes _ hacc (List.cons_ne_nil _ []) (by simp)).trans ?_
    rw [hf]
  refine ⟨one rfl fun g => rfl, one rfl fun g => rfl, one rfl fun g => Int.zero_add _, fun lane2 a2 b2 hl2 hne ha2 hb2 => ?_⟩
  refine completes_two_parts { lanes := [{ lane := lane, kind := 1, psh := psh, sign := sign, acc := acc, a := a, b := b }, { lane := lane2, kind := 2, psh := psh, sign := sign, acc := acc, a := a2, b := b2 }] }
    rfl (fun _ => rfl) h rfl ?_ (fun _ => rfl) (Dev.onEngine_congr s.dev e _ _ ?_)
  · have hd : [lane, lane2].dedup = [lane, lane2] := List.Nodup.dedup (by simpa using hne.symm)
    simp [Bundle.illegal, hd]
    omega
  · refine (Engine.issue_lanes _ hacc (List.cons_ne_nil _ _) (by simp)).trans ?_
    rw [Engine.stepped_cur, Engine.arrived_cur]
    rfl

end Sys2Proof.Machine

/-! PROOFS. Loads and stores (Table 7.9, R200, R201, R207, R210, R224): one access as a whole bundle, and the pointer that it moves. -/

namespace Sys2Proof.Machine

open Sys2Proof

/-- The pointer that an access moves is none of the sequencer's registers, so that it does not matter which is set first. -/
theorem Engine.moved_set_set (g : Engine) (sp : List Nat) {x : Access} (h : ptrNum x.bus x.ptr < 12) (u v : Nat) :
    ((g.moved sp x).set 21 u).set 25 v = g.moved ((sp.set 21 u).set 25 v) x := by
  unfold Engine.moved
  cases g.postModify x with
  | none => rfl
  | some p =>
    show ((sp.set (ptrNum x.bus x.ptr) p).set 21 u).set 25 v = ((sp.set 21 u).set 25 v).set (ptrNum x.bus x.ptr) p
    rw [List.set_comm p u (by omega), List.set_comm p v (by omega)]

theorem Engine.moved_estat (g : Engine) (sp : List Nat) {x : Access} (h : ptrNum x.bus x.ptr < 12) : (g.moved sp x).getD 25 0 = sp.getD 25 0 := by
  unfold Engine.moved
  split
  · exact getD_set_ne _ _ _ (by omega)
  · rfl

/-- One access as a whole bundle: its writes, and its pointer. -/
theorem Engine.issue_access (g : Engine) {x : Access} (h : ptrNum x.bus x.ptr < 12) {ws : List Wr} (hws : collide (g.arrived.memWrites g.arrived.inHandler [x]) [] = ws) :
    g.issue { accs := [x] } = { g.stepped 1 ws with special := g.arrived.moved (g.stepped 1 ws).special x } := by
  have hb : g.arrived.bundleWrites { accs := [x] } = ws := hws
  have ht : Engine.tpend { g.arrived with special := g.arrived.pointersAfter [x] } g.reqs = g.arrived.tpend g.reqs := by
    have he : Engine.estat { g.arrived with special := g.arrived.pointersAfter [x] } = g.arrived.estat := g.arrived.moved_estat _ h
    unfold Engine.tpend
    rw [he]
  rw [Engine.issue_off_port g { accs := [x] } g.arrived_reqs, hb, ht, show Bundle.words { accs := [x] } = 1 by simp [Bundle.words]]
  simp only [show g.arrived.pointersAfter [x] = g.arrived.moved g.arrived.special x from rfl, g.arrived.moved_set_set _ h]
  rfl

/-- The two words of a wide store do not collide (R201). -/
theorem collide_wide_store (bus a : Nat) (v w : Word) : collide [.mem bus a v, .mem bus (a + 1) w] [] = [.mem bus a v, .mem bus (a + 1) w] :=
  collide_of_nodup (by simp [Wr.dest]; omega) (by simp)

/-- The results of a load (R201, R210). -/
theorem Engine.load_results (g : Engine) (handler : Bool) {x : Access} (hx : x.store = false) :
    collide (g.memWrites handler [x]) [] = if x.wide then [.d x.reg (g.word x.bus (g.address x)), .d (x.reg + 1) (g.word x.bus (g.address x + 1))] else [.d x.reg (g.word x.bus (g.address x))] := by
  unfold Engine.memWrites
  rw [show sortBy (fun u v : Access => decide (u.bus ≤ v.bus)) [x] = [x] from rfl]
  cases hw : x.wide <;> simp [hx, hw]

/-- The results of a store outside the preemption handler. -/
theorem Engine.store_results (g : Engine) {x : Access} (hx : x.store = true) :
    collide (g.memWrites false [x]) [] = if x.wide then [.mem x.bus (g.address x) (g.reg x.reg), .mem x.bus (g.address x + 1) (g.reg (x.reg + 1))] else [.mem x.bus (g.address x) (g.reg x.reg)] := by
  unfold Engine.memWrites
  rw [show sortBy (fun u v : Access => decide (u.bus ≤ v.bus)) [x] = [x] from rfl]
  cases hw : x.wide <;> simp [hx, hw, collide_wide_store]

/-- The result of a store of one word in the handler: outside its save area it is WCOL (R224). -/
theorem Engine.handler_store_results (g : Engine) {x : Access} (hx : x.store = true) (hw : x.wide = false) :
    collide (g.memWrites true [x]) [] = if x.bus = 1 ∧ 0x1000 ≤ g.address x % 8192 then [.mem x.bus (g.address x) (g.reg x.reg)] else [.wcol] := by
  unfold Engine.memWrites
  rw [show sortBy (fun u v : Access => decide (u.bus ≤ v.bus)) [x] = [x] from rfl]
  by_cases hok : x.bus = 1 ∧ 0x1000 ≤ g.address x % 8192 <;> simp [hx, hw, hok]

/-- The handler runs, as the bundle that issues sees it. -/
theorem Engine.arrived_inHandler (g : Engine) : g.arrived.inHandler = true ↔ ∃ r, g.run = some r ∧ r.kind = 2 := by
  unfold Engine.inHandler
  rw [g.arrived_run]
  cases g.run <;> simp

/-- Settles O23: a legal access is a bundle of its own, whose result does not collide with itself. -/
theorem engineMemoryAccesses : Obligations.EngineMemoryAccesses := by
  intro s e bus wide reg amode ptr ofs h h1 h3 hm hr hp hwide x moved inHandler after
  have hx (st : Bool) : ptrNum (x st).bus (x st).ptr < 12 := by
    show 4 * (bus - 1) + ptr < 12
    omega
  have hlegal (st : Bool) (hst : st = true → bus ≤ 2) : Bundle.illegal { accs := [x st] } = false := by
    have hstore : bus = 3 → st = false := fun hb => by
      cases st
      · rfl
      · have := hst rfl
        omega
    simp [Bundle.illegal, x]
    exact ⟨⟨by omega, hstore⟩, hwide⟩
  have hafter (st : Bool) (ws : Engine → List Wr) :
      after (x st) ws = s.dev.onEngine e (fun g => { g.stepped 1 (ws g.arrived) with special := g.arrived.moved (g.stepped 1 (ws g.arrived)).special (x st) }) := by
    refine Dev.onEngine_congr s.dev e _ _ ?_
    show moved (x st) _ _ = _
    unfold Engine.moved moved
    cases (s.dev.engine e).arrived.postModify (x st) <;> rfl
  clear_value after
  have access {c : Instr} {st : Bool} {ws : Engine → List Wr} (hc : exec c s = s.act (fun d => d.mem e bus st wide reg amode ptr ofs true)) (hst : st = true → bus ≤ 2)
      (hws : collide ((s.dev.engine e).arrived.memWrites (s.dev.engine e).arrived.inHandler [x st]) [] = ws (s.dev.engine e).arrived) :
      Completes c s (fun d => d = after (x st) ws) := by
    refine completes_part { accs := [x st] } hc h rfl (hlegal st hst) rfl ?_
    rw [hafter]
    exact Dev.onEngine_congr s.dev e _ _ (Engine.issue_access _ (hx st) hws)
  refine ⟨access rfl (by simp) (Engine.load_results _ _ rfl), fun hb hh => access rfl (fun _ => hb) ?_, fun hb hh hw => access rfl (fun _ => hb) ?_⟩
  · rw [show (s.dev.engine e).arrived.inHandler = false by rw [← Bool.not_eq_true, Engine.arrived_inHandler]; exact hh]
    exact Engine.store_results _ rfl
  · rw [(Engine.arrived_inHandler _).mpr hh]
    exact Engine.handler_store_results _ rfl hw

end Sys2Proof.Machine

/-! PROOFS. The CTL words (Table 7.8, R208, R218, R220, R221): branches, the hardware loop, and the table port. -/

namespace Sys2Proof.Machine

open Sys2Proof

/-! ## A CTL word as a whole bundle -/

/-- A CTL word that neither asks for table reads nor waits for them leaves its writes and its branch. -/
theorem Engine.issue_ctl (g : Engine) {o : OpWord} (hc : o.ctl = true) (h5 : o.op ≠ 5) (h6 : o.op ≠ 6) :
    g.issue { op := some o } = { g.stepped 1 (collide (g.arrived.ctl o).1 []) with brNext := (g.arrived.ctl o).2 } := by
  have hr : g.arrived.opResult (some o) = g.arrived.ctl o := if_pos hc
  have hb : g.arrived.bundleWrites { op := some o } = collide (g.arrived.ctl o).1 [] := by
    unfold Engine.bundleWrites
    rw [hr]
    exact congrArg (collide · []) (List.append_nil _)
  have hq : g.arrived.reqsAfter (some o) = g.reqs := by
    simp [Engine.reqsAfter, h5, h6]
  rw [Engine.issue_plain g { op := some o } rfl hq, hb, hr, Bundle.words_op]

/-- A CTL word by itself is legal, but for a reserved operation and a TRD into an odd pair (R204, R205). -/
theorem Bundle.legal_ctl {o : OpWord} (hc : o.ctl = true) (h7 : o.op ≤ 7) (h5 : o.op = 5 → o.dst % 2 = 0) : Bundle.illegal { op := some o } = false := by
  simp [Bundle.illegal, hc]
  omega

/-- A CTL word that ends its bundle, is legal and need not wait, completes with the bundle's effect. -/
theorem completes_ctl {c : Instr} {s : State} {e op dst a b sh imm addr : Nat} {f : Engine → Engine} (hc : exec c s = s.act (fun d => d.ctlOp e op dst a b sh imm addr true)) (h : s.dev.Ready e)
    (h7 : op ≤ 7) (h5 : op = 5 → dst % 2 = 0)
    (hw : (s.dev.engine e).mustWait { op := some { ctl := true, op := op, dst := dst, a := a, b := b, sh := sh, imm := imm, addr := addr } } = false)
    (hf : (s.dev.engine e).issue { op := some { ctl := true, op := op, dst := dst, a := a, b := b, sh := sh, imm := imm, addr := addr } } = f (s.dev.engine e)) :
    Completes c s (fun d => d = s.dev.onEngine e f) :=
  completes_part _ hc h rfl (Bundle.legal_ctl rfl h7 h5) hw (Dev.onEngine_congr s.dev e _ _ hf)

/-- A CTL word that must wait stands before the engine (R220, R221). -/
theorem completes_ctl_waits {c : Instr} {s : State} {e op dst a b : Nat} (hc : exec c s = s.act (fun d => d.ctlOp e op dst a b 0 0 0 true)) (h : s.dev.Ready e)
    (h7 : op ≤ 7) (h5 : op = 5 → dst % 2 = 0)
    (hw : (s.dev.engine e).mustWait { op := some { ctl := true, op := op, dst := dst, a := a, b := b } } = true) :
    Completes c s (fun d => d = s.dev.onEngine e (fun g => { g with stall := some { op := some { ctl := true, op := op, dst := dst, a := a, b := b } } })) := by
  refine completes_act hc ?_
  rw [show s.dev.ctlOp e op dst a b 0 0 0 true = _ from Dev.part_waits s.dev e _ _ h rfl (Bundle.legal_ctl rfl h7 h5) hw, Dev.satCheck_engine]
  rfl

/-! ## Table reads (R220, R221) -/

/-- TPEND stands with a read that has just been asked for. -/
theorem Engine.tpend_asked (g : Engine) (rs : List TabReq) (q : TabReq) (h : q.got = none) : g.tpend (rs ++ [q]) = setBit g.estat 13 := by
  simp [Engine.tpend, h]

/-- TRD: one more table read is outstanding. -/
theorem Engine.issue_trd (g : Engine) (dst a b : Nat) :
    g.issue { op := some { ctl := true, op := 5, dst := dst, a := a, b := b } } =
      { g.stepped 1 [] with
        reqs := g.reqs ++ [{ handle := (g.arrived.reg a).toNat, idx := (g.arrived.reg b).toNat, dst := dst }]
        special := (g.stepped 1 []).special.set 25 (setBit g.arrived.estat 13)
        run := g.run.map (fun r => { r with steps := r.steps + 1 + g.arrived.backSteps 1, reads := r.reads + 1 }) } := by
  have hq : g.arrived.reqsAfter (some { ctl := true, op := 5, dst := dst, a := a, b := b }) = g.reqs ++ [{ handle := (g.arrived.reg a).toNat, idx := (g.arrived.reg b).toNat, dst := dst }] :=
    congrArg (· ++ _) g.arrived_reqs
  rw [Engine.issue_eq]
  simp only [hq, List.length_append, List.length_singleton, if_true, Bundle.words_op]
  have ht : Engine.tpend { g.arrived with special := g.arrived.pointersAfter [] } (g.reqs ++ [{ handle := (g.arrived.reg a).toNat, idx := (g.arrived.reg b).toNat, dst := dst }]) = setBit g.arrived.estat 13 :=
    Engine.tpend_asked _ _ _ rfl
  rw [ht]
  unfold Engine.stepped
  rw [List.set_set]
  rfl

/-- Results of returned table reads, each for a pair of its own, do not collide. -/
theorem collide_returned {rs : List TabReq} (h : (rs.map (fun r => r.dst)).Pairwise (fun x y => x ≠ y ∧ x ≠ y + 1 ∧ y ≠ x + 1)) (v w : TabReq → Word) :
    collide (rs.flatMap (fun r => [.d r.dst (v r), .d (r.dst + 1) (w r)])) [] = rs.flatMap (fun r => [.d r.dst (v r), .d (r.dst + 1) (w r)]) := by
  refine collide_of_nodup ?_ (by simp)
  have hd : (rs.flatMap (fun r => [Wr.d r.dst (v r), .d (r.dst + 1) (w r)])).filterMap Wr.dest = (rs.map (fun r => r.dst)).flatMap (fun x => [(0, x), (0, x + 1)]) := by
    induction rs with
    | nil => rfl
    | cons r rs ih => simp only [List.flatMap_cons, List.map_cons, List.filterMap_append, ih (List.pairwise_cons.mp h).2]; rfl
  rw [hd, List.nodup_flatMap]
  refine ⟨fun x _ => by simp, h.imp fun hxy => ?_⟩
  simp [Function.onFun, List.disjoint_left]
  omega

/-- TWAIT with every read returned: the pairs are written and no read is outstanding. -/
theorem Engine.issue_twait (g : Engine) (hgot : ∀ r ∈ g.reqs, r.got.isSome) (hdst : (g.reqs.map (fun r => r.dst)).Pairwise (fun x y => x ≠ y ∧ x ≠ y + 1 ∧ y ≠ x + 1))
    {ws : List Wr} (hws : ws = g.reqs.flatMap (fun r => [.d r.dst (BitVec.ofInt 32 (r.got.getD (0, 0)).1), .d (r.dst + 1) (BitVec.ofInt 32 (r.got.getD (0, 0)).2)])) :
    g.issue { op := some { ctl := true, op := 6 } } = { g.stepped 1 ws with reqs := [], special := (g.stepped 1 ws).special.set 25 (clrBit g.arrived.estat 13) } := by
  have hc : (g.arrived.ctl { ctl := true, op := 6 }).1 = ws := by
    show g.arrived.reqs.flatMap _ = _
    rw [g.arrived_reqs, hws]
    refine List.flatMap_congr fun r hr => ?_
    obtain ⟨x, hx⟩ := Option.isSome_iff_exists.mp (hgot r hr)
    simp [hx]
  have hb : g.arrived.bundleWrites { op := some { ctl := true, op := 6 } } = ws := by
    unfold Engine.bundleWrites
    rw [show (g.arrived.opResult (some { ctl := true, op := 6 })).1 = ws from hc]
    refine (congrArg (collide · []) (List.append_nil ws)).trans ?_
    rw [hws]
    exact collide_returned hdst _ _
  rw [Engine.issue_eq, hb]
  simp only [show g.arrived.reqsAfter (some { ctl := true, op := 6 }) = [] from rfl, List.length_nil, Bundle.words_op]
  unfold Engine.stepped
  rw [List.set_set]
  rfl

/-! ## The hardware loop (R218) -/

theorem Engine.nextPc_branch (g : Engine) (n : Nat) {t : Nat} (h : g.brDue = some t) : g.nextPc n = (t, if g.spc 23 ≤ t ∧ t ≤ g.spc 24 then g.spc 21 else 0) := by
  unfold Engine.nextPc
  simp [h]

/-- Where no branch is due, the fetch goes on at LS, after LE, or at the next word. -/
theorem Engine.nextPc_no_branch (g : Engine) (n : Nat) (h : ∀ t, g.brDue ≠ some t) :
    g.nextPc n = if (g.pcw + n - 1) % 4096 = g.spc 24 ∧ 1 < g.spc 21 then (g.spc 23, g.spc 21 - 1)
      else if (g.pcw + n - 1) % 4096 = g.spc 24 ∧ g.spc 21 = 1 then (((g.pcw + n - 1) % 4096 + 1) % 4096, 0) else ((g.pcw + n) % 4096, g.spc 21) := by
  unfold Engine.nextPc
  simp [Option.eq_none_iff_forall_ne_some.mpr h]

/-- A branch whose target follows two more bundles is where the fetch stands after them, whatever they write (R208). -/
theorem Engine.pcw_after_branch (g : Engine) {t : Nat} (h : g.brNext = some t) (n1 n2 : Nat) (ws1 ws2 : List Wr) : ((g.stepped n1 ws1).stepped n2 ws2).pcw = t := by
  have hd : (g.stepped n1 ws1).arrived.brDue = some t := (Engine.arrived_brDue _).trans h
  exact congrArg Prod.fst (Engine.nextPc_branch _ n2 hd)

/-- The count of LOOP: IMM, or the low half of a D register (Table 7.17). -/
def Engine.loopCount (g : Engine) (a b imm : Nat) : Nat := if b = 1 then imm % 65536 else (g.reg a).toNat % 65536

/-- LOOP as a whole bundle, by its count. -/
theorem Engine.issue_loop (g : Engine) (a b imm addr : Nat) :
    g.issue { op := some { ctl := true, op := 3, a := a, b := b, imm := imm, addr := addr } } =
      { g.stepped 1 [.loopRegs (g.arrived.loopCount a b imm) addr] with
        brNext := if g.arrived.loopCount a b imm = 0 then some ((addr + 1) % 4096) else none } := by
  have hc : g.arrived.ctl { ctl := true, op := 3, a := a, b := b, imm := imm, addr := addr } =
      ([.loopRegs (g.arrived.loopCount a b imm) addr],
        if g.arrived.loopCount a b imm = 0 then some ((addr + 1) % 4096) else none) := rfl
  rw [Engine.issue_ctl g rfl (by simp) (by simp), hc, collide_singleton]

/-- DJNZ1 as a whole bundle. -/
theorem Engine.issue_djnz1 (g : Engine) (addr : Nat) :
    g.issue { op := some { ctl := true, op := 4, addr := addr } } =
      { g.stepped 1 [.special 22 ((g.arrived.spc 22 + 65535) % 65536)] with brNext := if (g.arrived.spc 22 + 65535) % 65536 ≠ 0 then some addr else none } := by
  have hc : g.arrived.ctl { ctl := true, op := 4, addr := addr } =
      ([.special 22 ((g.arrived.spc 22 + 65535) % 65536)], if (g.arrived.spc 22 + 65535) % 65536 ≠ 0 then some addr else none) := rfl
  rw [Engine.issue_ctl g rfl (by simp) (by simp), hc, collide_singleton]

/-- What LOOP sets when it arrives: LC0, LS at the bundle that then begins, and LE. -/
theorem Engine.apply_loopRegs (g : Engine) (c le : Nat) (h : g.special.length = 26) :
    (g.apply (.loopRegs c le)).spc 21 = c ∧ (g.apply (.loopRegs c le)).spc 23 = g.pcw % 4096 ∧ (g.apply (.loopRegs c le)).spc 24 = le := by
  have hs (n : Nat) : (g.apply (.loopRegs c le)).spc n = (((g.special.set 21 c).set 23 (g.pcw % 4096)).set 24 le).getD n 0 := rfl
  rw [hs, hs, hs]
  refine ⟨?_, ?_, getD_set_same _ _ _ (by simp [h])⟩
  · rw [getD_set_ne _ _ _ (by decide), getD_set_ne _ _ _ (by decide), getD_set_same _ _ _ (by omega)]
  · rw [getD_set_ne _ _ _ (by decide), getD_set_same _ _ _ (by simp [h])]

/-- Settles O24: each CTL word is a bundle of its own, in which nothing collides; a fifth TRD and a TWAIT with a read outstanding wait. -/
theorem engineControlWords : Obligations.EngineControlWords := by
  intro s e dst a b sh imm addr immSel h taken g0 asks
  have htaken (g : Engine) (n : Nat) (ws : List Wr) (c : Bool) (t : Nat) : { g.stepped n ws with brNext := if c then some t else none } = taken (g.stepped n ws) c t := by
    cases c <;> rfl
  have hwhere (g : Engine) (n : Nat) (ws : List Wr) (c : Prop) [Decidable c] (t : Nat) : { g.stepped n ws with brNext := if c then some t else none } = taken (g.stepped n ws) (decide c) t := by
    by_cases hc : c <;> simp only [hc, if_true, if_false, decide_true, decide_false] <;> rfl
  refine ⟨?_, ?_, ?_, ?_, ?_, fun hd hq => ?_, fun hd hq => ?_, fun hgot hdst => ?_, fun g c le hl => ?_, fun hq => ?_⟩
  · exact completes_ctl rfl h (by decide) (by simp) rfl (Engine.issue_ctl _ rfl (by simp) (by simp))
  · exact completes_ctl rfl h (by decide) (by simp) rfl (Engine.issue_ctl _ rfl (by simp) (by simp))
  · refine completes_ctl rfl h (by decide) (by simp) rfl ((Engine.issue_ctl _ rfl (by simp) (by simp)).trans ?_)
    exact htaken _ 1 [] _ addr
  · refine completes_ctl rfl h (by decide) (by simp) rfl ((Engine.issue_loop _ _ _ _ _).trans ?_)
    cases immSel <;> exact hwhere _ 1 _ _ _
  · refine completes_ctl rfl h (by decide) (by simp) rfl ((Engine.issue_djnz1 _ _).trans ?_)
    exact hwhere _ 1 _ _ _
  · refine completes_ctl rfl h (by decide) (fun _ => hd) ?_ (Engine.issue_trd _ _ _ _)
    simpa [Engine.mustWait] using hq
  · refine completes_ctl_waits rfl h (by decide) (fun _ => hd) ?_
    simpa [Engine.mustWait] using hq
  · refine completes_ctl rfl h (by decide) (by simp) ?_ (Engine.issue_twait _ hgot hdst rfl)
    simpa [Engine.mustWait, Option.isSome_iff_ne_none] using hgot
  · exact g.apply_loopRegs c le hl
  · refine completes_ctl_waits rfl h (by decide) (by simp) ?_
    simpa [Engine.mustWait] using hq

/-- Settles O27: by the cases of the fetch, and through the branch that a LOOP of count 0 leaves. -/
theorem engineHardwareLoop : Obligations.EngineHardwareLoop := by
  refine ⟨fun g n => ⟨fun hb hl hc => ?_, fun hb hl hc => ?_, fun hb hl => ?_, fun t ht => g.nextPc_branch n ht⟩, fun s e a addr h => ?_⟩
  · rw [g.nextPc_no_branch n hb, if_pos ⟨hl, hc⟩]
  · rw [g.nextPc_no_branch n hb, if_neg (by omega), if_pos ⟨hl, hc⟩, hl]
  · rw [g.nextPc_no_branch n hb, if_neg (by omega), if_neg (by omega)]
  · obtain ⟨r, hr⟩ := Option.isSome_iff_exists.mp h.1
    have hd (f : Engine → Engine) : (s.dev.onEngine e f).engine e = f (s.dev.engine e) := Dev.engine_onEngine_same hr f
    refine ⟨(completes_ctl (f := fun g => g.issue { op := some { ctl := true, op := 3, a := a, b := 1, addr := addr } }) rfl h (by decide) (by simp) rfl rfl).imp ?_,
      (completes_ctl (f := fun g => g.issue { op := some { ctl := true, op := 4, addr := addr } }) rfl h (by decide) (by simp) rfl rfl).imp ?_⟩
    · rintro d rfl n1 n2 ws1 ws2
      refine Engine.pcw_after_branch _ ?_ n1 n2 ws1 ws2
      rw [hd, Engine.issue_loop]
      rfl
    · rintro d rfl
      rw [hd, Engine.issue_djnz1]
      refine ⟨rfl, fun hc => ?_, fun hc => ?_⟩
      · dsimp only
        rw [if_pos hc]
      · dsimp only
        rw [if_neg (not_not.mpr hc)]

end Sys2Proof.Machine

/-! PROOFS. Words that join a bundle, and the ends of runs (R204, R220 to R225, R229, R234, R236): a trap, DONE of each kind of run, a handler and a pass beyond their budgets, and a table
read that returns. -/

namespace Sys2Proof.Machine

open Sys2Proof

/-! ## A change with its event -/

/-- What a device holds after a change to `d'` that one event reports. -/
theorem completes_emit {c : Instr} {s : State} {f : Dev → Dev} {d' : Dev} {ev : Ev} (hc : exec c s = s.act f) (hf : f s.dev = d'.emit ev) (hr : d'.router = s.dev.router)
    (hroom : s.dev.EventRoom 1) : Completes c s (fun d => d.Is d' ∧ d.Reports ev.code ev.src ev.args) := by
  refine completes_act hc ?_
  rw [hf]
  refine ⟨(Dev.core_satCheck _ _).trans (Dev.core_emit _ _), Dev.reports_satCheck _ _ (Dev.reports_emit d' ev fun _ => ?_)⟩
  rw [hr]
  exact hroom

/-! ## Traps (R222) -/

/-- A bundle with END that breaks a rule traps. -/
theorem Dev.part_traps (d : Dev) (e : Nat) (f : Bundle → Bundle) (h1 : (d.engine e).run.isSome = true) (h2 : (d.engine e).stall = none) (hl : (f (d.engine e).cur).illegal = true) :
    d.part e f true = d.trap e := by
  unfold Dev.part
  simp only [h1, h2, Option.isNone_none, Bool.and_self, if_true, Engine.take, Bool.not_true, Bool.false_eq_true, if_false, hl]

/-- The engine after a computation of slot `slot` has trapped: it drains, and the slot has no output. -/
def Engine.trapped (g : Engine) (slot : Nat) : Engine :=
  { g.drain with run := none, cur := {}, stall := none, reqs := [], special := g.drain.special.set 25 (clrBit g.drain.estat 13),
                 slots := Tab.upd g.slots slot (fun x => { x with outs := x.outs ++ [{ words := [], commit := false, pass := 15 }] }) }

/-- A trap of an axis computation. -/
theorem Dev.trap_axis {d : Dev} {e : Nat} {r : Run} (hr : (d.engine e).run = some r) (hk : r.kind = 0) :
    d.trap e = (d.onEngine e (fun g => g.trapped r.slot)).emit (evC (srcEngine e) eENGINE_TRAP (leBytes 1 e ++ leBytes 2 (d.engine e).pcw ++ leBytes 2 r.axis)) := by
  unfold Dev.trap
  simp only [hr, hk, OfNat.zero_ne_ofNat, if_false, if_true]
  rw [Dev.onEngine_congr d e _ (fun g => g.trapped r.slot) rfl]

/-- A row that traps an axis computation. -/
theorem completes_trap {c : Instr} {s : State} {e : Nat} {f : Dev → Dev} {r : Run} (hc : exec c s = s.act f) (hf : f s.dev = s.dev.trap e) (hr : (s.dev.engine e).run = some r)
    (hk : r.kind = 0) (hroom : s.dev.EventRoom 1) : Completes c s (fun d => d.Is (s.dev.onEngine e (fun g => g.trapped r.slot)) ∧
      d.Reports eENGINE_TRAP (srcEngine e) (leBytes 1 e ++ leBytes 2 (s.dev.engine e).pcw ++ leBytes 2 r.axis)) :=
  completes_emit hc (hf.trans (Dev.trap_axis hr hk)) rfl hroom

/-- A word that joins the open bundle completes with nothing else changed. -/
theorem completes_joins {c : Instr} {s : State} {e : Nat} {f : Bundle → Bundle} (hc : exec c s = s.act (fun d => d.part e f false)) (h1 : (s.dev.engine e).run.isSome = true)
    (h2 : (s.dev.engine e).stall = none) : Completes c s (fun d => d = s.dev.onEngine e (fun g => { g with cur := f g.cur })) := by
  refine completes_act hc ?_
  rw [Dev.part_joins _ _ _ h1 h2, Dev.satCheck_engine]

/-- A pair operation with an odd register makes its bundle illegal, whatever the bundle holds (R201, R204). -/
theorem Bundle.illegal_addOp {b : Bundle} {o : OpWord} (hc : o.ctl = false) (ho : aluPairOdd o = true) : (b.addOp o).illegal = true := by
  unfold Bundle.addOp
  split <;> simp [Bundle.illegal, hc, ho]

/-- Settles O25: a word without END joins, and an odd register traps at END. -/
theorem engineWordsJoinOpenBundle : Obligations.EngineWordsJoinOpenBundle := by
  intro s e h1 h2
  have joins {c : Instr} (f : Bundle → Bundle) (hc : exec c s = s.act (fun d => d.part e f false)) := completes_joins hc h1 h2
  refine ⟨fun lane psh sign acc a b => joins (fun b' => b'.addLane { lane := lane, kind := 1, psh := psh, sign := sign, acc := acc, a := a, b := b }) rfl,
    fun bus reg amode ptr wide ofs => joins (fun b' => b'.addAcc { bus := bus, store := true, wide := wide, reg := reg, amode := amode, ptr := ptr, ofs := ofs }) rfl,
    fun dst a b => joins (fun b' => b'.addOp { ctl := false, op := 0x01, dst := dst, a := a, b := b }) rfl,
    fun addr => joins (fun b' => b'.addOp { ctl := true, op := 1, addr := addr }) rfl, fun dst a b r hr hk hroom hodd => ?_⟩
  refine completes_trap (f := fun d => d.alu e 0x05 dst a b 0 0 true) rfl (Dev.part_traps _ _ _ h1 h2 (Bundle.illegal_addOp rfl ?_)) hr hk hroom
  simpa [aluPairOdd, or_assoc] using hodd

/-! ## DONE (R223, R229) -/

/-- The engine's pace record is none of what writes in flight touch. -/
theorem Engine.paceMarks_applyAll (ws : List Wr) (g : Engine) : (g.applyAll ws).paceMarks = g.paceMarks := by
  induction ws generalizing g with
  | nil => rfl
  | cons w ws ih =>
    refine (ih (g.apply w)).trans ?_
    cases w <;> simp only [Engine.apply, Engine.setAov, Engine.setEstat_eq] <;> repeat' split
    all_goals rfl

theorem Engine.paceMarks_issue (g : Engine) (b : Bundle) : (g.issue b).paceMarks = g.paceMarks := by
  rw [Engine.issue_eq]
  exact g.paceMarks_applyAll g.w3

theorem Engine.paceMarks_drain (g : Engine) : g.drain.paceMarks = g.paceMarks :=
  (Engine.paceMarks_applyAll _ _).trans ((Engine.paceMarks_applyAll _ _).trans (Engine.paceMarks_applyAll _ _))

theorem Engine.applyAll_run (ws : List Wr) (g : Engine) : (g.applyAll ws).run = g.run := (Engine.applyAll_frame ws g).2.2.1

theorem Engine.drain_run (g : Engine) : g.drain.run = g.run :=
  (Engine.applyAll_run _ _).trans ((Engine.applyAll_run _ _).trans (Engine.applyAll_run _ _))

/-- The engine after the bundle of DONE has issued and every bundle in flight has completed. -/
def Engine.ended (g : Engine) : Engine :=
  { (g.issue { op := some { ctl := true, op := 7 } }).drain with
    cache := [], reqs := [], special := (g.issue { op := some { ctl := true, op := 7 } }).drain.special.set 25 (clrBit (g.issue { op := some { ctl := true, op := 7 } }).drain.estat 13) }

theorem Engine.paceMarks_ended (g : Engine) : g.ended.paceMarks = g.paceMarks := (Engine.paceMarks_drain _).trans (g.paceMarks_issue _)

/-- DONE counts its own bundle (R236). -/
theorem Engine.run_after_done (g : Engine) {r : Run} (h : g.run = some r) : (g.issue { op := some { ctl := true, op := 7 } }).drain.run = some { r with steps := r.steps + 1 + g.arrived.backSteps 1 } := by
  rw [Engine.drain_run, Engine.issue_ctl g rfl (by decide) (by decide)]
  show g.run.map _ = _
  rw [h]
  rfl

/-- DONE on an engine with no open and no waiting bundle, by the kind of the run that it ends. -/
theorem Dev.engineDone_eq {d : Dev} {e : Nat} {r : Run} (ns : Nat) (hr : (d.engine e).run = some r) (hs : (d.engine e).stall = none) (hc : (d.engine e).cur = {}) :
    d.engineDone e ns =
      if r.kind = 2 then d.onEngine e (fun _ => { (d.engine e).ended with run := none, saveValid := (d.engine e).ended.saveValid || ((d.engine e).ended.bgDeclared && !bit (d.engine e).ended.estat 17) })
      else if r.kind = 1 then d.onEngine e (fun _ => { ((d.engine e).ended.measured { r with steps := r.steps + 1 + (d.engine e).arrived.backSteps 1 } ns) with run := none })
      else d.axisDone e (d.engine e).ended { r with steps := r.steps + 1 + (d.engine e).arrived.backSteps 1 } ns := by
  have hb : (d.engine e).cur.addOp { ctl := true, op := 7 } = { op := some { ctl := true, op := 7 } } := by rw [hc]; rfl
  have hl : Bundle.illegal { op := some { ctl := true, op := 7 } } = false := by decide
  unfold Dev.engineDone
  simp only [hr, hs, hb, hl, Option.isSome_none, Bool.false_eq_true, if_false, Engine.run_after_done _ hr]
  rfl

/-! ## DONE of an axis pass (R229, R236, R249) -/

/-- The device `d'` after an axis pass on engine `e`: it differs from `d` in the engine, in axis `a` and in what events touch, and the pace record has counted a pass of `n` steps. -/
def Dev.PassEnds (d d' : Dev) (e a n : Nat) : Prop :=
  d'.Is { d with engines := d'.engines, motion := { d.motion with axes := d'.motion.axes } } ∧ d'.engines = d.engines.set e (d'.engine e) ∧
    (∀ b, b ≠ a → d'.axis? b = d.axis? b) ∧ (d'.engine e).run = none ∧ (d'.engine e).passes = (d.engine e).passes + 1 ∧ (d'.engine e).steps = (d.engine e).steps + n

theorem Dev.engines_of_core {d e : Dev} (h : d.core = e.core) : d.engines = e.engines := show d.core.engines = e.core.engines from congrArg (fun x => x.engines) h

/-- It is a matter of the cores alone. -/
theorem Dev.PassEnds.of_core {d d' d'' : Dev} {e a n : Nat} (h : d.PassEnds d' e a n) (hc : d''.core = d'.core) : d.PassEnds d'' e a n := by
  have he := Dev.engines_of_core hc
  have hg : d''.engine e = d'.engine e := congrArg (fun l => l.getD e {}) he
  have hm := Dev.motion_of_core hc
  obtain ⟨his, heng, hax, hrun, hp, hs⟩ := h
  unfold Dev.PassEnds
  rw [he, hg, hm]
  exact ⟨hc.trans his, heng, fun b hb => (Dev.axis?_of_core hc b).trans (hax b hb), hrun, hp, hs⟩

/-- The engine's part of an axis pass. -/
theorem Dev.passEnds_onEngine {d : Dev} {e n : Nat} {g : Engine} (he : e < d.engines.length) (hr : g.run = none) (hp : g.passes = (d.engine e).passes + 1)
    (hs : g.steps = (d.engine e).steps + n) (a : Nat) : d.PassEnds (d.onEngine e (fun _ => g)) e a n := by
  have hg : (d.onEngine e (fun _ => g)).engine e = g := by rw [Dev.engine_onEngine, if_pos ⟨rfl, he⟩]
  unfold Dev.PassEnds
  rw [hg]
  exact ⟨rfl, List.set_eq_modify .. |>.symm, fun _ _ => rfl, hr, hp, hs⟩

/-- Its axis may change with it. -/
theorem Dev.PassEnds.onAxis {d d' : Dev} {e a n : Nat} (h : d.PassEnds d' e a n) (f : Axis → Axis) : d.PassEnds (d'.onAxis a f) e a n := by
  obtain ⟨his, heng, hax, hrun, hp, hs⟩ := h
  refine ⟨?_, heng, fun b hb => ?_, hrun, hp, hs⟩
  · exact congrArg (fun c : Dev => { c with motion := { c.motion with axes := Tab.upd d'.motion.axes a f } }) his
  · rw [Dev.axis?_onAxis, if_neg hb, hax b hb]

theorem Dev.passEnds_axisDone {d : Dev} {e : Nat} {g : Engine} {r : Run} {ax : Axis} (ns : Nat) (he : e < d.engines.length) (hax : d.axis? r.axis = some ax)
    (hm : g.paceMarks = (d.engine e).paceMarks) : d.PassEnds (d.axisDone e g r ns) e r.axis r.steps := by
  obtain ⟨hp, -, hs, -⟩ : g.passes = (d.engine e).passes ∧ g.late = (d.engine e).late ∧ g.steps = (d.engine e).steps ∧ g.pcause = (d.engine e).pcause := by
    simpa [Engine.paceMarks] using hm
  unfold Dev.axisDone
  rw [hax]
  dsimp -zeta only
  extract_lets p twin same ws out src g' d1 ctl d2
  have h1 : d.PassEnds d1 e r.axis r.steps := Dev.passEnds_onEngine (g := g') he rfl (congrArg (· + 1) hp) (congrArg (· + r.steps) hs) _
  have h2 : d.PassEnds d2 e r.axis r.steps := h1.of_core (by unfold d2; split <;> rfl)
  split
  · exact h2
  · exact (h2.onAxis _).of_core (Dev.core_emits _ _)

/-! ## The table port (R220) -/

/-- A table read that returns, with no bundle waiting, fills the oldest outstanding read. -/
theorem tableReadReturn_fills {s : State} {e : Nat} {q : TabReq} {rest : List TabReq} {tb : TrqTable} (hq : (s.dev.engine e).reqs = q :: rest) (hg : q.got = none)
    (hs : (s.dev.engine e).stall = none) (ht : s.dev.tableOf q.handle = some tb) :
    exec (.tableReadReturn e) s = s.does (fun d => d.onEngine e (fun g => { g with
      reqs := { q with got := some (tb.entries2 q.idx) } :: rest, special := g.special.set 25 (if rest.any (fun x => x.got.isNone) then setBit g.estat 13 else clrBit g.estat 13) })) := by
  have hfind : (s.dev.engine e).reqs.find? (fun r => r.got.isNone) = some q := by simp [hq, hg]
  have hfill (v : Int × Int) : fillFirst v (s.dev.engine e).reqs = { q with got := some v } :: rest := by simp [hq, fillFirst, hg]
  show execTableReadReturn e s = _
  unfold execTableReadReturn State.does
  simp only [hfind, ht]
  refine congrArg (fun d => Host.Outcome.next { s with dev := d }) (Dev.onEngine_congr s.dev e _ _ ?_)
  simp only [hfill, Engine.retry, Engine.setEstat_eq, hs, Engine.tpend]
  rfl

/-! ## What the engine's reports do -/

theorem preemptOverrun_acts {s : State} {e : Nat} {r : Run} (hr : (s.dev.engine e).run = some r) (hk : r.kind = 2) (hn : 96 ≤ r.steps) :
    exec (.preemptOverrun e) s = s.act (fun d => d.handlerFailed e) := by
  show execPreemptOverrun e s = _
  unfold execPreemptOverrun State.act
  simp only [hr, hk, hn, decide_true, Bool.and_self, if_true]

theorem kernelOverBudget_acts {s : State} {e : Nat} {r : Run} (hr : (s.dev.engine e).run = some r)
    (h : (r.kind ≠ 2 && !r.overBudget && decide ((s.dev.engine e).wcb r < r.steps)) = true) :
    exec (.kernelOverBudget e) s = s.act (fun d => Dev.emit { (d.onEngine e (fun g => { g with run := some { r with overBudget := true } })) with pace := { d.pace with trigger := true } }
      (evC (srcEngine e) eKERNEL_OVER_BUDGET (leBytes 1 r.kernel ++ leBytes 1 r.pass ++ leBytes 4 r.steps))) := by
  show execKernelOverBudget e s = _
  unfold execKernelOverBudget State.act
  simp only [hr, h, if_true]
  rfl

/-- Settles O29: by the kind of the run that DONE ends, and each report by its row. -/
theorem engineRunsEnd : Obligations.EngineRunsEnd := by
  intro s e r hr hroom g ended
  refine ⟨fun ns hk hs hc => ?_, fun ns hk hs hc => ?_, fun ns ax hk hs hc hax => ?_, fun hk hn => ?_, fun hk ho hn => ?_, fun ws hk hw => ?_, fun q tb rest hq hg hs ht => ?_⟩
  · refine completes_act (f := fun d => d.engineDone e ns) rfl ?_
    rw [Dev.engineDone_eq ns hr hs hc, if_neg (by omega), if_pos hk, Dev.satCheck_engine]
    rfl
  · refine completes_act (f := fun d => d.engineDone e ns) rfl ?_
    rw [Dev.engineDone_eq ns hr hs hc, if_pos hk, Dev.satCheck_engine]
    rfl
  · refine completes_act (f := fun d => d.engineDone e ns) rfl ?_
    rw [Dev.engineDone_eq ns hr hs hc, if_neg (by omega), if_neg (by omega)]
    have h := (Dev.passEnds_axisDone (r := { r with steps := r.steps + 1 + g.arrived.backSteps 1 }) ns (Dev.lt_engines hr) hax g.paceMarks_ended).of_core (Dev.core_satCheck s.dev _)
    simpa only [Dev.PassEnds, Nat.add_assoc] using h
  · exact completes_emit (preemptOverrun_acts hr hk hn) (ev := evC (srcEngine e) ePREEMPT_OVERRUN) rfl rfl hroom
  · refine completes_emit (kernelOverBudget_acts hr ?_) (d' := { (s.dev.onEngine e (fun g => { g with run := some { r with overBudget := true } })) with pace := { s.dev.pace with trigger := true } }) rfl rfl hroom
    simpa [hk, ho, Engine.wcb] using hn
  · exact completes_trap (f := fun d => if wordsIllegal ws then d.trap e else d) rfl (if_pos hw) hr hk hroom
  · exact completes_does (tableReadReturn_fills hq hg hs ht) rfl

end Sys2Proof.Machine

/-! PROOFS. SLOT_START of a shadow slot before its engine's planned slots (Table 8.3): a state that refutes the statement of O28. -/

namespace Sys2Proof.Machine

open Sys2Proof

/-- In Reduce of cycle 4, engine 0 holds the shadow of axis 0, which migrates to engine 1, in slot 0, and axis 1, not computed yet, in slot 1. -/
def shadowAhead : State :=
  { dev := { ({} : Dev) with
      ctl := { ({} : Ctl) with running := true, cycle := 4, gathered := true }
      motion := { ({} : Motion) with axes := [(0, { spCycle := 4 }), (1, { spCycle := 4 })] }
      engines := { slots := [(0, { axis := 0, shadow := true }), (1, { axis := 1 })] } :: { slots := [(0, { axis := 0 })] } :: List.replicate 16 {} } }

/-- It meets every premise of the statement: the axis may be started for a full pass. -/
theorem shadowAhead_mayStart : shadowAhead.dev.mayStart { axis := 0, shadow := true } { spCycle := 4 } 0 = true := by decide +kernel

/-- SLOT_START of the shadow waits for the planned slot: engine 0 runs nothing. -/
theorem shadowAhead_waits : ∃ t, exec (.slotStart 0 0 0) shadowAhead = .next t ∧ (t.dev.engine 0).run.isNone = true := by
  refine ⟨_, rfl, ?_⟩
  decide +kernel

/-- Refutes O28: an axis that may be started for its pass is not started from a shadow slot while a planned slot of the engine has its work of the cycle to do (Table 8.3), and the statement
has no premise about shadow slots. -/
theorem not_engineSlotStarts : ¬ Obligations.EngineSlotStarts := by
  intro h
  obtain ⟨t, ht, -, -, hrun, -⟩ := h shadowAhead 0 0 0 { axis := 0, shadow := true } { spCycle := 4 } (by decide) rfl rfl rfl (by decide) (by decide) rfl rfl rfl shadowAhead_mayStart
  obtain ⟨u, hu, hnone⟩ := shadowAhead_waits
  obtain rfl : t = u := by simpa using ht.symm.trans hu
  simp [hrun] at hnone

end Sys2Proof.Machine

/-! PROOFS. Temperatures, ageing and voltage (R238, R239, R246 to R248, R565): what a measurement makes of the Pace Unit, and the events that it raises. Each of them is of the management
plane, whose events no buffer drops (R16). -/

namespace Sys2Proof.Machine

open Sys2Proof

/-! ## A change with its events -/

theorem Dev.pace_of_core {d e : Dev} (h : d.core = e.core) : d.pace = e.pace := show d.core.pace = e.core.pace from congrArg (fun x => x.pace) h

theorem Ev.control_of_mgmt {e : Ev} (h : e.mgmt = true) : e.control = false := by simp [Ev.control, h]

/-- Every event of the management plane in a list is reported. -/
theorem Dev.reports_emits {es : List Ev} {e : Ev} (he : e ∈ es) (hm : e.mgmt = true) (d : Dev) : (d.emits es).Reports e.code e.src e.args := by
  induction es generalizing d with
  | nil => cases he
  | cons x es ih =>
    rcases List.mem_cons.mp he with rfl | he
    · exact Dev.reports_emits_mono es _ (Dev.reports_emit d e fun h => by simp [Ev.control_of_mgmt hm] at h)
    · exact ih he (d.emit x)

/-- A row that changes the device to `d'` and raises `es` completes with whatever follows from that change and from the reports. -/
theorem completes_emits {c : Instr} {s : State} {f : Dev → Dev} {d' : Dev} {es : List Ev} {P : Dev → Prop} (hc : exec c s = s.act f) (hf : f s.dev = d'.emits es)
    (h : ∀ d : Dev, d.Is d' → (∀ e ∈ es, e.mgmt = true → d.Reports e.code e.src e.args) → P d) : Completes c s P := by
  refine completes_act hc ?_
  rw [hf]
  exact h _ ((Dev.core_satCheck _ _).trans (Dev.core_emits d' es)) fun e he hm => Dev.reports_satCheck _ _ (Dev.reports_emits he hm d')

/-! ## Temperatures (R238, R565) -/

/-- THERM_N after a reading `t` of the eight sensors: asserted at the limit, released when all are 5 degrees below. -/
def thermAfter (lim : Int) (t : Nat → Int) (old : Bool) : Bool := (List.range 8).any (fun i => lim ≤ t i) || (old && !(List.range 8).all (fun i => t i ≤ lim - 80))

theorem thermAfter_hot {lim : Int} {t : Nat → Int} {i : Nat} (hi : i < 8) (h : lim ≤ t i) (old : Bool) : thermAfter lim t old = true := by
  have hany : (List.range 8).any (fun i => lim ≤ t i) = true := List.any_eq_true.mpr ⟨i, List.mem_range.mpr hi, decide_eq_true h⟩
  rw [thermAfter, hany, Bool.true_or]

theorem any_hot_eq_false {lim : Int} {t : Nat → Int} (h : ∀ i, i < 8 → t i < lim) : (List.range 8).any (fun i => lim ≤ t i) = false :=
  List.any_eq_false.mpr fun i hi => by simpa using h i (List.mem_range.mp hi)

theorem thermAfter_cool {lim : Int} {t : Nat → Int} (h : ∀ i, i < 8 → t i ≤ lim - 80) (old : Bool) : thermAfter lim t old = false := by
  have hall : (List.range 8).all (fun i => t i ≤ lim - 80) = true := List.all_eq_true.mpr fun i hi => decide_eq_true (h i (List.mem_range.mp hi))
  rw [thermAfter, any_hot_eq_false fun i hi => by have := h i hi; omega, hall, Bool.not_true, Bool.and_false, Bool.or_false]

theorem thermAfter_between {lim : Int} {t : Nat → Int} (h : ∀ i, i < 8 → t i < lim) (hw : ∃ i, i < 8 ∧ lim - 80 < t i) (old : Bool) : thermAfter lim t old = old := by
  obtain ⟨i, hi, hlt⟩ := hw
  have hall : (List.range 8).all (fun i => t i ≤ lim - 80) = false := List.all_eq_false.mpr ⟨i, List.mem_range.mpr hi, by simpa using hlt⟩
  rw [thermAfter, any_hot_eq_false h, hall, Bool.false_or, Bool.not_false, Bool.and_true]

/-- A reading changes the temperatures, the warnings and THERM_N, and a sensor that rises to TEMP_WARN is among its events. -/
theorem Dev.tempRead_spec (d : Dev) (ts : List Int) : ∃ (w : List Bool) (es : List Ev),
    d.tempRead ts = Dev.emits { d with pace := { d.pace with temps := (List.range 8).map (fun i => ts.getD i 0), warned := w,
                                                             thermN := thermAfter (Params.val d.ctl.prm pTHERM_LIMIT * 16) (fun i => ts.getD i 0) d.pace.thermN } } es ∧
    ∀ i, i < 8 → d.pace.warned.getD i false = false → Params.val d.ctl.prm pTEMP_WARN * 16 ≤ ts.getD i 0 → evM srcPac eTEMP_WARN (leBytes 1 i ++ leBytes 2 (lowBits 16 (ts.getD i 0))) ∈ es := by
  refine ⟨_, _, rfl, fun i hi hw ht => List.mem_append_left _ (List.mem_map.mpr ⟨i, List.mem_filter.mpr ⟨List.mem_range.mpr hi, ?_⟩, rfl⟩)⟩
  rw [hw, Bool.not_false, Bool.true_and]
  exact decide_eq_true ht

/-! ## Ageing (R239, R247) -/

/-- The greatest of a floor and of what some members of a list ask for is at least each of them. -/
theorem le_foldl_max {α : Type} (c : α → Bool) (f : α → Nat) (l : List α) (m : Nat) :
    m ≤ l.foldl (fun m x => if c x then max m (f x) else m) m ∧ ∀ x ∈ l, c x = true → f x ≤ l.foldl (fun m x => if c x then max m (f x) else m) m := by
  induction l generalizing m with
  | nil => exact ⟨le_rfl, fun x hx => nomatch hx⟩
  | cons y l ih =>
    rw [List.foldl_cons]
    obtain ⟨hm, hl⟩ := ih (if c y then max m (f y) else m)
    refine ⟨le_trans ?_ hm, fun x hx hc => ?_⟩
    · split
      · exact le_max_left _ _
      · exact le_rfl
    · rcases List.mem_cons.mp hx with rfl | hx
      · rw [if_pos hc] at hm ⊢
        exact (le_max_right _ _).trans hm
      · exact hl x hx hc

/-- An engine at the end of its hour: its AGE_DRIFT is set, and the sums begin again. -/
def Engine.aged (g : Engine) : Engine := { g with ageDrift := g.drift, seeSum := 0, refSum := 0 }

/-- Engine `e` stands in the list of aged engines with its number. -/
theorem Dev.aged_mem_zipIdx {d : Dev} {e : Nat} (he : e < d.engines.length) : ((d.engine e).aged, e) ∈ (d.engines.map Engine.aged).zipIdx := by
  rw [List.mem_zipIdx_iff_getElem?, List.getElem?_map, List.getElem?_eq_getElem he, Dev.engine, List.getD_eq_getElem _ _ he]
  rfl

/-- V_FLOOR of aged engines (R247). -/
def floorOf (gs : List Engine) : Nat := gs.zipIdx.foldl (fun (m : Nat) (g : Engine × Nat) => if ageEol g.1.ageDrift then max m (floorFor g.2 g.1.ageDrift) else m) 700

theorem floorOf_min (gs : List Engine) : 700 ≤ floorOf gs := (le_foldl_max (fun g : Engine × Nat => ageEol g.1.ageDrift) (fun g => floorFor g.2 g.1.ageDrift) gs.zipIdx 700).1

theorem floorFor_le_floorOf {gs : List Engine} {g : Engine} {e : Nat} (h : (g, e) ∈ gs.zipIdx) (ha : ageEol g.ageDrift = true) : floorFor e g.ageDrift ≤ floorOf gs :=
  (le_foldl_max (fun g : Engine × Nat => ageEol g.1.ageDrift) (fun g => floorFor g.2 g.1.ageDrift) gs.zipIdx 700).2 (g, e) h ha

/-- The numbers of the engines whose AGE_DRIFT meets `f`. -/
def driftsOf (gs : List Engine) (f : Int → Bool) : List Nat := (gs.zipIdx.filter (fun (g : Engine × Nat) => f g.1.ageDrift)).map (fun g => g.2)

theorem mem_driftsOf {gs : List Engine} {g : Engine} {e : Nat} {f : Int → Bool} (h : (g, e) ∈ gs.zipIdx) (hf : f g.ageDrift = true) : e ∈ driftsOf gs f :=
  List.mem_map.mpr ⟨(g, e), List.mem_filter.mpr ⟨h, hf⟩, rfl⟩

/-- The events of an update: the engines at AGE_WARN, then those beyond AGE_EOL. -/
def Dev.ageingEvents (d : Dev) : List Ev :=
  (driftsOf (d.engines.map Engine.aged) (fun a => f32ToRat (d.prm pAGE_WARN) ≤ fix 15 a)).map (fun e => evM srcPac eAGEING_WARN (leBytes 1 e)) ++
    (driftsOf (d.engines.map Engine.aged) ageEol).map (fun e => evM srcPac eAGEING_LIMIT (leBytes 1 e))

/-- The update ages every engine, sets V_FLOOR and raises its events. -/
theorem Dev.ageing_eq (d : Dev) :
    d.ageing = Dev.emits { d with pace := { d.pace with vFloor := floorOf (d.engines.map Engine.aged) }, engines := d.engines.map Engine.aged } d.ageingEvents := rfl

theorem Dev.floorFor_le_aged {d : Dev} {e : Nat} (he : e < d.engines.length) (h : ageEol (d.engine e).drift = true) :
    floorFor e (d.engine e).drift ≤ floorOf (d.engines.map Engine.aged) :=
  floorFor_le_floorOf (g := (d.engine e).aged) (Dev.aged_mem_zipIdx he) h

theorem Dev.ageingWarn_mem {d : Dev} {e : Nat} (he : e < d.engines.length) (h : f32ToRat (d.prm pAGE_WARN) ≤ fix 15 (d.engine e).drift) :
    evM srcPac eAGEING_WARN (leBytes 1 e) ∈ d.ageingEvents :=
  List.mem_append_left _ (List.mem_map_of_mem (mem_driftsOf (Dev.aged_mem_zipIdx he) (decide_eq_true h)))

theorem Dev.ageingLimit_mem {d : Dev} {e : Nat} (he : e < d.engines.length) (h : ageEol (d.engine e).drift = true) :
    evM srcPac eAGEING_LIMIT (leBytes 1 e) ∈ d.ageingEvents :=
  List.mem_append_right _ (List.mem_map_of_mem (mem_driftsOf (Dev.aged_mem_zipIdx he) h))

/-! ## Voltage (R246 to R248) -/

theorem Dev.nextTarget_fixed {d : Dev} (h : d.prm pVOLT_POLICY = 0) : d.nextTarget = max d.pace.vFloor (min 860 (d.prm pVOLT_FIXED)) := by
  simp [Dev.nextTarget, h]

theorem Dev.nextTarget_marginLow {d : Dev} (h : d.prm pVOLT_POLICY ≠ 0) (hl : d.pace.marginLow = true) : d.nextTarget = min 860 (d.pace.vddTarget + 5) := by
  simp [Dev.nextTarget, h, hl]

/-- Under a policy the target goes one step of 5 mV up or down, or stays. -/
theorem Dev.nextTarget_steps {d : Dev} (h : d.prm pVOLT_POLICY ≠ 0) :
    d.nextTarget = min 860 (d.pace.vddTarget + 5) ∨ d.nextTarget = d.pace.vddTarget - 5 ∨ d.nextTarget = d.pace.vddTarget := by
  unfold Dev.nextTarget
  extract_lets use base t
  rw [if_neg h]
  split
  · exact .inl rfl
  · split
    · exact .inr (.inl rfl)
    · exact .inr (.inr rfl)

theorem Dev.avsAdjust_ok {d : Dev} (hh : d.pace.avsHold = false) (hf : d.pace.avsFault = false) (again : Bool) :
    d.avsAdjust true again = { d with pace := { d.pace with vddTarget := d.nextTarget } } := by
  simp [Dev.avsAdjust, hh, hf]

/-- The policy frozen at the target in force after a lasting failure. -/
def Dev.avsFrozen (d : Dev) : Dev :=
  { d with pace := { d.pace with avsFault := true, avsLasting := incSat 16 d.pace.avsLasting }
           ctl := { d.ctl with prm := Tab.set (Tab.set d.ctl.prm pVOLT_POLICY 0) pVOLT_FIXED (d.pace.vddTarget : Int) } }

theorem Dev.avsAdjust_lasting {d : Dev} (hh : d.pace.avsHold = false) (hf : d.pace.avsFault = false) : d.avsAdjust false false = d.avsFrozen.emits [evM srcPac eAVS_FAULT] := by
  simp only [Dev.avsAdjust, hh, hf, Bool.or_self, Bool.false_eq_true, if_false]
  rfl

theorem Params.nat_set_same (p : Params) (id : Nat) (v : Int) : Params.nat (Tab.set p id v) id = v.toNat := by
  simp [Params.nat, Params.val, Tab.getD]

theorem Params.nat_set_ne (p : Params) {id q : Nat} (v : Int) (h : q ≠ id) : Params.nat (Tab.set p id v) q = Params.nat p q := by
  simp [Params.nat, Params.val, Tab.getD, Tab.find_set_ne p v h]

theorem Dev.avsFrozen_policy (d : Dev) : d.avsFrozen.prm pVOLT_POLICY = 0 :=
  (Params.nat_set_ne _ _ (by decide)).trans (Params.nat_set_same _ _ _)

theorem Dev.avsFrozen_fixed (d : Dev) : d.avsFrozen.prm pVOLT_FIXED = d.pace.vddTarget := Params.nat_set_same _ _ _

/-- A value read back is recorded, and reported where it differs from the target by more than 10 mV. -/
theorem Dev.avsReadback_ok {d : Dev} (hf : d.pace.avsFault = false) (mv : Nat) (again : Bool) :
    d.avsReadback mv true again = Dev.emits { d with pace := { d.pace with vddRead := mv } }
      (if mv + 10 < d.pace.vddTarget ∨ d.pace.vddTarget + 10 < mv then [evM srcPac eAVS_MISMATCH (leBytes 2 d.pace.vddTarget ++ leBytes 2 mv)] else []) := by
  simp only [Dev.avsReadback, hf, Bool.false_eq_true, if_false, if_true, Bool.true_or, Bool.or_eq_true, decide_eq_true_eq]
  split <;> rfl

/-- Settles O31: each row's change and events, taken apart above, on the device that it leaves. -/
theorem paceMeasurementsAct : Obligations.PaceMeasurementsAct := by
  intro s ts mv since opsec warn lim t pace
  refine ⟨?_, fun hour => ?_, fun hh hf => ⟨fun again => ?_, ?_⟩, fun hf again => ?_⟩
  · obtain ⟨w, es, hd, hwarn⟩ := s.dev.tempRead_spec ts
    refine completes_emits (f := fun d => d.tempRead ts) rfl hd fun d his hrep => ?_
    rw [Dev.pace_of_core his]
    exact ⟨his, fun i hi => by simp [t, hi], fun i hi hw ht => hrep _ (hwarn i hi hw ht) rfl, fun i hi ht => thermAfter_hot hi ht _, fun ht => thermAfter_cool ht _,
      fun ht hw => thermAfter_between ht hw _⟩
  · refine completes_emits (f := fun d => if since + 3600 ≤ opsec then d.ageing else d) rfl ((if_pos hour).trans s.dev.ageing_eq) fun d his hrep => ?_
    rw [Dev.pace_of_core his]
    exact ⟨his, floorOf_min _, fun g _ hg => if_neg hg, fun e he h => ⟨Dev.floorFor_le_aged he h, hrep _ (Dev.ageingLimit_mem he h) rfl⟩,
      fun e he h => hrep _ (Dev.ageingWarn_mem he h) rfl⟩
  · refine completes_emits (f := fun d => d.avsAdjust true again) (es := []) rfl (Dev.avsAdjust_ok hh hf again) fun d his _ => ?_
    rw [Dev.pace_of_core his]
    refine ⟨his, Dev.nextTarget_fixed, Dev.nextTarget_marginLow, fun hp ht => ?_⟩
    dsimp only
    rcases Dev.nextTarget_steps hp with h | h | h <;> omega
  · refine completes_emits (f := fun d => d.avsAdjust false false) rfl (Dev.avsAdjust_lasting hh hf) fun d his hrep => ?_
    have hprm : d.ctl.prm = s.dev.avsFrozen.ctl.prm := congrArg (fun e => e.ctl.prm) (show d.core = s.dev.avsFrozen.core from his)
    unfold Dev.prm
    rw [hprm]
    exact ⟨his, s.dev.avsFrozen_policy, s.dev.avsFrozen_fixed, hrep _ (List.mem_singleton_self _) rfl⟩
  · refine completes_emits (f := fun d => d.avsReadback mv true again) rfl (Dev.avsReadback_ok hf mv again) fun d his hrep => ⟨his, fun h => ?_⟩
    rw [if_pos h] at hrep
    exact hrep _ (List.mem_singleton_self _) rfl

end Sys2Proof.Machine

/-! PROOFS. The return of frames (R294, R310, R313, R314, R319, R330, R331): what a returned frame touches beside its verdict, the verdict itself, a break of the ring, and the deadline of
a frame that does not come. -/

namespace Sys2Proof.Machine

open Sys2Proof

/-! ## A returned frame beside its verdict -/

/-- The device without what a returned frame may touch beside its verdict: the segments, the Safety Island, the host's part and what events touch. -/
def Dev.offFrames (d : Dev) : Dev := { d.core with ring := { d.ring with segs := [] }, si := {}, host := {} }

theorem Dev.ringOnly_of_offFrames {d e : Dev} (h : d.offFrames = e.offFrames) : d.RingOnly e :=
  (congrArg (fun x : Dev => { x with ring := { x.ring with segs := d.ring.segs }, si := d.si, host := d.host }) h :)

theorem Dev.offFrames_of_core {d e : Dev} (h : d.core = e.core) : d.offFrames = e.offFrames := show d.core.offFrames = e.core.offFrames from congrArg Dev.offFrames h

/-- From `e` to `d` segment `i` keeps the view `v`, no other segment changes, nothing outside the segments, the Safety Island and the host's part does, and every report stands. -/
structure Dev.SegKept {α : Type} (v : Segment → α) (i : Nat) (e d : Dev) : Prop where
  rest : d.offFrames = e.offFrames
  others : ∀ j, j ≠ i → d.ring.seg j = e.ring.seg j
  view : v (d.ring.seg i) = v (e.ring.seg i)
  reports : ∀ {c r : Nat} {as : List Byte}, e.Reports c r as → d.Reports c r as

section

variable {α : Type} {v : Segment → α} {i : Nat}

theorem Dev.SegKept.refl (d : Dev) : Dev.SegKept v i d d := ⟨rfl, fun _ _ => rfl, rfl, id⟩

theorem Dev.SegKept.trans {a b c : Dev} (h : Dev.SegKept v i a b) (k : Dev.SegKept v i b c) : Dev.SegKept v i a c :=
  ⟨k.rest.trans h.rest, fun j hj => (k.others j hj).trans (h.others j hj), k.view.trans h.view, fun r => k.reports (h.reports r)⟩

theorem Dev.segKept_foldl {β : Type} {g : Dev → β → Dev} (h : ∀ d x, Dev.SegKept v i d (g d x)) (l : List β) (d : Dev) : Dev.SegKept v i d (l.foldl g d) := by
  induction l generalizing d with
  | nil => exact Dev.SegKept.refl d
  | cons x l ih => exact (h d x).trans (ih (g d x))

theorem Dev.segKept_host (d : Dev) (h : Hif) : Dev.SegKept v i d { d with host := h } := ⟨rfl, fun _ _ => rfl, rfl, id⟩

theorem Dev.segKept_si (d : Dev) (x : Si) : Dev.SegKept v i d { d with si := x } := ⟨rfl, fun _ _ => rfl, rfl, id⟩

theorem Dev.segKept_onSeg (d : Dev) {g : Segment → Segment} (hg : ∀ x, v (g x) = v x) : Dev.SegKept v i d (d.onSeg i g) := by
  refine ⟨rfl, fun j hj => Dev.seg_onSeg_ne d g hj, ?_, id⟩
  rw [show (d.onSeg i g).ring.seg i = _ from Ring.seg_onSeg d.ring i i g]
  split
  · exact hg _
  · rfl

theorem Dev.segKept_of_core {d e : Dev} (h : e.core = d.core) (hr : ∀ {c r : Nat} {as : List Byte}, d.Reports c r as → e.Reports c r as) : Dev.SegKept v i d e := by
  have hring : e.ring = d.ring := (congrArg Dev.ring h :)
  exact ⟨Dev.offFrames_of_core h, fun j _ => by rw [hring], by rw [hring], hr⟩

theorem Dev.segKept_emits (d : Dev) (es : List Ev) : Dev.SegKept v i d (d.emits es) := Dev.segKept_of_core (Dev.core_emits d es) (Dev.reports_emits_mono es d)

theorem Dev.segKept_emit (d : Dev) (e : Ev) : Dev.SegKept v i d (d.emit e) := d.segKept_emits [e]

theorem Dev.segKept_satCheck (b d : Dev) : Dev.SegKept v i d (Dev.satCheck b d) := Dev.segKept_of_core (Dev.core_satCheck b d) (Dev.reports_satCheck b d)

theorem Dev.segKept_withSi (d : Dev) (r : Si × List Ev) : Dev.SegKept v i d (d.withSi r) := (d.segKept_si r.1).trans (Dev.segKept_emits _ r.2)

/-- The nodes of a segment on an accepted frame (R315, R316) change nothing but the nodes. -/
theorem Dev.segKept_nodesOnFrame (hv : ∀ (x : Segment) p g, v (x.onNode p g) = v x) (d : Dev) (f : List Byte) : Dev.SegKept v i d (d.nodesOnFrame i f) := by
  refine Dev.segKept_foldl (fun d e => ?_) _ d
  dsimp only
  split
  · exact Dev.SegKept.refl d
  · exact (d.segKept_onSeg fun x => hv x _ _).trans (Dev.segKept_emits _ _)

/-- The messages of an accepted frame change nothing but the Safety Island (R466, R479). -/
theorem Dev.segKept_safetyOnFrame (d : Dev) (f : List Byte) : Dev.SegKept v i d (d.safetyOnFrame i f) := by
  unfold Dev.safetyOnFrame
  split
  · exact Dev.SegKept.refl d
  · extract_lets n l bad d1
    have h1 : Dev.SegKept v i d d1 := by
      show Dev.SegKept v i d (if _ then _ else _)
      split
      · exact Dev.SegKept.refl d
      · exact d.segKept_withSi _
    exact h1.trans (Dev.segKept_foldl (fun d j => d.segKept_withSi _) _ d1)

end

/-! ## A segment enters a state -/

theorem Dev.onSeg_onSeg (d : Dev) (i : Nat) (f g : Segment → Segment) : (d.onSeg i f).onSeg i g = d.onSeg i (fun x => g (f x)) := by
  unfold Dev.onSeg Ring.onSeg
  rw [List.modify_modify_eq]
  rfl

/-- The end of an operation is the host's alone. -/
theorem Dev.opEnd_host (d : Dev) (o : Option OpenOp) (r : CmdRes) (hold : Nat) : ∃ h, d.opEnd o r hold = { d with host := h } := by
  unfold Dev.opEnd
  split
  · split
    · exact ⟨_, rfl⟩
    · exact ⟨d.host, rfl⟩
  · exact ⟨d.host, rfl⟩

/-- The replies of RING_START are the host's alone (R418). -/
theorem Dev.ringReplies_host (d : Dev) : ∃ h, d.ringReplies = { d with host := h } := by
  unfold Dev.ringReplies
  generalize d.host.openOps.filter _ = l
  induction l generalizing d with
  | nil => exact ⟨d.host, rfl⟩
  | cons o l ih =>
    rw [List.foldl_cons]
    dsimp only
    split
    · obtain ⟨h, he⟩ := d.opEnd_host (some o) { status := if ((d.named o.req).map (fun i => (d.ring.seg i).state)).all (fun x => x = 7) then 0 else 0x0604 } 0
      rw [he]
      exact ih { d with host := h }
    · exact ih d

/-- The segment in the state `st`. -/
def Segment.entered (st : Nat) (x : Segment) : Segment := { x with state := st }

/-- Beside its state, the Safety Island's connections and the replies of RING_START follow a segment (Table 16.7, R418). -/
theorem Dev.enter_eq (d : Dev) (i st : Nat) : ∃ x h, d.enter i st = { d.onSeg i (Segment.entered st) with si := x, host := h } := by
  unfold Dev.enter
  extract_lets old d1 d2
  have h2 : ∃ x, d2 = { d1 with si := x } := by
    unfold d2
    split
    · split <;> exact ⟨_, rfl⟩
    · split <;> exact ⟨_, rfl⟩
  obtain ⟨x, hx⟩ := h2
  obtain ⟨h, hh⟩ := d2.ringReplies_host
  exact ⟨x, h, by rw [hh, hx]; rfl⟩

theorem Dev.segKept_enter {α : Type} {v : Segment → α} {i st : Nat} (hv : ∀ x, v (Segment.entered st x) = v x) (d : Dev) : Dev.SegKept v i d (d.enter i st) := by
  obtain ⟨x, h, he⟩ := d.enter_eq i st
  rw [he]
  exact (d.segKept_onSeg hv).trans ((Dev.segKept_si _ x).trans (Dev.segKept_host _ h))

/-- The connections of a segment that breaks stay as they were (Table 16.7). -/
theorem Dev.enter_broken (d : Dev) (i : Nat) : ∃ h, d.enter i 8 = { d.onSeg i (Segment.entered 8) with host := h } := (d.onSeg i (Segment.entered 8)).ringReplies_host

/-- The segment broken at `pos` (Table 10.4, R319). -/
def Segment.brokenAt (pos : Nat) (x : Segment) : Segment := { (x.entered 8).wrapped pos with breakCnt := incSat 16 x.breakCnt, returnRun := 0 }

theorem Dev.broken_eq (d : Dev) (i pos : Nat) : ∃ h, d.broken i pos = Dev.emit { d.onSeg i (Segment.brokenAt pos) with host := h } (evSeg i eRING_BREAK (leBytes 2 pos)) := by
  obtain ⟨h, he⟩ := d.enter_broken i
  refine ⟨h, ?_⟩
  unfold Dev.broken
  rw [he]
  refine congrArg (fun e => Dev.emit e _) ?_
  exact congrArg (fun e : Dev => { e with host := h }) (d.onSeg_onSeg i (Segment.entered 8) _)

/-! ## The verdict on a returned cycle frame (R313) -/

/-- What the verdict on a returned frame is about. -/
def Segment.verdict (x : Segment) : List Byte × Nat × Bool × Bool × Bool × Nat := (x.launched, x.devs, x.accepted, x.judged, x.returned, x.discardedCnt)

/-- What a break of the ring is about. -/
def Segment.fault (x : Segment) : Nat × Nat × Nat := (x.state, x.breakCnt, x.wrapPos)

/-- The segment whose frame has returned (R310). -/
def Segment.cameBack (x : Segment) : Segment := if x.returned then x else { x with returned := true, silentRun := 0, returnRun := x.returnRun + 1 }

/-- The return itself, and with the sixteenth the end of a break (R310): the verdict is still to come. -/
theorem Dev.segKept_ringReturn (d : Dev) (i : Nat) : Dev.SegKept Segment.verdict i (d.onSeg i Segment.cameBack) (d.ringReturn i) := by
  unfold Dev.ringReturn
  extract_lets d1
  split
  · exact (Dev.segKept_enter (fun _ => rfl) d1).trans ((Dev.segKept_onSeg (g := fun x => { x with wrapPos := 0 }) _ fun _ => rfl).trans (Dev.segKept_emit _ _))
  · exact Dev.SegKept.refl d1

/-- The segment that enters RUN keeps its verdict (Table 10.4). -/
theorem Dev.segKept_syncDone (d : Dev) (i : Nat) : Dev.SegKept Segment.verdict i d (d.syncDone i) := by
  unfold Dev.syncDone
  dsimp only
  split
  · exact Dev.segKept_enter (fun _ => rfl) d
  · exact Dev.SegKept.refl d

theorem Dev.syncDone_of_ne {d : Dev} {i : Nat} (h : (d.ring.seg i).state ≠ 6) : d.syncDone i = d := if_neg (by simp [h])

/-- Every input slot of the segment judged on the frame (R294, R314). -/
def Dev.slotsJudged (d : Dev) (i : Nat) (f : List Byte) : Dev := { d with ring := d.ring.judgeSlots i f d.ctl.cycle }

/-- The segment whose frame is accepted. -/
def Segment.passed (x : Segment) : Segment := { x with accepted := true, judged := true }

/-- What an accepted frame brings: the slots, the nodes, the Safety Island's messages, and the end of SYNC. -/
def Dev.takeFrame (d : Dev) (i : Nat) (f : List Byte) : Dev :=
  ((((d.slotsJudged i f).onSeg i Segment.passed).nodesOnFrame i f).safetyOnFrame i f).syncDone i

/-- The test of R313 on a frame that has returned. -/
def Dev.testFrame (d : Dev) (i : Nat) (portA : Bool) (f : List Byte) : Dev :=
  let s := d.ring.seg i
  if s.judged then d.onSeg i (fun s => { s with discardedCnt := incSat 32 s.discardedCnt })
  else if (!portA || s.state = 8) && frameAccepted s.launched f (if portA then s.wrapPos else s.devs) then d.takeFrame i f
  else if fcsOk f then d.discard i else (d.discard i).linkTestSend i

/-- A leader's own cycle frame is expected on segment `i` (R313). -/
def Dev.Expects (d : Dev) (i : Nat) : Prop :=
  d.ring.role = 3 ∧ d.ctl.running = true ∧ (d.ring.seg i).launched ≠ [] ∧ ((d.ring.seg i).state = 6 ∨ (d.ring.seg i).state = 7 ∨ (d.ring.seg i).state = 8 ∨ (d.ring.seg i).state = 9)

/-- A cycle frame of another head (R331). -/
def Dev.Foreign (d : Dev) (i : Nat) (f : List Byte) : Prop := validCycleFrame f i = true ∧ frameSource f ≠ d.prm pHEAD_MAC

section

variable {d : Dev} {i : Nat} {f : List Byte}

theorem Dev.Expects.lt (h : d.Expects i) : i < d.ring.segs.length := by
  obtain ⟨-, -, hl, -⟩ := h
  exact Ring.lt_of_seg_ne fun he => hl (by rw [he])

theorem Dev.Expects.guard (h : d.Expects i) : ¬(!(d.ring.role = 3 && d.ctl.running && (d.ring.seg i).launched ≠ [] && [6, 7, 8, 9].contains (d.ring.seg i).state)) = true := by
  obtain ⟨hr, hc, hl, hs⟩ := h
  rcases hs with hs | hs | hs | hs <;> simp [hr, hc, hl, hs]

theorem Dev.cycleReturn_foreign (hr : d.ring.role = 3) (hf : d.Foreign i f) : d.cycleReturn i false f = d.rival := by
  obtain ⟨hv, hm⟩ := hf
  unfold Dev.cycleReturn
  dsimp only
  rw [if_pos (by simp [hr, hv, hm])]

/-- A frame at the B port with the HOP of the whole path is a return; then comes the test. -/
theorem Dev.cycleReturn_portB (he : d.Expects i) (hf : ¬d.Foreign i f) :
    d.cycleReturn i false f = (if frameHop f = (d.ring.seg i).devs then d.ringReturn i else d).testFrame i false f := by
  unfold Dev.cycleReturn
  dsimp only
  rw [if_neg (by simpa [Dev.Foreign] using fun _ => not_and.mp hf), if_neg he.guard]
  simp only [Bool.false_and, Bool.false_eq_true, if_false, Bool.not_false, Bool.true_and, decide_eq_true_eq]
  rfl

/-- A frame at the A port of a segment in RUN breaks the ring; then comes the test. -/
theorem Dev.cycleReturn_portA (he : d.Expects i) (h7 : (d.ring.seg i).state = 7) : d.cycleReturn i true f = (d.broken i (frameHop f)).testFrame i true f := by
  unfold Dev.cycleReturn
  dsimp only
  rw [if_neg (by simp), if_neg he.guard]
  simp only [h7, Bool.true_and, decide_true, if_true]
  rfl

theorem Dev.testFrame_accepts (hj : (d.ring.seg i).judged = false) (ha : frameAccepted (d.ring.seg i).launched f (d.ring.seg i).devs = true) : d.testFrame i false f = d.takeFrame i f := by
  unfold Dev.testFrame
  dsimp only
  rw [if_neg (by simp [hj]), if_pos (by simpa using ha)]

theorem Dev.testFrame_discards (hj : (d.ring.seg i).judged = false) (ha : frameAccepted (d.ring.seg i).launched f (d.ring.seg i).devs = false) (hf : fcsOk f = true) :
    d.testFrame i false f = d.discard i := by
  unfold Dev.testFrame
  dsimp only
  rw [if_neg (by simp [hj]), if_neg (by simp [ha]), if_pos hf]

end

/-- HOP is one of the fields tested (R313). -/
theorem frameHop_of_accepted {l f : List Byte} {hop : Nat} (h : frameAccepted l f hop = true) : frameHop f = hop := by
  unfold frameAccepted at h
  simp only [Bool.and_eq_true, decide_eq_true_eq] at h
  exact h.2

/-- After the slots are judged, an accepted frame brings nothing that its verdict is about. -/
theorem Dev.segKept_takeFrame (d : Dev) (i : Nat) (f : List Byte) :
    Dev.SegKept Segment.verdict i ((d.slotsJudged i f).onSeg i Segment.passed) (d.takeFrame i f) :=
  (Dev.segKept_nodesOnFrame (fun _ _ _ => rfl) _ f).trans ((Dev.segKept_safetyOnFrame _ f).trans (Dev.segKept_syncDone _ i))

/-- The slots are judged by the map, the cycle and their status alone. -/
theorem Dev.offFrames_slotsJudged {d e : Dev} (h : d.offFrames = e.offFrames) (i : Nat) (f : List Byte) : (d.slotsJudged i f).offFrames = (e.slotsJudged i f).offFrames :=
  (congrArg (fun x => x.slotsJudged i f) h :)

/-- A break stands through what an accepted frame brings. -/
theorem Dev.takeFrame_fault {d : Dev} {i : Nat} (h8 : (d.ring.seg i).state = 8) (f : List Byte) :
    ((d.takeFrame i f).ring.seg i).fault = (d.ring.seg i).fault ∧ ∀ {c r : Nat} {as : List Byte}, d.Reports c r as → (d.takeFrame i f).Reports c r as := by
  have hk := (Dev.segKept_onSeg (v := Segment.fault) (i := i) (d.slotsJudged i f) (g := Segment.passed) fun _ => rfl).trans
    ((Dev.segKept_nodesOnFrame (fun _ _ _ => rfl) _ f).trans (Dev.segKept_safetyOnFrame _ f))
  have hst : ((((d.slotsJudged i f).onSeg i Segment.passed).nodesOnFrame i f).safetyOnFrame i f |>.ring.seg i).state = 8 := (congrArg Prod.fst hk.view).trans h8
  unfold Dev.takeFrame
  rw [Dev.syncDone_of_ne (by rw [hst]; decide)]
  exact ⟨hk.view, hk.reports⟩

/-- A break stands through the test of the frame that told it. -/
theorem Dev.testFrame_fault {d : Dev} {i : Nat} (h8 : (d.ring.seg i).state = 8) (portA : Bool) (f : List Byte) :
    ((d.testFrame i portA f).ring.seg i).fault = (d.ring.seg i).fault ∧ ∀ {c r : Nat} {as : List Byte}, d.Reports c r as → (d.testFrame i portA f).Reports c r as := by
  have hon (e : Dev) {g : Segment → Segment} (hg : ∀ x, (g x).fault = x.fault) : ((e.onSeg i g).ring.seg i).fault = (e.ring.seg i).fault := (Dev.segKept_onSeg e hg).view
  have hd : ((d.discard i).ring.seg i).fault = (d.ring.seg i).fault := hon { d with ring := d.ring.missSlots i true } fun _ => rfl
  unfold Dev.testFrame
  dsimp only
  generalize ((!portA || decide ((d.ring.seg i).state = 8)) && _) = ok
  split
  · exact ⟨hon d fun _ => rfl, id⟩
  · split
    · exact Dev.takeFrame_fault h8 f
    · split
      · exact ⟨hd, id⟩
      · refine ⟨(hon (d.discard i) fun x => ?_).trans hd, id⟩
        split <;> rfl

/-! ## The deadline of a return (R310, R313) -/

/-- The segment at the deadline of a frame that did not return. -/
def Segment.silent (x : Segment) : Segment := { x with judged := true, returned := true, silentRun := x.silentRun + 1, returnRun := 0 }

/-- The ring whose segment's frame is not judged by the deadline: every slot of it is missed. -/
def Ring.lapsed (r : Ring) (i : Nat) : Ring := if (r.seg i).judged then r else r.missSlots i true

theorem Ring.lapsed_eq (r : Ring) (i : Nat) : r.lapsed i = { r with stats := (r.lapsed i).stats } := by
  unfold Ring.lapsed
  split <;> rfl

/-- The device at the deadline of a frame that did not return: unless a frame was judged, every slot is missed. -/
def Dev.silenced (d : Dev) (i : Nat) : Dev := Dev.onSeg { d with ring := d.ring.lapsed i } i Segment.silent

/-- The return of segment `i` is due and has not come (R310). -/
def Dev.Overdue (d : Dev) (i : Nat) : Prop :=
  d.ring.role = 3 ∧ d.ctl.running = true ∧ d.ctl.first = false ∧ d.ctl.gathered = false ∧ d.ring.map.configured i = true ∧ (d.ring.seg i).launched ≠ [] ∧ (d.ring.seg i).returned = false

/-- Four cycles without a return break a segment in RUN (R310). -/
theorem Dev.returnDeadline_overdue {d : Dev} {i : Nat} (h : d.Overdue i) :
    d.returnDeadline i = if (d.ring.seg i).state = 7 ∧ 4 ≤ (d.ring.seg i).silentRun + 1 then (d.silenced i).broken i 0 else d.silenced i := by
  obtain ⟨hr, hc, hf, hg, hm, hl, hb⟩ := h
  have hs : (if (d.ring.seg i).judged then d else ({ d with ring := d.ring.missSlots i true }).onSeg i (fun s => { s with judged := true })).onSeg i
      (fun s => { s with returned := true, silentRun := s.silentRun + 1, returnRun := 0 }) = d.silenced i := by
    unfold Dev.silenced Ring.lapsed
    split
    next hj =>
      refine (d.onSeg_eq_withSeg i _).trans (Eq.trans (congrArg (d.withSeg i) ?_) (d.onSeg_eq_withSeg i Segment.silent).symm)
      unfold Segment.silent
      rw [hj]
    next => exact Dev.onSeg_onSeg _ i _ _
  unfold Dev.returnDeadline
  dsimp only
  rw [if_neg (by simp [hr, hc, hf, hg, hm]), if_neg hl, if_neg (by simp [hb]), hs]
  simp only [Bool.and_eq_true, decide_eq_true_eq]

/-! ## The rows -/

/-- The segment with `w` for the copy that it forwarded last. -/
def Segment.forwarding (w : List Byte) (x : Segment) : Segment := { x with fwd := w }

/-- A frame that a takeover forwards leaves every field of the segment but the copy forwarded (R330). -/
theorem Dev.seg_onward (d : Dev) (i : Nat) (portA : Bool) (f : List Byte) : ∃ w, (d.onward i portA f).ring.seg i = (d.ring.seg i).forwarding w := by
  unfold Dev.onward
  split
  · rw [show (d.onSeg i _).ring.seg i = _ from Ring.seg_onSeg d.ring i i _]
    split <;> exact ⟨_, rfl⟩
  · exact ⟨_, rfl⟩

theorem Dev.seg_onward_ne (d : Dev) {i j : Nat} (portA : Bool) (f : List Byte) (h : j ≠ i) : (d.onward i portA f).ring.seg j = d.ring.seg j := by
  unfold Dev.onward
  split
  · exact Dev.seg_onSeg_ne d _ h
  · rfl

/-- Outside the segments a frame forwarded changes nothing. -/
theorem Dev.offSegs_onward (d : Dev) (i : Nat) (portA : Bool) (f : List Byte) (l : List Segment) :
    { d.onward i portA f with ring := { (d.onward i portA f).ring with segs := l } } = { d with ring := { d.ring with segs := l } } := by
  unfold Dev.onward
  split <;> rfl

/-- What returns at the A port goes nowhere (R330). -/
theorem Dev.onward_portA (d : Dev) (i : Nat) (f : List Byte) : d.onward i true f = d := if_neg (by simp)

section

variable {n : Dev} {i : Nat} {f : List Byte}

/-- The verdict on the leader's own frame that passes the test of R313. -/
theorem Dev.cycleReturn_accepts (he : n.Expects i) (hf : ¬n.Foreign i f) (hj : (n.ring.seg i).judged = false) (ha : frameAccepted (n.ring.seg i).launched f (n.ring.seg i).devs = true) :
    (n.cycleReturn i false f).offFrames = (n.slotsJudged i f).offFrames ∧ (∀ j, j ≠ i → (n.cycleReturn i false f).ring.seg j = n.ring.seg j) ∧
      ((n.cycleReturn i false f).ring.seg i).verdict = ((n.ring.seg i).launched, (n.ring.seg i).devs, true, true, true, (n.ring.seg i).discardedCnt) := by
  have hb := n.segKept_ringReturn i
  have hv : ((n.ringReturn i).ring.seg i).verdict = ((n.ring.seg i).launched, (n.ring.seg i).devs, (n.ring.seg i).accepted, false, true, (n.ring.seg i).discardedCnt) := by
    rw [hb.view, Dev.seg_onSeg_same he.lt, ← hj]
    unfold Segment.cameBack
    split
    next hr => rw [← hr]; rfl
    next => rfl
  have hi : i < (n.ringReturn i).ring.segs.length := Ring.lt_of_seg_ne fun h => by
    obtain ⟨-, -, hl, -⟩ := he
    rw [h] at hv
    exact hl (congrArg Prod.fst hv).symm
  simp only [Segment.verdict, Prod.mk.injEq] at hv
  obtain ⟨hl, hd, -, hj', hr, hc⟩ := hv
  rw [Dev.cycleReturn_portB he hf, if_pos (frameHop_of_accepted ha), Dev.testFrame_accepts hj' (by rw [hl, hd]; exact ha)]
  have hk := (n.ringReturn i).segKept_takeFrame i f
  refine ⟨hk.rest.trans (Dev.offFrames_slotsJudged hb.rest i f), fun j hij => ?_, ?_⟩
  · rw [hk.others j hij, Dev.seg_onSeg_ne _ _ hij]
    exact (hb.others j hij).trans (Dev.seg_onSeg_ne n _ hij)
  · rw [hk.view, Dev.seg_onSeg_same (d := (n.ringReturn i).slotsJudged i f) hi, ]
    show (((n.ringReturn i).ring.seg i).launched, ((n.ringReturn i).ring.seg i).devs, true, true, ((n.ringReturn i).ring.seg i).returned, ((n.ringReturn i).ring.seg i).discardedCnt) = _
    rw [hl, hd, hr, hc]

/-- A frame of the wrong HOP is discarded (R313). -/
theorem Dev.cycleReturn_discards (he : n.Expects i) (hf : ¬n.Foreign i f) (hj : (n.ring.seg i).judged = false) (hh : frameHop f ≠ (n.ring.seg i).devs) (hc : fcsOk f = true) :
    n.cycleReturn i false f = n.discard i := by
  rw [Dev.cycleReturn_portB he hf, if_neg hh]
  exact Dev.testFrame_discards hj (Bool.eq_false_iff.mpr fun h => hh (frameHop_of_accepted h)) hc

/-- A frame at the A port breaks a ring in RUN at its HOP (R319). -/
theorem Dev.cycleReturn_breaks (he : n.Expects i) (h7 : (n.ring.seg i).state = 7) (hroom : n.EventRoom 1) :
    ((n.cycleReturn i true f).ring.seg i).fault = (8, incSat 16 (n.ring.seg i).breakCnt, frameHop f) ∧ (n.cycleReturn i true f).Reports eRING_BREAK (srcSeg i) (leBytes 2 (frameHop f)) := by
  obtain ⟨h, hb⟩ := n.broken_eq i (frameHop f)
  rw [Dev.cycleReturn_portA he h7, hb]
  have hk := (Dev.segKept_emit (v := Segment.fault) (i := i) { n.onSeg i (Segment.brokenAt (frameHop f)) with host := h } (evSeg i eRING_BREAK (leBytes 2 (frameHop f)))).view
  rw [show ({ n.onSeg i (Segment.brokenAt (frameHop f)) with host := h } : Dev).ring.seg i = _ from Dev.seg_onSeg_same he.lt _] at hk
  obtain ⟨ht, hrep⟩ := Dev.testFrame_fault (congrArg Prod.fst hk) true f
  exact ⟨ht.trans hk, hrep (Dev.reports_emit _ _ fun _ => Nat.lt_of_succ_le hroom)⟩

end

theorem Dev.rival_new {d : Dev} (h : d.ring.deposed = false) : d.rival = Dev.emit { d with ring := { d.ring with deposed := true } } (evC srcDevice eLEADER_DEPOSED) := by
  unfold Dev.rival
  rw [h]
  rfl

theorem Dev.rival_again {d : Dev} (h : d.ring.deposed = true) : d.rival = d := if_pos h

theorem Dev.corrReturn_accepted {d : Dev} {i : Nat} {f : List Byte} (hr : d.ring.role = 3) (hc : d.ctl.running = true) (hl : (d.ring.seg i).corrLaunched ≠ [])
    (ha : frameAccepted (d.ring.seg i).corrLaunched f (d.ring.seg i).devs = true) : d.corrReturn i false f = d.onSeg i (fun y => { y with corrLaunched := [] }) := by
  unfold Dev.corrReturn
  dsimp only
  rw [if_neg (by simp [hr, hc, hl]), if_pos (by simpa using ha)]

theorem Dev.corrReturn_discarded {d : Dev} {i : Nat} {f : List Byte} (hr : d.ring.role = 3) (hc : d.ctl.running = true) (hl : (d.ring.seg i).corrLaunched ≠ [])
    (ha : frameAccepted (d.ring.seg i).corrLaunched f (d.ring.seg i).devs = false) :
    d.corrReturn i false f = d.onSeg i (fun y => { y with corrLaunched := [], discardedCnt := incSat 32 y.discardedCnt }) := by
  unfold Dev.corrReturn
  dsimp only
  rw [if_neg (by simp [hr, hc, hl]), if_neg (by simp [ha])]

theorem Dev.ring_of_core {d e : Dev} (h : d.core = e.core) : d.ring = e.ring := show d.core.ring = e.core.ring from congrArg (fun x => x.ring) h

/-- A row that acts completes with the device that its change leaves, but for the events of the counters that it filled. -/
theorem completes_act_core {c : Instr} {s : State} {f : Dev → Dev} {P : Dev → Prop} (hc : exec c s = s.act f)
    (h : ∀ d : Dev, d.core = (f s.dev).core → (∀ {k r : Nat} {as : List Byte}, (f s.dev).Reports k r as → d.Reports k r as) → P d) : Completes c s P :=
  completes_act hc (h _ (Dev.core_satCheck _ _) (Dev.reports_satCheck _ _))

/-- What the deadline of a return leaves where the frame has not come (R310, R313): the segment, and the device around it. -/
theorem Dev.returnDeadline_silences {d : Dev} {i : Nat} (h : d.Overdue i) (hroom : d.EventRoom 1) :
    ∃ (z : Segment) (hf : Hif), (d.returnDeadline i).core = (Dev.withSeg { d with ring := { d.ring with stats := (d.ring.lapsed i).stats }, host := hf } i z).core ∧
      z.returned = true ∧ z.judged = true ∧ z.silentRun = (d.ring.seg i).silentRun + 1 ∧
      ((d.ring.seg i).state = 7 → 4 ≤ (d.ring.seg i).silentRun + 1 → z.state = 8 ∧ (d.returnDeadline i).Reports eRING_BREAK (srcSeg i) (leBytes 2 0)) ∧
      (((d.ring.seg i).state ≠ 7 ∨ (d.ring.seg i).silentRun + 1 < 4) → z.state = (d.ring.seg i).state) := by
  have hs : d.silenced i = Dev.withSeg { d with ring := { d.ring with stats := (d.ring.lapsed i).stats } } i (d.ring.seg i).silent := by
    unfold Dev.silenced
    rw [Ring.lapsed_eq]
    exact Dev.onSeg_eq_withSeg _ i _
  rw [Dev.returnDeadline_overdue h]
  by_cases hb : (d.ring.seg i).state = 7 ∧ 4 ≤ (d.ring.seg i).silentRun + 1
  · rw [if_pos hb]
    obtain ⟨hf, he⟩ := (d.silenced i).broken_eq i 0
    rw [he]
    refine ⟨(d.ring.seg i).silent.brokenAt 0, hf, ?_, rfl, rfl, rfl, fun _ _ => ⟨rfl, Dev.reports_emit _ _ fun _ => Nat.lt_of_succ_le hroom⟩, fun hn => by omega⟩
    rw [Dev.core_emit, hs, Dev.onSeg_withSeg]
    rfl
  · rw [if_neg hb, hs]
    exact ⟨(d.ring.seg i).silent, d.host, rfl, rfl, rfl, rfl, fun h7 h4 => absurd ⟨h7, h4⟩ hb, fun _ => rfl⟩

/-- A device with segment `i`, the slots' status and the host's part replaced, seen from the one before. -/
theorem Dev.replaced_of_core {d e : Dev} {i : Nat} {t : Tab SlotStat} {h : Hif} {z : Segment} (hi : i < d.ring.segs.length)
    (he : e.core = (Dev.withSeg { d with ring := { d.ring with stats := t }, host := h } i z).core) :
    e.ring.seg i = z ∧ e.ring.stats = t ∧ (∀ j, j ≠ i → e.ring.seg j = d.ring.seg j) ∧
      e.Is { d with ring := { d.ring with segs := e.ring.segs, stats := e.ring.stats }, host := e.host } := by
  have hring := Dev.ring_of_core he
  have hhost : e.host = h := congrArg (fun x => x.host) he
  refine ⟨?_, (congrArg Ring.stats hring).trans rfl, fun j hij => ?_, ?_⟩
  · rw [hring]
    exact Dev.seg_withSeg (d := { d with ring := { d.ring with stats := t }, host := h }) hi z
  · rw [hring]
    exact Dev.seg_onSeg_ne { d with ring := { d.ring with stats := t }, host := h } _ hij
  · unfold Dev.Is
    rw [he, hring, hhost]
    rfl

/-- What the leader's rows read outside the segments is as before the frame was forwarded. -/
theorem Dev.onward_reads (d : Dev) (i : Nat) (portA : Bool) (f : List Byte) :
    (d.onward i portA f).ring.role = d.ring.role ∧ (d.onward i portA f).ring.map = d.ring.map ∧ (d.onward i portA f).ring.stats = d.ring.stats ∧
      (d.onward i portA f).ctl = d.ctl ∧ (d.onward i portA f).router = d.router := by
  unfold Dev.onward
  split <;> exact ⟨rfl, rfl, rfl, rfl, rfl⟩

/-- The slots missed are the map's, whatever the segments hold. -/
theorem Ring.missSlots_stats_congr {r r' : Ring} (hm : r.map = r'.map) (hs : r.stats = r'.stats) (i : Nat) (c : Bool) : (r.missSlots i c).stats = (r'.missSlots i c).stats := by
  unfold Ring.missSlots
  rw [hm, hs]

/-- Settles O36: the verdict of R313, a break at the A port, another head's frame, a returned correction frame, and the deadline of a return. -/
theorem ringFrameReturns : Obligations.RingFrameReturns := by
  intro s i f hrole hrun n x foreign
  obtain ⟨hnrole, hnmap, hnstats, hnctl, hnrouter⟩ := s.dev.onward_reads i false f
  obtain ⟨w, hx⟩ := s.dev.seg_onward i false f
  have hrole' : n.ring.role = 3 := hnrole.trans hrole
  have hrun' : n.ctl.running = true := (congrArg Ctl.running hnctl).trans hrun
  have hroom' : n.EventRoom 1 → s.dev.EventRoom 1 := fun h => by rwa [Dev.EventRoom, ← hnrouter]
  refine ⟨fun hl hst => ?_, fun hl => ⟨fun ha => ?_, fun ha => ?_⟩, fun hfirst hgath hmap hl hret hroom => ?_⟩
  · have he : n.Expects i := ⟨hrole', hrun', hl, hst⟩
    refine ⟨fun hf hj ha => ?_, fun hf hj _ hh hc => ?_, fun h7 hroom => ?_, fun hf hdep hroom => ?_, fun hf hdep => ?_⟩
    · refine completes_act_core (f := fun d => (d.onward i false f).cycleReturn i false f) rfl fun d hd _ => ?_
      obtain ⟨hrest, hothers, hv⟩ := Dev.cycleReturn_accepts he hf hj ha
      rw [← Dev.ring_of_core hd] at hv hothers
      simp only [Segment.verdict, Prod.mk.injEq] at hv
      obtain ⟨-, -, hacc, hjud, hret, hcnt⟩ := hv
      exact ⟨hacc, hjud, hret, hcnt, Dev.ringOnly_of_offFrames ((Dev.offFrames_of_core hd).trans hrest), hothers⟩
    · refine completes_act_core (f := fun d => (d.onward i false f).cycleReturn i false f) rfl fun d hd _ => ?_
      rw [Dev.cycleReturn_discards he hf hj hh hc] at hd
      rw [Dev.ring_of_core hd]
      exact ⟨hd, fun j hij => Dev.seg_onSeg_ne n _ hij, Dev.seg_onSeg_same he.lt _⟩
    · refine completes_act_core (f := fun d => (d.onward i true f).cycleReturn i true f) rfl fun d hd hrep => ?_
      have he' : s.dev.Expects i := ⟨hrole, hrun, fun h => hl ((congrArg Segment.launched hx).trans h), Or.inr (Or.inl ((congrArg Segment.state hx).symm.trans h7))⟩
      obtain ⟨hv, hb⟩ := Dev.cycleReturn_breaks (f := f) he' ((congrArg Segment.state hx).symm.trans h7) (hroom' hroom)
      rw [Dev.onward_portA] at hd hrep
      rw [← Dev.ring_of_core hd] at hv
      simp only [Segment.fault, Prod.mk.injEq] at hv
      obtain ⟨hst, hcnt, hpos⟩ := hv
      exact ⟨hst, hcnt.trans (congrArg (fun y => incSat 16 y.breakCnt) hx).symm, hpos, hrep hb⟩
    · refine completes_act_core (f := fun d => (d.onward i false f).cycleReturn i false f) rfl fun d hd hrep => ?_
      rw [Dev.cycleReturn_foreign hrole' hf, Dev.rival_new hdep] at hd hrep
      exact ⟨hd.trans (Dev.core_emit _ _), hrep (Dev.reports_emit _ _ fun _ => Nat.lt_of_succ_le hroom)⟩
    · refine completes_act_core (f := fun d => (d.onward i false f).cycleReturn i false f) rfl fun d hd _ => ?_
      rw [Dev.cycleReturn_foreign hrole' hf, Dev.rival_again hdep] at hd
      exact hd
  · exact completes_does (f := fun d => (d.onward i false f).corrReturn i false f) rfl (Dev.corrReturn_accepted hrole' hrun' hl ha)
  · exact completes_does (f := fun d => (d.onward i false f).corrReturn i false f) rfl (Dev.corrReturn_discarded hrole' hrun' hl ha)
  · refine completes_act_core (f := fun d => d.returnDeadline i) rfl fun d hd hrep => ?_
    have ho : s.dev.Overdue i := ⟨hrole, hrun, (congrArg Ctl.first hnctl).symm.trans hfirst, (congrArg Ctl.gathered hnctl).symm.trans hgath,
      (congrArg (fun m => FrameMap.configured m i) hnmap).symm.trans hmap, fun h => hl ((congrArg Segment.launched hx).trans h), (congrArg Segment.returned hx).symm.trans hret⟩
    have hi : i < s.dev.ring.segs.length := Ring.lt_of_seg_ne fun h => hl ((congrArg Segment.launched hx).trans (by rw [h]; rfl))
    obtain ⟨z, h, hcore, hret', hjud, hrunz, hbreak, hstay⟩ := Dev.returnDeadline_silences ho (hroom' hroom)
    obtain ⟨hz, hstats, hothers, his⟩ := Dev.replaced_of_core hi (hd.trans hcore)
    have hjx : (s.dev.ring.seg i).judged = x.judged := (congrArg Segment.judged hx).symm
    have hrunx : (s.dev.ring.seg i).silentRun = x.silentRun := (congrArg Segment.silentRun hx).symm
    rw [show (s.dev.ring.seg i).state = x.state from (congrArg Segment.state hx).symm, hrunx] at hbreak hstay
    rw [hz]
    refine ⟨hret', hjud, hrunz.trans (congrArg (· + 1) hrunx), fun hj => ?_, fun hj => ?_, fun j hij => ?_, ?_, fun h7 h4 => ?_, hstay⟩
    · rw [hstats, Ring.lapsed, if_neg (by rw [hjx, hj]; decide)]
      exact Ring.missSlots_stats_congr hnmap.symm hnstats.symm i true
    · rw [hstats, Ring.lapsed, if_pos (hjx.trans hj)]
      exact hnstats.symm
    · exact (hothers j hij).trans (Dev.seg_onward_ne s.dev false f hij).symm
    · have hoff := congrArg (fun e : Dev => { e with ring := { e.ring with stats := d.ring.stats }, host := d.host }) (s.dev.offSegs_onward i false f d.ring.segs)
      exact his.trans (congrArg Dev.core hoff).symm
    · obtain ⟨h8, hrep'⟩ := hbreak h7 h4
      exact ⟨h8, hrep hrep'⟩

end Sys2Proof.Machine

/-! PROOFS. RING_START of all segments while a changed map is pending (R291, R418): a state that refutes the statement of O60. -/

namespace Sys2Proof.Machine

open Sys2Proof

/-- The header of RING_START for the device, on pair 0. -/
def ringStartHead : CmdHead := { kind := 0, index := 0, auth := 1, effective := 0 }

/-- The command itself. -/
def ringStartReq : HostReq := { op := 0x4012, h := ringStartHead, pay := [] }

/-- A Frame Map whose entry 0 is the feedback slot of servo axis 0, on segment 0. -/
def oneInputMap : FrameMap :=
  { entries := [(0, { input := true, seg := 0, kind := 0, node := 1, forceCount := false, ofs := 64, len := 18, target := 0, holdMax := 1 })] }

/-- The owner's pair is in use; that map is in force, an empty map waits for the ring start, and MISS_CNT in the slot status record of entry 0 is 1. -/
def remapPending : State :=
  { dev := { ({} : Dev) with
      host := { ({} : Hif) with owned := true, token := 1, linkUp := true, mgtReady := true, pairs := [{ ({} : Pair) with active := true }] }
      ring := { ({} : Ring) with map := oneInputMap, mapPending := some {} }
      image := [(0xF0004, 1)] } }

theorem remapPending_accepts : remapPending.dev.accepts ringStartReq := by
  unfold Dev.accepts
  decide +kernel

/-- The ring start puts the pending map in force, and the record of an entry that is no input entry any more is zeros (R291). -/
theorem remapPending_clears_record : ∃ t, exec (.ringStart ringStartHead []) remapPending = .next t ∧ t.dev.image = [] := by
  refine ⟨_, rfl, ?_⟩
  decide +kernel

/-- Refutes O60: RING_START of all segments is to leave the process image, but it puts the pending map in force (R418), and that zeros the slot status records of the entries that are
no input entries any more (R291). -/
theorem not_deviceCommandsAct : ¬ Obligations.DeviceCommandsAct := by
  intro h
  obtain ⟨-, -, hring, -⟩ := h remapPending ringStartHead []
  obtain ⟨t, ht, -, -, -, -, -, -, -, himage, -⟩ := (hring remapPending_accepts).1 rfl
  obtain ⟨u, hu, hcleared⟩ := remapPending_clears_record
  obtain rfl : t = u := by simpa using ht.symm.trans hu
  exact absurd (himage.symm.trans hcleared) (by decide +kernel)

end Sys2Proof.Machine

/-! PROOFS. The bytes of host commands and of TWIN records (Table 12.11, R326, R374): a field of a concatenation is that of the part that it lies in. -/

namespace Sys2Proof.Machine

open Sys2Proof

/-! ## Fields of concatenated bytes -/

@[simp] theorem zeroBytes_length (n : Nat) : (zeroBytes n).length = n := List.length_replicate

@[simp] theorem leNat_zeroBytes (n : Nat) : leNat (zeroBytes n) = 0 := by
  induction n with
  | zero => rfl
  | succ n ih =>
    show (0 : BitVec 8).toNat + 256 * leNat (zeroBytes n) = 0
    rw [ih]
    rfl

/-- A field that ends within the first of two lists is that list's. -/
theorem fieldLE_append_right (a b : List (BitVec 8)) (o k : Nat) (h : o + k ≤ a.length) : fieldLE (a ++ b) o k = fieldLE a o k := by
  unfold fieldLE
  rw [List.drop_append_of_le_length (by omega), List.take_append_of_le_length (by rw [List.length_drop]; omega)]

/-- The field that is the whole of a list's first part. -/
theorem fieldLE_append_whole (a b : List (BitVec 8)) (k : Nat) (h : a.length = k) : fieldLE (a ++ b) 0 k = leNat a := by
  rw [fieldLE_append_right a b 0 k (by omega)]
  unfold fieldLE
  rw [List.drop_zero, List.take_of_length_le (by omega)]

/-- The number at the front of a list is what was written there. -/
theorem fieldLE_leBytes_append (k x : Nat) (b : List (BitVec 8)) : fieldLE (leBytes k x ++ b) 0 k = x % 2 ^ (8 * k) := by
  rw [fieldLE_append_whole _ _ _ (leBytes_length k x), leNat_leBytes]

theorem fieldLE_zeroBytes_append (k : Nat) (b : List (BitVec 8)) : fieldLE (zeroBytes k ++ b) 0 k = 0 := by
  rw [fieldLE_append_whole _ _ _ (zeroBytes_length k), leNat_zeroBytes]

/-! ## A command's bytes (Table 12.11) -/

theorem HostReq.bytes_length (q : HostReq) : q.bytes.length = 32 + q.pay.length := by
  simp only [HostReq.bytes, List.length_append, leBytes_length, zeroBytes_length]

/-- The fields of the header in the bytes of a command, whatever follows them. -/
theorem HostReq.bytes_fields (q : HostReq) (after : List Byte) :
    fieldLE (q.bytes ++ after) 0 2 = q.op % 2 ^ 16 ∧ fieldLE (q.bytes ++ after) 2 2 = q.h.tag % 2 ^ 16 ∧
      fieldLE (q.bytes ++ after) 4 4 = (q.h.kind * 2 ^ 24 + q.h.index) % 2 ^ 32 ∧ fieldLE (q.bytes ++ after) 8 8 = q.h.effective % 2 ^ 64 ∧
      fieldLE (q.bytes ++ after) 16 2 = q.h.flags % 2 ^ 16 ∧ fieldLE (q.bytes ++ after) 18 2 = q.pay.length % 2 ^ 16 ∧
      fieldLE (q.bytes ++ after) 20 4 = q.h.batch % 2 ^ 32 ∧ fieldLE (q.bytes ++ after) 24 4 = q.h.auth % 2 ^ 32 ∧ fieldLE (q.bytes ++ after) 28 4 = 0 := by
  simp only [HostReq.bytes, List.append_assoc]
  refine ⟨?_, ?_, ?_, ?_, ?_, ?_, ?_, ?_, ?_⟩ <;>
    simp [fieldLE_append_left, fieldLE_leBytes_append, fieldLE_zeroBytes_append]

/-- The payload follows the header. -/
theorem HostReq.bytes_payload (q : HostReq) (after : List Byte) : ((q.bytes ++ after).drop 32).take q.pay.length = q.pay := by
  unfold HostReq.bytes
  rw [List.append_assoc _ q.pay, List.drop_left' (by simp), List.take_left]

/-- A command whose header fields fit their widths (Table 12.11). -/
structure HostReq.Fits (q : HostReq) : Prop where
  op : q.op < 2 ^ 16
  tag : q.h.tag < 2 ^ 16
  kind : q.h.kind < 2 ^ 8
  index : q.h.index < 2 ^ 24
  effective : q.h.effective < 2 ^ 64
  flags : q.h.flags < 2 ^ 16
  batch : q.h.batch < 2 ^ 32
  auth : q.h.auth < 2 ^ 32
  pay : q.pay.length < 2 ^ 16

/-- A slot with a command's bytes reads as that command, on the pair that it is read for (R374). -/
theorem HostReq.Fits.headOf_bytes {q : HostReq} (h : q.Fits) (hm : q.moved = false) (pair : Nat) (after : List Byte) :
    headOf pair (q.bytes ++ after) = { q with h := { q.h with pair := pair } } := by
  obtain ⟨hop, htag, htarget, heff, hflags, hlen, hbatch, hauth, -⟩ := q.bytes_fields after
  have hk := h.kind
  have hi := h.index
  have ht : (q.h.kind * 2 ^ 24 + q.h.index) % 2 ^ 32 = q.h.kind * 2 ^ 24 + q.h.index := Nat.mod_eq_of_lt (by omega)
  have hkind : (q.h.kind * 2 ^ 24 + q.h.index) / 2 ^ 24 = q.h.kind := by omega
  have hindex : (q.h.kind * 2 ^ 24 + q.h.index) % 2 ^ 24 = q.h.index := by omega
  unfold headOf
  dsimp only
  rw [hop, htag, htarget, heff, hflags, hlen, hbatch, hauth, ht, hkind, hindex, Nat.mod_eq_of_lt h.op, Nat.mod_eq_of_lt h.tag, Nat.mod_eq_of_lt h.effective,
    Nat.mod_eq_of_lt h.flags, Nat.mod_eq_of_lt h.pay, Nat.mod_eq_of_lt h.batch, Nat.mod_eq_of_lt h.auth, q.bytes_payload after, ← hm]

/-! ## The records of a TWIN frame (Table 10.6) -/

theorem twinRecord_append (kind : Nat) (c b : List Byte) : twinRecord kind c ++ b = leBytes 1 kind ++ ([0] ++ (leBytes 2 c.length ++ (c ++ b))) := by
  simp only [twinRecord, List.append_assoc]

/-- The first of the records in a list of bytes, and what is left to read. -/
theorem twinParse_record {kind : Nat} {c : List Byte} (hk : kind < 2 ^ 8) (hc : c.length < 2 ^ 16) (n : Nat) (b : List Byte) :
    twinParse (n + 1) (twinRecord kind c ++ b) = (kind, c) :: twinParse n b := by
  have hlen : ¬(twinRecord kind c ++ b).length < 4 := by simp [twinRecord]; omega
  have hkind : fieldLE (twinRecord kind c ++ b) 0 1 = kind := by
    rw [twinRecord_append, fieldLE_leBytes_append]
    exact Nat.mod_eq_of_lt hk
  have hsize : fieldLE (twinRecord kind c ++ b) 2 2 = c.length := by
    rw [twinRecord_append]
    simp only [fieldLE_append_left, fieldLE_leBytes_append, leBytes_length, List.length_singleton, Nat.reduceLeDiff, Nat.reduceSub, Nat.le_refl]
    exact Nat.mod_eq_of_lt hc
  have hrest : (twinRecord kind c ++ b).drop 4 = c ++ b := by
    unfold twinRecord
    rw [List.append_assoc]
    exact List.drop_left' rfl
  rw [twinParse, if_neg hlen]
  dsimp only
  rw [hkind, hsize, ← List.drop_drop, hrest, List.take_left, List.drop_left]

/-- Settles O4: each field of the header lies at its offset, and a record's length leads to the next one. -/
theorem commandBytesRoundTrip : Obligations.CommandBytesRoundTrip := by
  refine ⟨fun q pair after hop htag hkind hindex heff hflags hbatch hauth hlen hm => ?_, fun rs h => ?_⟩
  · obtain ⟨-, -, -, -, -, -, -, -, hres⟩ := q.bytes_fields []
    rw [List.append_nil] at hres
    exact ⟨q.bytes_length, hres, HostReq.Fits.headOf_bytes ⟨hop, htag, hkind, hindex, heff, hflags, hbatch, hauth, hlen⟩ hm pair after⟩
  · induction rs with
    | nil => rfl
    | cons r rs ih =>
      obtain ⟨hk, hc⟩ := h r List.mem_cons_self
      rw [List.map_cons, List.flatten_cons, List.length_cons, twinParse_record hk hc, ih fun x hx => h x (List.mem_cons_of_mem r hx)]

end Sys2Proof.Machine

/-! PROOFS. A head that follows (R298, R300, R301, R340): segments of the ring that a row goes through one by one, the start of following, and the frames of the leader. -/

namespace Sys2Proof.Machine

open Sys2Proof

/-! ## Rows that go through the segments -/

/-- From `d` to `e` only segment `i`, the Safety Island, the host's part and what events touch may change, and every report stands. -/
abbrev Dev.Near (i : Nat) (d e : Dev) : Prop := Dev.SegKept (fun _ => ()) i d e

theorem Dev.near_onSeg (d : Dev) (i : Nat) (f : Segment → Segment) : Dev.Near i d (d.onSeg i f) := d.segKept_onSeg fun _ => rfl

theorem Dev.near_enter (d : Dev) (i st : Nat) : Dev.Near i d (d.enter i st) := Dev.segKept_enter (fun _ => rfl) d

/-- The segment that enters a state, as a row then leaves it. -/
theorem Dev.near_enter_onSeg (d : Dev) (i st : Nat) (f : Segment → Segment) : Dev.Near i d ((d.enter i st).onSeg i f) := (d.near_enter i st).trans (Dev.near_onSeg _ i f)

theorem Dev.ring_enter (d : Dev) (i st : Nat) : (d.enter i st).ring = (d.onSeg i (Segment.entered st)).ring := by
  obtain ⟨x, h, he⟩ := d.enter_eq i st
  rw [he]

theorem Dev.seg_enter {d : Dev} {i : Nat} (hi : i < d.ring.segs.length) (st : Nat) : (d.enter i st).ring.seg i = (d.ring.seg i).entered st := by
  rw [Dev.ring_enter, Dev.seg_onSeg_same hi]

@[simp] theorem Dev.segs_length_onSeg (d : Dev) (i : Nat) (f : Segment → Segment) : (d.onSeg i f).ring.segs.length = d.ring.segs.length := List.length_modify ..

@[simp] theorem Dev.segs_length_enter (d : Dev) (i st : Nat) : (d.enter i st).ring.segs.length = d.ring.segs.length := by
  rw [Dev.ring_enter, Dev.segs_length_onSeg]

theorem Dev.seg_enter_onSeg {d : Dev} {i : Nat} (hi : i < d.ring.segs.length) (st : Nat) (f : Segment → Segment) :
    ((d.enter i st).onSeg i f).ring.seg i = f ((d.ring.seg i).entered st) := by
  rw [Dev.seg_onSeg_same (by simpa using hi), Dev.seg_enter hi]

/-- A segment in a state other than DOWN is one of the device's. -/
theorem Dev.lt_of_state {d : Dev} {i : Nat} (h : (d.ring.seg i).state ≠ 0) : i < d.ring.segs.length := Ring.lt_of_seg_ne fun he => h (by rw [he])

theorem Dev.segNos_nodup (d : Dev) : d.segNos.Nodup := List.nodup_range.filter _

/-- What a row makes of the device by changing the segments of a list one after another: each is changed on a device on which it is still as before. -/
structure Dev.Swept (g : Dev → Nat → Dev) (l : List Nat) (d e : Dev) : Prop where
  rest : e.offFrames = d.offFrames
  others : ∀ j, j ∉ l → e.ring.seg j = d.ring.seg j
  each : ∀ i, i ∈ l → ∃ x : Dev, x.offFrames = d.offFrames ∧ x.ring.seg i = d.ring.seg i ∧ e.ring.seg i = (g x i).ring.seg i
  reports : ∀ {c r : Nat} {as : List Byte}, d.Reports c r as → e.Reports c r as

theorem Dev.swept_foldl {g : Dev → Nat → Dev} (hg : ∀ d i, Dev.Near i d (g d i)) {l : List Nat} (hl : l.Nodup) (d : Dev) : Dev.Swept g l d (l.foldl g d) := by
  induction l generalizing d with
  | nil => exact ⟨rfl, fun _ _ => rfl, fun _ h => absurd h List.not_mem_nil, id⟩
  | cons a l ih =>
    obtain ⟨ha, hl⟩ := List.nodup_cons.mp hl
    obtain ⟨hrest, hothers, heach, hrep⟩ := ih hl (g d a)
    have hn := hg d a
    refine ⟨hrest.trans hn.rest, fun j hj => ?_, fun i hi => ?_, fun h => hrep (hn.reports h)⟩
    · obtain ⟨hja, hjl⟩ := not_or.mp (mt List.mem_cons.mpr hj)
      exact (hothers j hjl).trans (hn.others j hja)
    · by_cases hia : i = a
      · subst hia
        exact ⟨d, rfl, rfl, hothers i ha⟩
      · obtain ⟨x, hx, hxi, he⟩ := heach i ((List.mem_cons.mp hi).resolve_left hia)
        exact ⟨x, hx.trans hn.rest, hxi.trans (hn.others i hia), he⟩

/-- Outside the segments, the Safety Island and the host's part, what a device reads is what another with the same rest reads. -/
theorem Dev.reads_of_offFrames {d e : Dev} (h : d.offFrames = e.offFrames) :
    d.ctl.prm = e.ctl.prm ∧ d.ctl.running = e.ctl.running ∧ d.ring.map = e.ring.map ∧ d.ring.role = e.ring.role ∧ d.segNos = e.segNos :=
  ⟨(congrArg (fun x => x.ctl.prm) h :), (congrArg (fun x => x.ctl.running) h :), (congrArg (fun x => x.ring.map) h :), (congrArg (fun x => x.ring.role) h :), (congrArg Dev.segNos h :)⟩

theorem Dev.offFrames_emit (d : Dev) (e : Ev) : (d.emit e).offFrames = d.offFrames := Dev.offFrames_of_core (Dev.core_emit d e)

/-! ## The start of following (R298, R300) -/

/-- The ring of a device with another role. -/
def Dev.inRole (d : Dev) (r : Nat) : Dev := { d with ring := { d.ring with role := r } }

theorem Dev.offFrames_inRole {d e : Dev} (h : d.offFrames = e.offFrames) (r : Nat) : (d.inRole r).offFrames = (e.inRole r).offFrames := (congrArg (fun x => x.inRole r) h :)

/-- A segment that follows. -/
def Segment.following (x : Segment) : Segment := { x with state := 10, sent := [], queue := [], cfgPos := 0 }

/-- A segment under contention follows. -/
def Dev.followSeg (d : Dev) (i : Nat) : Dev :=
  if [1, 2].contains (d.ring.seg i).state then (d.enter i 10).onSeg i (fun s => { s with sent := [], queue := [], cfgPos := 0 }) else d

theorem Dev.near_followSeg (d : Dev) (i : Nat) : Dev.Near i d (d.followSeg i) := by
  unfold Dev.followSeg
  split
  · exact d.near_enter_onSeg i 10 _
  · exact Dev.SegKept.refl d

theorem Dev.seg_followSeg {d : Dev} {i : Nat} (h : (d.ring.seg i).state = 1 ∨ (d.ring.seg i).state = 2) : (d.followSeg i).ring.seg i = (d.ring.seg i).following := by
  have hc : [1, 2].contains (d.ring.seg i).state = true := by rcases h with h | h <;> rw [h] <;> rfl
  unfold Dev.followSeg
  rw [if_pos hc, Dev.seg_enter_onSeg (Dev.lt_of_state (by omega))]
  rfl

/-- A head that follows: its contending segments do, it is in the follower's role, and without STANDBY_EN it says so. -/
structure Dev.Follows (d e : Dev) : Prop where
  rest : e.offFrames = (d.inRole 4).offFrames
  others : ∀ j, ¬(j ∈ d.segNos ∧ ((d.ring.seg j).state = 1 ∨ (d.ring.seg j).state = 2)) → e.ring.seg j = d.ring.seg j
  contending : ∀ j, j ∈ d.segNos → ((d.ring.seg j).state = 1 ∨ (d.ring.seg j).state = 2) → e.ring.seg j = (d.ring.seg j).following
  passive : d.prm pSTANDBY_EN ≠ 1 → e.Reports eFOLLOWER_PASSIVE srcDevice []

theorem Dev.follows (d : Dev) : Dev.Follows d d.follow := by
  have hs := Dev.swept_foldl Dev.near_followSeg d.segNos_nodup d
  have he : d.follow = if (d.segNos.foldl Dev.followSeg d).prm pSTANDBY_EN = 1 then (d.segNos.foldl Dev.followSeg d).inRole 4 else (d.segNos.foldl Dev.followSeg d).passive := rfl
  rw [he]
  generalize d.segNos.foldl Dev.followSeg d = e at hs
  have hring : (if e.prm pSTANDBY_EN = 1 then e.inRole 4 else e.passive).ring = (e.inRole 4).ring := by
    split
    · rfl
    · exact Dev.ring_of_core (Dev.core_emit _ _)
  have hseg (j : Nat) : (if e.prm pSTANDBY_EN = 1 then e.inRole 4 else e.passive).ring.seg j = e.ring.seg j := by rw [hring]; rfl
  refine ⟨?_, fun j hj => ?_, fun j hj hst => ?_, fun hp => ?_⟩
  · refine Eq.trans ?_ (Dev.offFrames_inRole hs.rest 4)
    split
    · rfl
    · exact Dev.offFrames_emit _ _
  · rw [hseg]
    by_cases hm : j ∈ d.segNos
    · obtain ⟨x, -, hx, hg⟩ := hs.each j hm
      have hn : ¬[1, 2].contains (x.ring.seg j).state = true := by
        rw [hx]
        exact fun h => hj ⟨hm, by simpa using h⟩
      rw [hg, Dev.followSeg, if_neg hn, hx]
    · exact hs.others j hm
  · obtain ⟨x, -, hx, hg⟩ := hs.each j hj
    rw [hseg, hg, Dev.seg_followSeg (by rw [hx]; exact hst), hx]
  · obtain ⟨hprm, -⟩ := Dev.reads_of_offFrames hs.rest
    rw [if_neg (by unfold Dev.prm at hp ⊢; rw [hprm]; exact hp)]
    exact Dev.reports_emit _ (evC srcDevice eFOLLOWER_PASSIVE) (fun h => by cases h)

/-! ## The leader's frames at a follower -/

/-- The frame forwarded on a segment. -/
def Dev.forwards (d : Dev) (i : Nat) (f : List Byte) : Dev := d.onSeg i (Segment.forwarding (forwarded f (d.followWrite i f)))

/-- A frame is written into only as a ring-management frame on a following segment. -/
theorem Dev.followWrite_id {d : Dev} {i : Nat} {f : List Byte} (h : (d.ring.seg i).state ≠ 10 ∨ frameKind f ≠ 3) : d.followWrite i f = id := by
  funext b
  unfold Dev.followWrite
  dsimp only
  rw [if_pos (by rcases h with h | h <;> simp [h])]
  rfl

/-- An ENUM frame takes the head's own identity entry at its position (R301). -/
theorem Dev.followWrite_enum {d : Dev} {i : Nat} {f : List Byte} (hs : (d.ring.seg i).state = 10) (hf : fcsOk f = true) (hv : hdr f 0 1 = 1) (hi : hdr f 1 1 = i) (hk : frameKind f = 3)
    (he : service f = 0x11) : d.followWrite i f = fun b => putBytes b (62 + 32 * frameHop f) ownIdentity := by
  funext b
  unfold Dev.followWrite
  dsimp only
  rw [if_neg (by simp [hs, hf, hv, hi, hk]), if_pos he, Nat.add_sub_cancel]

/-- The kind of a cycle frame. -/
theorem frameKind_of_cycle {f : List Byte} {i : Nat} (h : validCycleFrame f i = true) : frameKind f = 1 := by
  unfold validCycleFrame at h
  simp only [Bool.and_eq_true, decide_eq_true_eq] at h
  exact h.1.1.1.2

section

variable {d : Dev} {i : Nat} {f : List Byte}

/-- A listening head follows on the first cycle frame of a leader (R298). -/
theorem Dev.followerFrame_listening (h1 : (d.ring.seg i).state = 1) (h3 : d.ring.role ≠ 3) (h0 : d.ring.role ≠ 0) (hv : validCycleFrame f i = true) :
    d.followerFrame i f = (d.forwards i f).follow := by
  unfold Dev.followerFrame
  extract_lets s own d1 d2
  rw [if_neg (by simp [s, h1, h3, h0])]
  have hd : d2 = d1 := if_neg (by simp [own, s, h1])
  rw [if_pos hv, if_pos h1, hd]
  rfl

theorem Dev.followerFrame_cycle (h10 : (d.ring.seg i).state = 10) (hr : d.ring.role = 4) (hv : validCycleFrame f i = true) :
    d.followerFrame i f = (d.forwards i f).followCycle i f := by
  unfold Dev.followerFrame
  extract_lets s own d1 d2
  rw [if_neg (by simp [s, h10, hr])]
  have hd : d2 = d1 := if_neg (by simp [own, frameKind_of_cycle hv])
  rw [if_pos hv, if_neg (show ¬s.state = 1 by simp [s, h10]), if_pos h10, hd]
  rfl

theorem Dev.followerFrame_enum (h10 : (d.ring.seg i).state = 10) (hr : d.ring.role = 4 ∨ d.ring.role = 5) (hf : fcsOk f = true) (hv : hdr f 0 1 = 1) (hi : hdr f 1 1 = i)
    (hk : frameKind f = 3) (he : service f = 0x11) : d.followerFrame i f = (d.forwards i f).positioned i (frameHop f + 1) := by
  have hn : ¬validCycleFrame f i = true := fun h => absurd (frameKind_of_cycle h) (by rw [hk]; decide)
  have hrole : d.ring.role ≠ 3 ∧ d.ring.role ≠ 0 := by omega
  unfold Dev.followerFrame
  extract_lets s own d1 d2
  rw [if_neg (by simp [s, h10, hrole])]
  have hd : d2 = d1 := if_neg (by simp [own, he])
  rw [if_neg hn, if_neg (by simp [s, h10, hf, hv, hi, hk]), if_pos he, hd]
  rfl

end

/-- The head's own position is the segment's; what else comes of it is the head's role (R300). -/
theorem Dev.ring_positioned (d : Dev) (i pos : Nat) : (d.positioned i pos).ring.segs = (d.onSeg i (fun s => { s with cfgPos := pos })).ring.segs := by
  unfold Dev.positioned
  extract_lets known was d1 last
  split
  · rfl
  · split
    · rfl
    · split
      · exact (congrArg Ring.segs (Dev.ring_of_core (Dev.core_emit _ _)) :)
      · rfl

theorem Dev.leaderAlive_standby {d : Dev} {i : Nat} {f : List Byte} (hr : d.ring.role = 5) (hf : fcsOk f = true) (hk : frameKind f = 3) (hs : service f = 0x19) (hi : hdr f 1 1 = i) :
    d.leaderAlive i f = { d with ring := { d.ring with aliveSeen := true } } := if_pos (by simp [hr, hf, hk, hs, hi])

theorem Dev.leaderAlive_other {d : Dev} (hr : d.ring.role ≠ 5) (i : Nat) (f : List Byte) : d.leaderAlive i f = d := if_neg (by simp [hr])

/-- Settles O37: the head that begins to follow (`Dev.Follows`), a cycle frame and an ENUM frame on a following segment, and LEADER_ALIVE. -/
theorem followersForward : Obligations.FollowersForward := by
  intro s i f n x
  refine ⟨fun h1 h3 h0 hi hv => ?_, fun h10 hr hv => ?_, fun h10 hr hf hv hi hk he => ?_, fun hf hk hs hi => ?_⟩
  · refine completes_act_core (f := fun d => d.followerFrame i f) rfl fun d hd _ => ?_
    rw [Dev.followerFrame_listening h1 h3 h0 hv] at hd
    have hfol := (n.forwards i f).follows
    have hst (j : Nat) : ((n.forwards i f).ring.seg j).state = (n.ring.seg j).state := by
      by_cases hj : j = i
      · rw [hj]
        exact (congrArg Segment.state (Dev.seg_onSeg_same (Dev.lt_of_state (by rw [h1]; decide)) _)).trans rfl
      · rw [Dev.forwards, Dev.seg_onSeg_ne _ _ hj]
    rw [Dev.ring_of_core hd]
    refine ⟨Dev.ringOnly_of_offFrames ((Dev.offFrames_of_core hd).trans hfol.rest), fun j hj h => ?_, ?_⟩
    · rw [hfol.contending j hj (by rwa [hst])]
      rfl
    · rw [hfol.contending i hi (by rw [hst]; exact Or.inl h1), Dev.forwards, Dev.seg_onSeg_same (Dev.lt_of_state (by rw [h1]; decide)),
        Dev.followWrite_id (Or.inl (by rw [h1]; decide))]
      rfl
  · refine completes_act_core (f := fun d => d.followerFrame i f) rfl fun d hd _ => ?_
    rw [Dev.followerFrame_cycle h10 hr hv, Dev.followCycle, if_neg (by rw [Dev.forwards]; simp [Dev.onSeg, Ring.onSeg, hr])] at hd
    have hlt : i < n.ring.segs.length := Dev.lt_of_state (by rw [h10]; decide)
    have hring (j : Nat) : d.ring.seg j = (n.forwards i f).ring.seg j := (congrArg (fun x => x.ring.seg j) hd).trans rfl
    refine ⟨?_, fun j hj => ?_, ?_, ?_⟩
    · have htu : d.tu = _ := (congrArg (fun x => x.tu) hd :)
      rw [Dev.Is, Dev.ring_of_core hd, htu]
      exact hd.trans rfl
    · rw [hring, Dev.forwards, Dev.seg_onSeg_ne _ _ hj]
    · rw [hring, Dev.forwards, Dev.seg_onSeg_same hlt, Dev.followWrite_id (Or.inr (by rw [frameKind_of_cycle hv]; decide))]
      rfl
    · exact (congrArg (fun x => x.tu.merN0) hd).trans (congrArg (fun x => x.ring.leaderCycle) hd).symm
  · refine completes_act_core (f := fun d => d.followerFrame i f) rfl fun d hd _ => ?_
    have hlt : i < n.ring.segs.length := Dev.lt_of_state (by rw [h10]; decide)
    have hp := (n.forwards i f).ring_positioned i (frameHop f + 1)
    rw [Dev.followerFrame_enum h10 hr hf hv hi hk he] at hd
    have hseg (j : Nat) : d.ring.seg j = ((n.forwards i f).onSeg i (fun s => { s with cfgPos := frameHop f + 1 })).ring.seg j := by
      unfold Ring.seg
      rw [Dev.ring_of_core hd, hp]
    have hii := hseg i
    rw [Dev.forwards, Dev.onSeg_onSeg, Dev.seg_onSeg_same hlt, Dev.followWrite_enum h10 hf hv hi hk he] at hii
    rw [hii]
    refine ⟨rfl, h10, fun j hj => ?_, rfl⟩
    rw [hseg, Dev.forwards, Dev.onSeg_onSeg, Dev.seg_onSeg_ne _ _ hj]
  · refine completes_does (f := fun d => d.leaderAlive i f) rfl ⟨fun hr => ?_, fun hr => ?_⟩
    · exact Dev.leaderAlive_standby hr hf hk hs hi
    · exact Dev.leaderAlive_other hr i f

end Sys2Proof.Machine

/-! PROOFS. The standby in silence and at its takeover (R327, R329, Table 10.8): what the plan, the Meridian and the launch leave of the ring and of the axes' commands. -/

namespace Sys2Proof.Machine

open Sys2Proof

/-- The core holds the cycle in progress and how far it is. -/
theorem Dev.progress_of_core {d e : Dev} (h : d.core = e.core) : d.ctl.progress = e.ctl.progress := (congrArg (fun x => x.ctl.progress) h :)

theorem Tab.mem_of_find {α : Type} {t : Tab α} {k : Nat} {a : α} (h : Tab.find t k = some a) : (k, a) ∈ t := by
  induction t with
  | nil => cases h
  | cons e t ih =>
    obtain ⟨j, b⟩ := e
    unfold Tab.find at h
    split at h
    next hj =>
      cases h
      exact hj ▸ List.mem_cons_self
    next => exact List.mem_cons_of_mem _ (ih h)

/-! ## Silence -/

/-- A device with other slot statistics. -/
def Dev.withStats (d : Dev) (t : Tab SlotStat) : Dev := { d with ring := { d.ring with stats := t } }

theorem Dev.missAll_eq (l : List Nat) (d : Dev) : ∃ t, l.foldl (fun (d : Dev) i => { d with ring := d.ring.missSlots i true }) d = d.withStats t := by
  induction l generalizing d with
  | nil => exact ⟨d.ring.stats, rfl⟩
  | cons i l ih =>
    obtain ⟨t, ht⟩ := ih { d with ring := d.ring.missSlots i true }
    exact ⟨t, ht⟩

/-- The standby's device after one more silent cycle. -/
def Dev.stillSilent (d : Dev) (t : Tab SlotStat) : Dev := { d with ring := { d.ring with stats := t, silent := d.ring.silent + 1 } }

theorem Dev.silenceCheck_heard {d : Dev} (hr : d.ring.role = 5) (hh : d.ring.frameSeen = true ∨ d.ring.aliveSeen = true) :
    d.silenceCheck = { d with ring := { d.ring with silent := 0, frameSeen := false, aliveSeen := false } } := by
  unfold Dev.silenceCheck
  rw [if_neg (not_not.mpr hr), if_pos (by simpa using hh)]

theorem Dev.silenceCheck_silent {d : Dev} (hr : d.ring.role = 5) (hf : d.ring.frameSeen = false) (ha : d.ring.aliveSeen = false) : ∃ t, d.silenceCheck =
    if d.ring.silent + 1 = d.prm pMISS_TAKEOVER ∧ d.ring.twin ≠ 3 then (d.stillSilent t).emit (evC srcDevice eTAKEOVER_REFUSED) else d.stillSilent t := by
  obtain ⟨t, ht⟩ := Dev.missAll_eq d.segNos d
  refine ⟨t, ?_⟩
  unfold Dev.silenceCheck
  rw [if_neg (not_not.mpr hr), if_neg (by simp [hf, ha]), ht]
  refine if_congr ?_ rfl rfl
  rw [Bool.and_eq_true, decide_eq_true_eq, decide_eq_true_eq]
  exact Iff.rfl

/-! ## What a Meridian leaves of the segments' states and of the axes' commands -/

/-- The command of an axis in its output block, and whether it repeats. -/
def Axis.command (ax : Axis) : Bool × OutCmd := (ax.stale, ax.out)

/-- The ring without its segments' contents, the segments' states, and the axes' commands. -/
def Dev.standing (d : Dev) : Ring × (Nat → Nat) × List (Bool × OutCmd) :=
  ({ d.ring with segs := [], aliveSent := [] }, fun j => (d.ring.seg j).state, d.motion.axes.map (fun e => e.2.command))

theorem Dev.standing_of_core {d e : Dev} (h : d.core = e.core) : d.standing = e.standing := show d.core.standing = e.core.standing from congrArg Dev.standing h

theorem Dev.standing_foldl {α : Type} {f : Dev → α → Dev} (h : ∀ d x, (f d x).standing = d.standing) (l : List α) (d : Dev) : (l.foldl f d).standing = d.standing := by
  induction l generalizing d with
  | nil => rfl
  | cons x l ih => rw [List.foldl_cons, ih, h]

/-- Axes that keep their commands. -/
theorem Dev.standing_axes (d : Dev) {t : Tab Axis} (h : t.map (fun e => e.2.command) = d.motion.axes.map (fun e => e.2.command)) :
    ({ d with motion := { d.motion with axes := t } } : Dev).standing = d.standing := by
  simp only [Dev.standing, h]

theorem Dev.standing_mapAll (d : Dev) {f : Nat → Axis → Axis} (h : ∀ a ax, (f a ax).command = ax.command) :
    ({ d with motion := { d.motion with axes := Tab.mapAll d.motion.axes f } } : Dev).standing = d.standing := by
  refine d.standing_axes ?_
  rw [Tab.mapAll, List.map_map]
  exact List.map_congr_left fun e _ => h e.1 e.2

theorem Dev.standing_onAxis (d : Dev) (a : Nat) {f : Axis → Axis} (h : ∀ ax, (f ax).command = ax.command) : (d.onAxis a f).standing = d.standing := by
  refine d.standing_axes ?_
  rw [Tab.upd, List.map_map]
  refine List.map_congr_left fun e _ => ?_
  dsimp only [Function.comp]
  split
  · exact h e.2
  · rfl

@[simp] theorem Dev.standing_emit (d : Dev) (e : Ev) : (d.emit e).standing = d.standing := Dev.standing_of_core (Dev.core_emit d e)
@[simp] theorem Dev.standing_emits (d : Dev) (es : List Ev) : (d.emits es).standing = d.standing := Dev.standing_of_core (Dev.core_emits d es)
@[simp] theorem Dev.standing_onEngine (d : Dev) (e : Nat) (f : Engine → Engine) : (d.onEngine e f).standing = d.standing := rfl

theorem Dev.standing_onSeg (d : Dev) (i : Nat) {f : Segment → Segment} (h : ∀ s, (f s).state = s.state) : (d.onSeg i f).standing = d.standing := by
  have hs : (fun j => ((d.onSeg i f).ring.seg j).state) = fun j => (d.ring.seg j).state := by
    funext j
    rw [show (d.onSeg i f).ring.seg j = _ from Ring.seg_onSeg d.ring i j f]
    split
    · exact h _
    · rfl
  rw [Dev.standing, hs]
  rfl

/-! ### The pace plan -/

@[simp] theorem Dev.standing_retract (d : Dev) (a cause : Nat) : (d.retract a cause).standing = d.standing := by
  unfold Dev.retract
  split
  · split
    · exact d.standing_onAxis a fun _ => rfl
    · rfl
  · rfl

@[simp] theorem Dev.standing_carryAll (d : Dev) (cs : List (Nat × Nat × Int)) : (d.carryAll cs).standing = d.standing := by
  refine Dev.standing_foldl (fun d c => ?_) cs d
  unfold Dev.carrySet
  extract_lets i
  split
  · exact d.standing_onAxis i fun _ => rfl
  · split <;> rfl

theorem Dev.standing_planAxis (d : Dev) (old : Tab (Nat × Nat)) (a : Nat) (e : Nat × Nat) : (d.planAxis old a e).standing = d.standing := by
  unfold Dev.planAxis
  split
  · refine (Dev.standing_onAxis _ a ?_).trans ?_
    · exact fun _ => rfl
    · rfl
  next o _ =>
    split
    · rfl
    · extract_lets o1 o2 d1
      have h1 : d1.standing = d.standing := by
        refine (Dev.standing_onAxis _ a ?_).trans ?_
        · exact fun _ => rfl
        · rfl
      split
      · exact h1
      · rw [Dev.standing_emit, Dev.standing_retract]
        refine (Dev.standing_onAxis d1 a ?_).trans h1
        exact fun _ => rfl

theorem Dev.standing_moveBackgrounds (d : Dev) (old new : List Nat) : (d.moveBackgrounds old new).standing = d.standing := by
  refine Dev.standing_foldl (fun d x => ?_) _ d
  split <;> rfl

theorem Dev.standing_shedAxis (d : Dev) (a : Nat) : (d.shedAxis a).standing = d.standing := by
  unfold Dev.shedAxis
  split
  · rfl
  · split
    · rfl
    · extract_lets d1 d2 d3
      have h1 : d1.standing = d.standing := d.standing_onAxis a fun _ => rfl
      rw [Dev.standing_emits]
      exact (Dev.standing_retract d1 a 3).trans h1

theorem Dev.standing_planInForce (d : Dev) (p : PacePlan) : (d.planInForce p).standing = d.standing := by
  unfold Dev.planInForce
  extract_lets old d1 d2 d3 d4 d5 turned p6 d6 d7 c8 d8
  have h1 : d1.standing = d.standing := by rw [Dev.standing_carryAll, Dev.phaseAll, Dev.standing_carryAll]
  have h2 : d2.standing = d1.standing := Dev.standing_foldl (fun d (c : Nat × Nat × Int) => Dev.standing_retract d (c.1 % 16777216) 1) _ _
  have h3 : d3.standing = d2.standing := Dev.standing_foldl (fun d (x : Nat × Nat × Nat) => Dev.standing_planAxis d old x.1 x.2) _ _
  have h4 : d4.standing = d3.standing := Dev.standing_moveBackgrounds d3 _ _
  have h5 : d5.standing = d4.standing := by
    dsimp only [d5]
    split <;> rfl
  have h6 : d6.standing = d5.standing := rfl
  have h7 : d7.standing = d6.standing := Dev.standing_foldl Dev.standing_shedAxis _ _
  have h8 : d8.standing = d7.standing := by
    dsimp only [d8]
    split <;> rfl
  refine (Dev.standing_mapAll d8 ?_).trans ?_
  · exact fun _ _ => rfl
  rw [h8, h7, h6, h5, h4, h3, h2, h1]

/-! ### The launch -/

@[simp] theorem Dev.standing_launchOn (d : Dev) (n i : Nat) : (d.launchOn n i).standing = d.standing := by
  unfold Dev.launchOn
  extract_lets s so f d1
  split
  · exact Dev.standing_onSeg d i fun _ => rfl
  · exact Dev.standing_onSeg d i fun _ => rfl

@[simp] theorem Dev.standing_aliveOn (d : Dev) (n i : Nat) : (d.aliveOn n i).standing = d.standing := by
  unfold Dev.aliveOn
  extract_lets s f
  split
  · exact Dev.standing_onSeg d i (f := fun s => { s with seq := incWrap 16 s.seq }) fun _ => rfl
  · rfl

/-- The launch leaves the states and commands as they are; one cycle of a takeover's sixteen has gone. -/
theorem Dev.standing_launchAll (d : Dev) (n : Nat) : (d.launchAll n).standing = ({ d.standing.1 with takeoverLeft := d.standing.1.takeoverLeft - 1 }, d.standing.2) := by
  have h : (d.segNos.foldl (fun d i => d.aliveOn n i) (d.segNos.foldl (fun d i => d.launchOn n i) d)).standing = d.standing := by
    rw [Dev.standing_foldl fun d i => d.standing_aliveOn n i, Dev.standing_foldl fun d i => d.standing_launchOn n i]
  have hm := (Dev.standing_mapAll _ (f := fun _ ax => ax.atLaunch) fun _ _ => rfl).trans h
  exact congrArg (fun x => (({ x.1 with takeoverLeft := x.1.takeoverLeft - 1 } : Ring), x.2)) hm

/-! ### The Meridian -/

theorem Axis.command_newCycle (ax : Axis) (plan : Tab (Nat × Nat)) (a : Nat) : (ax.newCycle plan a).command = ax.command := by
  unfold Axis.newCycle
  extract_lets x
  cases h : ax.refShift <;> simp [x, h, Axis.command, Axis.shiftRef]

theorem Ring.seg_mapSegs (r : Ring) {f : Segment → Segment} (h : f {} = {}) (j : Nat) : ({ r with segs := r.segs.map f } : Ring).seg j = f (r.seg j) := by
  unfold Ring.seg
  dsimp only
  conv_lhs => rw [← h]
  exact List.getD_map ..

theorem Dev.standing_newCycle (d : Dev) (n : Nat) : (d.newCycle n).standing = ({ d.standing.1 with highCycle := n }, d.standing.2) := by
  have hr : (d.newCycle n).ring = { ({ d.ring with segs := d.ring.segs.map Segment.newCycle } : Ring) with highCycle := n } := by
    unfold Dev.newCycle Dev.atMeridian
    split <;> rfl
  have ha : (d.newCycle n).motion.axes = Tab.mapAll d.motion.axes (fun a ax => ax.newCycle (d.atMeridian n).pace.plan.place a) := by
    unfold Dev.newCycle Dev.atMeridian
    split <;> rfl
  refine Prod.ext ?_ (Prod.ext ?_ ?_)
  · exact (congrArg (fun r : Ring => ({ r with segs := [], aliveSent := [] } : Ring)) hr).trans rfl
  · funext j
    exact (congrArg (fun r : Ring => (r.seg j).state) hr).trans ((congrArg Segment.state (Ring.seg_mapSegs d.ring (f := Segment.newCycle) rfl j)).trans rfl :)
  · exact (congrArg (fun t : Tab Axis => t.map (fun e => e.2.command)) ha).trans (congrArg (fun x => x.2.2) (Dev.standing_mapAll d fun a ax => ax.command_newCycle _ a))

/-! ## The Plates of the silent cycles -/

theorem Dev.motion_takeoverPlates (k n : Nat) (d : Dev) : (d.takeoverPlates k n).motion = d.motion := by
  induction k generalizing d n with
  | zero => rfl
  | succ k ih => exact (ih (n + 1) _).trans rfl

theorem Dev.ring_takeoverPlates (k n : Nat) (d : Dev) : ∃ b, (d.takeoverPlates k n).ring = { d.ring with freshLead := b } := by
  induction k generalizing d n with
  | zero => exact ⟨d.ring.freshLead, rfl⟩
  | succ k ih =>
    obtain ⟨b, hb⟩ := ih (n + 1) (Dev.publishPlate { d with ctl := { d.ctl with cycle := n, commands := 0, batches := 0 } })
    exact ⟨b, hb⟩

/-- The last of the Plates is of the last of their cycles. -/
theorem Dev.published_takeoverPlates (k n : Nat) (d : Dev) : (d.takeoverPlates (k + 1) n).ctl.published = n + k := by
  induction k generalizing d n with
  | zero => rfl
  | succ k ih => exact (ih (n + 1) _).trans (by omega)

/-! ## The takeover (Table 10.8) -/

/-- The ring of the new leader and its axes' repeated commands. -/
def Dev.takesOver (d : Dev) : Dev :=
  Dev.takeoverStale { d with ring := d.ring.takeOver (d.ring.leaderCycle + d.prm pMISS_TAKEOVER + 1), si := d.si.takeOver (d.prm pMISS_TAKEOVER) } (d.prm pMISS_TAKEOVER)

/-- The new leader begins its first cycle `n` with the plan of it. -/
def Dev.leadsAt (d : Dev) (n : Nat) : Dev :=
  let e := d.planInForce (d.makePlan n).1
  (Dev.newCycle { e with ctl := { e.ctl with running := true, tapply := e.tApplyOf e.runAhead } } n).packSlots.launchAll n

theorem Dev.takeover_ready {d : Dev} (hr : d.ring.role = 5) (ht : d.ring.twin = 3) (hm : d.prm pMISS_TAKEOVER ≤ d.ring.silent) :
    d.takeover = ((d.takesOver.takeoverPlates (d.prm pMISS_TAKEOVER) (d.ring.leaderCycle + 1)).leadsAt (d.ring.leaderCycle + d.prm pMISS_TAKEOVER + 1)).emit (evC srcDevice eTAKEOVER) := by
  unfold Dev.takeover
  extract_lets m l n
  rw [if_neg (by simp [m, hr, ht, hm])]
  dsimp only [Dev.leadsAt, Dev.takesOver, m, l, n]

theorem Dev.takeover_not {d : Dev} (h : d.ring.role ≠ 5 ∨ d.ring.twin ≠ 3 ∨ d.ring.silent < d.prm pMISS_TAKEOVER) : d.takeover = d := by
  unfold Dev.takeover
  extract_lets m l n
  refine if_pos ?_
  simp only [Bool.not_eq_true', Bool.and_eq_false_iff, decide_eq_false_iff_not]
  omega

theorem Dev.standing_leadsAt (d : Dev) (n : Nat) :
    ∃ sl, (d.leadsAt n).standing = ({ d.standing.1 with highCycle := n, slots := sl, takeoverLeft := d.ring.takeoverLeft - 1 }, d.standing.2) := by
  unfold Dev.leadsAt
  extract_lets e
  have he : ({ e with ctl := { e.ctl with running := true, tapply := e.tApplyOf e.runAhead } } : Dev).standing = d.standing := d.standing_planInForce _
  generalize ({ e with ctl := { e.ctl with running := true, tapply := e.tApplyOf e.runAhead } } : Dev) = x at he
  have hp : (x.newCycle n).packSlots.standing = ({ (x.newCycle n).standing.1 with slots := (x.newCycle n).packSlots.ring.slots }, (x.newCycle n).standing.2) := rfl
  refine ⟨(x.newCycle n).packSlots.ring.slots, ?_⟩
  rw [Dev.standing_launchAll, hp, Dev.standing_newCycle, he]
  rfl

/-- The first cycle of the new leader. -/
theorem Dev.ctl_leadsAt (d : Dev) (n : Nat) : (d.leadsAt n).ctl.running = true ∧ (d.leadsAt n).ctl.cycle = n ∧ (d.leadsAt n).ctl.published = d.ctl.published := by
  obtain ⟨e, t, he, hl⟩ : ∃ (e : Dev) (t : Nat), e.marks = d.marks ∧
      (d.leadsAt n).marks = { e.marks with ctl := ({ e.ctl with running := true, tapply := t } : Ctl).progress.newCycle n, highCycle := n } := by
    refine ⟨d.planInForce (d.makePlan n).1, (d.planInForce (d.makePlan n).1).tApplyOf (d.planInForce (d.makePlan n).1).runAhead, Dev.marks_planInForce _ _, ?_⟩
    unfold Dev.leadsAt
    extract_lets e
    rw [Dev.marks_launchAll, Dev.marks_packSlots, Dev.marks_newCycle]
    rfl
  generalize d.leadsAt n = x at hl
  exact ⟨(congrArg (fun m => m.ctl.running) hl :), (congrArg (fun m => m.ctl.cycle) hl :), (congrArg (fun m => m.ctl.published) hl :).trans (congrArg (fun m => m.ctl.published) he :)⟩

/-- What stands of the ring and the axes where the new leader's first cycle begins. -/
theorem Dev.standing_takesOver (d : Dev) (k n : Nat) : ∃ b, (d.takesOver.takeoverPlates k n).standing =
    ({ d.takesOver.standing.1 with freshLead := b }, fun j => ((d.ring.seg j).taken (d.ring.leaderCycle + d.prm pMISS_TAKEOVER + 1)).state, d.takesOver.standing.2.2) := by
  obtain ⟨b, hb⟩ := Dev.ring_takeoverPlates k n d.takesOver
  refine ⟨b, Prod.ext ?_ (Prod.ext ?_ ?_)⟩
  · exact (congrArg (fun r : Ring => ({ r with segs := [], aliveSent := [] } : Ring)) hb).trans rfl
  · funext j
    refine (congrArg (fun r : Ring => (r.seg j).state) hb).trans ?_
    exact ((congrArg Segment.state (Ring.seg_mapSegs d.ring (f := fun s => s.taken (d.ring.leaderCycle + d.prm pMISS_TAKEOVER + 1)) rfl j)).trans rfl :)
  · exact congrArg (fun x : Motion => x.axes.map (fun e => e.2.command)) (Dev.motion_takeoverPlates k n d.takesOver)

/-- Every axis repeats its command with AGE `m`. -/
theorem Dev.commands_takesOver (d : Dev) {c : Bool × OutCmd} (h : c ∈ d.takesOver.standing.2.2) : c.1 = true ∧ c.2.stale = true ∧ c.2.age = d.prm pMISS_TAKEOVER := by
  obtain ⟨e, he, rfl⟩ := List.mem_map.mp h
  obtain ⟨x, -, rfl⟩ := List.mem_map.mp he
  exact ⟨rfl, rfl, rfl⟩

/-- Settles O39: the ring and the commands that stand through the plan, the Meridian and the launch of the new leader (`Dev.standing_leadsAt`), and its cycle marks. -/
theorem silenceAndTakeover : Obligations.SilenceAndTakeover := by
  intro s n m
  refine ⟨fun hr hh => ?_, fun hr hf ha _ => ?_, fun hr ht h1 hm => ?_, fun h => ?_⟩
  · refine completes_act_core rfl fun d hd _ => ?_
    rw [Dev.silenceCheck_heard hr hh] at hd
    exact hd
  · obtain ⟨t, ht⟩ := Dev.silenceCheck_silent hr hf ha
    refine completes_act_core rfl fun d hd hrep => ?_
    rw [ht] at hd hrep
    have hc : d.core = (n.stillSilent t).core := by
      rw [hd]
      split
      · exact Dev.core_emit _ _
      · rfl
    refine ⟨?_, fun hs h3 => hrep ?_⟩
    · rw [Dev.Is, Dev.ring_of_core hc]
      exact hc
    · rw [if_pos ⟨hs, h3⟩]
      exact Dev.reports_emit _ (evC srcDevice eTAKEOVER_REFUSED) fun h => by cases h
  · refine completes_act_core rfl fun d hd hrep => ?_
    rw [Dev.takeover_ready hr ht hm] at hd hrep
    obtain ⟨b, hs⟩ := n.standing_takesOver m (n.ring.leaderCycle + 1)
    have hp : (n.takesOver.takeoverPlates m (n.ring.leaderCycle + 1)).ctl.published = n.ring.leaderCycle + m := by
      obtain ⟨k, hk⟩ : ∃ k, m = k + 1 := ⟨m - 1, by omega⟩
      rw [hk, Dev.published_takeoverPlates]
      omega
    generalize n.takesOver.takeoverPlates m (n.ring.leaderCycle + 1) = x at hd hrep hs hp
    obtain ⟨sl, hx⟩ := x.standing_leadsAt (n.ring.leaderCycle + m + 1)
    obtain ⟨hrun, hcyc, hpub⟩ := x.ctl_leadsAt (n.ring.leaderCycle + m + 1)
    generalize x.leadsAt (n.ring.leaderCycle + m + 1) = y at hd hrep hx hrun hcyc hpub
    have hstd : d.standing = _ := (Dev.standing_of_core hd).trans ((Dev.standing_emit _ _).trans hx)
    have hctl : d.ctl.progress = y.ctl.progress := Dev.progress_of_core (hd.trans (Dev.core_emit _ _))
    have hleft : x.ring.takeoverLeft = 16 := (congrArg (fun y => y.1.takeoverLeft) hs).trans rfl
    rw [hs, hleft] at hstd
    have hring := congrArg Prod.fst hstd
    refine ⟨(congrArg Ring.role hring).trans rfl, (congrArg Ring.tookOver hring).trans rfl, (congrArg Ring.standbyPresent hring).trans rfl, (congrArg Ring.takeoverCnt hring).trans rfl,
      (congrArg Ring.takeoverLeft hring).trans rfl, (congrArg Ctl.running hctl :).trans hrun, (congrArg Ctl.cycle hctl :).trans hcyc, (congrArg Ctl.published hctl :).trans (hpub.trans hp), fun j hj => ?_, fun a ax hax => ?_, ?_⟩
    · refine (congrArg (fun y => y.2.1 j) hstd).trans ?_
      exact congrArg Segment.state (if_pos hj)
    · have hmem : ax.command ∈ d.standing.2.2 := List.mem_map.mpr ⟨(a, ax), Tab.mem_of_find hax, rfl⟩
      rw [hstd] at hmem
      exact n.commands_takesOver hmem
    · exact hrep (Dev.reports_emit _ (evC srcDevice eTAKEOVER) fun h => by cases h)
  · refine completes_act rfl ?_
    rw [Dev.takeover_not h]
    exact Dev.satCheck_same _ _ rfl

end Sys2Proof.Machine

/-! PROOFS. The standby behind its leader (R327, R328, Table 10.7): the cycle that a TWIN frame begins, the twin state, and the Plate of a computed cycle. -/

namespace Sys2Proof.Machine

open Sys2Proof

/-! ## More steps that leave the Seal's bystanders alone -/

@[simp] theorem Dev.bystanders_changed (d : Dev) (a cause : Nat) : (d.changed a cause).bystanders = d.bystanders := by
  rw [Dev.changed, Dev.bystanders_refresh, Dev.bystanders_retract]

theorem Dev.bystanders_stepperCond (d : Dev) (a code : Nat) : (d.stepperCond a code).bystanders = d.bystanders := by
  unfold Dev.stepperCond
  split
  · rfl
  · exact (Dev.bystanders_emit _ _).trans rfl

theorem Dev.bystanders_regChannel (d : Dev) (n c : Nat) : (d.regChannel n c).bystanders = d.bystanders := by
  unfold Dev.regChannel
  split
  · rfl
  · extract_lets a put off
    split
    · rfl
    · split
      · extract_lets r d1 d2
        have h2 : d2.bystanders = d.bystanders := by
          dsimp only [d2]
          split <;> rfl
        split
        · rfl
        · split
          · rfl
          · split
            · exact h2
            · rw [Dev.bystanders_refresh]
              exact h2
      · rfl

theorem Dev.bystanders_regChannels (d : Dev) : d.regChannels.bystanders = d.bystanders := Dev.bystanders_foldl (fun d c => d.bystanders_regChannel _ c) _ d

theorem Dev.bystanders_deliverAt (d : Dev) (a n : Nat) (ax : Axis) : (d.deliverAt a n ax).bystanders = d.bystanders := by
  unfold Dev.deliverAt
  extract_lets o cam final r nc ax1
  split
  · rfl
  · rw [Dev.bystanders_ephemeris, Dev.bystanders_emits, Dev.bystanders_onAxis]

theorem Dev.bystanders_deliver (d : Dev) (a : Nat) : (d.deliver a).bystanders = d.bystanders := by
  unfold Dev.deliver
  split
  · rfl
  · extract_lets n d1 ax
    split
    · rfl
    · split
      · exact (Dev.bystanders_deliverAt _ _ _ _).trans d.bystanders_advance
      · split
        · exact (Dev.bystanders_deliverAt _ _ _ _).trans d.bystanders_advance
        · exact d.bystanders_advance

theorem Dev.bystanders_stepUpdate (d : Dev) (a : Nat) : (d.stepUpdate a).bystanders = d.bystanders := by
  unfold Dev.stepUpdate
  split
  · extract_lets n r nc s1
    split
    · rfl
    · exact (Dev.bystanders_emits _ _).trans rfl
  · rfl

/-! ## Safety's posts and the inputs -/

theorem Dev.bystanders_safeServo (d : Dev) (a : Nat) : (d.safeServo a).bystanders = d.bystanders := by
  unfold Dev.safeServo
  split
  · rfl
  · extract_lets off
    split
    · rfl
    · split
      · exact (Dev.bystanders_changed _ _ _).trans rfl
      · rfl

theorem Dev.bystanders_safeStepper (d : Dev) (a : Nat) : (d.safeStepper a).bystanders = d.bystanders := by
  unfold Dev.safeStepper
  split
  · rfl
  · extract_lets off d1
    split
    · exact (Dev.bystanders_stepperCond _ _ _).trans rfl
    · rfl

theorem Dev.bystanders_limitServo (d : Dev) (a : Nat) : (d.limitServo a).bystanders = d.bystanders := by
  unfold Dev.limitServo
  split
  · rfl
  · extract_lets l cap r ev d1
    have h1 : d1.bystanders = d.bystanders := (Dev.bystanders_changed _ _ _).trans ((Dev.bystanders_emits _ _).trans rfl)
    split
    · rfl
    · split
      · exact (Dev.bystanders_limitOrr _ _ _).trans h1
      · exact h1

/-- The ring and the control plane without what a cycle's computation works on. -/
def Dev.duty (d : Dev) : Ring × Ctl := (d.bystanders.ring, d.bystanders.ctl)

theorem Dev.duty_of_bystanders {d e : Dev} (h : d.bystanders = e.bystanders) : d.duty = e.duty := congrArg (fun x : Dev => (x.ring, x.ctl)) h

theorem Dev.duty_safetyAt (d : Dev) : d.safetyAt.duty = d.duty := by
  unfold Dev.safetyAt
  extract_lets as d1 d2
  have h2 : d2.bystanders = d.bystanders :=
    (Dev.bystanders_foldl Dev.bystanders_limitServo _ _).trans ((Dev.bystanders_foldl Dev.bystanders_safeStepper _ _).trans (Dev.bystanders_foldl Dev.bystanders_safeServo _ d))
  exact (rfl : _ = d2.duty).trans (Dev.duty_of_bystanders h2)

theorem Dev.duty_makeSteps (d : Dev) : d.makeSteps.duty = d.duty := Dev.duty_of_bystanders ((Dev.bystanders_emits _ _).trans rfl)

theorem Dev.duty_takeInputs (d : Dev) : ∃ c, d.takeInputs.duty = (d.duty.1, { d.duty.2 with gathered := true, missed := c }) :=
  ⟨_, Dev.duty_of_bystanders ((Dev.bystanders_regChannels _).trans (Dev.bystanders_advance d.fed))⟩

/-- A cycle of the standby without records: begun, with its inputs gathered. -/
theorem Dev.duty_twinCycle (d : Dev) (k : Nat) : ∃ c, (d.twinCycle k []).duty = ((d.newCycle k).duty.1, { (d.newCycle k).duty.2 with gathered := true, missed := c }) := by
  obtain ⟨c, hc⟩ := (d.newCycle k).safetyAt.makeSteps.duty_takeInputs
  refine ⟨c, ?_⟩
  rw [Dev.duty_makeSteps, Dev.duty_safetyAt] at hc
  exact hc

/-! ## The computation and its Plate -/

theorem Dev.bystanders_twinPass (d : Dev) (a pass : Nat) : (d.twinPass a pass).bystanders = d.bystanders := by
  unfold Dev.twinPass
  split
  · rfl
  · extract_lets T n p w
    split
    · exact (Dev.bystanders_emits _ _).trans rfl
    · rfl

theorem Dev.bystanders_twinServo (d : Dev) (a : Nat) : (d.twinServo a).bystanders = d.bystanders := by
  unfold Dev.twinServo
  split
  · rfl
  · extract_lets n split next d1
    split
    · rfl
    · rw [Dev.bystanders_onAxis]
      show (if _ then _ else _ : Dev).bystanders = _
      split
      · rw [Dev.bystanders_twinPass, Dev.bystanders_deliver, Dev.bystanders_twinPass, Dev.bystanders_deliver]
      · rw [Dev.bystanders_twinPass, Dev.bystanders_deliver]

theorem Dev.bystanders_packed (d : Dev) : d.packSlots.placeTouts.bystanders = d.bystanders := rfl

/-- The computation of a cycle seals it. -/
theorem Dev.bystanders_twinCompute (d : Dev) :
    d.twinCompute.bystanders = ({ d with ctl := { d.ctl with running := false, first := false, sealed := true } } : Dev).bystanders := by
  unfold Dev.twinCompute
  extract_lets c d1 d2 d3 d4 _
  have h1 : d1.bystanders = ({ d with ctl := { d.ctl with running := true, first := false } } : Dev).bystanders := Dev.bystanders_advance _
  have h2 : d2.bystanders = d1.bystanders := Dev.bystanders_foldl Dev.bystanders_twinServo _ d1
  have h3 : d3.bystanders = d2.bystanders := Dev.bystanders_foldl (fun d a => (Dev.bystanders_sealStepper _ a).trans (d.bystanders_stepUpdate a)) _ d2
  have h4 : d4.bystanders = d3.bystanders := d3.bystanders_packed
  clear_value d4
  exact congrArg (fun x : Dev => ({ x with ctl := { x.ctl with running := false, sealed := true } } : Dev).bystanders) (h4.trans (h3.trans (h2.trans h1)))

/-- A gathered cycle that is not sealed is computed, and its Plate published (R328). -/
theorem Dev.standbySeal_due {d : Dev} (hr : d.ring.role = 5) (hg : d.ctl.gathered = true) (hs : d.ctl.sealed = false) : d.standbySeal = d.twinCompute.publishPlate := by
  unfold Dev.standbySeal
  rw [if_neg (not_not.mpr hr), if_pos (by simp [hg, hs])]

theorem Dev.standbySeal_other {d : Dev} (hr : d.ring.role ≠ 5) : d.standbySeal = d := if_pos hr

/-- No cycle is due while the leader's is the next one. -/
theorem Dev.standbySeal_early {d : Dev} (hr : d.ring.role = 5) (hs : d.ctl.sealed = true) (hq : d.ring.silent = 0) (hl : d.ring.leaderCycle ≤ d.ctl.cycle + 1) : d.standbySeal = d := by
  unfold Dev.standbySeal
  rw [if_neg (not_not.mpr hr), if_neg (by simp [hs]), if_neg (by simpa [Dev.twinLate, hs, hq] using hl)]

/-! ## The twin state -/

/-- The twin state's own changes: the ring but for its role, and events. -/
def Dev.TwinMoved (d e : Dev) : Prop := ∃ r : Ring, e.core = ({ d with ring := r } : Dev).core ∧ r.role = d.ring.role ∧ r.twinSeen = d.ring.twinSeen

theorem Dev.TwinMoved.refl (d : Dev) : d.TwinMoved d := ⟨d.ring, rfl, rfl, rfl⟩

theorem Dev.twinMoved_ring (d : Dev) {r : Ring} (h : r.role = d.ring.role) (hs : r.twinSeen = d.ring.twinSeen) : d.TwinMoved { d with ring := r } := ⟨r, rfl, h, hs⟩

theorem Dev.twinMoved_diverged (d : Dev) (cause : Nat) : d.TwinMoved (d.diverged cause) := ⟨_, Dev.core_emit _ _, rfl, rfl⟩

theorem Dev.twinMoved_twinDigest (d : Dev) (k axis digest : Nat) : d.TwinMoved (d.twinDigest k axis digest) := by
  unfold Dev.twinDigest
  extract_lets bad ok d1
  split
  · exact d.twinMoved_diverged 1
  · split
    · exact .refl d
    · split
      · exact ⟨_, Dev.core_emit _ _, rfl, rfl⟩
      · exact d.twinMoved_ring rfl rfl

/-- The device with the TWIN frame seen. -/
def Dev.twinHeard (d : Dev) : Dev := { d with ring := { d.ring with twinSeen := true } }

theorem Dev.twinMoved_twinStep (d : Dev) (k : Nat) (f : List Byte) : d.twinHeard.TwinMoved (d.twinStep k f) := by
  unfold Dev.twinStep
  extract_lets gen d1
  split
  · exact d.twinHeard.twinMoved_ring rfl rfl
  · split
    · split
      · exact ⟨_, Dev.core_emit _ _, rfl, rfl⟩
      · split
        · exact d.twinHeard.twinMoved_diverged 4
        · exact d.twinHeard.twinMoved_twinDigest k _ _
    · exact .refl d.twinHeard

theorem Dev.twinStep_filling {d : Dev} (h : d.ring.twin = 1) (k : Nat) (f : List Byte) :
    d.twinStep k f = { d.twinHeard with ring := d.twinHeard.ring.fill (pay f 52 4) (pay f 60 4) (pay f 58 2) } := if_pos h

/-- Another IMAGE_GEN in VERIFYING or READY is a divergence of cause 3. -/
theorem Dev.twinStep_otherImage {d : Dev} (h : d.ring.twin = 2 ∨ d.ring.twin = 3) (k : Nat) {f : List Byte} (hg : pay f 52 4 ≠ d.ring.imageGen) :
    d.twinStep k f = Dev.diverged { d.twinHeard with ring := { d.twinHeard.ring with imageGen := pay f 52 4 } } 3 := by
  unfold Dev.twinStep
  extract_lets gen r d1
  rw [if_neg (show ¬d1.ring.twin = 1 from fun h1 => by have : d.ring.twin = 1 := h1; omega), if_pos (show (d1.ring.twin = 2 || d1.ring.twin = 3) = true by simpa using h),
    if_pos (show gen ≠ d1.ring.imageGen from hg)]
  rfl

/-- The refresh that fills the image (R327). -/
theorem Ring.twin_fill (r : Ring) (gen ofs len : Nat) :
    (r.fill gen ofs len).twin = if (ofs = 0 ∨ (r.refDone = true ∧ gen = r.imageGen ∧ ofs = r.refOfs)) ∧ Config.twinLen ≤ ofs + len then 2 else 1 := by
  unfold Ring.fill
  refine if_congr ?_ rfl rfl
  simp [and_assoc]

/-! ## O38 -/

theorem Dev.twinFrameIn_due {d : Dev} {f : List Byte} (hr : d.ring.role = 5) (hf : fcsOk f = true) (hk : frameKind f = 3) (hs : service f = 0x18) (hi : hdr f 1 1 = d.twinSeg)
    (hl : d.ctl.cycle < pay f 44 8) (hn : pay f 56 2 = 0) : d.twinFrameIn f = (d.twinCycle (pay f 44 8) []).twinStep (pay f 44 8) f := by
  unfold Dev.twinFrameIn
  extract_lets k n
  rw [if_neg (by simp [k, hr, hf, hk, hs, hi, hl]), show n = 0 from hn]
  rfl

theorem Dev.twinFrameIn_other {d : Dev} {f : List Byte} (h : d.ring.role ≠ 5 ∨ pay f 44 8 ≤ d.ctl.cycle) : d.twinFrameIn f = d := by
  unfold Dev.twinFrameIn
  extract_lets k n
  refine if_pos ?_
  rcases h with h | h
  · simp [h]
  · simp [k, Nat.not_lt.mpr h]

/-- The ring and the marks of a cycle of the standby that a TWIN frame without records begins. -/
theorem Dev.twinCycle_begins (d : Dev) (k : Nat) : (d.twinCycle k []).ctl.cycle = k ∧ (d.twinCycle k []).ctl.gathered = true ∧ (d.twinCycle k []).ctl.sealed = false ∧
    ∃ sg sl, (d.twinCycle k []).ring = { d.ring with segs := sg, slots := sl, highCycle := k } := by
  obtain ⟨c, hc⟩ := d.duty_twinCycle k
  have hn : (d.newCycle k).duty = ({ d.ring with segs := d.ring.segs.map Segment.newCycle, highCycle := k, slots := [] }, (d.newCycle k).bystanders.ctl) ∧
      (d.newCycle k).bystanders.ctl.cycle = k ∧ (d.newCycle k).bystanders.ctl.sealed = false := by
    unfold Dev.newCycle Dev.atMeridian
    split <;> exact ⟨rfl, rfl, rfl⟩
  obtain ⟨h1, h2, h3⟩ := hn
  rw [h1] at hc
  generalize d.twinCycle k [] = x at hc
  refine ⟨(congrArg (fun y => y.2.cycle) hc).trans h2, (congrArg (fun y => y.2.gathered) hc), (congrArg (fun y => y.2.sealed) hc).trans h3, d.ring.segs.map Segment.newCycle, x.ring.slots, ?_⟩
  exact (congrArg (fun y => { y.1 with slots := x.ring.slots }) hc :)

/-- Settles O38: the cycle that the frame begins (`Dev.twinCycle_begins`), the twin state that it moves (`Dev.twinMoved_twinStep`), and the computation behind a Plate (`Dev.bystanders_twinCompute`). -/
theorem standbyTracks : Obligations.StandbyTracks := by
  intro s f n k gen ofs len
  refine ⟨fun hr hf hk hs hi hl hn => ?_, fun h => ?_, fun hr hg hs => ?_, fun hr => ?_, fun hr hs hq hl => ?_⟩
  · refine completes_act_core (f := fun d => d.twinFrameIn f) rfl fun d hd _ => ?_
    rw [Dev.twinFrameIn_due hr hf hk hs hi hl hn] at hd
    obtain ⟨hcyc, hgat, hsea, sg, sl, hring⟩ := n.twinCycle_begins k
    change d.core = ((n.twinCycle k []).twinStep k f).core at hd
    generalize n.twinCycle k [] = x at hd hcyc hgat hsea hring
    obtain ⟨r, hr1, hrole, hseen⟩ := x.twinMoved_twinStep k f
    have hp : d.ctl.progress = x.ctl.progress := (Dev.progress_of_core (hd.trans hr1)).trans rfl
    have hdr : d.ring = r := Dev.ring_of_core (hd.trans hr1)
    have hxr : x.twinHeard.ring.role = 5 := (congrArg Ring.role hring :).trans hr
    refine ⟨(congrArg Ctl.cycle hp :).trans hcyc, (congrArg Ctl.gathered hp :).trans hgat, (congrArg Ctl.sealed hp :).trans hsea, hdr ▸ hseen, hdr ▸ hrole.trans hxr, fun h1 => ?_, fun h23 hg => ?_⟩
    · rw [Dev.twinStep_filling ((congrArg Ring.twin hring :).trans h1)] at hd
      have ht : d.ring.twin = (x.twinHeard.ring.fill gen ofs len).twin := congrArg Ring.twin (Dev.ring_of_core hd)
      rw [Ring.twin_fill, show x.twinHeard.ring.refDone = n.ring.refDone from (congrArg Ring.refDone hring :), show x.twinHeard.ring.imageGen = n.ring.imageGen from (congrArg Ring.imageGen hring :),
        show x.twinHeard.ring.refOfs = n.ring.refOfs from (congrArg Ring.refOfs hring :)] at ht
      exact ⟨(congrArg Ring.imageGen (Dev.ring_of_core hd) :), fun h => ht.trans (if_pos h), fun h => ht.trans (if_neg h)⟩
    · have htwin : x.ring.twin = n.ring.twin := (congrArg Ring.twin hring :)
      rw [Dev.twinStep_otherImage (by rwa [htwin]) k (by rw [show x.ring.imageGen = n.ring.imageGen from (congrArg Ring.imageGen hring :)]; exact hg)] at hd
      have hdiv := Dev.ring_of_core (hd.trans (Dev.core_emit _ _))
      exact ⟨(congrArg Ring.twin hdiv :), (congrArg Ring.imageGen hdiv :)⟩
  · refine completes_act (f := fun d => d.twinFrameIn f) rfl ?_
    rw [Dev.twinFrameIn_other h]
    exact Dev.satCheck_same _ _ rfl
  · refine completes_act_core rfl fun d hd _ => ?_
    rw [Dev.standbySeal_due hr hg hs] at hd
    have hb := n.bystanders_twinCompute
    generalize n.twinCompute = x at hd hb
    have hp : d.ctl.progress = x.publishPlate.ctl.progress := Dev.progress_of_core hd
    have hc : x.ctl.cycle = n.ctl.cycle := (congrArg (fun y => y.ctl.cycle) hb :)
    exact ⟨(congrArg Ctl.published hp :).trans hc, (congrArg Ctl.sealed hp :).trans (congrArg (fun y => y.ctl.sealed) hb :), (congrArg Ctl.cycle hp :).trans hc,
      (congrArg Ctl.running hp :).trans (congrArg (fun y => y.ctl.running) hb :), (congrArg Ring.role (Dev.ring_of_core hd)).trans ((congrArg (fun y => y.ring.role) hb :).trans hr)⟩
  · refine completes_act rfl ?_
    rw [Dev.standbySeal_other hr]
    exact Dev.satCheck_same _ _ rfl
  · refine completes_act rfl ?_
    rw [Dev.standbySeal_early hr hs hq hl]
    exact Dev.satCheck_same _ _ rfl

end Sys2Proof.Machine

/-! PROOFS. Late joiners and the end of a re-initialisation's notice (R321 to R323): the acyclic frames that a row issues, the timing that segments keep, and ENUM. -/

namespace Sys2Proof.Machine

open Sys2Proof

/-! ## Rows that touch segments alone -/

/-- From `d` to `e` nothing but the segments changes. -/
def Dev.OnlySegs (d e : Dev) : Prop := e = { d with ring := { d.ring with segs := e.ring.segs } }

theorem Dev.OnlySegs.refl (d : Dev) : d.OnlySegs d := rfl

theorem Dev.OnlySegs.trans {a b c : Dev} (h : a.OnlySegs b) (k : b.OnlySegs c) : a.OnlySegs c := by
  unfold Dev.OnlySegs at h k ⊢
  rw [h] at k
  exact k

theorem Dev.onlySegs_onSeg (d : Dev) (i : Nat) (f : Segment → Segment) : d.OnlySegs (d.onSeg i f) := rfl

theorem Dev.onlySegs_acyclic (d : Dev) (i svc dest : Nat) (p : List Byte) : d.OnlySegs (d.acyclic i svc dest p) := rfl

theorem Dev.onlySegs_foldl {α : Type} {g : Dev → α → Dev} (hg : ∀ (d : Dev) x, d.OnlySegs (g d x)) (l : List α) (d : Dev) : d.OnlySegs (l.foldl g d) := by
  induction l generalizing d with
  | nil => exact .refl d
  | cons x l ih => exact (hg d x).trans (ih (g d x))

theorem Dev.OnlySegs.is {n e d : Dev} (h : n.OnlySegs e) (hd : d.core = e.core) : d.Is { n with ring := { n.ring with segs := d.ring.segs } } := by
  rw [Dev.Is, Dev.ring_of_core hd]
  exact hd.trans (congrArg Dev.core h)

/-! ## Acyclic frames -/

/-- The segment with an acyclic frame made for it: on the ring where there is no quiet window, else waiting. -/
def Segment.issues (f : List Byte) (s : Segment) : Segment :=
  if s.bringUp then { s with seq := incWrap 16 s.seq, sent := s.sent ++ [f] } else { s with seq := incWrap 16 s.seq, queue := s.queue ++ [f] }

theorem Segment.issues_bringUp {s : Segment} (h : s.bringUp = true) (f : List Byte) : s.issues f = { s with seq := incWrap 16 s.seq, sent := s.sent ++ [f] } := if_pos h

theorem Segment.issues_waits {s : Segment} (h : s.bringUp = false) (f : List Byte) : s.issues f = { s with seq := incWrap 16 s.seq, queue := s.queue ++ [f] } := if_neg (by simp [h])

theorem Dev.near_acyclic (d : Dev) (i svc dest : Nat) (p : List Byte) : Dev.Near i d (d.acyclic i svc dest p) := Dev.near_onSeg d i _

theorem Dev.seg_acyclic {d : Dev} {i : Nat} (hi : i < d.ring.segs.length) (svc dest : Nat) (p : List Byte) :
    ∃ l, (d.acyclic i svc dest p).ring.seg i = (d.ring.seg i).issues (acyclicFrame l i (d.ring.seg i).mapGen svc dest (incWrap 16 (d.ring.seg i).seq) p) :=
  ⟨_, Dev.seg_onSeg_same hi _⟩

/-- A frame that needs no quiet window is on the ring. -/
theorem Dev.sent_acyclic {d : Dev} {i : Nat} (hb : (d.ring.seg i).bringUp = true) (svc dest : Nat) (p : List Byte) : (d.acyclic i svc dest p).Sent i svc dest p := by
  have hi : i < d.ring.segs.length := Ring.lt_of_seg_ne fun he => by rw [he] at hb; cases hb
  obtain ⟨l, hl⟩ := Dev.seg_acyclic hi svc dest p
  rw [Segment.issues_bringUp hb] at hl
  refine ⟨l, ?_⟩
  rw [hl]
  exact List.mem_append_right _ List.mem_cons_self

/-- Any other frame waits for one. -/
theorem Dev.queued_acyclic {d : Dev} {i : Nat} (hi : i < d.ring.segs.length) (hb : (d.ring.seg i).bringUp = false) (svc dest : Nat) (p : List Byte) :
    (d.acyclic i svc dest p).Queued i svc dest p := by
  obtain ⟨l, hl⟩ := Dev.seg_acyclic hi svc dest p
  rw [Segment.issues_waits hb] at hl
  refine ⟨l, ?_⟩
  rw [hl]
  exact List.mem_append_right _ List.mem_cons_self

theorem Dev.Sent.of_seg {d e : Dev} {i svc dest : Nat} {p : List Byte} (h : e.Sent i svc dest p) (hs : d.ring.seg i = e.ring.seg i) : d.Sent i svc dest p := by
  unfold Dev.Sent
  rw [hs]
  exact h

theorem Dev.Queued.of_seg {d e : Dev} {i svc dest : Nat} {p : List Byte} (h : e.Queued i svc dest p) (hs : d.ring.seg i = e.ring.seg i) : d.Queued i svc dest p := by
  unfold Dev.Queued
  rw [hs]
  exact h

/-! ## What CONFIG says (R303, Table 10.3) -/

/-- The delays measured on a segment. -/
def Segment.timing (s : Segment) : Nat × Nat := (s.tRing, s.tCring)

/-- Two devices with the same delays and nothing different outside the segments, the Safety Island and the host's part. -/
structure Dev.Timed (d e : Dev) : Prop where
  rest : d.offFrames = e.offFrames
  timing : ∀ j, (d.ring.seg j).timing = (e.ring.seg j).timing

namespace Dev.Timed

variable {d e : Dev} (h : Dev.Timed d e)

include h

theorem segNos : d.segNos = e.segNos := (congrArg Dev.segNos h.rest :)

theorem ctl : d.core.ctl = e.core.ctl := (congrArg Dev.ctl h.rest :)

theorem tcyc : d.tcyc = e.tcyc := (congrArg Dev.tcyc h.rest :)

theorem runAhead : d.runAhead = e.runAhead := (congrArg Dev.runAhead h.rest :)

theorem prm (id : Nat) : d.prm id = e.prm id := (congrArg (fun x => x.prm id) h.rest :)

theorem tringMax : d.tringMax = e.tringMax := by
  have hl : d.segNos.map (fun i => (d.ring.seg i).tRing) = d.segNos.map (fun i => (e.ring.seg i).tRing) := List.map_congr_left fun j _ => congrArg Prod.fst (h.timing j)
  unfold Dev.tringMax
  rw [hl, h.segNos]

theorem tcringMax : d.tcringMax = e.tcringMax := by
  have hl : d.segNos.map (fun i => (d.ring.seg i).tCring) = d.segNos.map (fun i => (e.ring.seg i).tCring) := List.map_congr_left fun j _ => congrArg Prod.snd (h.timing j)
  unfold Dev.tcringMax
  rw [hl, h.segNos]

theorem tcl : d.tcl = e.tcl := by
  have hc : d.corrTurn = e.corrTurn := (congrArg Dev.corrTurn h.rest :)
  rw [Dev.tcl, Dev.tcl, h.tringMax, hc]

theorem tApplyOf (b : Bool) : d.tApplyOf b = e.tApplyOf b := by
  rw [Dev.tApplyOf, Dev.tApplyOf, h.tcl, h.tringMax, h.tcringMax, h.prm]

/-- The payload of CONFIG rests on the delays, the map, the safety configuration, and the node. -/
theorem configOf {i pos : Nat} (hsi : d.si.conf = e.si.conf) (hm : (d.ring.seg i).mapGen = (e.ring.seg i).mapGen) (hw : (d.ring.seg i).nodeWd = (e.ring.seg i).nodeWd)
    (hn : ((d.ring.seg i).node pos).col = ((e.ring.seg i).node pos).col) : d.configOf i pos = e.configOf i pos := by
  have hs (b : Bool) : d.safeSlots i pos b = e.safeSlots i pos b := by
    unfold Dev.safeSlots
    rw [hsi]
  have hmap : d.ring.map = e.ring.map := (congrArg (fun x => x.ring.map) h.rest :)
  have hstb : d.ring.standbyPresent = e.ring.standbyPresent := (congrArg (fun x => x.ring.standbyPresent) h.rest :)
  unfold Dev.configOf configPayload
  dsimp only
  rw [h.tcyc, h.prm, h.runAhead, h.tApplyOf, hs, hs, hm, hw, hn, hmap, hstb]

end Dev.Timed

/-! ## ENUM -/

/-- A segment that begins ENUM: its nodes ABSENT, and nothing launched or waiting (R301). -/
def Segment.enumerating (s : Segment) : Segment :=
  { s.absent with queue := [], sent := [], cfgPos := 0, cfgTries := 0, pairs := 0, losses := 0, rtSum := 0, t0Sum := 0, fSums := [],
                  lastMeas := none, retry := false, mail := none, mailNext := none, testDue := false }

/-- The payload of an ENUM frame as the head launches it (R301). -/
def enumRequest : List Byte := [96, 0, 0, 0] ++ zeroBytes (32 * 96)

theorem Dev.near_enumStart (d : Dev) (i : Nat) : Dev.Near i d (d.enumStart i) := (d.near_enter_onSeg i 3 Segment.enumerating).trans (Dev.near_acyclic _ i _ _ _)

section

variable {d : Dev} {i : Nat} (hi : i < d.ring.segs.length)

include hi

theorem Dev.bringUp_enumerating : (((d.enter i 3).onSeg i Segment.enumerating).ring.seg i).bringUp = true := by
  rw [Dev.seg_enter_onSeg hi]
  rfl

theorem Dev.seg_enumStart : ∃ f, (d.enumStart i).ring.seg i = { ((d.ring.seg i).entered 3).enumerating with seq := incWrap 16 (d.ring.seg i).seq, sent := [f] } := by
  obtain ⟨l, hl⟩ := Dev.seg_acyclic (d := (d.enter i 3).onSeg i Segment.enumerating) (by simpa using hi) 0x11 0xFF enumRequest
  rw [Segment.issues_bringUp (Dev.bringUp_enumerating hi), Dev.seg_enter_onSeg hi] at hl
  exact ⟨_, hl⟩

theorem Dev.sent_enumStart : (d.enumStart i).Sent i 0x11 0xFF enumRequest := Dev.sent_acyclic (Dev.bringUp_enumerating hi) _ _ _

end

/-! ## JOIN_POLL (R322) -/

/-- JOIN_POLL on one segment. -/
def Dev.joinPollOn (d : Dev) (i : Nat) : Dev := if (d.ring.seg i).state = 7 then d.acyclic i 0x15 0xFF (zeroBytes 44) else d

theorem Dev.near_joinPollOn (d : Dev) (i : Nat) : Dev.Near i d (d.joinPollOn i) := by
  unfold Dev.joinPollOn
  split
  · exact d.near_acyclic i _ _ _
  · exact .refl d

theorem Dev.onlySegs_joinPollOn (d : Dev) (i : Nat) : d.OnlySegs (d.joinPollOn i) := by
  unfold Dev.joinPollOn
  split
  · exact d.onlySegs_acyclic i _ _ _
  · exact .refl d

theorem Segment.not_bringUp_run {s : Segment} (h : s.state = 7) : s.bringUp = false := by
  unfold Segment.bringUp
  simp [h]

theorem fieldLE_payBytes (f : List Byte) {o k p w : Nat} (h : p + w ≤ k) : fieldLE (payBytes f o k) p w = pay f (o + p) w := by
  unfold payBytes pay fieldLE
  rw [List.drop_take, List.drop_drop, List.take_take, Nat.min_eq_left (by omega), show 14 + o + p = 14 + (o + p) by omega]

theorem take_payBytes (f : List Byte) {o k w : Nat} (h : w ≤ k) : (payBytes f o k).take w = payBytes f o w := by
  rw [payBytes, List.take_take, Nat.min_eq_left h, payBytes]

/-- A response area that is not all zeros is a joiner's. -/
theorem Dev.joinPollFrame_asks {d : Dev} {i : Nat} {f g : List Byte} (ho : (d.ring.seg i).outstanding 0x15 f = some g) (hf : fcsOk f = true)
    (ha : (payBytes f 48 40).all (fun b => b = 0) = false) :
    d.joinPollFrame i f = d.onSeg i (fun y => { y with sent := y.sent.erase g, joinIdent := some (pay f 80 1, payBytes f 48 32) }) := by
  unfold Dev.joinPollFrame
  rw [ho]
  dsimp only
  rw [fieldLE_payBytes f (by omega), take_payBytes f (by omega)]
  simp only [hf, ha]
  rfl

/-! ## JOIN_GRANT (R323) -/

/-- The segment whose joiner's request is answered. -/
def Segment.asked (s : Segment) : Segment := { s with joinIdent := none }

theorem Dev.joinCause_onSeg (d : Dev) {i : Nat} {f : Segment → Segment} (hf : ∀ s, (f s).tRing = s.tRing) (pos ringNs : Nat) (id : List Byte) :
    (d.onSeg i f).joinCause i pos ringNs id = d.joinCause i pos ringNs id := by
  have ht : ((d.onSeg i f).ring.seg i).tRing = (d.ring.seg i).tRing := by
    rw [show (d.onSeg i f).ring.seg i = _ from Ring.seg_onSeg d.ring i i f]
    split
    · exact hf _
    · rfl
  unfold Dev.joinCause
  rw [ht]
  rfl

/-- The spare entries of a join claimed for the joiner. -/
def Dev.spared (d : Dev) (i pos : Nat) : Dev :=
  let g := d.ring.map.granted i
  let es := d.ring.map.entries.map (fun e => if g.contains e.1 then (e.1, { e.2 with node := pos, claimed := true }) else e)
  { d.took with ring := { d.ring with map := { d.ring.map with entries := es } } }

/-- The device with the join granted, before its JOIN_GRANT frame. -/
def Dev.joined (d : Dev) (i pos : Nat) (id : List Byte) : Dev :=
  ((d.spared i pos).layout.onSeg i (fun s => { s with joinCnt := incSat 16 s.joinCnt, devs := s.devs + 1 })).onSeg i
    (fun s => s.onNode pos (fun n => (n.identified id).grant (d.freeVal % 2 ^ 32)))

section

variable {d : Dev} {i pos ringNs : Nat} {id : List Byte} (hj : (d.ring.seg i).joinIdent = some (pos, id)) (hs : (d.ring.seg i).state = 7) (hr : d.ring.role = 3)

include hj hs hr

theorem Dev.joinGrant_refused (hc : d.joinCause i pos ringNs id ≠ 0) :
    d.joinGrant i ringNs = (d.onSeg i Segment.asked).emit (evSeg i eJOIN_REFUSED (leBytes 1 (d.joinCause i pos ringNs id))) := by
  unfold Dev.joinGrant
  rw [hj]
  dsimp only
  rw [if_neg (by simp [hs, hr]), Dev.joinCause_onSeg d (f := fun y => { y with joinIdent := none }) fun _ => rfl]
  split
  next h => exact absurd h hc
  next => rfl

theorem Dev.joinGrant_granted (hc : d.joinCause i pos ringNs id = 0) :
    d.joinGrant i ringNs = (((d.onSeg i Segment.asked).joined i pos id).acyclic i 0x16 pos (((d.onSeg i Segment.asked).joined i pos id).configOf i pos)) := by
  unfold Dev.joinGrant
  rw [hj]
  dsimp only
  rw [if_neg (by simp [hs, hr]), Dev.joinCause_onSeg d (f := fun y => { y with joinIdent := none }) fun _ => rfl, hc]
  rfl

end

/-- The control plane with LAYOUT_GEN moved on, once in a running cycle (R289, R21). -/
def Ctl.laidOut (c : Ctl) : Ctl := if c.running && c.layoutChg then c else { c with layoutGen := incWrap 32 c.layoutGen, layoutChg := true }

theorem Dev.layout_eq (d : Dev) : d.layout = { d with ctl := d.ctl.laidOut } := by
  unfold Dev.layout Ctl.laidOut
  split <;> rfl

theorem Ctl.laidOut_free (c : Ctl) (k : Nat) : ({ c with free := k } : Ctl).laidOut = { c.laidOut with free := k } := by
  unfold Ctl.laidOut
  by_cases h : (c.running && c.layoutChg) = true
  · rw [if_pos (show _ = true from h), if_pos h]
  · rw [if_neg (show ¬_ = true from h), if_neg h]

theorem Dev.ring_layout (d : Dev) : d.layout.ring = d.ring := by rw [Dev.layout_eq]

/-- A grant changes the segment, the spare entries and LAYOUT_GEN. -/
theorem Dev.core_joined (d : Dev) (i pos : Nat) (id : List Byte) : (d.joined i pos id).core =
    ({ d with ring := { d.ring with segs := (d.joined i pos id).ring.segs, map := { d.ring.map with entries := (d.joined i pos id).ring.map.entries } }, ctl := d.layout.ctl } : Dev).core := by
  have hc : (d.spared i pos).ctl.laidOut = { d.ctl.laidOut with free := d.ctl.free + 1 } := Ctl.laidOut_free d.ctl _
  unfold Dev.joined
  rw [Dev.layout_eq, Dev.layout_eq, hc]
  rfl

theorem Dev.seg_joined {d : Dev} {i : Nat} (hi : i < d.ring.segs.length) (pos : Nat) (id : List Byte) : (d.joined i pos id).ring.seg i =
    ({ d.ring.seg i with joinCnt := incSat 16 (d.ring.seg i).joinCnt, devs := (d.ring.seg i).devs + 1 } : Segment).onNode pos
      (fun n => (n.identified id).grant (d.freeVal % 2 ^ 32)) := by
  unfold Dev.joined
  rw [Dev.onSeg_onSeg, Dev.seg_onSeg_same (by rw [Dev.ring_layout]; exact hi), Dev.ring_layout]
  rfl

theorem Dev.seg_joined_ne (d : Dev) {i j : Nat} (hj : j ≠ i) (pos : Nat) (id : List Byte) : (d.joined i pos id).ring.seg j = d.ring.seg j := by
  unfold Dev.joined
  rw [Dev.onSeg_onSeg, Dev.seg_onSeg_ne _ _ hj, Dev.ring_layout]
  rfl

/-! ## The end of the notice (R321) -/

/-- The segment that carries no cycle frame any more, with its parameters in force. -/
def Segment.noticed (mode wd : Nat) (s : Segment) : Segment := { s with linkMode := mode, nodeWd := wd, reinitLeft := none, launched := [], corrLaunched := [] }

/-- Without a pending map the notice's end brings the segment's parameters, and ENUM. -/
theorem Dev.noticeEnd_enum {d : Dev} {i : Nat} (hs : (d.ring.seg i).state = 9) (hl : (d.ring.seg i).reinitLeft = some 0) (hm : d.ring.mapPending = none) (ho : d.outOfsOk i = true) :
    ∃ c mode wd, d.noticeEnd i = (Dev.onSeg { d with ctl := c } i (Segment.noticed mode wd)).enumStart i := by
  have hb : (d.segParams i).mapBegin [i] = d.segParams i := by
    unfold Dev.mapBegin
    rw [show (d.segParams i).ring.mapPending = none from hm]
  unfold Dev.noticeEnd
  extract_lets s e
  obtain ⟨c, mode, wd, he⟩ : ∃ c mode wd, e = Dev.onSeg { d with ctl := c } i (Segment.noticed mode wd) := by
    dsimp only [e]
    rw [hb]
    unfold Dev.segParams
    dsimp only
    rw [Dev.onSeg_onSeg]
    exact ⟨_, _, _, rfl⟩
  rw [if_pos (by simp [s, hs, hl]), he]
  exact ⟨c, mode, wd, if_pos ho⟩

/-- Settles O34: JOIN_POLL on every running segment (`Dev.swept_foldl`), the joiner's identity, the refusal and the grant, and the segment that enters ENUM. -/
theorem ringJoins : Obligations.RingJoins := by
  intro s i ringNs pos f g id hroom n x
  refine ⟨fun hr hi hs => ?_, fun ho hf ha => ?_, fun hj hs hr hc => ?_, fun hj hs hr hc => ?_, fun hs hl hm ho => ?_⟩
  · refine completes_act_core rfl fun d hd _ => ?_
    rw [show n.joinPollAll = n.segNos.foldl Dev.joinPollOn n from if_pos hr] at hd
    have hsw := Dev.swept_foldl Dev.near_joinPollOn n.segNos_nodup n
    have hseg (j : Nat) : d.ring.seg j = (n.segNos.foldl Dev.joinPollOn n).ring.seg j := by rw [Dev.ring_of_core hd]
    refine ⟨(Dev.onlySegs_foldl Dev.onlySegs_joinPollOn _ n).is hd, fun j hj => ?_, ?_⟩
    · rw [hseg]
      by_cases hm : j ∈ n.segNos
      · obtain ⟨y, -, hy, he⟩ := hsw.each j hm
        rw [he, Dev.joinPollOn, if_neg (by rw [hy]; exact fun h => hj ⟨hm, h⟩), hy]
      · exact hsw.others j hm
    · obtain ⟨y, -, hy, he⟩ := hsw.each i hi
      have hys : (y.ring.seg i).state = 7 := by rw [hy]; exact hs
      refine Dev.Queued.of_seg ?_ ((hseg i).trans he)
      rw [Dev.joinPollOn, if_pos hys]
      exact Dev.queued_acyclic (Dev.lt_of_state (by omega)) (Segment.not_bringUp_run hys) _ _ _
  · refine completes_act_core (f := fun d => (d.onward i false f).joinPollFrame i f) rfl fun d hd _ => ?_
    obtain ⟨w, hw⟩ := n.seg_onward i false f
    rw [Dev.joinPollFrame_asks (by rw [hw]; exact ho) hf ha] at hd
    exact hd
  · refine completes_act_core (f := fun d => d.joinGrant i ringNs) rfl fun d hd hrep => ?_
    rw [Dev.joinGrant_refused hj hs hr hc] at hd hrep
    refine ⟨hd.trans (Dev.core_emit _ _), hrep (Dev.reports_emit _ (evSeg i eJOIN_REFUSED _) fun _ => ?_)⟩
    have := hroom
    unfold Dev.EventRoom at this
    exact Nat.lt_of_succ_le this
  · refine completes_act_core (f := fun d => d.joinGrant i ringNs) rfl fun d hd _ => ?_
    rw [Dev.joinGrant_granted hj hs hr hc] at hd
    have hlt : i < n.ring.segs.length := Dev.lt_of_state (by rw [hs]; decide)
    obtain ⟨hX, hXi, hXj⟩ : (n.onSeg i Segment.asked).layout.ctl = n.layout.ctl ∧ (n.onSeg i Segment.asked).ring.seg i = x.asked ∧
        ∀ j, j ≠ i → (n.onSeg i Segment.asked).ring.seg j = n.ring.seg j :=
      ⟨by rw [Dev.layout_eq, Dev.layout_eq]; rfl, Dev.seg_onSeg_same hlt _, fun j hj => Dev.seg_onSeg_ne n _ hj⟩
    have hJ := (n.onSeg i Segment.asked).core_joined i pos id
    have hJi := Dev.seg_joined (d := n.onSeg i Segment.asked) (by simpa using hlt) pos id
    have hJj (j : Nat) (hj : j ≠ i) := ((n.onSeg i Segment.asked).seg_joined_ne hj pos id).trans (hXj j hj)
    rw [hXi] at hJi
    rw [hX] at hJ
    generalize (n.onSeg i Segment.asked).joined i pos id = y at hd hJ hJi hJj
    have hy7 : (y.ring.seg i).state = 7 := by rw [hJi]; exact hs
    have hy : i < y.ring.segs.length := Dev.lt_of_state (by rw [hy7]; decide)
    obtain ⟨l, hl⟩ := Dev.seg_acyclic hy 0x16 pos (y.configOf i pos)
    rw [Segment.issues_waits (Segment.not_bringUp_run hy7)] at hl
    have hq := Dev.queued_acyclic hy (Segment.not_bringUp_run hy7) 0x16 pos (y.configOf i pos)
    have hn := y.near_acyclic i 0x16 pos (y.configOf i pos)
    have ho := y.onlySegs_acyclic i 0x16 pos (y.configOf i pos)
    generalize y.acyclic i 0x16 pos (y.configOf i pos) = z at hd hl hq hn ho
    have hring := Dev.ring_of_core hd
    have hdi : d.ring.seg i = _ := (congrArg (fun r : Ring => r.seg i) hring).trans hl
    have hT : d.Timed y := by
      refine ⟨(Dev.offFrames_of_core hd).trans hn.rest, fun j => ?_⟩
      by_cases hj : j = i
      · rw [hj, hdi]
        rfl
      · rw [hring, hn.others j hj]
    have hcfg : d.configOf i pos = y.configOf i pos :=
      hT.configOf (congrArg (fun w => w.si.conf) (hd.trans (congrArg Dev.core ho)) :) (congrArg Segment.mapGen hdi :) (congrArg Segment.nodeWd hdi :) (congrArg (fun w : Segment => (w.node pos).col) hdi :)
    have hnode : (d.ring.seg i).node pos = _ := (congrArg (fun w : Segment => w.node pos) hdi).trans ((congrArg (fun w : Segment => w.node pos) hJi).trans (Segment.node_onNode_same _ _ _))
    refine ⟨?_, fun j hj => ?_, ?_, ?_, ?_, ?_, ?_, ?_⟩
    · have hc : d.core = ({ n with ring := { n.ring with segs := z.ring.segs, map := { n.ring.map with entries := z.ring.map.entries } }, ctl := n.layout.ctl } : Dev).core := by
        rw [hd, ho]
        exact congrArg (fun w : Dev => { w with ring := { w.ring with segs := z.ring.segs } }) hJ
      rw [Dev.Is, hring]
      exact hc
    · rw [hring, hn.others j hj, hJj j hj]
    · rw [hdi, hJi]
      rfl
    · rw [hdi, hJi]
      rfl
    · rw [hnode]
      rfl
    · rw [hnode]
      rfl
    · rw [hnode]
      rfl
    · rw [hcfg]
      exact hq.of_seg (by rw [hring])
  · refine completes_act_core (f := fun d => d.noticeEnd i) rfl fun d hd _ => ?_
    have hlt : i < n.ring.segs.length := Dev.lt_of_state (by rw [hs]; decide)
    obtain ⟨c, mode, wd, he⟩ := Dev.noticeEnd_enum hs hl hm ho
    rw [he] at hd
    have hn := (Dev.onSeg { n with ctl := c } i (Segment.noticed mode wd)).near_enumStart i
    obtain ⟨g, hg⟩ := Dev.seg_enumStart (d := Dev.onSeg { n with ctl := c } i (Segment.noticed mode wd)) (by simpa using hlt)
    have hsent := Dev.sent_enumStart (d := Dev.onSeg { n with ctl := c } i (Segment.noticed mode wd)) (by simpa using hlt)
    generalize hz : (Dev.onSeg { n with ctl := c } i (Segment.noticed mode wd)).enumStart i = z at hd hn hg hsent
    rw [Dev.ring_of_core hd]
    have hrest : d.offFrames = ({ n with ctl := c } : Dev).offFrames := (Dev.offFrames_of_core hd).trans hn.rest
    refine ⟨?_, fun j hj => ?_, ?_, ?_, ?_⟩
    · exact Dev.ringOnly_of_offFrames (hrest.trans (congrArg (fun y : Dev => ({ n.offFrames with ctl := y.ctl } : Dev)) hrest).symm)
    · exact (hn.others j hj).trans (Dev.seg_onSeg_ne { n with ctl := c } _ hj)
    · rw [hg]
      rfl
    · rw [hg, Dev.seg_onSeg_same (by simpa using hlt)]
      rfl
    · exact hsent.of_seg (by rw [Dev.ring_of_core hd])

end Sys2Proof.Machine

/-! PROOFS. The stages of a ring start (Table 10.4, R46, R48, R303): a segment that fails, the begin of CONFIG, the cycle configuration that does not fit, and room for their events. -/

namespace Sys2Proof.Machine

open Sys2Proof

/-! ## Room for the events of a row (R16) -/

theorem Dev.cycleCnt_emit_le (d : Dev) (e : Ev) : (d.emit e).router.cycleCnt ≤ d.router.cycleCnt + 1 := by
  unfold Dev.emit
  split
  · split
    · exact Nat.le_refl _
    · exact Nat.le_succ _
  · exact Nat.le_succ _

theorem Dev.router_enter (d : Dev) (i st : Nat) : (d.enter i st).router = d.router := by
  obtain ⟨x, h, he⟩ := d.enter_eq i st
  rw [he]
  rfl

/-- The event that segment `j` may still raise: RING_TOO_LONG while it waits for CONFIG, RING_OPEN while it claims and is among those that a row goes on to. -/
def Dev.owedEvent (d : Dev) (rest : List Nat) (j : Nat) : Nat := if (d.ring.seg j).state = 5 ∨ ((d.ring.seg j).state = 2 ∧ j ∈ rest) then 1 else 0

theorem Dev.owedEvent_le (d : Dev) (rest : List Nat) (j : Nat) : d.owedEvent rest j ≤ 1 := by
  unfold Dev.owedEvent
  split <;> omega

/-- The control plane's buffer takes every event that the segments may still raise. -/
def Dev.Budget (d : Dev) (rest : List Nat) : Prop := d.router.cycleCnt + (d.segNos.map (d.owedEvent rest)).sum ≤ 512

theorem Dev.segNos_length_le (d : Dev) : d.segNos.length ≤ 8 := (List.length_filter_le _ _).trans (List.length_range ▸ Nat.le_refl _)

theorem Dev.budget_of_room {d : Dev} (h : d.EventRoom 8) (rest : List Nat) : d.Budget rest := by
  have hs : (d.segNos.map (d.owedEvent rest)).sum ≤ d.segNos.length := by
    have := List.sum_le_card_nsmul (d.segNos.map (d.owedEvent rest)) 1 fun x hx => by
      obtain ⟨j, -, rfl⟩ := List.mem_map.mp hx
      exact d.owedEvent_le rest j
    simpa using this
  have h8 := d.segNos_length_le
  unfold Dev.EventRoom at h
  unfold Dev.Budget
  omega

/-- A step that raises no event and lets no segment owe more. -/
theorem Dev.Budget.mono {d e : Dev} {l m : List Nat} (h : d.Budget l) (hc : e.router.cycleCnt ≤ d.router.cycleCnt) (hn : e.segNos = d.segNos)
    (ho : ∀ j ∈ d.segNos, e.owedEvent m j ≤ d.owedEvent l j) : e.Budget m := by
  have hs : (d.segNos.map (e.owedEvent m)).sum ≤ (d.segNos.map (d.owedEvent l)).sum := List.sum_le_sum ho
  unfold Dev.Budget at h ⊢
  rw [hn]
  omega

/-- A segment that owes an event has room for it. -/
theorem Dev.Budget.room {d : Dev} {l : List Nat} (h : d.Budget l) {i : Nat} (hi : i ∈ d.segNos) (ho : d.owedEvent l i = 1) : d.router.cycleCnt < 512 := by
  have hs := List.sum_map_erase (d.owedEvent l) hi
  unfold Dev.Budget at h
  omega

/-- An event of a segment that owes one, which then owes none. -/
theorem Dev.Budget.spend {d e : Dev} {l : List Nat} (h : d.Budget l) {i : Nat} (hi : i ∈ d.segNos) (ho : d.owedEvent l i = 1) (hn : e.segNos = d.segNos)
    (hc : e.router.cycleCnt ≤ d.router.cycleCnt + 1) (hz : e.owedEvent l i = 0) (hk : ∀ j, j ≠ i → e.owedEvent l j = d.owedEvent l j) : e.Budget l := by
  have hd := List.sum_map_erase (d.owedEvent l) hi
  have he := List.sum_map_erase (e.owedEvent l) hi
  have hr : (d.segNos.erase i).map (e.owedEvent l) = (d.segNos.erase i).map (d.owedEvent l) :=
    List.map_congr_left fun j hj => hk j (d.segNos_nodup.mem_erase_iff.mp hj).1
  rw [hr] at he
  unfold Dev.Budget at h ⊢
  rw [hn]
  omega

/-! ## A segment goes down -/

/-- A segment that is DOWN, with nothing launched or waiting. -/
def Segment.down (s : Segment) : Segment := { s.entered 0 with sent := [], queue := [], reinitLeft := none, reinit := false, launched := [], corrLaunched := [] }

theorem Dev.near_segDown (d : Dev) (i : Nat) : Dev.Near i d (d.segDown i) := d.near_enter_onSeg i 0 _

theorem Dev.seg_segDown (d : Dev) (i : Nat) : ((d.segDown i).ring.seg i).state = 0 ∧ ((d.segDown i).ring.seg i).sent = [] := by
  by_cases hi : i < d.ring.segs.length
  · rw [show (d.segDown i).ring.seg i = (d.ring.seg i).down from Dev.seg_enter_onSeg hi 0 _]
    exact ⟨rfl, rfl⟩
  · have hd : (d.segDown i).ring.seg i = {} := by_contra fun h => hi (by simpa [Dev.segDown] using Ring.lt_of_seg_ne h)
    rw [hd]
    exact ⟨rfl, rfl⟩

theorem Dev.router_segDown (d : Dev) (i : Nat) : (d.segDown i).router = d.router := d.router_enter i 0

/-- A segment goes down with an event. -/
def Dev.shut (d : Dev) (e : Ev) (i : Nat) : Dev := (d.emit e).segDown i

theorem Dev.near_shut (d : Dev) (e : Ev) (i : Nat) : Dev.Near i d (d.shut e i) := (Dev.segKept_emit d e).trans (Dev.near_segDown _ i)

theorem Dev.reports_shut {d : Dev} (hc : d.router.cycleCnt < 512) (e : Ev) (i : Nat) : (d.shut e i).Reports e.code e.src e.args :=
  (Dev.near_segDown _ i).reports (Dev.reports_emit d e fun _ => hc)

theorem Dev.Near.segNos {i : Nat} {d e : Dev} (h : Dev.Near i d e) : e.segNos = d.segNos := (congrArg Dev.segNos h.rest :)

theorem Dev.Budget.shut {d : Dev} {l : List Nat} (h : d.Budget l) {i : Nat} (hi : i ∈ d.segNos) (ho : d.owedEvent l i = 1) (e : Ev) : (d.shut e i).Budget l := by
  have hn := d.near_shut e i
  refine h.spend hi ho hn.segNos ?_ ?_ fun j hj => ?_
  · rw [Dev.shut, Dev.router_segDown]
    exact d.cycleCnt_emit_le e
  · have h0 : ((d.shut e i).ring.seg i).state = 0 := (Dev.seg_segDown (d.emit e) i).1
    exact if_neg (by omega)
  · rw [Dev.owedEvent, Dev.owedEvent, hn.others j hj]

/-! ## CONFIG on a segment (R303) -/

/-- What CONFIG's progress leaves of a segment. -/
def Segment.planned (s : Segment) : Segment := { s with seq := 0, sent := [], queue := [], cfgPos := 0, cfgTries := 0 }

theorem Dev.onlySegs_config (d : Dev) (i pos tries : Nat) : d.OnlySegs (d.config i pos tries) := by
  unfold Dev.config
  extract_lets d1
  split
  · exact (d.onlySegs_onSeg i _).trans (d1.onlySegs_acyclic i _ _ _)
  · exact d.onlySegs_onSeg i _

theorem Dev.segKept_acyclic (d : Dev) (i svc dest : Nat) (p : List Byte) : Dev.SegKept Segment.planned i d (d.acyclic i svc dest p) := by
  refine Dev.segKept_onSeg d fun x => ?_
  split <;> rfl

theorem Dev.segKept_config (d : Dev) (i pos tries : Nat) : Dev.SegKept Segment.planned i d (d.config i pos tries) := by
  unfold Dev.config
  extract_lets d1
  have h1 : Dev.SegKept Segment.planned i d d1 := Dev.segKept_onSeg d fun _ => rfl
  split
  · exact h1.trans (d1.segKept_acyclic i _ _ _)
  · exact h1

/-- The begin of CONFIG on a segment that waits for it. -/
def Dev.configOn (d : Dev) (i : Nat) : Dev := if (d.ring.seg i).state = 5 && (d.ring.seg i).cfgPos = 0 then d.config i 1 1 else d

theorem Dev.segKept_configOn (d : Dev) (i : Nat) : Dev.SegKept Segment.planned i d (d.configOn i) := by
  unfold Dev.configOn
  split
  · exact d.segKept_config i 1 1
  · exact .refl d

theorem Dev.onlySegs_configOn (d : Dev) (i : Nat) : d.OnlySegs (d.configOn i) := by
  unfold Dev.configOn
  split
  · exact d.onlySegs_config i 1 1
  · exact .refl d

/-- CONFIG begins where it can. -/
def Dev.configAll (d : Dev) : Dev := d.segNos.foldl Dev.configOn d

theorem Dev.near_configOn (d : Dev) (i : Nat) : Dev.Near i d (d.configOn i) :=
  let h := d.segKept_configOn i
  ⟨h.rest, h.others, rfl, h.reports⟩

/-- From `d` to `e` the segments keep all but their progress through CONFIG, and those that are not under CONFIG keep that too. -/
structure Dev.Configs (d e : Dev) : Prop where
  rest : e.offFrames = d.offFrames
  planned : ∀ j, (e.ring.seg j).planned = (d.ring.seg j).planned
  others : ∀ j, (d.ring.seg j).state ≠ 5 → e.ring.seg j = d.ring.seg j
  reports : ∀ {c r : Nat} {as : List Byte}, d.Reports c r as → e.Reports c r as
  router : e.router = d.router

theorem Dev.Configs.refl (d : Dev) : d.Configs d := ⟨rfl, fun _ => rfl, fun _ _ => rfl, id, rfl⟩

theorem Dev.Configs.state {d e : Dev} (h : d.Configs e) (j : Nat) : (e.ring.seg j).state = (d.ring.seg j).state := (congrArg Segment.state (h.planned j) :)

theorem Dev.Configs.segNos {d e : Dev} (h : d.Configs e) : e.segNos = d.segNos := (congrArg Dev.segNos h.rest :)

theorem Dev.Configs.timed {d e : Dev} (h : d.Configs e) : e.Timed d := ⟨h.rest, fun j => (congrArg Segment.timing (h.planned j) :)⟩

theorem Dev.configs_configAll (d : Dev) : d.Configs d.configAll := by
  have hs := Dev.swept_foldl Dev.near_configOn d.segNos_nodup d
  have hc (j : Nat) : d.configAll.ring.seg j = d.ring.seg j ∨ ∃ x : Dev, x.ring.seg j = d.ring.seg j ∧ d.configAll.ring.seg j = (x.configOn j).ring.seg j := by
    by_cases hj : j ∈ d.segNos
    · obtain ⟨x, -, hx, he⟩ := hs.each j hj
      exact Or.inr ⟨x, hx, he⟩
    · exact Or.inl (hs.others j hj)
  refine ⟨hs.rest, fun j => ?_, fun j hj => ?_, hs.reports, ?_⟩
  · rcases hc j with h | ⟨x, hx, he⟩
    · rw [h]
    · rw [he, (x.segKept_configOn j).view, hx]
  · rcases hc j with h | ⟨x, hx, he⟩
    · exact h
    · rw [he, Dev.configOn, if_neg (by simp [hx, hj]), hx]
  · exact (congrArg Dev.router (Dev.onlySegs_foldl Dev.onlySegs_configOn d.segNos d) :)

theorem Dev.timed_of_core {d e : Dev} (h : d.core = e.core) : d.Timed e := ⟨Dev.offFrames_of_core h, fun j => by rw [Dev.ring_of_core h]⟩

theorem Dev.Timed.trans {a b c : Dev} (h : a.Timed b) (k : b.Timed c) : a.Timed c := ⟨h.rest.trans k.rest, fun j => (h.timing j).trans (k.timing j)⟩

theorem Dev.Timed.quietOpen {d e : Dev} (h : d.Timed e) (i : Nat) : d.quietOpen i = e.quietOpen i := by
  have hr : (d.ring.seg i).tRing = (e.ring.seg i).tRing := congrArg Prod.fst (h.timing i)
  have hc : (d.ring.seg i).tCring = (e.ring.seg i).tCring := congrArg Prod.snd (h.timing i)
  rw [Dev.quietOpen, Dev.quietOpen, h.runAhead, h.tcl, hr, hc]

/-- The device with other parameters in force. -/
def Dev.withPrm (d : Dev) (p : Params) : Dev := { d with ctl := { d.ctl with prm := p } }

theorem Dev.cycleFits_eq (d : Dev) (p : Params) : d.cycleFits p =
    cycleOk (d.withPrm p).tcyc ((d.withPrm p).prm pSAMPLE_LEAD) ((d.withPrm p).tApplyOf (d.withPrm p).runAhead) (d.withPrm p).tringMax ((d.withPrm p).segNos.map (d.withPrm p).quietOpen) := rfl

/-- Whether a cycle configuration fits rests on the delays (R48). -/
theorem Dev.Timed.cycleFits {d e : Dev} (h : d.Timed e) (p : Params) : d.cycleFits p = e.cycleFits p := by
  have hp : (d.withPrm p).Timed (e.withPrm p) := ⟨congrArg (fun x : Dev => x.withPrm p) h.rest, h.timing⟩
  rw [Dev.cycleFits_eq, Dev.cycleFits_eq, hp.tcyc, hp.prm, hp.runAhead, hp.tApplyOf, hp.tringMax, hp.segNos, List.map_congr_left fun i _ => hp.quietOpen i]

/-! ## The cycle configuration that does not fit (R48) -/

/-- RING_TOO_LONG of one segment. -/
def Dev.tooLong (d : Dev) (i : Nat) : Dev := d.shut (evC (srcSeg i) eRING_TOO_LONG) i

theorem Dev.near_tooLong (d : Dev) (i : Nat) : Dev.Near i d (d.tooLong i) := d.near_shut _ i

theorem Dev.budget_tooLong {l m : List Nat} (hl : l.Nodup) {d : Dev} (h5 : ∀ j ∈ l, j ∈ d.segNos ∧ (d.ring.seg j).state = 5) (hb : d.Budget m) :
    (l.foldl Dev.tooLong d).Budget m ∧ ∀ j ∈ l, (l.foldl Dev.tooLong d).Reports eRING_TOO_LONG (srcSeg j) [] := by
  induction l generalizing d with
  | nil => exact ⟨hb, fun _ h => absurd h List.not_mem_nil⟩
  | cons a l ih =>
    obtain ⟨ha, hll⟩ := List.nodup_cons.mp hl
    obtain ⟨hm, hs⟩ := h5 a List.mem_cons_self
    have hn : Dev.Near a d (d.tooLong a) := d.near_tooLong a
    have ho : d.owedEvent m a = 1 := if_pos (Or.inl hs)
    have hr : (d.tooLong a).Reports eRING_TOO_LONG (srcSeg a) [] := Dev.reports_shut (hb.room hm ho) (evC (srcSeg a) eRING_TOO_LONG) a
    obtain ⟨hb', hrep⟩ := ih hll (d := d.tooLong a) (fun j hj => by
      rw [hn.segNos, hn.others j (fun h => ha (h ▸ hj))]
      exact h5 j (List.mem_cons_of_mem _ hj)) (hb.shut hm ho _)
    refine ⟨hb', fun j hj => ?_⟩
    rcases List.mem_cons.mp hj with rfl | hj
    · exact (Dev.swept_foldl Dev.near_tooLong hll (d.tooLong j)).reports hr
    · exact hrep j hj

theorem Dev.opEnds_host (l : List OpenOp) (r : CmdRes) (d : Dev) : ∃ h, l.foldl (fun d o => d.opEnd (some o) r) d = { d with host := h } := by
  induction l generalizing d with
  | nil => exact ⟨d.host, rfl⟩
  | cons o l ih =>
    obtain ⟨h, he⟩ := d.opEnd_host (some o) r 0
    rw [List.foldl_cons, he]
    exact ih { d with host := h }

/-- From `d` to `e` the cycle configuration has been rejected: the segments measured are DOWN, and the parameters return. -/
structure Dev.Rejects (d e : Dev) : Prop where
  map : e.ring.map = d.ring.map
  prm : e.ctl.prm = cycleBack d.ctl.prmBefore d.ctl.prm
  others : ∀ j, (d.ring.seg j).state ≠ 5 → e.ring.seg j = d.ring.seg j
  outside : ∀ j, j ∉ d.segNos → e.ring.seg j = d.ring.seg j
  downs : ∀ j ∈ d.segNos, (d.ring.seg j).state = 5 → (e.ring.seg j).state = 0
  reports : ∀ {c r : Nat} {as : List Byte}, d.Reports c r as → e.Reports c r as
  told : ∀ {m : List Nat}, d.Budget m → e.Budget m ∧ ∀ j ∈ d.segNos, (d.ring.seg j).state = 5 → e.Reports eRING_TOO_LONG (srcSeg j) []

theorem Dev.rejects_cycleRejected (d : Dev) : d.Rejects d.cycleRejected := by
  unfold Dev.cycleRejected
  extract_lets segs st d1 d2
  obtain ⟨h, he⟩ := Dev.opEnds_host (d.host.openOps.filter (fun o => o.req.op = 0x4012 && o.req.h.kind = 0)) { status := st } d
  have h1 : d1 = { d with host := h } := he
  have hsegs {j : Nat} : j ∈ segs ↔ j ∈ d.segNos ∧ (d.ring.seg j).state = 5 := by simp [segs]
  have hnd : segs.Nodup := d.segNos_nodup.filter _
  have hs : Dev.Swept Dev.tooLong segs d1 d2 := Dev.swept_foldl Dev.near_tooLong hnd d1
  have hb {m : List Nat} (hm : d1.Budget m) : d2.Budget m ∧ ∀ j ∈ segs, d2.Reports eRING_TOO_LONG (srcSeg j) [] :=
    Dev.budget_tooLong hnd (fun j hj => by rw [h1]; exact hsegs.mp hj) hm
  clear_value d2
  rw [h1] at hs hb
  obtain ⟨hprm, -, hmap, -⟩ := Dev.reads_of_offFrames hs.rest
  have hpb : d2.ctl.prmBefore = d.ctl.prmBefore := (congrArg (fun x => x.ctl.prmBefore) hs.rest :)
  refine ⟨hmap, ?_, fun j hj => ?_, fun j hj => ?_, fun j hj h5 => ?_, hs.reports, fun hB => ?_⟩
  · rw [← hpb, ← hprm]
  · exact hs.others j fun hm => hj (hsegs.mp hm).2
  · exact hs.others j fun hm => hj (hsegs.mp hm).1
  · obtain ⟨x, -, -, hx⟩ := hs.each j (hsegs.mpr ⟨hj, h5⟩)
    exact (congrArg Segment.state hx).trans (Dev.seg_segDown _ j).1
  · obtain ⟨hB', hrep⟩ := hb hB
    exact ⟨hB', fun j hj h5 => hrep j (hsegs.mpr ⟨hj, h5⟩)⟩

/-! ## The begin of CONFIG (R46, R48) -/

/-- CONFIG cannot fail to begin: cycles run, a segment is still enumerated or measured, or none waits for CONFIG. -/
def Dev.Quiet (d : Dev) : Prop :=
  d.ctl.running = true ∨ (∃ j ∈ d.segNos, (d.ring.seg j).state = 3 ∨ (d.ring.seg j).state = 4) ∨ ∀ j ∈ d.segNos, (d.ring.seg j).state = 5 → (d.ring.seg j).cfgPos ≠ 0

theorem Dev.configs_configBegin {d : Dev} (h : d.Quiet ∨ d.ringsFit = true) : d.Configs d.configBegin := by
  unfold Dev.configBegin
  split
  · exact .refl d
  next h34 =>
    rw [if_neg]
    · exact d.configs_configAll
    · intro hrej
      simp only [Bool.and_eq_true, Bool.not_eq_true', List.any_eq_true, Bool.or_eq_true, decide_eq_true_eq, not_and, Bool.not_eq_false] at h34 hrej
      obtain ⟨⟨hrun, j, hj, h5, hc⟩, hfit⟩ := hrej
      rcases h with (h | ⟨k, hk, hks⟩ | h) | h
      · rw [h] at hrun
        cases hrun
      · rw [h34 ⟨k, hk, hks⟩] at hrun
        cases hrun
      · exact h j hj h5 hc
      · rw [h] at hfit
        cases hfit

theorem Dev.configBegin_rejects {d : Dev} (h : ¬d.Quiet) (hf : d.ringsFit = false) : d.configBegin = d.cycleRejected := by
  unfold Dev.Quiet at h
  simp only [not_or, not_exists, not_and, not_forall] at h
  obtain ⟨hrun, h34, j, hj, h5, hc⟩ := h
  have hr : d.ctl.running = false := by simpa using hrun
  unfold Dev.configBegin
  rw [if_neg, if_pos]
  · simp only [hr, hf, Bool.not_false, Bool.true_and, Bool.and_true, List.any_eq_true]
    exact ⟨j, hj, by simpa [h5] using hc⟩
  · simp only [hr, Bool.not_false, Bool.and_true, List.any_eq_true, not_exists, not_and]
    exact fun k hk => by simpa using h34 k hk

/-- Whatever becomes of CONFIG, a segment that does not wait for it stays as it is, every event stands, and there is room for those still owed. -/
structure Dev.Goes (d e : Dev) : Prop where
  map : e.ring.map = d.ring.map
  others : ∀ j, (d.ring.seg j).state ≠ 5 → e.ring.seg j = d.ring.seg j
  reports : ∀ {c r : Nat} {as : List Byte}, d.Reports c r as → e.Reports c r as
  budget : ∀ {m : List Nat}, d.Budget m → e.Budget m

theorem Dev.Configs.goes {d e : Dev} (h : d.Configs e) : d.Goes e := by
  refine ⟨(congrArg (fun x => x.ring.map) h.rest :), h.others, h.reports, fun hb => hb.mono (by rw [h.router]) h.segNos fun j _ => ?_⟩
  rw [Dev.owedEvent, Dev.owedEvent, h.state]

theorem Dev.Rejects.goes {d e : Dev} (h : d.Rejects e) : d.Goes e := ⟨h.map, h.others, h.reports, fun hb => (h.told hb).1⟩

theorem Dev.goes_configBegin (d : Dev) : d.Goes d.configBegin := by
  by_cases h : d.Quiet ∨ d.ringsFit = true
  · exact (Dev.configs_configBegin h).goes
  · obtain ⟨hq, hf⟩ := not_or.mp h
    rw [Dev.configBegin_rejects hq (by simpa using hf)]
    exact d.rejects_cycleRejected.goes

/-! ## A segment fails (Table 10.4) -/

/-- The failed segment is DOWN with its event, whatever becomes of the others. -/
theorem Dev.segFail_down {d : Dev} (hc : d.router.cycleCnt < 512) (i : Nat) (e : Ev) :
    ((d.segFail i e).ring.seg i).state = 0 ∧ ((d.segFail i e).ring.seg i).sent = [] ∧ (d.segFail i e).Reports e.code e.src e.args := by
  have hg := (d.shut e i).goes_configBegin
  obtain ⟨hs, hsent⟩ := Dev.seg_segDown (d.emit e) i
  have hi : (d.segFail i e).ring.seg i = (d.shut e i).ring.seg i := hg.others i (show (((d.emit e).segDown i).ring.seg i).state ≠ 5 by omega)
  rw [hi]
  exact ⟨hs, hsent, hg.reports (Dev.reports_shut hc e i)⟩

end Sys2Proof.Machine

/-! PROOFS. What each returned frame of a ring start does to its segment (R301 to R305, Table 10.4). -/

namespace Sys2Proof.Machine

open Sys2Proof

/-! ## A row that ends in a segment's failure -/

/-- Another segment keeps CONFIG from beginning, or cycles run. -/
def Dev.Apart (n : Dev) (i : Nat) : Prop := n.ctl.running = true ∨ ∃ j ∈ n.segNos, j ≠ i ∧ ((n.ring.seg j).state = 3 ∨ (n.ring.seg j).state = 4)

/-- No other segment's CONFIG can fail to begin. -/
def Dev.CalmBut (n : Dev) (i : Nat) : Prop := n.Apart i ∨ ∀ j ∈ n.segNos, j ≠ i → (n.ring.seg j).state = 5 → (n.ring.seg j).cfgPos ≠ 0

/-- Segment `i` of `n` is DOWN with its event; where no CONFIG can fail, nothing but the segments follows. -/
def Dev.Fails (n d : Dev) (i code : Nat) (args : List Byte) : Prop :=
  (n.CalmBut i → d.RingOnly n ∧ ∀ j, j ≠ i → (d.ring.seg j).state = (n.ring.seg j).state) ∧ (d.ring.seg i).state = 0 ∧ (d.ring.seg i).sent = [] ∧ d.Reports code (srcSeg i) args

theorem Dev.quiet_of_apart {n y : Dev} {i : Nat} (h : Dev.Near i n y) (ha : n.Apart i) : y.Quiet := by
  rcases ha with hr | ⟨j, hj, hji, hs⟩
  · exact Or.inl ((congrArg (fun x => x.ctl.running) h.rest :).trans hr)
  · exact Or.inr (Or.inl ⟨j, h.segNos ▸ hj, by rwa [h.others j hji]⟩)

theorem Dev.quiet_of_calmBut {n y : Dev} {i : Nat} (h : Dev.Near i n y) (hi : (y.ring.seg i).state ≠ 5) (hc : n.CalmBut i) : y.Quiet := by
  rcases hc with ha | hc
  · exact Dev.quiet_of_apart h ha
  · refine Or.inr (Or.inr fun j hj h5 => ?_)
    have hji : j ≠ i := fun he => hi (he ▸ h5)
    rw [h.others j hji] at h5 ⊢
    exact hc j (h.segNos ▸ hj) hji h5

/-- A row that ends in a failure leaves its segment DOWN with the event. -/
theorem completes_fails {c : Instr} {s : State} {i code : Nat} {args : List Byte} {f : Dev → Dev} {y : Dev} (hx : exec c s = s.act f) (hf : f s.dev = y.segFail i (evSeg i code args))
    (hy : Dev.Near i s.dev y) (hr : y.router.cycleCnt < 512) : Completes c s (fun d => s.dev.Fails d i code args) := by
  refine completes_act_core hx fun d hd hrep => ?_
  rw [hf] at hd hrep
  obtain ⟨hs, hsent, hev⟩ := Dev.segFail_down hr i (evSeg i code args)
  unfold Dev.Fails
  rw [Dev.ring_of_core hd]
  refine ⟨fun hc => ?_, hs, hsent, hrep hev⟩
  have hn : Dev.Near i s.dev (y.shut (evSeg i code args) i) := hy.trans (Dev.near_shut _ _ _)
  have hq : (y.shut (evSeg i code args) i).Quiet := Dev.quiet_of_calmBut hn (by rw [show ((y.shut (evSeg i code args) i).ring.seg i).state = 0 from (Dev.seg_segDown _ i).1]; decide) hc
  have hcfg := Dev.configs_configBegin (Or.inl hq)
  refine ⟨Dev.ringOnly_of_offFrames ((Dev.offFrames_of_core hd).trans (hcfg.rest.trans hn.rest)), fun j hj => ?_⟩
  exact (hcfg.state j).trans (congrArg Segment.state (hn.others j hj))

theorem Dev.EventRoom.room {d : Dev} {k : Nat} (h : d.EventRoom (k + 1)) : d.router.cycleCnt < 512 := by
  unfold Dev.EventRoom at h
  omega

/-! ## MEASURE and REPORT (R305) -/

/-- The payload of a MEASURE frame. -/
def measureRequest (devs id : Nat) : List Byte := leBytes 1 1 ++ leBytes 1 devs ++ leBytes 2 id

/-- A segment that has a new MEASURE identifier. -/
def Segment.measuring (s : Segment) : Segment := { s with measId := incWrap 16 s.measId, lastMeas := none }

section

variable {d : Dev} {i : Nat}

theorem Dev.lt_of_bringUp (hb : (d.ring.seg i).bringUp = true) : i < d.ring.segs.length := Ring.lt_of_seg_ne fun he => by rw [he] at hb; cases hb

theorem Dev.onlySegs_measure (d : Dev) (i : Nat) : d.OnlySegs (d.measure i) := rfl

theorem Dev.near_measure (d : Dev) (i : Nat) : Dev.Near i d (d.measure i) := (Dev.near_onSeg d i _).trans (Dev.near_acyclic _ i _ _ _)

theorem Dev.measure_eq (d : Dev) (i : Nat) :
    d.measure i = (d.onSeg i Segment.measuring).acyclic i 0x12 0xFF (measureRequest (d.ring.seg i).devs (incWrap 16 (d.ring.seg i).measId)) := by
  have h : d.onSeg i (fun s => { s with measId := incWrap 16 (d.ring.seg i).measId, lastMeas := none }) = d.onSeg i Segment.measuring := by
    rw [d.onSeg_eq_withSeg, d.onSeg_eq_withSeg i Segment.measuring]
    rfl
  exact congrArg (fun e : Dev => e.acyclic i 0x12 0xFF (measureRequest (d.ring.seg i).devs (incWrap 16 (d.ring.seg i).measId))) h

theorem Dev.seg_measure (hb : (d.ring.seg i).bringUp = true) : ∃ f, (d.measure i).ring.seg i = (d.ring.seg i).measuring.issues f := by
  have hi := Dev.lt_of_bringUp hb
  rw [Dev.measure_eq]
  obtain ⟨l, hl⟩ := Dev.seg_acyclic (d := d.onSeg i Segment.measuring) (by simpa using hi) 0x12 0xFF (measureRequest (d.ring.seg i).devs (incWrap 16 (d.ring.seg i).measId))
  rw [Dev.seg_onSeg_same hi] at hl
  exact ⟨_, hl⟩

theorem Dev.sent_measure (hb : (d.ring.seg i).bringUp = true) : (d.measure i).Sent i 0x12 0xFF (measureRequest (d.ring.seg i).devs (incWrap 16 (d.ring.seg i).measId)) := by
  rw [Dev.measure_eq]
  exact Dev.sent_acyclic (by rw [Dev.seg_onSeg_same (Dev.lt_of_bringUp hb)]; exact hb) _ _ _

end

theorem Segment.planned_issues (s : Segment) (f : List Byte) : (s.issues f).planned = s.planned := by
  unfold Segment.issues
  split <;> rfl

theorem Segment.bringUp_of_state {s : Segment} {k : Nat} (h : s.state = k) (h2 : 2 ≤ k) (h5 : k ≤ 5) : s.bringUp = true := by
  unfold Segment.bringUp
  simp [h, h2, h5]

/-! ## ENUM comes back (R302) -/

/-- The device whose ENUM frame `g` is back. -/
def Dev.taken (d : Dev) (i : Nat) (g : List Byte) : Dev := d.onSeg i (fun s => s.took g)

/-- The nodes of a segment with the identity entries of an ENUM frame (R302). -/
def Dev.enumNodes (d : Dev) (i : Nat) (f : List Byte) : Tab Node :=
  (List.range (min (frameHop f) 96)).foldl (fun (t : Tab Node) k => Tab.set t (k + 1) ((Tab.getD t (k + 1) {}).identified (enumIdent f (k + 1)))) (d.ring.seg i).nodes

/-- The device with the standby that its map names. -/
def Dev.withStandby (d : Dev) : Dev := { d with ring := { d.ring with standbyPresent := d.ring.map.standby } }

section

variable {d : Dev} {i : Nat} {f g : List Byte} (hs : (d.ring.seg i).state = 3) (ho : (d.ring.seg i).outstanding 0x11 f = some g) (hf : fcsOk f = true)

include hs ho hf

theorem Dev.enumFrame_bad (hb : d.enumBad i f ≠ 0) : d.enumFrame i f = (d.taken i g).segFail i (evSeg i eRING_MISMATCH (leBytes 2 (d.enumBad i f))) := by
  unfold Dev.enumFrame
  extract_lets s
  rw [show s.outstanding 0x11 f = some g from ho]
  dsimp only
  rw [if_neg (by simp [s, hs, hf])]
  change (match d.enumBad i f with | 0 => _ | p => _) = _
  split
  next h => exact absurd h hb
  next => rfl

theorem Dev.enumFrame_ok (hb : d.enumBad i f = 0) :
    d.enumFrame i f = (((d.taken i g).withStandby.enter i 4).onSeg i (fun s => { s with nodes := d.enumNodes i f, devs := frameHop f })).measure i := by
  unfold Dev.enumFrame
  extract_lets s
  rw [show s.outstanding 0x11 f = some g from ho]
  dsimp only
  rw [if_neg (by simp [s, hs, hf])]
  change (match d.enumBad i f with | 0 => _ | p => _) = _
  rw [hb]
  rfl

end

/-! ## MEASURE and REPORT come back (R305) -/

/-- The segment with the stamp of a MEASURE frame `g`. -/
def Segment.stamped (g : List Byte) (ps : Nat) (x : Segment) : Segment := { x.took g with losses := 0, lastMeas := some ((ps : Int), x.measId) }

/-- The segment with one more pair of delays, from the REPORT frame `f`. -/
def Segment.paired (g : List Byte) (ps : Nat) (f : List Byte) (m : Int × Nat) (x : Segment) : Segment :=
  { x.took g with pairs := x.pairs + 1, rtSum := x.rtSum + m.1, t0Sum := x.t0Sum + ps, fSums := reportSums x f }

/-- The segment with one more loss of a MEASURE frame. -/
def Segment.loses (g : List Byte) (x : Segment) : Segment := { x.took g with losses := x.losses + 1 }

section

variable {d : Dev} {i : Nat} {f g : List Byte} (hs : (d.ring.seg i).state = 4) (ho : (d.ring.seg i).outstanding 0x12 f = some g) (hf : fcsOk f = true)

include hs ho hf

theorem Dev.delayFrame_measured (ps : Nat) (h1 : pay f 44 1 = 1) : d.delayFrame i ps f = (d.onSeg i (Segment.stamped g ps)).report i := by
  unfold Dev.delayFrame
  extract_lets s
  rw [show s.outstanding 0x12 f = some g from ho]
  dsimp only
  rw [if_neg (by simp [s, hs, hf]), if_pos h1, Dev.onSeg_onSeg]
  rfl

theorem Dev.delayFrame_reported (ps : Nat) (h1 : pay f 44 1 ≠ 1) {m : Int × Nat} (hm : (d.ring.seg i).lastMeas = some m) :
    d.delayFrame i ps f = if 64 ≤ (d.ring.seg i).pairs + 1 then (d.onSeg i (Segment.paired g ps f m)).measured i else (d.onSeg i (Segment.paired g ps f m)).measure i := by
  have hp : ((d.onSeg i (Segment.paired g ps f m)).ring.seg i).pairs = (d.ring.seg i).pairs + 1 := by
    rw [Dev.seg_onSeg_same (Dev.lt_of_state (by omega))]
    rfl
  unfold Dev.delayFrame
  extract_lets s
  rw [show s.outstanding 0x12 f = some g from ho]
  dsimp only
  rw [if_neg (by simp [s, hs, hf]), if_neg h1, show s.lastMeas = some m from hm]
  dsimp only
  rw [Dev.onSeg_onSeg, ← hp]
  rfl

end

/-- A segment that has been measured waits for CONFIG (R306 to R309). -/
theorem Dev.measured_waits {d : Dev} {i : Nat} (hr : (d.ring.seg i).reinit = false) :
    ∃ z : Segment, z.state = 5 ∧ z.cfgPos = 0 ∧ d.measured i = ((d.enter i 5).onSeg i (fun _ => z)).configBegin := by
  unfold Dev.measured
  extract_lets s desc sb
  dsimp only
  rw [if_neg (by simp [s, hr])]
  exact ⟨_, rfl, rfl, rfl⟩

/-! ## A frame that does not come back (Table 10.4) -/

section

variable {d : Dev} {i : Nat} {g : List Byte} (hs : (d.ring.seg i).state = 4) (hg : (d.ring.seg i).sent.find? (fun g => service g = 0x12) = some g)

include hs hg

theorem Dev.measureLost_eq : d.measureLost i = if pay g 44 1 ≠ 1 then (d.taken i g).measure i
    else if 16 ≤ (d.ring.seg i).losses + 1 then (d.taken i g).segFail i (evSeg i eRING_OPEN)
    else (d.onSeg i (Segment.loses g)).measure i := by
  unfold Dev.measureLost
  extract_lets s
  have hl : d.onSeg i (Segment.loses g) = (d.taken i g).onSeg i (fun s => { s with losses := s.losses + 1 }) := by
    rw [Dev.taken, Dev.onSeg_onSeg]
    rfl
  rw [show s.state = 4 from hs, show s.sent.find? _ = some g from hg, hl]
  rfl

end

/-! ## CONFIG comes back (R303) -/

/-- RESULT of a CONFIG frame, 0 for a wrong FCS. -/
def configResult (f : List Byte) : Nat := if fcsOk f then pay f 70 1 else 0

theorem configResult_of_ok {f : List Byte} (h : fcsOk f = true) : configResult f = pay f 70 1 := if_pos h

theorem configResult_zero {f : List Byte} (h : fcsOk f = false ∨ pay f 70 1 = 0) : configResult f = 0 := by
  unfold configResult
  split
  next hf => exact h.resolve_left (by simp [hf])
  next => rfl

/-- The device with the node under CONFIG configured. -/
def Dev.nodeDone (d : Dev) (i : Nat) : Dev := d.onSeg i (fun s => s.onNode s.cfgPos (fun n => { n with state := 1, okRun := 0, missRun := 0 }))

theorem Dev.configFrame_eq {d : Dev} {i : Nat} {f g : List Byte} (hs : (d.ring.seg i).state = 5) (ho : (d.ring.seg i).outstanding 0x13 f = some g) : d.configFrame i f =
    if configResult f = 1 then ((d.taken i g).nodeDone i).config i ((d.ring.seg i).cfgPos + 1) 1
    else if configResult f = 0 && (d.ring.seg i).cfgTries < 16 then (d.taken i g).config i (d.ring.seg i).cfgPos ((d.ring.seg i).cfgTries + 1)
    else (d.taken i g).segFail i (evSeg i eNODE_CONFIG_FAILED) := by
  unfold Dev.configFrame
  extract_lets s
  rw [show s.outstanding 0x13 f = some g from ho]
  dsimp only
  rw [if_neg (by simp [s, hs])]
  rfl

/-- CONFIG's frame carries what the device says of the position (Table 10.3). -/
theorem Dev.sent_config {d : Dev} {i pos tries : Nat} (hs : (d.ring.seg i).state = 5) (hp : pos ∈ d.positions i) :
    (d.config i pos tries).Sent i 0x13 pos ((d.config i pos tries).configOf i pos) := by
  have hi : i < d.ring.segs.length := Dev.lt_of_state (by omega)
  unfold Dev.config
  extract_lets d1
  have h1 : (d1.ring.seg i).state = 5 := by
    rw [Dev.seg_onSeg_same hi]
    exact hs
  rw [if_pos (List.contains_iff_mem.mpr (show pos ∈ d1.positions i from hp))]
  have hk := d1.segKept_acyclic i 0x13 pos (d1.configOf i pos)
  have hc : (d1.acyclic i 0x13 pos (d1.configOf i pos)).configOf i pos = d1.configOf i pos := by
    refine Dev.Timed.configOf ⟨hk.rest, fun j => ?_⟩ rfl (congrArg Segment.mapGen hk.view :) (congrArg Segment.nodeWd hk.view :) (congrArg (fun w : Segment => (w.node pos).col) hk.view :)
    by_cases hj : j = i
    · rw [hj]
      exact (congrArg Segment.timing hk.view :)
    · rw [hk.others j hj]
  rw [hc]
  exact Dev.sent_acyclic (Segment.bringUp_of_state h1 (by decide) (by decide)) _ _ _

theorem Dev.seg_config {d : Dev} {i : Nat} (hi : i < d.ring.segs.length) (pos tries : Nat) : ((d.config i pos tries).ring.seg i).cfgPos = pos ∧ ((d.config i pos tries).ring.seg i).cfgTries = tries := by
  unfold Dev.config
  extract_lets d1
  have h1 : d1.ring.seg i = _ := Dev.seg_onSeg_same hi _
  split
  · obtain ⟨l, hl⟩ := Dev.seg_acyclic (d := d1) (by simpa [d1] using hi) 0x13 pos (d1.configOf i pos)
    rw [hl, h1]
    unfold Segment.issues
    split <;> exact ⟨rfl, rfl⟩
  · rw [h1]
    exact ⟨rfl, rfl⟩

/-! ## START (R304) -/

/-- A segment in SYNC from the first cycle `fc` on. -/
def Segment.starts (fc : Nat) (s : Segment) : Segment := { s with firstCycle := fc, silentRun := 0, returnRun := 0, wrapPos := 0, reinit := false, reinitLeft := none, cfgPos := 0 }

/-- START on one segment. -/
def Dev.startOn (fc : Nat) (d : Dev) (i : Nat) : Dev := ((d.acyclic i 0x14 0xFF (leBytes 8 fc)).enter i 6).onSeg i (Segment.starts fc)

theorem Dev.near_startOn (fc : Nat) (d : Dev) (i : Nat) : Dev.Near i d (d.startOn fc i) := (d.near_acyclic i _ _ _).trans (Dev.near_enter_onSeg _ i 6 _)

theorem Dev.seg_startOn {d : Dev} {i : Nat} (fc : Nat) (hs : (d.ring.seg i).state = 5) :
    ((d.startOn fc i).ring.seg i).state = 6 ∧ ((d.startOn fc i).ring.seg i).firstCycle = fc ∧ (d.startOn fc i).Sent i 0x14 0xFF (leBytes 8 fc) := by
  have hi : i < d.ring.segs.length := Dev.lt_of_state (by omega)
  obtain ⟨l, hl⟩ := Dev.sent_acyclic (Segment.bringUp_of_state hs (by decide) (by decide)) 0x14 0xFF (leBytes 8 fc)
  have hseg : (d.startOn fc i).ring.seg i = _ := Dev.seg_enter_onSeg (by simpa [Dev.acyclic] using hi) 6 (Segment.starts fc)
  unfold Dev.Sent
  rw [hseg]
  exact ⟨rfl, rfl, l, hl⟩

/-- The control plane in its first cycle. -/
def Dev.started (d : Dev) (fc : Nat) : Dev :=
  { d with ctl := { d.ctl with running := true, first := true, cycle := fc - 1, gate := false, gathered := false, corrPacked := false, corrLaunched := false,
                               sealed := false, tapply := d.tApplyOf d.runAhead } }

theorem Dev.startRing_all {d : Dev} {i : Nat} (hr : d.ring.role = 3) (hn : d.ctl.running = false) (hi : i ∈ d.segNos) (hc : ∀ j ∈ d.segNos, d.configured j = true) :
    d.startRing = (d.segNos.foldl (Dev.startOn (d.ring.highCycle + 1)) d).started (d.ring.highCycle + 1) := by
  have hready : d.segNos.filter d.configured = d.segNos := List.filter_eq_self.mpr hc
  have h5 (j : Nat) (hj : j ∈ d.segNos) : (d.ring.seg j).state = 5 := by
    have := hc j hj
    unfold Dev.configured at this
    simp only [Bool.and_eq_true, decide_eq_true_eq] at this
    exact this.1.1
  have hrun : (d.segNos.foldl (Dev.startOn (d.ring.highCycle + 1)) d).ctl.running = false := by
    obtain ⟨-, h, -⟩ := Dev.reads_of_offFrames (Dev.swept_foldl (Dev.near_startOn _) d.segNos_nodup d).rest
    rw [h, hn]
  unfold Dev.startRing
  extract_lets ready busy fc e
  have hbusy : busy = false := by
    refine List.any_eq_false.mpr fun j hj => ?_
    simp [h5 j hj, hc j hj]
  have hfc : fc = d.ring.highCycle + 1 := by simp [fc, hn, Dev.firstCycle]
  rw [if_neg (by simp [hr, hbusy, ready, hready, List.ne_nil_of_mem hi])]
  have he : e = d.segNos.foldl (Dev.startOn (d.ring.highCycle + 1)) d := by
    dsimp only [e, ready]
    rw [hready, hfc]
    rfl
  clear_value e
  rw [← he] at hrun ⊢
  rw [if_neg (by simp [hrun]), hfc]
  rfl

/-! ## O33, row by row -/

/-- A row that touches one segment and nothing else. -/
theorem Dev.only_of {n e d : Dev} {i : Nat} (ho : n.OnlySegs e) (hn : Dev.Near i n e) (hd : d.core = e.core) :
    d.Is { n with ring := { n.ring with segs := d.ring.segs } } ∧ ∀ j, j ≠ i → d.ring.seg j = n.ring.seg j :=
  ⟨ho.is hd, fun j hj => by rw [Dev.ring_of_core hd, hn.others j hj]⟩

theorem Dev.seg_of_core {d e : Dev} (h : d.core = e.core) (i : Nat) : d.ring.seg i = e.ring.seg i := by rw [Dev.ring_of_core h]

theorem Dev.near_taken (d : Dev) (i : Nat) (g : List Byte) : Dev.Near i d (d.taken i g) := d.near_onSeg i _

theorem Dev.seg_taken {d : Dev} {i : Nat} (hi : i < d.ring.segs.length) (g : List Byte) : (d.taken i g).ring.seg i = (d.ring.seg i).took g := Dev.seg_onSeg_same hi _

/-- A MEASURE frame leaves after a change `h` of its segment, which stays in a state without a quiet window. -/
theorem Dev.measure_leaves {n d : Dev} {i : Nat} {h : Segment → Segment} (hd : d.core = ((n.onSeg i h).measure i).core) (hi : i < n.ring.segs.length) (hb : (h (n.ring.seg i)).bringUp = true) :
    (d.Is { n with ring := { n.ring with segs := d.ring.segs } } ∧ ∀ j, j ≠ i → d.ring.seg j = n.ring.seg j) ∧ (d.ring.seg i).planned = (h (n.ring.seg i)).measuring.planned ∧
      d.Sent i 0x12 0xFF (measureRequest (h (n.ring.seg i)).devs (incWrap 16 (h (n.ring.seg i)).measId)) := by
  have hs : (n.onSeg i h).ring.seg i = h (n.ring.seg i) := Dev.seg_onSeg_same hi h
  have hdi := Dev.seg_of_core hd i
  rw [← hs] at hb ⊢
  obtain ⟨f, hf⟩ := Dev.seg_measure hb
  exact ⟨Dev.only_of ((n.onlySegs_onSeg i h).trans (Dev.onlySegs_measure _ i)) ((n.near_onSeg i h).trans (Dev.near_measure _ i)) hd,
    by rw [hdi, hf, Segment.planned_issues], (Dev.sent_measure hb).of_seg hdi⟩

section

variable {s : State} {i : Nat} {f g : List Byte}

/-- An accepted ENUM frame (R302). -/
theorem completes_enum_ok (hs : (s.dev.ring.seg i).state = 3) (ho : (s.dev.ring.seg i).outstanding 0x11 f = some g) (hf : fcsOk f = true) (hb : s.dev.enumBad i f = 0) :
    Completes (.enum i f) s (fun d => d.RingOnly s.dev.withStandby ∧ (∀ j, j ≠ i → (d.ring.seg j).state = (s.dev.ring.seg j).state) ∧ (d.ring.seg i).state = 4 ∧
      (d.ring.seg i).devs = frameHop f ∧ d.Sent i 0x12 0xFF (measureRequest (frameHop f) (incWrap 16 (s.dev.ring.seg i).measId))) := by
  refine completes_act_core (f := fun d => d.enumFrame i f) rfl fun d hd _ => ?_
  rw [Dev.enumFrame_ok hs ho hf hb] at hd
  have hi : i < s.dev.ring.segs.length := Dev.lt_of_state (by omega)
  have hti : i < (s.dev.taken i g).withStandby.ring.segs.length := (Dev.segs_length_onSeg s.dev i _).symm ▸ hi
  have hn : Dev.Near i s.dev.withStandby (s.dev.taken i g).withStandby := Dev.near_onSeg s.dev.withStandby i _
  have hsi : (s.dev.taken i g).withStandby.ring.seg i = (s.dev.ring.seg i).took g := Dev.seg_taken hi g
  generalize (s.dev.taken i g).withStandby = y at hd hti hn hsi
  have hei := Dev.seg_enter hti 4
  obtain ⟨⟨-, hoth⟩, hp, hsent⟩ := Dev.measure_leaves hd (by simpa using hti) (by rw [hei]; rfl)
  rw [hei, hsi] at hp hsent
  have hne := y.near_enter i 4
  have hn2 := hn.trans ((y.near_enter_onSeg i 4 (fun x => { x with nodes := s.dev.enumNodes i f, devs := frameHop f })).trans (Dev.near_measure _ i))
  refine ⟨Dev.ringOnly_of_offFrames ((Dev.offFrames_of_core hd).trans hn2.rest), fun j hj => ?_, (congrArg Segment.state hp :), (congrArg Segment.devs hp :), hsent⟩
  rw [hoth j hj, hne.others j hj, hn.others j hj]
  rfl

/-- A MEASURE frame is back at the A port (R305): its REPORT follows. -/
theorem completes_delay_measure {ps : Nat} (hs : (s.dev.ring.seg i).state = 4) (ho : (s.dev.ring.seg i).outstanding 0x12 f = some g) (hf : fcsOk f = true) (h1 : pay f 44 1 = 1) :
    Completes (.delay i ps f) s (fun d => (d.Is { s.dev with ring := { s.dev.ring with segs := d.ring.segs } } ∧ ∀ j, j ≠ i → d.ring.seg j = s.dev.ring.seg j) ∧
      (d.ring.seg i).lastMeas = some ((ps : Int), (s.dev.ring.seg i).measId) ∧ (d.ring.seg i).losses = 0 ∧
      d.Sent i 0x12 0xFF (leBytes 1 2 ++ leBytes 1 (s.dev.ring.seg i).devs ++ leBytes 2 (s.dev.ring.seg i).measId ++ zeroBytes (8 * (s.dev.ring.seg i).devs))) := by
  refine completes_act_core (f := fun d => d.delayFrame i ps f) rfl fun d hd _ => ?_
  rw [Dev.delayFrame_measured hs ho hf ps h1, Dev.report] at hd
  have hi : i < s.dev.ring.segs.length := Dev.lt_of_state (by omega)
  have hsi := Dev.seg_onSeg_same hi (Segment.stamped g ps)
  have hn := s.dev.near_onSeg i (Segment.stamped g ps)
  have hon := s.dev.onlySegs_onSeg i (Segment.stamped g ps)
  generalize s.dev.onSeg i (Segment.stamped g ps) = y at hd hsi hn hon
  have hb : (y.ring.seg i).bringUp = true := Segment.bringUp_of_state (k := 4) (by rw [hsi]; exact hs) (by decide) (by decide)
  have hdi := Dev.seg_of_core hd i
  obtain ⟨l, hl⟩ := Dev.seg_acyclic (Dev.lt_of_bringUp hb) 0x12 0xFF (leBytes 1 2 ++ leBytes 1 (y.ring.seg i).devs ++ leBytes 2 (y.ring.seg i).measId ++ zeroBytes (8 * (y.ring.seg i).devs))
  have hp := (congrArg Segment.planned (hdi.trans hl)).trans (Segment.planned_issues _ _)
  have hsent := (Dev.sent_acyclic hb 0x12 0xFF (leBytes 1 2 ++ leBytes 1 (y.ring.seg i).devs ++ leBytes 2 (y.ring.seg i).measId ++ zeroBytes (8 * (y.ring.seg i).devs))).of_seg hdi
  rw [hsi] at hp hsent
  exact ⟨Dev.only_of (hon.trans (y.onlySegs_acyclic i _ _ _)) (hn.trans (y.near_acyclic i _ _ _)) hd, (congrArg Segment.lastMeas hp :), (congrArg Segment.losses hp :), hsent⟩

/-- A REPORT frame is back (R305) with fewer than 64 pairs measured. -/
theorem completes_delay_pair {ps : Nat} {m : Int × Nat} (hs : (s.dev.ring.seg i).state = 4) (ho : (s.dev.ring.seg i).outstanding 0x12 f = some g) (hf : fcsOk f = true) (h1 : pay f 44 1 ≠ 1)
    (hm : (s.dev.ring.seg i).lastMeas = some m) (hp : (s.dev.ring.seg i).pairs + 1 < 64) :
    Completes (.delay i ps f) s (fun d => (d.Is { s.dev with ring := { s.dev.ring with segs := d.ring.segs } } ∧ ∀ j, j ≠ i → d.ring.seg j = s.dev.ring.seg j) ∧
      (d.ring.seg i).pairs = (s.dev.ring.seg i).pairs + 1 ∧ (d.ring.seg i).rtSum = (s.dev.ring.seg i).rtSum + m.1 ∧ (d.ring.seg i).t0Sum = (s.dev.ring.seg i).t0Sum + ps ∧
      d.Sent i 0x12 0xFF (measureRequest (s.dev.ring.seg i).devs (incWrap 16 (s.dev.ring.seg i).measId))) := by
  refine completes_act_core (f := fun d => d.delayFrame i ps f) rfl fun d hd _ => ?_
  rw [Dev.delayFrame_reported hs ho hf ps h1 hm, if_neg (by omega)] at hd
  obtain ⟨hon, hpl, hsent⟩ := Dev.measure_leaves hd (Dev.lt_of_state (by omega)) (Segment.bringUp_of_state (k := 4) hs (by decide) (by decide))
  exact ⟨hon, (congrArg Segment.pairs hpl :), (congrArg Segment.rtSum hpl :), (congrArg Segment.t0Sum hpl :), hsent⟩

/-- Where the last segment has been measured, CONFIG begins or the cycle configuration is rejected (R46, R48). -/
theorem completes_delay_last {ps : Nat} {m : Int × Nat} (hs : (s.dev.ring.seg i).state = 4) (ho : (s.dev.ring.seg i).outstanding 0x12 f = some g) (hf : fcsOk f = true) (h1 : pay f 44 1 ≠ 1)
    (hm : (s.dev.ring.seg i).lastMeas = some m) (hp : 64 ≤ (s.dev.ring.seg i).pairs + 1) (hre : (s.dev.ring.seg i).reinit = false) (hi : i ∈ s.dev.segNos) (hroom : s.dev.EventRoom 8) :
    Completes (.delay i ps f) s (fun d =>
      (s.dev.Apart i → d.RingOnly s.dev ∧ (∀ j, j ≠ i → (d.ring.seg j).state = (s.dev.ring.seg j).state) ∧ (d.ring.seg i).state = 5) ∧
      (¬s.dev.Apart i → (d.RingOnly s.dev ∧ (∀ j, j ≠ i → (d.ring.seg j).state = (s.dev.ring.seg j).state) ∧ (d.ring.seg i).state = 5 ∧ d.cycleFits s.dev.ctl.prm = true) ∨
        ((d.ring.seg i).state = 0 ∧ d.ctl.prm = cycleBack s.dev.ctl.prmBefore s.dev.ctl.prm ∧ d.Reports eRING_TOO_LONG (srcSeg i) []))) := by
  refine completes_act_core (f := fun d => d.delayFrame i ps f) rfl fun d hd hrep => ?_
  rw [Dev.delayFrame_reported hs ho hf ps h1 hm, if_pos hp] at hd hrep
  have hlt : i < s.dev.ring.segs.length := Dev.lt_of_state (by omega)
  obtain ⟨z, hz5, hz0, hz⟩ := Dev.measured_waits (d := s.dev.onSeg i (Segment.paired g ps f m)) (i := i) (by rw [Dev.seg_onSeg_same hlt]; exact hre)
  rw [hz] at hd hrep
  have hn : Dev.Near i s.dev (((s.dev.onSeg i (Segment.paired g ps f m)).enter i 5).onSeg i (fun _ => z)) := (s.dev.near_onSeg i _).trans (Dev.near_enter_onSeg _ i 5 _)
  have hyi : (((s.dev.onSeg i (Segment.paired g ps f m)).enter i 5).onSeg i (fun _ => z)).ring.seg i = z := Dev.seg_enter_onSeg (by simpa using hlt) 5 _
  have hyr : (((s.dev.onSeg i (Segment.paired g ps f m)).enter i 5).onSeg i (fun _ => z)).router = s.dev.router := Dev.router_enter _ i 5
  generalize (((s.dev.onSeg i (Segment.paired g ps f m)).enter i 5).onSeg i (fun _ => z)) = y at hd hrep hn hyi hyr
  have hdr := Dev.ring_of_core hd
  have hconf (hc : y.Configs y.configBegin) : d.RingOnly s.dev ∧ (∀ j, j ≠ i → (d.ring.seg j).state = (s.dev.ring.seg j).state) ∧ (d.ring.seg i).state = 5 := by
    refine ⟨Dev.ringOnly_of_offFrames ((Dev.offFrames_of_core hd).trans (hc.rest.trans hn.rest)), fun j hj => ?_, ?_⟩
    · rw [hdr, hc.state, hn.others j hj]
    · rw [hdr, hc.state, hyi, hz5]
  refine ⟨fun ha => hconf (Dev.configs_configBegin (Or.inl (Dev.quiet_of_apart hn ha))), fun ha => ?_⟩
  have hyn : i ∈ y.segNos := hn.segNos ▸ hi
  have hy5 : (y.ring.seg i).state = 5 := by rw [hyi, hz5]
  have hprm : y.ctl.prm = s.dev.ctl.prm := (congrArg (fun x => x.ctl.prm) hn.rest :)
  by_cases hfit : y.ringsFit = true
  · have hc := Dev.configs_configBegin (Or.inr hfit)
    obtain ⟨hro, hsame, h5⟩ := hconf hc
    refine Or.inl ⟨hro, hsame, h5, ?_⟩
    unfold Dev.ringsFit at hfit
    rw [((Dev.timed_of_core hd).trans hc.timed).cycleFits, ← hprm]
    exact ((Bool.and_eq_true _ _).mp hfit).1
  · have hq : ¬y.Quiet := by
      rintro (hr | ⟨j, hj, hjs⟩ | hall)
      · exact ha (Or.inl ((congrArg (fun x => x.ctl.running) hn.rest :).symm.trans hr))
      · have hji : j ≠ i := fun he => by rw [he] at hjs; omega
        exact ha (Or.inr ⟨j, hn.segNos ▸ hj, hji, by rwa [hn.others j hji] at hjs⟩)
      · exact hall i hyn hy5 (by rw [hyi, hz0])
    have hj := y.rejects_cycleRejected
    rw [Dev.configBegin_rejects hq (by simpa using hfit)] at hd hrep hdr
    have hB : y.Budget [] := Dev.budget_of_room (by unfold Dev.EventRoom; rw [hyr]; exact hroom) []
    have hpr : d.ctl.prm = y.cycleRejected.ctl.prm := (congrArg (fun x => x.ctl.prm) hd :)
    refine Or.inr ⟨?_, ?_, hrep ((hj.told hB).2 i hyn hy5)⟩
    · rw [hdr]
      exact hj.downs i hyn hy5
    · have hpb : y.ctl.prmBefore = s.dev.ctl.prmBefore := (congrArg (fun x => x.ctl.prmBefore) hn.rest :)
      rw [hpr, hj.prm, hprm, hpb]

theorem Segment.state_planned (x : Segment) : x.planned.state = x.state := rfl

theorem Segment.state_measuring_loses (x : Segment) (g : List Byte) : (Segment.loses g x).measuring.state = x.state := rfl

/-- The outstanding frame was a MEASURE, and the ring is not open yet (Table 10.4). -/
theorem completes_lost_once (hs : (s.dev.ring.seg i).state = 4) (hg : (s.dev.ring.seg i).sent.find? (fun g => service g = 0x12) = some g) (h1 : pay g 44 1 = 1)
    (hl : (s.dev.ring.seg i).losses + 1 < 16) : Completes (.measureFrameLost i) s (fun d =>
      (d.Is { s.dev with ring := { s.dev.ring with segs := d.ring.segs } } ∧ ∀ j, j ≠ i → d.ring.seg j = s.dev.ring.seg j) ∧
      (d.ring.seg i).losses = (s.dev.ring.seg i).losses + 1 ∧ (d.ring.seg i).state = 4) := by
  refine completes_act_core (f := fun d => d.measureLost i) rfl fun d hd _ => ?_
  rw [Dev.measureLost_eq hs hg, if_neg (not_not.mpr h1), if_neg (by omega)] at hd
  obtain ⟨hon, hpl, -⟩ := Dev.measure_leaves hd (Dev.lt_of_state (by omega)) (Segment.bringUp_of_state (k := 4) hs (by decide) (by decide))
  have hlo : (d.ring.seg i).losses = (Segment.loses g (s.dev.ring.seg i)).losses := (congrArg Segment.losses hpl :)
  have hst := congrArg Segment.state hpl
  rw [Segment.state_planned, Segment.state_planned, Segment.state_measuring_loses] at hst
  exact ⟨hon, hlo, hst.trans hs⟩

/-- The outstanding frame was a REPORT: the pair is measured anew (R305). -/
theorem completes_lost_report (hs : (s.dev.ring.seg i).state = 4) (hg : (s.dev.ring.seg i).sent.find? (fun g => service g = 0x12) = some g) (h1 : pay g 44 1 ≠ 1) :
    Completes (.measureFrameLost i) s (fun d =>
      (d.Is { s.dev with ring := { s.dev.ring with segs := d.ring.segs } } ∧ ∀ j, j ≠ i → d.ring.seg j = s.dev.ring.seg j) ∧ (d.ring.seg i).pairs = (s.dev.ring.seg i).pairs ∧
      d.Sent i 0x12 0xFF (measureRequest (s.dev.ring.seg i).devs (incWrap 16 (s.dev.ring.seg i).measId))) := by
  refine completes_act_core (f := fun d => d.measureLost i) rfl fun d hd _ => ?_
  rw [Dev.measureLost_eq hs hg, if_pos h1] at hd
  obtain ⟨hon, hpl, hsent⟩ := Dev.measure_leaves (h := fun x => x.took g) hd (Dev.lt_of_state (by omega)) (Segment.bringUp_of_state (k := 4) hs (by decide) (by decide))
  have hp : (d.ring.seg i).pairs = ((s.dev.ring.seg i).took g).pairs := (congrArg Segment.pairs hpl :)
  exact ⟨hon, hp, hsent⟩

/-- RESULT 1 (R303): the node is CONFIGURED, and CONFIG goes on to the next position. -/
theorem completes_config_done (hs : (s.dev.ring.seg i).state = 5) (ho : (s.dev.ring.seg i).outstanding 0x13 f = some g) (hf : fcsOk f = true) (h1 : pay f 70 1 = 1) :
    Completes (.config i f) s (fun d => (d.Is { s.dev with ring := { s.dev.ring with segs := d.ring.segs } } ∧ ∀ j, j ≠ i → d.ring.seg j = s.dev.ring.seg j) ∧
      ((d.ring.seg i).node (s.dev.ring.seg i).cfgPos).state = 1 ∧ (d.ring.seg i).cfgPos = (s.dev.ring.seg i).cfgPos + 1 ∧
      ((s.dev.ring.seg i).cfgPos + 1 ∈ s.dev.positions i → d.Sent i 0x13 ((s.dev.ring.seg i).cfgPos + 1) (d.configOf i ((s.dev.ring.seg i).cfgPos + 1)))) := by
  refine completes_act_core (f := fun d => d.configFrame i f) rfl fun d hd _ => ?_
  rw [Dev.configFrame_eq hs ho, if_pos (by rw [configResult_of_ok hf, h1]), Dev.taken, Dev.nodeDone, Dev.onSeg_onSeg] at hd
  have hi : i < s.dev.ring.segs.length := Dev.lt_of_state (by omega)
  have hsi := Dev.seg_onSeg_same hi (fun x => (x.took g).onNode (x.took g).cfgPos (fun n => { n with state := 1, okRun := 0, missRun := 0 }))
  have hn := s.dev.near_onSeg i (fun x => (x.took g).onNode (x.took g).cfgPos (fun n => { n with state := 1, okRun := 0, missRun := 0 }))
  have hon := s.dev.onlySegs_onSeg i (fun x => (x.took g).onNode (x.took g).cfgPos (fun n => { n with state := 1, okRun := 0, missRun := 0 }))
  generalize s.dev.onSeg i (fun x => (x.took g).onNode (x.took g).cfgPos (fun n => { n with state := 1, okRun := 0, missRun := 0 })) = y at hd hsi hn hon
  have hyi : i < y.ring.segs.length := Dev.lt_of_state (by rw [hsi]; exact fun h => by rw [show (s.dev.ring.seg i).state = 0 from h] at hs; cases hs)
  have hk := y.segKept_config i ((s.dev.ring.seg i).cfgPos + 1) 1
  have hon2 := hon.trans (y.onlySegs_config i ((s.dev.ring.seg i).cfgPos + 1) 1)
  obtain ⟨hpos, -⟩ := Dev.seg_config hyi ((s.dev.ring.seg i).cfgPos + 1) 1
  have hsent := Dev.sent_config (d := y) (i := i) (pos := (s.dev.ring.seg i).cfgPos + 1) (tries := 1) (by rw [hsi]; exact hs)
  generalize y.config i ((s.dev.ring.seg i).cfgPos + 1) 1 = z at hd hk hon2 hpos hsent
  have hdi := Dev.seg_of_core hd i
  have hp := (congrArg Segment.planned hdi).trans hk.view
  have hcfg (p : Nat) : d.configOf i p = z.configOf i p :=
    (Dev.timed_of_core hd).configOf (congrArg (fun x => x.si.conf) hd :) (congrArg Segment.mapGen hdi :) (congrArg Segment.nodeWd hdi :) (congrArg (fun x : Segment => (x.node p).col) hdi :)
  refine ⟨Dev.only_of hon2 ⟨hk.rest.trans hn.rest, fun j hj => (hk.others j hj).trans (hn.others j hj), rfl, fun h => hk.reports (hn.reports h)⟩ hd, ?_, by rw [hdi, hpos], fun hm => ?_⟩
  · have hnode : (d.ring.seg i).node (s.dev.ring.seg i).cfgPos = (y.ring.seg i).node (s.dev.ring.seg i).cfgPos := (congrArg (fun x : Segment => x.node (s.dev.ring.seg i).cfgPos) hp :)
    rw [hnode, hsi]
    exact (congrArg Node.state (Segment.node_onNode_same _ _ _)).trans rfl
  · rw [hcfg]
    refine (hsent ?_).of_seg hdi
    unfold Dev.positions
    have hmap : y.ring.map = s.dev.ring.map := (congrArg (fun x => x.ring.map) hn.rest :)
    rw [hmap]
    exact hm

/-- A CONFIG frame without RESULT is sent again (R303). -/
theorem completes_config_again (hs : (s.dev.ring.seg i).state = 5) (ho : (s.dev.ring.seg i).outstanding 0x13 f = some g) (hr : fcsOk f = false ∨ pay f 70 1 = 0)
    (ht : (s.dev.ring.seg i).cfgTries < 16) : Completes (.config i f) s (fun d =>
      (d.Is { s.dev with ring := { s.dev.ring with segs := d.ring.segs } } ∧ ∀ j, j ≠ i → d.ring.seg j = s.dev.ring.seg j) ∧
      (d.ring.seg i).cfgPos = (s.dev.ring.seg i).cfgPos ∧ (d.ring.seg i).cfgTries = (s.dev.ring.seg i).cfgTries + 1) := by
  refine completes_act_core (f := fun d => d.configFrame i f) rfl fun d hd _ => ?_
  rw [Dev.configFrame_eq hs ho, configResult_zero hr, if_neg (by decide), if_pos (by simpa using ht)] at hd
  have hi : i < s.dev.ring.segs.length := Dev.lt_of_state (by omega)
  have hk := (s.dev.taken i g).segKept_config i (s.dev.ring.seg i).cfgPos ((s.dev.ring.seg i).cfgTries + 1)
  have hn := s.dev.near_taken i g
  obtain ⟨hpos, htries⟩ := Dev.seg_config (d := s.dev.taken i g) (i := i) (by simpa [Dev.taken] using hi) (s.dev.ring.seg i).cfgPos ((s.dev.ring.seg i).cfgTries + 1)
  have hdi := Dev.seg_of_core hd i
  refine ⟨Dev.only_of ((s.dev.onlySegs_onSeg i _).trans (Dev.onlySegs_config _ i _ _)) ⟨hk.rest.trans hn.rest, fun j hj => (hk.others j hj).trans (hn.others j hj), rfl, fun h => hk.reports (hn.reports h)⟩ hd, ?_, ?_⟩
  · rw [hdi, hpos]
  · rw [hdi, htries]

/-- START at a ring start of all segments (R304). -/
theorem completes_start (hr : s.dev.ring.role = 3) (hn : s.dev.ctl.running = false) (hi : i ∈ s.dev.segNos) (hc : ∀ j ∈ s.dev.segNos, s.dev.configured j = true) :
    Completes .start s (fun d => d.ctl.running = true ∧ d.ctl.first = true ∧ d.ctl.cycle = s.dev.ring.highCycle ∧ d.RingOnly { s.dev with ctl := d.ctl } ∧
      ∀ j ∈ s.dev.segNos, (d.ring.seg j).state = 6 ∧ (d.ring.seg j).firstCycle = s.dev.ring.highCycle + 1 ∧ d.Sent j 0x14 0xFF (leBytes 8 (s.dev.ring.highCycle + 1))) := by
  refine completes_act_core (f := Dev.startRing) rfl fun d hd _ => ?_
  rw [Dev.startRing_all hr hn hi hc] at hd
  have hsw := Dev.swept_foldl (Dev.near_startOn (s.dev.ring.highCycle + 1)) s.dev.segNos_nodup s.dev
  generalize s.dev.segNos.foldl (Dev.startOn (s.dev.ring.highCycle + 1)) s.dev = e at hd hsw
  have hdj (j : Nat) : d.ring.seg j = e.ring.seg j := (congrArg (fun x => x.ring.seg j) hd :)
  have hrest : d.offFrames = (e.started (s.dev.ring.highCycle + 1)).offFrames := Dev.offFrames_of_core hd
  have hctl : ({ e.offFrames with ctl := d.offFrames.ctl } : Dev) = { s.dev.offFrames with ctl := d.offFrames.ctl } := by rw [hsw.rest]
  refine ⟨(congrArg (fun x => x.ctl.running) hd :), (congrArg (fun x => x.ctl.first) hd :), (congrArg (fun x => x.ctl.cycle) hd :).trans (Nat.add_sub_cancel ..), ?_, fun j hj => ?_⟩
  · refine Dev.ringOnly_of_offFrames (Eq.trans ?_ hctl)
    exact hrest.trans (congrArg (fun x : Dev => ({ e.offFrames with ctl := x.ctl } : Dev)) hrest).symm
  · obtain ⟨x, -, hx, he⟩ := hsw.each j hj
    have h5 : (x.ring.seg j).state = 5 := by
      have := hc j hj
      unfold Dev.configured at this
      simp only [Bool.and_eq_true, decide_eq_true_eq] at this
      rw [hx]
      exact this.1.1
    obtain ⟨h6, hfc, hsent⟩ := Dev.seg_startOn (s.dev.ring.highCycle + 1) h5
    rw [hdj, he]
    exact ⟨h6, hfc, hsent.of_seg ((hdj j).trans he)⟩

end

/-- Settles O33: each row by its own lemma above; the rows that end a ring start are a failure of their segment (`completes_fails`). -/
theorem ringBringUp : Obligations.RingBringUp := by
  intro s i f g ps n x same apart calm down only hroom
  have hc : n.router.cycleCnt < 512 := hroom.room
  refine ⟨fun hs ho hf => ⟨completes_enum_ok hs ho hf, fun hb => ?_⟩,
    fun hs ho hf => ⟨completes_delay_measure hs ho hf, fun m h1 hm hp => completes_delay_pair hs ho hf h1 hm hp,
      fun m h1 hm hp hre hi => completes_delay_last hs ho hf h1 hm hp hre hi hroom⟩,
    fun hs hg => ⟨completes_lost_once hs hg, fun h1 hl => ?_, completes_lost_report hs hg⟩,
    fun hs ho => ⟨completes_config_done hs ho, completes_config_again hs ho, fun hr => ?_⟩,
    fun hr hn hi hall => completes_start hr hn hi hall, fun hs => ?_⟩
  · exact completes_fails (f := fun d => d.enumFrame i f) rfl (Dev.enumFrame_bad hs ho hf hb) (n.near_taken i g) hc
  · refine completes_fails (f := fun d => d.measureLost i) rfl ?_ (n.near_taken i g) hc
    exact (Dev.measureLost_eq hs hg).trans ((if_neg (not_not.mpr h1)).trans (if_pos hl))
  · refine completes_fails (f := fun d => d.configFrame i f) rfl ?_ (n.near_taken i g) hc
    rw [Dev.configFrame_eq hs ho]
    rcases hr with ⟨hf, h1⟩ | ⟨h0, ht⟩
    · rw [configResult_of_ok hf, if_neg (by omega), if_neg (by simp; omega)]
    · rw [configResult_zero h0, if_neg (by decide), if_neg (by simpa using ht)]
  · exact completes_fails (f := fun d => d.syncTimeout i) rfl (if_pos hs) (Dev.SegKept.refl n) hc

end Sys2Proof.Machine

/-! PROOFS. Contention for the rings (R298 to R300): the rows that claim, lead and follow, and the segments whose claims never return. -/

namespace Sys2Proof.Machine

open Sys2Proof

/-! ## LISTEN_TIME and CLAIM_INTERVAL (R298, R299) -/

/-- A listening segment that claims. -/
def Segment.claiming (s : Segment) : Segment := { s with claimRun := 0, claimBack := false, sent := [] }

/-- The end of LISTEN_TIME on one segment. -/
def Dev.listenOn (d : Dev) (i : Nat) : Dev := if (d.ring.seg i).state = 1 then (d.enter i 2).onSeg i Segment.claiming else d

theorem Dev.near_listenOn (d : Dev) (i : Nat) : Dev.Near i d (d.listenOn i) := by
  unfold Dev.listenOn
  split
  · exact d.near_enter_onSeg i 2 _
  · exact .refl d

theorem Dev.seg_listenOn {d : Dev} {i : Nat} (h : (d.ring.seg i).state = 1) : (d.listenOn i).ring.seg i = ((d.ring.seg i).entered 2).claiming := by
  unfold Dev.listenOn
  rw [if_pos h, Dev.seg_enter_onSeg (Dev.lt_of_state (by omega))]

/-- The ring heads as they begin to claim. -/
def Dev.claimant (d : Dev) : Dev := { d with ring := { d.ring with role := 2, claimRound := 0, lowerKey := false } }

theorem Dev.listenEnd_due {d : Dev} {i : Nat} (hr : d.ring.role = 1) (hi : i ∈ d.segNos) (hs : (d.ring.seg i).state = 1) : d.listenEnd = d.segNos.foldl Dev.listenOn d.claimant := by
  unfold Dev.listenEnd
  rw [if_pos]
  · rfl
  · simp only [hr, decide_true, Bool.true_and, List.any_eq_true, decide_eq_true_eq]
    exact ⟨i, hi, hs⟩

/-- The head in its next round of claims. -/
def Dev.nextRound (d : Dev) : Dev := { d with ring := { d.ring with claimRound := incWrap 8 d.ring.claimRound } }

/-- The payload of a CLAIM frame (R299). -/
def Dev.claimPayload (d : Dev) : List Byte :=
  leBytes 1 (d.prm pCLAIM_PRIORITY) ++ leBytes 1 d.ring.claimRound ++ leBytes 1 d.segMask ++ [0] ++ leBytes 8 Config.devSerial

/-- A claiming segment before its next CLAIM frame. -/
def Segment.reclaims (s : Segment) : Segment := if s.sent = [] then s else { s with claimRun := 0, sent := [] }

theorem Dev.claimOn_eq (d : Dev) (i : Nat) : d.claimOn i = (d.onSeg i Segment.reclaims).acyclic i 0x10 0xFF d.claimPayload := rfl

theorem Dev.near_claimOn (d : Dev) (i : Nat) : Dev.Near i d (d.claimOn i) := (d.near_onSeg i _).trans (Dev.near_acyclic _ i _ _ _)

theorem Dev.onlySegs_claimOn (d : Dev) (i : Nat) : d.OnlySegs (d.claimOn i) := (d.onlySegs_onSeg i _).trans (Dev.onlySegs_acyclic _ i _ _ _)

theorem Segment.state_reclaims (s : Segment) : s.reclaims.state = s.state := by
  unfold Segment.reclaims
  split <;> rfl

theorem Dev.sent_claimOn {d : Dev} {i : Nat} (h : (d.ring.seg i).state = 2) : (d.claimOn i).Sent i 0x10 0xFF d.claimPayload := by
  rw [Dev.claimOn_eq]
  refine Dev.sent_acyclic (Segment.bringUp_of_state (k := 2) ?_ (by decide) (by decide)) _ _ _
  rw [Dev.seg_onSeg_same (Dev.lt_of_state (by omega)), Segment.state_reclaims, h]

/-- The segments of the ring in the state `st`. -/
def Dev.segsIn (d : Dev) (st : Nat) : List Nat := d.segNos.filter (fun i => (d.ring.seg i).state = st)

theorem Dev.mem_segsIn {d : Dev} {st i : Nat} : i ∈ d.segsIn st ↔ i ∈ d.segNos ∧ (d.ring.seg i).state = st := by simp [Dev.segsIn]

theorem Dev.nodup_segsIn (d : Dev) (st : Nat) : (d.segsIn st).Nodup := d.segNos_nodup.filter _

theorem Dev.claimTick_due {d : Dev} {i : Nat} (hr : d.ring.role = 2 ∨ d.ring.role = 3) (hi : i ∈ d.segNos) (hs : (d.ring.seg i).state = 2) :
    d.claimTick = (d.segsIn 2).foldl Dev.claimOn d.nextRound := by
  have hne : d.segsIn 2 ≠ [] := List.ne_nil_of_mem (Dev.mem_segsIn.mpr ⟨hi, hs⟩)
  unfold Dev.claimTick
  refine if_pos ?_
  rw [Bool.and_eq_true, decide_eq_true_eq]
  exact ⟨by simpa using hr, hne⟩

/-! ## A leader (R299) -/

/-- The head in the leader's role. -/
theorem Dev.lead_eq (d : Dev) (l : List Nat) : d.lead l = l.foldl Dev.enumStart (d.inRole 3) := rfl

theorem Dev.swept_lead (d : Dev) {l : List Nat} (hl : l.Nodup) : Dev.Swept Dev.enumStart l (d.inRole 3) (d.lead l) := Dev.swept_foldl Dev.near_enumStart hl _

/-- The claimed segments are in ENUM. -/
theorem Dev.state_lead {d : Dev} {l : List Nat} (hl : l.Nodup) {i : Nat} (hi : i ∈ l) (hs : (d.ring.seg i).state ≠ 0) : ((d.lead l).ring.seg i).state = 3 := by
  obtain ⟨x, -, hx, he⟩ := (d.swept_lead hl).each i hi
  have hxi : x.ring.seg i = d.ring.seg i := hx
  obtain ⟨f, hf⟩ := Dev.seg_enumStart (d := x) (Dev.lt_of_state (i := i) (by rw [hxi]; exact hs))
  rw [he, hf]
  rfl

/-! ## CLAIM (R299, R300) -/

/-- A segment whose own CLAIM frame `g` is back. -/
def Segment.claimed (g : List Byte) (s : Segment) : Segment := { s.took g with claimRun := s.claimRun + 1, claimBack := true }

/-- The head that has seen a key below its own. -/
def Dev.outbid (d : Dev) : Dev := { d with ring := { d.ring with lowerKey := true } }

/-- A CLAIM frame at a claiming segment. -/
structure Dev.IsClaim (d : Dev) (i : Nat) (f : List Byte) : Prop where
  state : (d.ring.seg i).state = 2
  fcs : fcsOk f = true
  kind : frameKind f = 3
  service : Sys2Proof.Machine.service f = 0x10
  segment : hdr f 1 1 = i

section

variable {d : Dev} {i : Nat} {f g : List Byte} (hc : d.IsClaim i f)

include hc

theorem Dev.claimFrame_own (hk : (pay f 44 1, pay f 48 8) = (d.prm pCLAIM_PRIORITY, Config.devSerial)) (ho : (d.ring.seg i).outstanding 0x10 f = some g) (hr : d.ring.role = 2) :
    d.claimFrame i f = if !d.ring.lowerKey && d.segNos.all (fun j => ((d.onSeg i (Segment.claimed g)).ring.seg j).state ≠ 2 || 3 ≤ ((d.onSeg i (Segment.claimed g)).ring.seg j).claimRun)
      then (d.onSeg i (Segment.claimed g)).lead ((d.onSeg i (Segment.claimed g)).segsIn 2) else d.onSeg i (Segment.claimed g) := by
  unfold Dev.claimFrame
  extract_lets s own key
  rw [if_neg (by simp [s, hc.state, hc.fcs, hc.kind, hc.service, hc.segment]), if_pos (show key = own from hk), show s.outstanding 0x10 f = some g from ho]
  dsimp only
  rw [if_neg]
  · rfl
  · exact fun h : d.ring.role = 3 => by omega

theorem Dev.claimFrame_lower (hr : d.ring.role = 2) (hk : pay f 44 1 < d.prm pCLAIM_PRIORITY ∨ (pay f 44 1 = d.prm pCLAIM_PRIORITY ∧ pay f 48 8 < Config.devSerial)) :
    d.claimFrame i f = (d.onSeg i (Segment.forwarding (forwarded f id))).outbid.follow := by
  have hne : ¬(pay f 44 1, pay f 48 8) = (d.prm pCLAIM_PRIORITY, Config.devSerial) := fun h => by
    obtain ⟨h1, h2⟩ := Prod.mk.inj h
    omega
  unfold Dev.claimFrame
  extract_lets s own key
  rw [if_neg (by simp [s, hc.state, hc.fcs, hc.kind, hc.service, hc.segment]), if_neg (show ¬key = own from hne), if_pos]
  · rfl
  · simp only [Bool.and_eq_true, Bool.or_eq_true, decide_eq_true_eq]
    exact ⟨hr, hk⟩

theorem Dev.claimFrame_higher (hk : d.prm pCLAIM_PRIORITY < pay f 44 1 ∨ (d.prm pCLAIM_PRIORITY = pay f 44 1 ∧ Config.devSerial < pay f 48 8)) :
    d.claimFrame i f = d.onSeg i (Segment.forwarding (forwarded f id)) := by
  have hne : ¬(pay f 44 1, pay f 48 8) = (d.prm pCLAIM_PRIORITY, Config.devSerial) := fun h => by
    obtain ⟨h1, h2⟩ := Prod.mk.inj h
    omega
  unfold Dev.claimFrame
  extract_lets s own key
  rw [if_neg (by simp [s, hc.state, hc.fcs, hc.kind, hc.service, hc.segment]), if_neg (show ¬key = own from hne), if_neg]
  · rfl
  · simp only [Bool.and_eq_true, Bool.or_eq_true, decide_eq_true_eq]
    rintro ⟨-, h⟩
    have hlt : pay f 44 1 < d.prm pCLAIM_PRIORITY ∨ (pay f 44 1 = d.prm pCLAIM_PRIORITY ∧ pay f 48 8 < Config.devSerial) := h
    omega

end

/-! ## CLAIM_TIMEOUT (R299) -/

/-- A segment that the leader will claim again. -/
def Segment.retrying (s : Segment) : Segment := { s with retry := true }

theorem Dev.ringOpen_eq (d : Dev) (i : Nat) : d.ringOpen i = ((d.shut (evSeg i eRING_OPEN) i).configBegin).onSeg i Segment.retrying := rfl

/-- From `d` to `e` segment `k`, whose claims have not returned, is DOWN and will be claimed again. -/
structure Dev.Opens (d e : Dev) (k : Nat) : Prop where
  map : e.ring.map = d.ring.map
  others : ∀ j, j ≠ k → (d.ring.seg j).state ≠ 5 → e.ring.seg j = d.ring.seg j
  state : (e.ring.seg k).state = 0
  retry : k < d.ring.segs.length → (e.ring.seg k).retry = true
  reports : ∀ {c r : Nat} {as : List Byte}, d.Reports c r as → e.Reports c r as
  told : d.router.cycleCnt < 512 → e.Reports eRING_OPEN (srcSeg k) []
  budget : ∀ {m : List Nat}, d.Budget m → k ∈ d.segNos → d.owedEvent m k = 1 → e.Budget m

/-- The ring with as many segments. -/
theorem Dev.segs_length_foldl {g : Dev → Nat → Dev} (hg : ∀ d i, (g d i).ring.segs.length = d.ring.segs.length) (l : List Nat) (d : Dev) :
    (l.foldl g d).ring.segs.length = d.ring.segs.length := by
  induction l generalizing d with
  | nil => rfl
  | cons a l ih => exact (ih _).trans (hg d a)

@[simp] theorem Dev.segs_length_shut (d : Dev) (e : Ev) (i : Nat) : (d.shut e i).ring.segs.length = d.ring.segs.length := by
  rw [Dev.shut, Dev.segDown, Dev.segs_length_onSeg, Dev.segs_length_enter, Dev.ring_of_core (Dev.core_emit d e)]

@[simp] theorem Dev.segs_length_acyclic (d : Dev) (i svc dest : Nat) (p : List Byte) : (d.acyclic i svc dest p).ring.segs.length = d.ring.segs.length := d.segs_length_onSeg i _

theorem Dev.segs_length_config (d : Dev) (i pos tries : Nat) : (d.config i pos tries).ring.segs.length = d.ring.segs.length := by
  unfold Dev.config
  extract_lets e
  have he : e.ring.segs.length = d.ring.segs.length := d.segs_length_onSeg i _
  split
  · exact (e.segs_length_acyclic i _ _ _).trans he
  · exact he

theorem Dev.segs_length_configOn (d : Dev) (i : Nat) : (d.configOn i).ring.segs.length = d.ring.segs.length := by
  unfold Dev.configOn
  split
  · exact d.segs_length_config i 1 1
  · rfl

theorem Dev.segs_length_cycleRejected (d : Dev) : d.cycleRejected.ring.segs.length = d.ring.segs.length := by
  unfold Dev.cycleRejected
  extract_lets segs st e x
  obtain ⟨h, he⟩ := Dev.opEnds_host (d.host.openOps.filter (fun o => o.req.op = 0x4012 && o.req.h.kind = 0)) { status := st } d
  have h1 : e = { d with host := h } := he
  have hx : x.ring.segs.length = e.ring.segs.length := Dev.segs_length_foldl (fun d i => d.segs_length_shut _ i) segs e
  rw [h1] at hx
  exact hx

theorem Dev.segs_length_configBegin (d : Dev) : d.configBegin.ring.segs.length = d.ring.segs.length := by
  unfold Dev.configBegin
  repeat' split
  · rfl
  · exact d.segs_length_cycleRejected
  · exact Dev.segs_length_foldl Dev.segs_length_configOn d.segNos d

theorem Dev.opens_ringOpen (d : Dev) (k : Nat) : d.Opens (d.ringOpen k) k := by
  have hn := d.near_shut (evSeg k eRING_OPEN) k
  have hg := (d.shut (evSeg k eRING_OPEN) k).goes_configBegin
  have hlen := (d.shut (evSeg k eRING_OPEN) k).segs_length_configBegin
  have h0 : ((d.shut (evSeg k eRING_OPEN) k).ring.seg k).state = 0 := (Dev.seg_segDown _ k).1
  have hbud {m : List Nat} (hb : d.Budget m) (hk : k ∈ d.segNos) (ho : d.owedEvent m k = 1) := hb.shut hk ho (evSeg k eRING_OPEN)
  have htold (hc : d.router.cycleCnt < 512) : (d.shut (evSeg k eRING_OPEN) k).Reports eRING_OPEN (srcSeg k) [] := Dev.reports_shut hc (evSeg k eRING_OPEN) k
  rw [Dev.segs_length_shut] at hlen
  rw [Dev.ringOpen_eq]
  have hmap : (d.shut (evSeg k eRING_OPEN) k).ring.map = d.ring.map := (Dev.reads_of_offFrames hn.rest).2.2.1
  generalize d.shut (evSeg k eRING_OPEN) k = x at hn hg hlen h0 hbud htold hmap
  have hk : x.configBegin.ring.seg k = x.ring.seg k := hg.others k (by omega)
  generalize x.configBegin = y at hg hlen hk
  have hr := y.near_onSeg k Segment.retrying
  have hst (j : Nat) : ((y.onSeg k Segment.retrying).ring.seg j).state = (y.ring.seg j).state := by
    by_cases hj : j = k
    · subst hj
      exact (Dev.segKept_onSeg (v := Segment.state) (g := Segment.retrying) y fun _ => rfl).view
    · rw [hr.others j hj]
  refine ⟨hg.map.trans hmap, fun j hj h5 => ?_, ?_, fun hl => ?_, fun h => hr.reports (hg.reports (hn.reports h)), fun hc => hr.reports (hg.reports (htold hc)), fun hb hks ho => ?_⟩
  · have hx := hn.others j hj
    rw [hr.others j hj, hg.others j (by rw [hx]; exact h5), hx]
  · rw [hst, hk, h0]
  · rw [Dev.seg_onSeg_same (by omega)]
    rfl
  · refine (hg.budget (hbud hb hks ho)).mono (Nat.le_refl _) rfl fun j _ => ?_
    rw [Dev.owedEvent, Dev.owedEvent, hst]

/-- The retry of one segment: claimed again where it is DOWN, DOWN again where its claims have not returned. -/
def Dev.retryOn (d : Dev) (i : Nat) : Dev :=
  if (d.ring.seg i).state = 0 then (d.enter i 2).onSeg i (fun s => { s with claimRun := 0, sent := [] }) else if (d.ring.seg i).state = 2 then d.ringOpen i else d

/-- From `d` to `e` segment `k` has been retried. -/
structure Dev.Retries (d e : Dev) (k : Nat) : Prop where
  map : e.ring.map = d.ring.map
  others : ∀ j, j ≠ k → (d.ring.seg j).state ≠ 5 → e.ring.seg j = d.ring.seg j
  opened : (d.ring.seg k).state = 2 → (e.ring.seg k).state = 0 ∧ (e.ring.seg k).retry = true
  told : (d.ring.seg k).state = 2 → d.router.cycleCnt < 512 → e.Reports eRING_OPEN (srcSeg k) []
  claimed : (d.ring.seg k).state = 0 → (d.ring.seg k).retry = true → (e.ring.seg k).state = 2
  reports : ∀ {c r : Nat} {as : List Byte}, d.Reports c r as → e.Reports c r as
  budget : ∀ {l : List Nat}, d.Budget (k :: l) → k ∉ l → k ∈ d.segNos → e.Budget l

theorem Dev.owedEvent_of_cons (d : Dev) (k : Nat) (l : List Nat) (j : Nat) : d.owedEvent l j ≤ d.owedEvent (k :: l) j := by
  unfold Dev.owedEvent
  split_ifs with h h'
  · exact Nat.le_refl _
  · exact absurd (h.imp_right fun ⟨hs, hj⟩ => ⟨hs, List.mem_cons_of_mem k hj⟩) h'
  · exact Nat.zero_le _
  · exact Nat.zero_le _

theorem Dev.Budget.tail {d : Dev} {k : Nat} {l : List Nat} (h : d.Budget (k :: l)) : d.Budget l := h.mono (Nat.le_refl _) rfl fun j _ => d.owedEvent_of_cons k l j

theorem Dev.retries_retryOn (d : Dev) (k : Nat) : d.Retries (d.retryOn k) k := by
  unfold Dev.retryOn
  split
  next h0 =>
    have hn := d.near_enter_onSeg k 2 (fun s => { s with claimRun := 0, sent := [] })
    refine ⟨(Dev.reads_of_offFrames hn.rest).2.2.1, fun j hj _ => hn.others j hj, fun h => by omega, fun h => by omega, fun _ hr => ?_, hn.reports, fun hb hk hs => ?_⟩
    · rw [Dev.seg_enter_onSeg (Ring.lt_of_seg_ne fun he => by rw [he] at hr; cases hr)]
      rfl
    · refine hb.tail.mono (Nat.le_of_eq (congrArg Router.cycleCnt (d.router_enter k 2))) hn.segNos fun j _ => ?_
      by_cases hj : j = k
      · subst hj
        rw [Dev.owedEvent, if_neg (not_or.mpr ⟨?_, fun h => hk h.2⟩)]
        · exact Nat.zero_le _
        · intro h5
          rw [Dev.seg_enter_onSeg (by simpa using Dev.lt_of_state (h5.trans_ne (by decide)))] at h5
          cases h5
      · rw [Dev.owedEvent, hn.others j hj]
        exact Nat.le_refl _
  next h0 =>
    split
    next h2 =>
      have ho := d.opens_ringOpen k
      exact ⟨ho.map, ho.others, fun _ => ⟨ho.state, ho.retry (Dev.lt_of_state h0)⟩, fun _ => ho.told, fun h => absurd h h0, ho.reports,
        fun hb hk hs => (ho.budget hb hs (if_pos (Or.inr ⟨h2, List.mem_cons_self⟩))).tail⟩
    next h2 => exact ⟨rfl, fun _ _ _ => rfl, fun h => absurd h h2, fun h => absurd h h2, fun h => absurd h h0, id, fun hb _ _ => hb.tail⟩

/-- What the retries of the segments `l`, one after another, make of the device. -/
structure Dev.Retried (l : List Nat) (d e : Dev) : Prop where
  others : ∀ j, j ∉ l → (d.ring.seg j).state ≠ 5 → e.ring.seg j = d.ring.seg j
  opened : ∀ j ∈ l, (d.ring.seg j).state = 2 → (e.ring.seg j).state = 0 ∧ (e.ring.seg j).retry = true ∧ e.Reports eRING_OPEN (srcSeg j) []
  claimed : ∀ j ∈ l, (d.ring.seg j).state = 0 → (d.ring.seg j).retry = true → (e.ring.seg j).state = 2
  reports : ∀ {c r : Nat} {as : List Byte}, d.Reports c r as → e.Reports c r as

theorem Dev.segNos_of_map {d e : Dev} (h : e.ring.map = d.ring.map) : e.segNos = d.segNos := by rw [Dev.segNos, Dev.segNos, h]

theorem Dev.retried_foldl {l : List Nat} (hl : l.Nodup) {d : Dev} (hs : ∀ j ∈ l, j ∈ d.segNos) (hb : d.Budget l) : Dev.Retried l d (l.foldl Dev.retryOn d) := by
  induction l generalizing d with
  | nil => exact ⟨fun _ _ _ => rfl, fun _ h => absurd h List.not_mem_nil, fun _ h => absurd h List.not_mem_nil, id⟩
  | cons a l ih =>
    obtain ⟨ha, hll⟩ := List.nodup_cons.mp hl
    have hr := d.retries_retryOn a
    have has := hs a List.mem_cons_self
    obtain ⟨ho, hop, hcl, hrep⟩ := ih hll (d := d.retryOn a) (fun j hj => (Dev.segNos_of_map hr.map).symm ▸ hs j (List.mem_cons_of_mem a hj)) (hr.budget hb ha has)
    have hlater {j : Nat} (hj : j ∈ l) (h5 : (d.ring.seg j).state ≠ 5) : (d.retryOn a).ring.seg j = d.ring.seg j := hr.others j (fun h => ha (h ▸ hj)) h5
    refine ⟨fun j hj h5 => ?_, fun j hj h2 => ?_, fun j hj h0 hret => ?_, fun h => hrep (hr.reports h)⟩
    · obtain ⟨hja, hjl⟩ := not_or.mp (mt List.mem_cons.mpr hj)
      have h1 := hr.others j hja h5
      exact (ho j hjl (by rw [h1]; exact h5)).trans h1
    · rcases List.mem_cons.mp hj with rfl | hj
      · obtain ⟨h0, hret⟩ := hr.opened h2
        have hend := ho j ha (by omega)
        rw [List.foldl_cons, hend]
        exact ⟨h0, hret, hrep (hr.told h2 (hb.room has (if_pos (Or.inr ⟨h2, List.mem_cons_self⟩))))⟩
      · exact hop j hj (by rw [hlater hj (by omega)]; exact h2)
    · rcases List.mem_cons.mp hj with rfl | hj
      · have h2 := hr.claimed h0 hret
        rw [List.foldl_cons, ho j ha (by omega), h2]
      · have h1 := hlater hj (by omega)
        exact hcl j hj (by rw [h1]; exact h0) (by rw [h1]; exact hret)

/-- Segments that claim are opened by their retry. -/
theorem Dev.foldl_ringOpen {l : List Nat} (hl : l.Nodup) {d : Dev} (h2 : ∀ j ∈ l, (d.ring.seg j).state = 2) : l.foldl Dev.ringOpen d = l.foldl Dev.retryOn d := by
  induction l generalizing d with
  | nil => rfl
  | cons a l ih =>
    obtain ⟨ha, hll⟩ := List.nodup_cons.mp hl
    have h := h2 a List.mem_cons_self
    have he : d.retryOn a = d.ringOpen a := by rw [Dev.retryOn, if_neg (by omega), if_pos h]
    rw [List.foldl_cons, List.foldl_cons, he]
    refine ih hll fun j hj => ?_
    have hj2 := h2 j (List.mem_cons_of_mem a hj)
    rw [(d.opens_ringOpen a).others j (fun h => ha (h ▸ hj)) (by omega), hj2]

/-! ## What CLAIM_TIMEOUT leaves of the device around the segments -/

theorem Dev.offFrames_ringOpen {d : Dev} {k : Nat} (h : (d.shut (evSeg k eRING_OPEN) k).Quiet) : (d.ringOpen k).offFrames = d.offFrames := by
  have hn := d.near_shut (evSeg k eRING_OPEN) k
  rw [Dev.ringOpen_eq]
  generalize d.shut (evSeg k eRING_OPEN) k = x at h hn
  have hc := Dev.configs_configBegin (.inl h)
  generalize x.configBegin = y at hc
  have hr := y.near_onSeg k Segment.retrying
  rw [hr.rest, hc.rest, hn.rest]

theorem Dev.offFrames_opens {l : List Nat} {i : Nat} (hi : i ∉ l) {d : Dev} (hs : i ∈ d.segNos) (h3 : (d.ring.seg i).state = 3) : (l.foldl Dev.ringOpen d).offFrames = d.offFrames := by
  induction l generalizing d with
  | nil => rfl
  | cons a l ih =>
    obtain ⟨hia, hil⟩ := not_or.mp (mt List.mem_cons.mpr hi)
    have hn := d.near_shut (evSeg a eRING_OPEN) a
    have hq : (d.shut (evSeg a eRING_OPEN) a).Quiet := .inr (.inl ⟨i, by rw [hn.segNos]; exact hs, .inl (by rw [hn.others i hia, h3])⟩)
    have ho := d.opens_ringOpen a
    have hi3 : ((d.ringOpen a).ring.seg i).state = 3 := by rw [ho.others i hia (by omega), h3]
    rw [List.foldl_cons, ih hil (by rw [Dev.segNos_of_map ho.map]; exact hs) hi3, Dev.offFrames_ringOpen hq]

/-- Cycles run, or no segment waits for CONFIG. -/
def Dev.Settled (d : Dev) : Prop := d.ctl.running = true ∨ ∀ j ∈ d.segNos, (d.ring.seg j).state = 5 → (d.ring.seg j).cfgPos ≠ 0

theorem Dev.Settled.near {d e : Dev} {i : Nat} (h : d.Settled) (hn : Dev.Near i d e) (h5 : (e.ring.seg i).state ≠ 5) : e.Settled := by
  refine h.imp (fun hr => ?_) fun hw j hj => ?_
  · rw [(Dev.reads_of_offFrames hn.rest).2.1, hr]
  · by_cases hji : j = i
    · exact fun h => absurd (hji ▸ h) h5
    · rw [hn.others j hji]
      exact hw j (hn.segNos ▸ hj)

theorem Dev.configAll_settled {d : Dev} (h : ∀ j ∈ d.segNos, (d.ring.seg j).state = 5 → (d.ring.seg j).cfgPos ≠ 0) : d.configAll = d := by
  unfold Dev.configAll
  generalize d.segNos = l at h
  induction l with
  | nil => rfl
  | cons a l ih =>
    have ha : d.configOn a = d := if_neg (by simpa using h a List.mem_cons_self)
    rw [List.foldl_cons, ha]
    exact ih fun j hj => h j (List.mem_cons_of_mem a hj)

theorem Dev.Settled.configBegin {d : Dev} (h : d.Settled) : d.configBegin.offFrames = d.offFrames ∧ d.configBegin.Settled := by
  have hc := Dev.configs_configBegin (d := d) (.inl (h.imp_right .inr))
  refine ⟨hc.rest, ?_⟩
  rcases h with h | h
  · exact .inl (by rw [(Dev.reads_of_offFrames hc.rest).2.1, h])
  · have he : d.configBegin = d ∨ d.configBegin = d.configAll := by
      unfold Dev.configBegin
      split
      · exact .inl rfl
      · rw [if_neg]
        · exact .inr rfl
        · simp only [Bool.and_eq_true, List.any_eq_true, decide_eq_true_eq]
          rintro ⟨⟨-, j, hj, h5, h0⟩, -⟩
          exact h j hj h5 h0
    rw [Dev.configAll_settled h, or_self] at he
    rw [he]
    exact .inr h

theorem Dev.Settled.ringOpen {d : Dev} (h : d.Settled) (k : Nat) : (d.ringOpen k).offFrames = d.offFrames ∧ (d.ringOpen k).Settled := by
  have hn := d.near_shut (evSeg k eRING_OPEN) k
  have h0 : ((d.shut (evSeg k eRING_OPEN) k).ring.seg k).state = 0 := (Dev.seg_segDown _ k).1
  have hk := (d.opens_ringOpen k).state
  rw [Dev.ringOpen_eq] at hk ⊢
  generalize d.shut (evSeg k eRING_OPEN) k = x at hn h0 hk
  obtain ⟨hy, hys⟩ := (h.near hn (by omega)).configBegin
  generalize x.configBegin = y at hy hys hk
  have hr := y.near_onSeg k Segment.retrying
  exact ⟨hr.rest.trans (hy.trans hn.rest), hys.near hr (by omega)⟩

theorem Dev.Settled.retryOn {d : Dev} (h : d.Settled) (k : Nat) : (d.retryOn k).offFrames = d.offFrames ∧ (d.retryOn k).Settled := by
  unfold Dev.retryOn
  split
  · have hn := d.near_enter_onSeg k 2 (fun s => { s with claimRun := 0, sent := [] })
    refine ⟨hn.rest, h.near hn fun h5 => ?_⟩
    rw [Dev.seg_enter_onSeg (by simpa using Dev.lt_of_state (h5.trans_ne (by decide)))] at h5
    cases h5
  · split
    · exact h.ringOpen k
    · exact ⟨rfl, h⟩

theorem Dev.Settled.retries {d : Dev} (h : d.Settled) (l : List Nat) : (l.foldl Dev.retryOn d).offFrames = d.offFrames := by
  induction l generalizing d with
  | nil => rfl
  | cons a l ih =>
    obtain ⟨ha, hs⟩ := h.retryOn a
    exact (ih hs).trans ha

theorem Dev.claimTimeout_first {d : Dev} {i : Nat} (hr : d.ring.role = 2) (hl : d.ring.lowerKey = false) (hi : i ∈ d.segNos) (hs : (d.ring.seg i).state = 2) (hb : (d.ring.seg i).claimBack = true) :
    d.claimTimeout = ((d.segsIn 2).filter (fun j => !((d.segsIn 2).filter (fun j => (d.ring.seg j).claimBack)).contains j)).foldl Dev.ringOpen
      (d.lead ((d.segsIn 2).filter (fun j => (d.ring.seg j).claimBack))) := by
  have hne : (d.segsIn 2).filter (fun j => (d.ring.seg j).claimBack) ≠ [] := List.ne_nil_of_mem (List.mem_filter.mpr ⟨Dev.mem_segsIn.mpr ⟨hi, hs⟩, hb⟩)
  unfold Dev.claimTimeout
  rw [if_pos hr]
  refine if_neg ?_
  rw [hl, Bool.or_false, decide_eq_true_eq]
  exact hne

theorem Dev.claimTimeout_retry {d : Dev} (hr : d.ring.role = 3) : d.claimTimeout = (d.segNos.filter (fun j => (d.ring.seg j).retry)).foldl Dev.retryOn d := by
  unfold Dev.claimTimeout
  rw [if_neg (by omega), if_pos hr]
  rfl

theorem Dev.router_enumStart (d : Dev) (i : Nat) : (d.enumStart i).router = d.router := d.router_enter i 3

theorem Dev.router_lead (d : Dev) (l : List Nat) : (d.lead l).router = d.router := by
  rw [Dev.lead_eq, show d.router = (d.inRole 3).router from rfl]
  generalize d.inRole 3 = e
  induction l generalizing e with
  | nil => rfl
  | cons a l ih => exact (ih _).trans (e.router_enumStart a)

theorem Dev.EventRoom.of_router {d e : Dev} {n : Nat} (h : d.EventRoom n) (he : e.router = d.router) : e.EventRoom n := by
  unfold Dev.EventRoom at h ⊢
  rw [he]
  exact h

/-! ## The rows -/

section

variable {s : State} {i : Nat} {f g : List Byte}

/-- The end of LISTEN_TIME (R299): the segments that listen claim. -/
theorem completes_listenEnd (hi : i ∈ s.dev.segNos) (hr : s.dev.ring.role = 1) (hs : (s.dev.ring.seg i).state = 1) : Completes .listenTimeExpiry s (fun d =>
    d.RingOnly s.dev.claimant ∧ (∀ j, ¬(j ∈ s.dev.segNos ∧ (s.dev.ring.seg j).state = 1) → d.ring.seg j = s.dev.ring.seg j) ∧
    d.ring.seg i = { s.dev.ring.seg i with state := 2, claimRun := 0, claimBack := false, sent := [] }) := by
  refine completes_act_core (f := fun d => d.listenEnd) rfl fun d hd _ => ?_
  rw [Dev.listenEnd_due hr hi hs] at hd
  have hsw := Dev.swept_foldl Dev.near_listenOn s.dev.segNos_nodup s.dev.claimant
  generalize s.dev.segNos.foldl Dev.listenOn s.dev.claimant = e at hd hsw
  have hseg (j : Nat) : d.ring.seg j = e.ring.seg j := Dev.seg_of_core hd j
  refine ⟨Dev.ringOnly_of_offFrames ((Dev.offFrames_of_core hd).trans hsw.rest), fun j hj => ?_, ?_⟩
  · rw [hseg]
    by_cases hm : j ∈ s.dev.segNos
    · obtain ⟨y, -, hy, he⟩ := hsw.each j hm
      have hy' : y.ring.seg j = s.dev.ring.seg j := hy
      rw [he, Dev.listenOn, if_neg (by rw [hy']; exact fun h => hj ⟨hm, h⟩), hy']
    · exact hsw.others j hm
  · obtain ⟨y, -, hy, he⟩ := hsw.each i hi
    have hy' : y.ring.seg i = s.dev.ring.seg i := hy
    rw [hseg, he, Dev.seg_listenOn (by rw [hy', hs]), hy']
    rfl

/-- CLAIM_INTERVAL (R299): a CLAIM on every claiming segment. -/
theorem completes_claimTick (hi : i ∈ s.dev.segNos) (hr : s.dev.ring.role = 2 ∨ s.dev.ring.role = 3) (hs : (s.dev.ring.seg i).state = 2) : Completes .claimInterval s (fun d =>
    d.RingOnly s.dev.nextRound ∧ (∀ j, ¬(j ∈ s.dev.segNos ∧ (s.dev.ring.seg j).state = 2) → d.ring.seg j = s.dev.ring.seg j) ∧ d.si = s.dev.si ∧ d.host = s.dev.host ∧
    d.Sent i 0x10 0xFF s.dev.nextRound.claimPayload) := by
  refine completes_act_core (f := fun d => d.claimTick) rfl fun d hd _ => ?_
  rw [Dev.claimTick_due hr hi hs] at hd
  have hsw := Dev.swept_foldl Dev.near_claimOn (s.dev.nodup_segsIn 2) s.dev.nextRound
  have hon := Dev.onlySegs_foldl Dev.onlySegs_claimOn (s.dev.segsIn 2) s.dev.nextRound
  generalize (s.dev.segsIn 2).foldl Dev.claimOn s.dev.nextRound = e at hd hsw hon
  have hseg (j : Nat) : d.ring.seg j = e.ring.seg j := Dev.seg_of_core hd j
  refine ⟨Dev.ringOnly_of_offFrames ((Dev.offFrames_of_core hd).trans hsw.rest), fun j hj => ?_, ?_, ?_, ?_⟩
  · rw [hseg]
    exact hsw.others j (mt Dev.mem_segsIn.mp hj)
  · have he : e.si = s.dev.si := (congrArg Dev.si hon :)
    exact (congrArg Dev.si hd :).trans he
  · have he : e.host = s.dev.host := (congrArg Dev.host hon :)
    exact (congrArg Dev.host hd :).trans he
  · obtain ⟨y, hyr, hy, he⟩ := hsw.each i (Dev.mem_segsIn.mpr ⟨hi, hs⟩)
    have hy' : y.ring.seg i = s.dev.ring.seg i := hy
    have hp : y.claimPayload = s.dev.nextRound.claimPayload := (congrArg Dev.claimPayload hyr :)
    rw [← hp]
    exact (Dev.sent_claimOn (by rw [hy', hs])).of_seg ((hseg i).trans he)

/-- The own CLAIM is back for the third time on the last claiming segment (R299). -/
theorem completes_claim_leads (hc : s.dev.IsClaim i f) (hk : (pay f 44 1, pay f 48 8) = (s.dev.prm pCLAIM_PRIORITY, Config.devSerial))
    (hr : s.dev.ring.role = 2) (ho : (s.dev.ring.seg i).outstanding 0x10 f = some g) (hl : s.dev.ring.lowerKey = false) (h2 : 2 ≤ (s.dev.ring.seg i).claimRun)
    (h3 : ∀ j ∈ s.dev.segNos, j ≠ i → (s.dev.ring.seg j).state = 2 → 3 ≤ (s.dev.ring.seg j).claimRun) : Completes (.claim i f) s (fun d =>
      d.RingOnly (s.dev.inRole 3) ∧ ∀ j ∈ s.dev.segNos, (s.dev.ring.seg j).state = 2 → (d.ring.seg j).state = 3) := by
  refine completes_act_core (f := fun d => d.claimFrame i f) rfl fun d hd _ => ?_
  have hn := s.dev.near_onSeg i (Segment.claimed g)
  have hsi : (s.dev.onSeg i (Segment.claimed g)).ring.seg i = (s.dev.ring.seg i).claimed g := Dev.seg_onSeg_same (Dev.lt_of_state (by rw [hc.state]; decide)) _
  have hst (j : Nat) : ((s.dev.onSeg i (Segment.claimed g)).ring.seg j).state = (s.dev.ring.seg j).state := by
    by_cases hj : j = i
    · rw [hj, hsi]
      rfl
    · rw [hn.others j hj]
  rw [Dev.claimFrame_own hc hk ho hr] at hd
  have hlast (j : Nat) (hj : j ∈ s.dev.segNos) (hs : (s.dev.ring.seg j).state = 2) : 3 ≤ ((s.dev.onSeg i (Segment.claimed g)).ring.seg j).claimRun := by
    by_cases hji : j = i
    · rw [hji, hsi]
      exact Nat.succ_le_succ h2
    · rw [hn.others j hji]
      exact h3 j hj hji hs
  generalize s.dev.onSeg i (Segment.claimed g) = y at hd hn hst hlast
  rw [if_pos] at hd
  · have hsw := y.swept_lead (y.nodup_segsIn 2)
    refine ⟨Dev.ringOnly_of_offFrames ((Dev.offFrames_of_core hd).trans (hsw.rest.trans (Dev.offFrames_inRole hn.rest 3))), fun j hj hs => ?_⟩
    rw [Dev.seg_of_core hd]
    exact Dev.state_lead (y.nodup_segsIn 2) (Dev.mem_segsIn.mpr ⟨by rw [hn.segNos]; exact hj, (hst j).trans hs⟩) (by rw [hst, hs]; decide)
  · simp only [hl, Bool.not_false, Bool.true_and, List.all_eq_true, Bool.or_eq_true, decide_eq_true_eq]
    intro j hj
    rw [hst]
    exact or_iff_not_imp_left.mpr fun hs => hlast j hj (not_not.mp hs)

/-- The own CLAIM is back for the first or the second time. -/
theorem completes_claim_counts (hc : s.dev.IsClaim i f) (hi : i ∈ s.dev.segNos) (hk : (pay f 44 1, pay f 48 8) = (s.dev.prm pCLAIM_PRIORITY, Config.devSerial))
    (hr : s.dev.ring.role = 2) (ho : (s.dev.ring.seg i).outstanding 0x10 f = some g) (h2 : (s.dev.ring.seg i).claimRun < 2) : Completes (.claim i f) s (fun d =>
      d.Is (s.dev.onSeg i (Segment.claimed g))) := by
  refine completes_act_core (f := fun d => d.claimFrame i f) rfl fun d hd _ => ?_
  rw [Dev.claimFrame_own hc hk ho hr, if_neg] at hd
  · exact hd
  · have hsi : (s.dev.onSeg i (Segment.claimed g)).ring.seg i = (s.dev.ring.seg i).claimed g := Dev.seg_onSeg_same (Dev.lt_of_state (by rw [hc.state]; decide)) _
    simp only [Bool.and_eq_true, List.all_eq_true, Bool.or_eq_true, decide_eq_true_eq, not_and, not_forall]
    intro _
    refine ⟨i, hi, ?_⟩
    rw [hsi, not_or, not_not]
    exact ⟨hc.state, fun h => by have : 3 ≤ (s.dev.ring.seg i).claimRun + 1 := h; omega⟩

/-- A lower key (R300): the head follows. -/
theorem completes_claim_lower (hc : s.dev.IsClaim i f) (hr : s.dev.ring.role = 2)
    (hk : pay f 44 1 < s.dev.prm pCLAIM_PRIORITY ∨ (pay f 44 1 = s.dev.prm pCLAIM_PRIORITY ∧ pay f 48 8 < Config.devSerial)) : Completes (.claim i f) s (fun d =>
      d.RingOnly (s.dev.outbid.inRole 4) ∧ (∀ j ∈ s.dev.segNos, ((s.dev.ring.seg j).state = 1 ∨ (s.dev.ring.seg j).state = 2) → (d.ring.seg j).state = 10) ∧
      (s.dev.prm pSTANDBY_EN ≠ 1 → d.Reports eFOLLOWER_PASSIVE srcDevice [])) := by
  refine completes_act_core (f := fun d => d.claimFrame i f) rfl fun d hd hrep => ?_
  rw [Dev.claimFrame_lower hc hr hk] at hd hrep
  have hn := s.dev.near_onSeg i (Segment.forwarding (forwarded f id))
  have hst (j : Nat) : ((s.dev.onSeg i (Segment.forwarding (forwarded f id))).ring.seg j).state = (s.dev.ring.seg j).state := by
    by_cases hj : j = i
    · rw [hj]
      exact (Dev.segKept_onSeg (v := Segment.state) (g := Segment.forwarding (forwarded f id)) s.dev fun _ => rfl).view
    · rw [hn.others j hj]
  generalize s.dev.onSeg i (Segment.forwarding (forwarded f id)) = y at hd hrep hn hst
  have hfo := y.outbid.follows
  have hrest : y.outbid.offFrames = s.dev.outbid.offFrames := (congrArg Dev.outbid hn.rest :)
  have hprm : y.outbid.prm pSTANDBY_EN = s.dev.prm pSTANDBY_EN := (congrArg (fun x : Dev => x.prm pSTANDBY_EN) hn.rest :)
  refine ⟨Dev.ringOnly_of_offFrames ((Dev.offFrames_of_core hd).trans (hfo.rest.trans (Dev.offFrames_inRole hrest 4))), fun j hj hs => ?_, fun hp => ?_⟩
  · have hj' : j ∈ y.outbid.segNos := by
      rw [show y.outbid.segNos = s.dev.segNos from hn.segNos]
      exact hj
    have he := hfo.contending j hj' (by rw [show (y.outbid.ring.seg j).state = (s.dev.ring.seg j).state from hst j]; exact hs)
    rw [Dev.seg_of_core hd, he]
    rfl
  · exact hrep (hfo.passive (by rw [hprm]; exact hp))

/-- A higher key (R300): the frame goes on. -/
theorem completes_claim_higher (hc : s.dev.IsClaim i f)
    (hk : s.dev.prm pCLAIM_PRIORITY < pay f 44 1 ∨ (s.dev.prm pCLAIM_PRIORITY = pay f 44 1 ∧ Config.devSerial < pay f 48 8)) : Completes (.claim i f) s (fun d =>
      d.Is (s.dev.onSeg i (Segment.forwarding (forwarded f id)))) := by
  refine completes_act_core (f := fun d => d.claimFrame i f) rfl fun d hd _ => ?_
  rw [Dev.claimFrame_higher hc hk] at hd
  exact hd

/-- CLAIM_TIMEOUT of a head that claims (R299). -/
theorem completes_claimTimeout_first (hi : i ∈ s.dev.segNos) (hr : s.dev.ring.role = 2) (hl : s.dev.ring.lowerKey = false) (hs : (s.dev.ring.seg i).state = 2)
    (hb : (s.dev.ring.seg i).claimBack = true) (hroom : s.dev.EventRoom 8) : Completes .claimTimeout s (fun d =>
      d.RingOnly (s.dev.inRole 3) ∧ (d.ring.seg i).state = 3 ∧ ∀ j ∈ s.dev.segNos, (s.dev.ring.seg j).state = 2 → (s.dev.ring.seg j).claimBack = false →
        (d.ring.seg j).state = 0 ∧ (d.ring.seg j).retry = true ∧ d.Reports eRING_OPEN (srcSeg j) []) := by
  refine completes_act_core (f := fun d => d.claimTimeout) rfl fun d hd hrep => ?_
  rw [Dev.claimTimeout_first hr hl hi hs hb] at hd hrep
  have hback {j : Nat} : j ∈ (s.dev.segsIn 2).filter (fun j => (s.dev.ring.seg j).claimBack) ↔ (j ∈ s.dev.segNos ∧ (s.dev.ring.seg j).state = 2) ∧ (s.dev.ring.seg j).claimBack = true := by
    rw [List.mem_filter, Dev.mem_segsIn]
  have hnd : ((s.dev.segsIn 2).filter (fun j => (s.dev.ring.seg j).claimBack)).Nodup := (s.dev.nodup_segsIn 2).filter _
  generalize (s.dev.segsIn 2).filter (fun j => (s.dev.ring.seg j).claimBack) = back at hd hrep hback hnd
  have hrest {j : Nat} : j ∈ (s.dev.segsIn 2).filter (fun j => !back.contains j) ↔ (j ∈ s.dev.segNos ∧ (s.dev.ring.seg j).state = 2) ∧ j ∉ back := by
    rw [List.mem_filter, Dev.mem_segsIn, Bool.not_eq_true', ← Bool.not_eq_true, List.contains_iff_mem]
  have hndr : ((s.dev.segsIn 2).filter (fun j => !back.contains j)).Nodup := (s.dev.nodup_segsIn 2).filter _
  generalize (s.dev.segsIn 2).filter (fun j => !back.contains j) = rest at hd hrep hrest hndr
  have hib : i ∈ back := hback.mpr ⟨⟨hi, hs⟩, hb⟩
  have hir : i ∉ rest := fun h => (hrest.mp h).2 hib
  have hsw := s.dev.swept_lead hnd
  have h3 := Dev.state_lead hnd hib (by rw [hs]; decide)
  have hroom' := hroom.of_router (s.dev.router_lead back)
  generalize s.dev.lead back = y at hd hrep hsw h3 hroom'
  have hnos : y.segNos = s.dev.segNos := (Dev.reads_of_offFrames hsw.rest).2.2.2.2
  have hy {j : Nat} (hj : j ∈ rest) : y.ring.seg j = s.dev.ring.seg j := hsw.others j (hrest.mp hj).2
  have hin {j : Nat} (hj : j ∈ rest) : (y.ring.seg j).state = 2 := by rw [hy hj]; exact (hrest.mp hj).1.2
  have hoff := Dev.offFrames_opens hir (d := y) (by rw [hnos]; exact hi) h3
  rw [Dev.foldl_ringOpen hndr fun _ => hin] at hd hrep hoff
  have hret := Dev.retried_foldl hndr (d := y) (fun j hj => by rw [hnos]; exact (hrest.mp hj).1.1) (Dev.budget_of_room hroom' rest)
  have hseg (j : Nat) : d.ring.seg j = (rest.foldl Dev.retryOn y).ring.seg j := Dev.seg_of_core hd j
  refine ⟨Dev.ringOnly_of_offFrames ((Dev.offFrames_of_core hd).trans (hoff.trans hsw.rest)), ?_, fun j hj h2 hcb => ?_⟩
  · rw [hseg, hret.others i hir (by rw [h3]; decide), h3]
  · have hjr : j ∈ rest := hrest.mpr ⟨⟨hj, h2⟩, fun h => by rw [(hback.mp h).2] at hcb; cases hcb⟩
    obtain ⟨h0, hrt, hre⟩ := hret.opened j hjr (hin hjr)
    rw [hseg]
    exact ⟨h0, hrt, hrep hre⟩

/-- CLAIM_TIMEOUT of a leader (R299): what it makes of the segments that it claims again. -/
theorem completes_claimTimeout_retry (hr : s.dev.ring.role = 3) (hroom : s.dev.EventRoom 8) : Completes .claimTimeout s (fun d =>
    (s.dev.Settled → d.RingOnly s.dev) ∧ ∃ e : Dev, Dev.Retried (s.dev.segNos.filter (fun j => (s.dev.ring.seg j).retry)) s.dev e ∧ d.ring = e.ring ∧
      ∀ {c r : Nat} {as : List Byte}, e.Reports c r as → d.Reports c r as) := by
  refine completes_act_core (f := fun d => d.claimTimeout) rfl fun d hd hrep => ?_
  rw [Dev.claimTimeout_retry hr] at hd hrep
  refine ⟨fun hset => Dev.ringOnly_of_offFrames ((Dev.offFrames_of_core hd).trans (hset.retries _)), _, ?_, Dev.ring_of_core hd, hrep⟩
  exact Dev.retried_foldl (s.dev.segNos_nodup.filter _) (fun j hj => List.mem_of_mem_filter hj) (Dev.budget_of_room hroom _)

end

/-- Settles O32: the sweeps of `listenEnd`, `claimTick` and `lead` by `Dev.swept_foldl`, the four ends of a CLAIM by the keys, and the retries of CLAIM_TIMEOUT by `Dev.retried_foldl`. -/
theorem ringContention : Obligations.RingContention := by
  intro s i f hi st n own key isClaim others
  refine ⟨fun hr hs => completes_listenEnd hi hr hs, fun hr hs => completes_claimTick hi hr hs, fun hc hk hr g ho => ⟨fun hl h2 h3 => ?_, fun h2 => ?_⟩, fun hc hr hk _ => ?_,
    fun hc hk => ?_, fun hr hl hs hb hroom => completes_claimTimeout_first hi hr hl hs hb hroom, fun hr hret hroom => ⟨fun h0 => ?_, fun h2 => ?_⟩⟩
  · obtain ⟨hst, hf, hkd, hsv, hsg⟩ := hc
    exact completes_claim_leads ⟨hst, hf, hkd, hsv, hsg⟩ hk hr ho hl h2 h3
  · obtain ⟨hst, hf, hkd, hsv, hsg⟩ := hc
    exact completes_claim_counts ⟨hst, hf, hkd, hsv, hsg⟩ hi hk hr ho h2
  · obtain ⟨hst, hf, hkd, hsv, hsg⟩ := hc
    exact completes_claim_lower ⟨hst, hf, hkd, hsv, hsg⟩ hr hk
  · obtain ⟨hst, hf, hkd, hsv, hsg⟩ := hc
    exact completes_claim_higher ⟨hst, hf, hkd, hsv, hsg⟩ hk
  · obtain ⟨t, ht, hp, hset, e, he, hring, -⟩ := completes_claimTimeout_retry hr hroom
    refine ⟨t, ht, hp, hset, ?_⟩
    have hcl := he.claimed i (List.mem_filter.mpr ⟨hi, hret⟩) h0 hret
    rw [← hring] at hcl
    exact hcl
  · obtain ⟨t, ht, hp, hset, e, he, hring, hrep⟩ := completes_claimTimeout_retry hr hroom
    obtain ⟨h0, -, hre⟩ := he.opened i (List.mem_filter.mpr ⟨hi, hret⟩) h2
    rw [← hring] at h0
    exact ⟨t, ht, hp, hset, h0, hrep hre⟩

end Sys2Proof.Machine

/-! PROOFS. Host commands that answer (R374, R380, R404): an accepted command that is immediate and leaves the device as it was but for the replies, and the fields of its answer. -/

namespace Sys2Proof.Machine

open Sys2Proof

/-! ## The device without its replies -/

/-- The device without the queue pairs, the open operations and the bulk handles, which is what a reply may change. -/
def Dev.unreplied (d : Dev) : Dev := { d with host := { d.host with pairs := [], openOps := [], bulks := [] } }

theorem Dev.past_iff (d e : Dev) : d.Past e ↔ d.core.unreplied = e.core.unreplied := by
  refine ⟨fun h => (congrArg Dev.unreplied h :), fun h => ?_⟩
  exact (congrArg (fun x : Dev => { x with host := { x.host with pairs := d.host.pairs, openOps := d.host.openOps, bulks := d.host.bulks } }) h :)

theorem Dev.past_of_unreplied {d x y : Dev} (h : d.Past x) (hx : x.unreplied = y.unreplied) : d.Past y := by
  rw [Dev.past_iff] at h ⊢
  exact h.trans (congrArg Dev.core hx :)

theorem Dev.unreplied_reply (d : Dev) (q : HostReq) (res : Nat) (r : CmdRes) (done hold : Nat) (dup : Bool) : (d.reply q res r done hold dup).unreplied = d.unreplied := by
  obtain ⟨ps, he⟩ := Hif.complete_pairs d.host q res r done hold dup
  unfold Dev.reply
  rw [Hif.releaseHandle_eq, he]
  rfl

theorem Dev.unreplied_joins (d : Dev) (q : HostReq) : (d.joins q).unreplied = d.unreplied := rfl

theorem Dev.unreplied_opEnd (d : Dev) (o : Option OpenOp) (r : CmdRes) (hold : Nat) : (d.opEnd o r hold).unreplied = d.unreplied := by
  unfold Dev.opEnd
  split
  · split
    · exact Dev.unreplied_reply _ _ _ _ _ _ _
    · rfl
  · rfl

theorem Dev.unreplied_homeEnds (d : Dev) (st : Nat) : (d.homeEnds st).unreplied = d.unreplied := by
  unfold Dev.homeEnds
  generalize d.host.openOps.filter (fun o => isHome o.req) = l
  induction l generalizing d with
  | nil => rfl
  | cons o l ih =>
    rw [List.foldl_cons, ih]
    split
    · exact d.unreplied_opEnd _ _ _
    · exact d.unreplied_opEnd _ _ _
    · exact d.unreplied_opEnd _ _ _
    · rfl

/-! ## Pairs stay in use -/

theorem Dev.active_reply (d : Dev) (q : HostReq) (res : Nat) (r : CmdRes) (done hold : Nat) (dup : Bool) (j : Nat) :
    ((d.reply q res r done hold dup).host.pair j).active = (d.host.pair j).active := ((d.kept_reply q res r done hold dup).pair j).active

theorem Dev.active_opEnd (d : Dev) (o : Option OpenOp) (r : CmdRes) (hold j : Nat) : ((d.opEnd o r hold).host.pair j).active = (d.host.pair j).active := by
  unfold Dev.opEnd
  split
  · split
    · exact Dev.active_reply _ _ _ _ _ _ _ _
    · rfl
  · rfl

theorem Dev.active_homeEnds (d : Dev) (st j : Nat) : ((d.homeEnds st).host.pair j).active = (d.host.pair j).active := by
  unfold Dev.homeEnds
  generalize d.host.openOps.filter (fun o => isHome o.req) = l
  induction l generalizing d with
  | nil => rfl
  | cons o l ih =>
    rw [List.foldl_cons, ih]
    split
    · exact d.active_opEnd _ _ _ _
    · exact d.active_opEnd _ _ _ _
    · exact d.active_opEnd _ _ _ _
    · rfl

theorem Dev.active_joins {d : Dev} {q : HostReq} (h : (d.host.pair q.h.pair).active = true) : ((d.joins q).host.pair q.h.pair).active = true := by
  have hp : (d.joins q).host.pair q.h.pair = _ := (Hif.pair_onPair d.host q.h.pair q.h.pair _).trans (if_pos ⟨rfl, Hif.pair_lt h⟩)
  rw [hp]
  exact h

/-- The reply of the command waits on its pair: the record of R380 with its opcode, its status and its bytes. -/
def Dev.Replies (d : Dev) (q : HostReq) (r : CmdRes) (done : Nat) : Prop :=
  ∃ o ∈ (d.host.pair q.h.pair).out, o.tag = q.h.tag ∧ o.op = q.op ∧ o.status = r.status ∧ o.bytes = replyBytes q.op q.h.tag r done

theorem Dev.replies_reply (d : Dev) (q : HostReq) (res : Nat) (r : CmdRes) (done hold : Nat) (dup : Bool) (ha : (d.host.pair q.h.pair).active = true)
    (hq : bit q.h.flags 1 = false) : (d.reply q res r done hold dup).Replies q r done := by
  have he : (d.reply q res r done hold dup).host.pair q.h.pair = (d.host.complete q res r done hold dup).pair q.h.pair := by
    unfold Dev.reply
    rw [Hif.releaseHandle_eq]
    rfl
  unfold Dev.Replies
  rw [he]
  simp only [Hif.complete, ha, hq, Bool.false_and, Bool.not_true, Bool.or_self, Bool.false_eq_true, if_false]
  rw [Hif.pair_onPair, if_pos ⟨rfl, Hif.pair_lt ha⟩]
  exact ⟨_, List.mem_append_right _ (List.mem_singleton.mpr rfl), rfl, rfl, rfl, rfl⟩

/-! ## An accepted command that is immediate -/

/-- An immediate opcode that takes no nonce, needs no optional domain and makes no clock steps. -/
def plainOp (op : Nat) : Bool := !([0x7011, 0x8011, 0xA010, 0x5001, 0x4012, 0x1010, 0x6001, 0x5010].contains op) && (opDesc op).any (fun o => immediateOp o.eff)

section

variable {q : HostReq} (hp : plainOp q.op = true)

include hp

theorem Dev.admits_plain (d : Dev) (late room : Nat) : (d.admits q late room).1 = d := by
  have ht (st : Nat) : d.authTaken q st = d := by
    unfold Dev.authTaken
    split
    next h => rw [h] at hp; cases hp
    next h => rw [h] at hp; cases hp
    next h => rw [h] at hp; cases hp
    next => rfl
  unfold Dev.admits
  dsimp only
  simp only [ht]
  repeat' split
  all_goals rfl

theorem Dev.domainOn_plain (d : Dev) : d.domainOn q = d := by
  have hn : d.needs q = none := by
    unfold Dev.needs
    dsimp only
    split
    next h => rw [h] at hp; cases hp
    next h => rw [h] at hp; cases hp
    next h => rw [h] at hp; cases hp
    next h => rw [h] at hp; cases hp
    next => rfl
  unfold Dev.domainOn
  rw [hn]

/-- The row of an accepted command: its effect. -/
theorem Dev.runs_plain {d : Dev} (ha : d.accepts q) : d.runs q = (d.joins q).takes q (reserveOf q) ((d.joins q).rowHold q) := by
  obtain ⟨hh, hs, -, -⟩ := ha
  have hstep : q.op ≠ 0x5010 := fun h => by rw [h] at hp; cases hp
  unfold Dev.runs
  dsimp only
  rw [if_neg (not_not.mpr hh), if_neg (not_not.mpr hs), if_neg hstep, Dev.admits_plain hp, Dev.domainOn_plain hp]

theorem Dev.takes_plain {d y : Dev} {r : CmdRes} (he : (d.homeEnds 0x0501).effOf q = (y, r)) (hs : r.status = 0) (hl : r.later = false) (res hold : Nat) :
    d.takes q res hold = (y.homeEnds 0x0501).reply q res r (y.homeEnds 0x0501).ctl.cycle hold := by
  have hm : (match opDesc q.op with | some o => !immediateOp o.eff | none => false) = false := by
    unfold plainOp at hp
    cases ho : opDesc q.op with
    | none => rfl
    | some o =>
      rw [ho, Bool.and_eq_true, Option.any_some] at hp
      simp only [hp.2, Bool.not_true]
  unfold Dev.takes
  extract_lets x m e
  have hx : x = (y, r) := he
  have hm' : m = false := hm
  have hy : e = y.homeEnds 0x0501 := by
    unfold e
    rw [hm', hx, if_pos hs, if_neg Bool.false_ne_true]
  rw [hy, hx]
  unfold Dev.finish
  rw [if_neg (by rw [hl]; exact Bool.false_ne_true)]

end

section

variable {c : Instr} {s : State} {op : Nat} {h : CmdHead} {pay : List Byte}

/-- An accepted immediate command whose effect `y` keeps the host's part and the control plane: its answer waits, and only replies change beside the effect. -/
theorem completes_plain (hx : exec c s = s.runs op h pay) (hp : plainOp op = true) (ha : s.dev.accepts { op := op, h := h, pay := pay }) {r : CmdRes} {y : Dev → Dev}
    (he : ∀ x : Dev, x.unreplied = s.dev.unreplied → x.effOf { op := op, h := h, pay := pay } = (y x, r) ∧ (y x).host = x.host ∧ (y x).ctl = x.ctl)
    (hs : r.status = 0) (hl : r.later = false) : Completes c s (fun d => ∃ x : Dev, x.unreplied = s.dev.unreplied ∧ d.Past (y x) ∧ d.Replies { op := op, h := h, pay := pay } r s.dev.ctl.cycle) := by
  refine completes_act_core (f := fun d => d.runs { op := op, h := h, pay := pay }) hx fun d hd _ => ?_
  obtain ⟨-, -, hact, hquiet⟩ := id ha
  rw [Dev.runs_plain hp ha] at hd
  have hu := (Dev.unreplied_homeEnds (s.dev.joins { op := op, h := h, pay := pay }) 0x0501).trans (Dev.unreplied_joins _ _)
  have hax := (Dev.active_homeEnds (s.dev.joins { op := op, h := h, pay := pay }) 0x0501 h.pair).trans (Dev.active_joins (q := { op := op, h := h, pay := pay }) hact)
  have hex := he _ hu
  have htakes := Dev.takes_plain (d := s.dev.joins { op := op, h := h, pay := pay }) (q := { op := op, h := h, pay := pay }) hp hex.1 hs hl
  generalize (s.dev.joins { op := op, h := h, pay := pay }).homeEnds 0x0501 = x at hu hax hex htakes
  obtain ⟨-, hyh, hyc⟩ := hex
  rw [htakes] at hd
  refine ⟨x, hu, ?_⟩
  have hyu := (y x).unreplied_homeEnds 0x0501
  have hya := (y x).active_homeEnds 0x0501 h.pair
  rw [hyh, hax] at hya
  have hcyc : ((y x).homeEnds 0x0501).ctl.cycle = s.dev.ctl.cycle := by
    have h1 : ((y x).homeEnds 0x0501).ctl.cycle = (y x).ctl.cycle := (congrArg (fun e => e.ctl.cycle) hyu :)
    rw [h1, hyc]
    exact (congrArg (fun e => e.ctl.cycle) hu :)
  rw [hcyc] at hd
  generalize (y x).homeEnds 0x0501 = z at hd hyu hya
  refine ⟨?_, ?_⟩
  · rw [Dev.past_iff, congrArg Dev.unreplied hd]
    exact (congrArg Dev.core ((z.unreplied_reply _ _ _ _ _ _).trans hyu) :)
  · have hr := z.replies_reply { op := op, h := h, pay := pay } (reserveOf { op := op, h := h, pay := pay }) r s.dev.ctl.cycle
      ((s.dev.joins { op := op, h := h, pay := pay }).rowHold { op := op, h := h, pay := pay }) false hya hquiet
    have hh : d.host = _ := (congrArg Dev.host hd :)
    unfold Dev.Replies at hr ⊢
    rw [hh]
    exact hr

/-- A query: its answer waits, and nothing else changes. -/
theorem completes_asks (hx : exec c s = s.runs op h pay) (hp : plainOp op = true) (ha : s.dev.accepts { op := op, h := h, pay := pay }) {r : CmdRes}
    (he : ∀ x : Dev, x.unreplied = s.dev.unreplied → x.effOf { op := op, h := h, pay := pay } = (x, r)) (hs : r.status = 0) (hl : r.later = false) :
    Completes c s (fun d => d.Past s.dev ∧ d.Replies { op := op, h := h, pay := pay } r s.dev.ctl.cycle) := by
  obtain ⟨t, ht, hp, x, hx, hpast, hr⟩ := completes_plain hx hp ha (y := id) (fun x hx => ⟨he x hx, rfl, rfl⟩) hs hl
  exact ⟨t, ht, hp, Dev.past_of_unreplied hpast hx, hr⟩

end

theorem Dev.Replies.gives {d : Dev} {q : HostReq} {r : CmdRes} {done : Nat} (h : d.Replies q r done) : d.Gives q r done := by
  obtain ⟨o, ho, ht, -, -, hb⟩ := h
  exact ⟨o, ho, ht, hb⟩

/-- The header of a reply (Table 12.9). -/
def replyHead (op tag : Nat) (r : CmdRes) (done : Nat) : List Byte :=
  leBytes 2 op ++ leBytes 2 tag ++ leBytes 2 r.status ++ leBytes 2 r.note ++ leBytes 8 done ++ leBytes 2 r.pay.length ++ [0, 0] ++ zeroBytes 12

theorem replyBytes_eq (op tag : Nat) (r : CmdRes) (done : Nat) : replyBytes op tag r done = replyHead op tag r done ++ r.pay := rfl

theorem replyHead_length (op tag : Nat) (r : CmdRes) (done : Nat) : (replyHead op tag r done).length = 32 := by simp [replyHead]

theorem replyHead_plen (op tag : Nat) (r : CmdRes) (done : Nat) : fieldLE (replyHead op tag r done) 16 2 = r.pay.length % 2 ^ 16 := by
  unfold replyHead
  simp only [List.append_assoc]
  simp [fieldLE_append_left, fieldLE_leBytes_append]

/-- A payload holds the fields given by offset, width in bytes and value. -/
def PayHolds (pay : List Byte) (xs : List (Nat × Nat × Nat)) : Prop := ∀ x ∈ xs, fieldLE pay x.1 x.2.1 = x.2.2 % 2 ^ (8 * x.2.1)

theorem Dev.Replies.tells {d : Dev} {q : HostReq} {pay : List Byte} {done len : Nat} (h : d.Replies q (.data pay) done) (hl : pay.length = len) (h16 : len < 2 ^ 16)
    {xs : List (Nat × Nat × Nat)} (hx : PayHolds pay xs) : d.Tells q len xs := by
  obtain ⟨o, ho, ht, hop, hst, hb⟩ := h
  rw [replyBytes_eq] at hb
  have hh := replyHead_length q.op q.h.tag (.data pay) done
  refine ⟨o, ho, ht, hop, hst, ?_, ?_, fun x hxm => ?_⟩
  · rw [hb, List.length_append, hh]
    exact congrArg (32 + ·) hl
  · rw [hb, fieldLE_append_right _ _ _ _ (by omega), replyHead_plen]
    exact (Nat.mod_eq_of_lt (hl ▸ h16)).trans hl
  · rw [hb, fieldLE_append_left _ _ _ _ (by omega), hh, Nat.add_sub_cancel_left]
    exact hx x hxm

/-! ## What queries see (R404) -/

/-- What queries see, without what a reply may change. -/
def Snap.unreplied (v : Snap) : Snap := { v with host := { v.host with pairs := [], openOps := [], bulks := [] } }

theorem Dev.unreplied_seen (d : Dev) : d.seen.unreplied = d.unreplied.seen.unreplied := by
  unfold Dev.seen
  rw [show d.unreplied.ctl.published = d.ctl.published from rfl]
  split <;> rfl

/-- A reading of what queries see that looks at no reply. -/
theorem Dev.reads_seen {α : Type} {f : Snap → α} (hf : ∀ v : Snap, f v = f v.unreplied) {x n : Dev} (h : x.unreplied = n.unreplied) : f x.seen = f n.seen := by
  rw [hf x.seen, hf n.seen, x.unreplied_seen, n.unreplied_seen, h]

theorem Dev.reads_unreplied {α : Type} {f : Dev → α} (hf : ∀ d : Dev, f d = f d.unreplied) {x n : Dev} (h : x.unreplied = n.unreplied) : f x = f n := by
  rw [hf x, hf n, h]

/-! ## The fields of an answer -/

theorem payHolds_nil (pay : List Byte) : PayHolds pay [] := fun _ h => absurd h List.not_mem_nil

theorem payHolds_cons (pay : List Byte) (o k v : Nat) (xs : List (Nat × Nat × Nat)) : PayHolds pay ((o, k, v) :: xs) ↔ fieldLE pay o k = v % 2 ^ (8 * k) ∧ PayHolds pay xs :=
  List.forall_mem_cons

@[simp] theorem padTo_length (n : Nat) (b : List Byte) : (padTo n b).length = n := by simp [padTo]

theorem fieldLE_padTo {n o k : Nat} (b : List Byte) (h : o + k ≤ n) : fieldLE (padTo n b) o k = fieldLE (b ++ zeroBytes n) o k := by
  unfold padTo fieldLE
  rw [List.drop_take, List.take_take, Nat.min_eq_left (by omega)]

theorem fieldLE_cons (a : Byte) (b : List Byte) {o k : Nat} (h : 0 < o) : fieldLE (a :: b) o k = fieldLE b (o - 1) k := fieldLE_append_left [a] b o k h

/-- Records of one length. -/
theorem length_flatten_map {α : Type} {f : α → List Byte} {k : Nat} (hf : ∀ a, (f a).length = k) (l : List α) : ((l.map f).flatten).length = l.length * k := by
  simp [List.length_flatten, Function.comp_def, hf]

/-! ## The queries -/

section

variable {c : Instr} {s : State} {op : Nat} {h : CmdHead} {pay : List Byte}

theorem completes_tells (hx : exec c s = s.runs op h pay) (hp : plainOp op = true) (ha : s.dev.accepts { op := op, h := h, pay := pay }) {b : List Byte} {len : Nat}
    {xs : List (Nat × Nat × Nat)} (he : ∀ x : Dev, x.unreplied = s.dev.unreplied → x.effOf { op := op, h := h, pay := pay } = (x, .data b)) (hl : b.length = len) (h16 : len < 2 ^ 16)
    (hf : PayHolds b xs) : Completes c s (fun d => d.Tells { op := op, h := h, pay := pay } len xs ∧ d.Past s.dev) := by
  obtain ⟨t, ht, hp, hpast, hr⟩ := completes_asks hx hp ha he rfl rfl
  exact ⟨t, ht, hp, hr.tells hl h16 hf, hpast⟩

theorem completes_gives (hx : exec c s = s.runs op h pay) (hp : plainOp op = true) (ha : s.dev.accepts { op := op, h := h, pay := pay }) {r : CmdRes}
    (he : ∀ x : Dev, x.unreplied = s.dev.unreplied → x.effOf { op := op, h := h, pay := pay } = (x, r)) (hs : r.status = 0) (hl : r.later = false) :
    Completes c s (fun d => d.Past s.dev ∧ d.Gives { op := op, h := h, pay := pay } r s.dev.ctl.cycle) := by
  obtain ⟨t, ht, hp, hpast, hr⟩ := completes_asks hx hp ha he hs hl
  exact ⟨t, ht, hp, hpast, hr.gives⟩

end

section

variable {x n : Dev} (hu : x.unreplied = n.unreplied)

include hu

theorem Dev.published_unreplied : x.ctl.published = n.ctl.published := Dev.reads_unreplied (f := fun d => d.ctl.published) (fun _ => rfl) hu

/-- A query of the whole device. -/
theorem Dev.ask_unreplied {rest : Snap → List Byte} (hr : ∀ v : Snap, rest v = rest v.unreplied) : x.ask rest = (x, .data (leBytes 8 n.ctl.published ++ rest n.seen)) := by
  rw [Dev.ask, Dev.published_unreplied hu, Dev.reads_seen hr hu]

/-- A query of an object that is configured. -/
theorem Dev.askOf_unreplied {b : Snap → Option (List Byte)} (hr : ∀ v : Snap, b v = b v.unreplied) {y : List Byte} (hy : b n.seen = some y) :
    x.askOf (b x.seen) = (x, .data (leBytes 8 n.ctl.published ++ y)) := by
  rw [Dev.reads_seen hr hu, hy, Dev.askOf, Dev.published_unreplied hu]

end

section

variable {s : State} {h : CmdHead} {pay : List Byte}

theorem completes_getInfo (ha : s.dev.accepts { op := 0x0003, h := h, pay := pay }) : Completes (.getInfo h pay) s (fun d =>
    d.Tells { op := 0x0003, h := h, pay := pay } 56 [(0, 8, s.dev.ctl.published), (8, 4, s.dev.reg32 0x000000), (12, 4, s.dev.reg32 0x000004), (32, 1, s.dev.seen.boot.bank),
      (40, 8, Config.devSerial), (48, 4, s.dev.seen.host.epoch)] ∧ d.Past s.dev) := by
  refine completes_tells (b := (s.dev.infoEffect { op := 0x0003, h := h, pay := pay }).2.pay) rfl (by decide) ha (fun x hu => ?_) ?_ (by decide) ?_
  · have h0 : x.reg32 0x000000 = s.dev.reg32 0x000000 := Dev.reads_unreplied (f := fun d => d.reg32 0x000000) (fun _ => rfl) hu
    have h4 : x.reg32 0x000004 = s.dev.reg32 0x000004 := Dev.reads_unreplied (f := fun d => d.reg32 0x000004) (fun _ => rfl) hu
    show x.infoEffect { op := 0x0003, h := h, pay := pay } = _
    rw [Dev.infoEffect, h0, h4]
    exact Dev.ask_unreplied hu fun _ => rfl
  · simp only [Dev.infoEffect, Dev.ask, CmdRes.data]
    simp [length_flatten_map (k := 4)]
  · simp only [payHolds_cons, payHolds_nil, and_true, Dev.infoEffect, Dev.ask, CmdRes.data, List.append_assoc]
    simp [fieldLE_append_left, fieldLE_leBytes_append, length_flatten_map (k := 4)]

theorem completes_paceStatus (ha : s.dev.accepts { op := 0x0010, h := h, pay := pay }) : Completes (.paceStatus h pay) s (fun d =>
    d.Tells { op := 0x0010, h := h, pay := pay } 616 [(0, 8, s.dev.ctl.published), (8, 4, s.dev.seen.pace.plan.seq), (12, 2, s.dev.seen.pace.vddTarget), (14, 2, s.dev.seen.pace.vddRead),
      (16, 8, s.dev.seen.pace.plan.cycle)] ∧ d.Past s.dev) := by
  refine completes_tells rfl (by decide) ha (fun x hu => Dev.ask_unreplied hu fun _ => rfl) ?_ (by decide) ?_
  · have he (e : Nat) : (s.dev.seen.engineStatus e).length = 32 := by simp [Snap.engineStatus]
    simp [Snap.paceStatus, length_flatten_map he]
  · simp only [payHolds_cons, payHolds_nil, and_true, Snap.paceStatus, List.append_assoc]
    simp [fieldLE_append_left, fieldLE_leBytes_append]

theorem completes_axisStatus {ax : Axis} (ha : s.dev.accepts { op := 0x1040, h := h, pay := pay }) (hax : Tab.find s.dev.seen.motion.axes h.index = some ax) :
    Completes (.axisStatus h pay) s (fun d => d.Tells { op := 0x1040, h := h, pay := pay } 48 [(0, 8, s.dev.ctl.published), (8, 1, ax.home.state), (12, 2, ax.swPos.chatter), (20, 1, ax.engine)] ∧
      d.Past s.dev) := by
  have hb : ∃ y, s.dev.seen.axisStatus h.index = some y ∧ y.length = 40 ∧ PayHolds (leBytes 8 s.dev.ctl.published ++ y) [(0, 8, s.dev.ctl.published), (8, 1, ax.home.state), (12, 2, ax.swPos.chatter), (20, 1, ax.engine)] := by
    refine ⟨_, by rw [Snap.axisStatus, hax]; rfl, ?_, ?_⟩
    · simp
    · simp only [payHolds_cons, payHolds_nil, and_true, List.append_assoc]
      simp [fieldLE_append_left, fieldLE_leBytes_append, fieldLE_cons]
  obtain ⟨y, hy, hl, hf⟩ := hb
  exact completes_tells rfl (by decide) ha (fun x hu => Dev.askOf_unreplied hu (b := fun v => v.axisStatus h.index) (fun _ => rfl) hy) (by simp [hl]) (by decide) hf

theorem completes_stepStatus {x : Stepper} (ha : s.dev.accepts { op := 0x1041, h := h, pay := pay }) (hst : Tab.find s.dev.seen.motion.steppers h.index = some x) :
    Completes (.stepStatus h pay) s (fun d => d.Tells { op := 0x1041, h := h, pay := pay } 48 [(0, 8, s.dev.ctl.published), (8, 4, x.planLag), (12, 4, x.overrunCnt), (16, 4, x.fbMissCnt),
      (20, 4, x.resSwitchCnt), (25, 1, x.home.state)] ∧ d.Past s.dev) := by
  have hb : ∃ y, s.dev.seen.stepStatus h.index = some y ∧ y.length = 40 ∧ PayHolds (leBytes 8 s.dev.ctl.published ++ y) [(0, 8, s.dev.ctl.published), (8, 4, x.planLag), (12, 4, x.overrunCnt), (16, 4, x.fbMissCnt),
      (20, 4, x.resSwitchCnt), (25, 1, x.home.state)] := by
    refine ⟨_, by rw [Snap.stepStatus, hst]; rfl, ?_, ?_⟩
    · simp
    · simp only [payHolds_cons, payHolds_nil, and_true, List.append_assoc]
      simp [fieldLE_append_left, fieldLE_leBytes_append]
  obtain ⟨y, hy, hl, hf⟩ := hb
  exact completes_tells rfl (by decide) ha (fun x hu => Dev.askOf_unreplied hu (b := fun v => v.stepStatus h.index) (fun _ => rfl) hy) (by simp [hl]) (by decide) hf

theorem completes_segStatus (ha : s.dev.accepts { op := 0x4020, h := h, pay := pay }) : Completes (.segStatus h pay) s (fun d =>
    d.Tells { op := 0x4020, h := h, pay := pay } 48 [(0, 8, s.dev.ctl.published), (8, 1, (s.dev.seen.ring.seg h.index).state), (9, 1, (s.dev.seen.ring.seg h.index).linkMode),
      (11, 1, (s.dev.seen.ring.seg h.index).wrapPos), (12, 4, (s.dev.seen.ring.seg h.index).tRing)] ∧ d.Past s.dev) := by
  refine completes_tells rfl (by decide) ha (fun x hu => Dev.ask_unreplied hu (rest := fun v => v.segStatus h.index) fun _ => rfl) ?_ (by decide) ?_
  · simp [Snap.segStatus]
  · simp only [payHolds_cons, payHolds_nil, and_true, Snap.segStatus, List.append_assoc]
    simp [fieldLE_append_left, fieldLE_leBytes_append]

theorem completes_collimation (ha : s.dev.accepts { op := 0x4021, h := h, pay := pay }) : Completes (.collimation h pay) s (fun d => d.Past s.dev ∧
    d.Gives { op := 0x4021, h := h, pay := pay } (.data (leBytes 8 s.dev.ctl.published ++ s.dev.seen.collimation h.index)) s.dev.ctl.cycle) :=
  completes_gives rfl (by decide) ha (fun _ hu => Dev.ask_unreplied hu (rest := fun v => v.collimation h.index) fun _ => rfl) rfl rfl

theorem completes_timeStatus (ha : s.dev.accepts { op := 0x5020, h := h, pay := pay }) : Completes (.timeStatus h pay) s (fun d =>
    d.Tells { op := 0x5020, h := h, pay := pay } 96 [(0, 8, s.dev.ctl.published), (8, 1, s.dev.seen.tu.state), (12, 2, s.dev.seen.tu.steps), (40, 8, s.dev.seen.tu.merN0),
      (48, 8, s.dev.seen.tu.merRC0)] ∧ d.Past s.dev) := by
  refine completes_tells rfl (by decide) ha (fun x hu => Dev.ask_unreplied hu fun _ => rfl) ?_ (by decide) ?_
  · delta Snap.timeStatus Tu.status
    simp [beBytes]
  · delta Snap.timeStatus Tu.status
    simp only [payHolds_cons, payHolds_nil, and_true, List.append_assoc]
    simp [fieldLE_append_left, fieldLE_leBytes_append]

theorem completes_ioStatus (ha : s.dev.accepts { op := 0x5022, h := h, pay := pay }) {xs : List (Nat × Nat × Nat)}
    (hf : PayHolds (leBytes 8 s.dev.ctl.published ++ s.dev.seen.ioStatus h.kind h.index) xs) : Completes (.ioStatus h pay) s (fun d =>
      d.Tells { op := 0x5022, h := h, pay := pay } 32 xs ∧ d.Past s.dev) := by
  have hl : (s.dev.seen.ioStatus h.kind h.index).length = 24 := by
    unfold Snap.ioStatus
    split <;> exact padTo_length _ _
  exact completes_tells rfl (by decide) ha (fun x hu => Dev.ask_unreplied hu (rest := fun v => v.ioStatus h.kind h.index) fun _ => rfl) (by simp [hl]) (by decide) hf

theorem completes_chrStatus (ha : s.dev.accepts { op := 0x6006, h := h, pay := pay }) : Completes (.chrStatus h pay) s (fun d =>
    d.Tells { op := 0x6006, h := h, pay := pay } 64 [(0, 8, s.dev.ctl.published), (8, 1, s.dev.seen.chr.state), (9, 1, s.dev.seen.chr.mode), (14, 2, s.dev.seen.chr.stored.length)] ∧
      d.Past s.dev) := by
  refine completes_tells (b := s.dev.seen.chr.status s.dev.ctl.published) rfl (by decide) ha (fun x hu => ?_) ?_ (by decide) ?_
  · have hb : x.seen.chr = s.dev.seen.chr := Dev.reads_seen (f := fun v => v.chr) (fun _ => rfl) hu
    show (x, CmdRes.data (x.seen.chr.status x.ctl.published)) = _
    rw [hb, Dev.published_unreplied hu]
  · delta Chr.status
    simp
  · delta Chr.status
    simp only [payHolds_cons, payHolds_nil, and_true, List.append_assoc]
    simp [fieldLE_append_left, fieldLE_leBytes_append]

theorem completes_logStatus (ha : s.dev.accepts { op := 0x7002, h := h, pay := pay }) : Completes (.logStatus h pay) s (fun d =>
    d.Tells { op := 0x7002, h := h, pay := pay } 64 [(0, 8, s.dev.ctl.published), (16, 4, s.dev.seen.log.persistSeq), (20, 2, s.dev.seen.log.fifo.length), (22, 2, s.dev.seen.log.peak),
      (32, 8, s.dev.seen.boot.opsec), (40, 4, s.dev.seen.boot.pwr)] ∧ d.Past s.dev) := by
  refine completes_tells (b := s.dev.seen.log.status s.dev.ctl.published s.dev.seen.boot.opsec s.dev.seen.boot.pwr) rfl (by decide) ha (fun x hu => ?_) ?_ (by decide) ?_
  · have hb : x.seen.log = s.dev.seen.log := Dev.reads_seen (f := fun v => v.log) (fun _ => rfl) hu
    have hc : x.seen.boot = s.dev.seen.boot := Dev.reads_seen (f := fun v => v.boot) (fun _ => rfl) hu
    show (x, CmdRes.data (x.seen.log.status x.ctl.published x.seen.boot.opsec x.seen.boot.pwr)) = _
    rw [hb, hc, Dev.published_unreplied hu]
  · delta Log.status
    generalize (s.dev.seen.log.next + 2 ^ 32 - 1) % 2 ^ 32 = last
    simp
  · delta Log.status
    generalize (s.dev.seen.log.next + 2 ^ 32 - 1) % 2 ^ 32 = last
    simp only [payHolds_cons, payHolds_nil, and_true, List.append_assoc]
    simp [fieldLE_append_left, fieldLE_leBytes_append]

theorem completes_safeStatus (ha : s.dev.accepts { op := 0x8001, h := h, pay := pay }) (hk : h.kind = 0) : Completes (.safeStatus h pay) s (fun d =>
    d.Tells { op := 0x8001, h := h, pay := pay } 64 [(0, 8, s.dev.ctl.published), (8, 1, s.dev.seen.si.state), (9, 1, s.dev.seen.si.cause), (16, 4, s.dev.seen.si.level)] ∧ d.Past s.dev) := by
  refine completes_tells (b := s.dev.seen.si.status s.dev.ctl.published) rfl (by decide) ha (fun x hu => ?_) ?_ (by decide) ?_
  · have hb : x.seen.si = s.dev.seen.si := Dev.reads_seen (f := fun v => v.si) (fun _ => rfl) hu
    show x.safeStatusEffect { op := 0x8001, h := h, pay := pay } = _
    unfold Dev.safeStatusEffect
    dsimp only
    rw [if_pos hk, hb, Dev.published_unreplied hu]
  · delta Si.status
    simp
  · delta Si.status
    simp only [payHolds_cons, payHolds_nil, and_true, List.append_assoc]
    simp [fieldLE_append_left, fieldLE_leBytes_append]

theorem completes_connStatus (ha : s.dev.accepts { op := 0x8001, h := h, pay := pay }) (hk : h.kind = 14) (he : (s.dev.seen.si.entry h.index).isSome = true) :
    Completes (.safeStatus h pay) s (fun d => d.Tells { op := 0x8001, h := h, pay := pay } 32 [(0, 8, s.dev.ctl.published), (8, 1, (s.dev.seen.si.conn h.index).state),
      (24, 2, (s.dev.seen.si.conn h.index).crcErr)] ∧ d.Past s.dev) := by
  refine completes_tells (b := s.dev.seen.si.connStatus s.dev.ctl.published h.index) rfl (by decide) ha (fun x hu => ?_) ?_ (by decide) ?_
  · have hb : x.seen.si = s.dev.seen.si := Dev.reads_seen (f := fun v => v.si) (fun _ => rfl) hu
    show x.safeStatusEffect { op := 0x8001, h := h, pay := pay } = _
    unfold Dev.safeStatusEffect
    dsimp only
    rw [if_neg (by rw [hk]; decide), hb, if_pos he, Dev.published_unreplied hu]
  · delta Si.connStatus
    simp
  · delta Si.connStatus
    simp only [payHolds_cons, payHolds_nil, and_true, List.append_assoc]
    simp [fieldLE_append_left, fieldLE_leBytes_append]

theorem completes_stStatus (ha : s.dev.accepts { op := 0x9002, h := h, pay := pay }) : Completes (.stStatus h pay) s (fun d =>
    d.Tells { op := 0x9002, h := h, pay := pay } 432 [(0, 8, s.dev.ctl.published), (10, 1, (s.dev.seen.tru.logic.map (fun l => l.block)).getD 0xFF), (40, 2, s.dev.seen.tru.soft.length),
      (42, 2, s.dev.seen.tru.fused.length)] ∧ d.Past s.dev) := by
  refine completes_tells (b := s.dev.seen.tru.status s.dev.ctl.published s.dev.atPlate.tempHold s.dev.atPlate.burstHeld) rfl (by decide) ha (fun x hu => ?_) ?_ (by decide) ?_
  · have hb : x.seen.tru = s.dev.seen.tru := Dev.reads_seen (f := fun v => v.tru) (fun _ => rfl) hu
    have ht : x.atPlate.tempHold = s.dev.atPlate.tempHold := Dev.reads_seen (f := fun v => v.pace.temps.any (fun t => Params.val v.ctl.prm pTEMP_WARN * 16 ≤ t)) (fun _ => rfl) hu
    have hw : x.atPlate.burstHeld = s.dev.atPlate.burstHeld :=
      Dev.reads_seen (f := fun v => Dev.burstHeld { s.dev with ctl := v.ctl, ring := v.ring }) (fun _ => rfl) hu
    show (x, CmdRes.data (x.seen.tru.status x.ctl.published x.atPlate.tempHold x.atPlate.burstHeld)) = _
    rw [hb, ht, hw, Dev.published_unreplied hu]
  · delta Tru.status
    simp
  · delta Tru.status
    simp only [payHolds_cons, payHolds_nil, and_true, List.append_assoc]
    simp [fieldLE_append_left, fieldLE_leBytes_append]

theorem completes_imageStatus (ha : s.dev.accepts { op := 0xA005, h := h, pay := pay }) : Completes (.imageStatus h pay) s (fun d =>
    d.Tells { op := 0xA005, h := h, pay := pay } 128 [(0, 8, s.dev.ctl.published), (8, 1, s.dev.seen.boot.bank), (9, 1, s.dev.seen.boot.cause), (12, 4, s.dev.seen.boot.longMs)] ∧ d.Past s.dev) := by
  refine completes_tells (b := s.dev.seen.boot.status s.dev.seen.flash s.dev.ctl.published) rfl (by decide) ha (fun x hu => ?_) ?_ (by decide) ?_
  · have hb : x.seen.boot = s.dev.seen.boot := Dev.reads_seen (f := fun v => v.boot) (fun _ => rfl) hu
    have hc : x.seen.flash = s.dev.seen.flash := Dev.reads_seen (f := fun v => v.flash) (fun _ => rfl) hu
    show (x, CmdRes.data (x.seen.boot.status x.seen.flash x.ctl.published)) = _
    rw [hb, hc, Dev.published_unreplied hu]
  · delta BootSt.status
    simp [length_flatten_map (k := 16)]
  · delta BootSt.status
    simp only [payHolds_cons, payHolds_nil, and_true, List.append_assoc]
    simp [fieldLE_append_left, fieldLE_leBytes_append]

/-! ## Parameters in force (R408) -/

theorem Dev.getParams_one {x n : Dev} (hu : x.unreplied = n.unreplied) {q : HostReq} {p : Params} {en : PEnt} {desc : ParamDesc} (hv : n.seen.params q.op q.h.kind q.h.index = some p)
    (hen : entriesOf q.pay = [en]) (h0 : fieldLE q.pay 2 6 = 0) (hd : paramFor q.op q.h.kind en.id = some desc) (hc : en.clean q.op q.h.kind true = true) (hr : isReact en.id = false)
    (hsub : en.sub = 0) : x.getParams q =
      { pay := leBytes 8 n.ctl.published ++ leBytes 2 en.id ++ leBytes 2 0 ++ zeroBytes 4 ++ desc.fmt.write (p.valueOf q.h.kind q.h.index en.id 0) } := by
  have hx : x.seen.params q.op q.h.kind q.h.index = some p := (Dev.reads_seen (f := fun v => v.params q.op q.h.kind q.h.index) (fun _ => rfl) hu).trans hv
  unfold Dev.getParams
  simp [hx, hen, h0, hd, hc, hr, hsub, Dev.published_unreplied hu, firstFail, CmdRes.data]

/-! ## Reads of what the device keeps -/

theorem completes_chrRead {x : ChrCapture} (ha : s.dev.accepts { op := 0x6005, h := h, pay := pay }) (hc : s.dev.chr.find (fieldLE pay 0 2) = some x) : Completes (.chrRead h pay) s (fun d =>
    d.Past s.dev ∧ d.Gives { op := 0x6005, h := h, pay := pay }
      { note := if fieldLE pay 4 4 + ((x.image.drop (fieldLE pay 4 4)).take (fieldLE pay 8 2)).length < x.image.length then 0x0030 else 0,
        pay := leBytes 8 s.dev.ctl.published ++ leBytes 2 ((x.image.drop (fieldLE pay 4 4)).take (fieldLE pay 8 2)).length ++ zeroBytes 6 ++
          (x.image.drop (fieldLE pay 4 4)).take (fieldLE pay 8 2) } s.dev.ctl.cycle) := by
  refine completes_gives rfl (by decide) ha (fun y hu => ?_) rfl rfl
  have hch : y.chr = s.dev.chr := Dev.reads_unreplied (f := fun d => d.chr) (fun _ => rfl) hu
  show y.chrReadEffect { op := 0x6005, h := h, pay := pay } = _
  unfold Dev.chrReadEffect
  dsimp only
  rw [hch, hc, Dev.published_unreplied hu]

/-- LOG_READ on the device: the Logbook may count a race. -/
def Dev.logRaced (d : Dev) (race : Bool) : Dev := if race then { d with log := { d.log with readRace := incSat 32 d.log.readRace } } else d

theorem Dev.logRaced_eq (d : Dev) (race : Bool) : d.logRaced race = { d with log := { d.log with readRace := (d.logRaced race).log.readRace } } := by
  unfold Dev.logRaced
  split <;> rfl

theorem Dev.unreplied_logRaced {x n : Dev} (h : x.unreplied = n.unreplied) (race : Bool) : (x.logRaced race).unreplied = (n.logRaced race).unreplied := by
  unfold Dev.logRaced
  split
  · exact (congrArg (fun d : Dev => { d with log := { d.log with readRace := incSat 32 d.log.readRace } }) h :)
  · exact h

theorem completes_logRead (ha : s.dev.accepts { op := 0x7001, h := h, pay := pay }) : Completes (.logRead h pay) s (fun d =>
    d.Past { s.dev with log := { s.dev.log with readRace := d.log.readRace } } ∧
    d.Gives { op := 0x7001, h := h, pay := pay }
      { note := if (s.dev.log.read (fieldLE pay 0 4) (fieldLE pay 4 2)).2.2.1 then 0x0030 else 0,
        pay := leBytes 2 (s.dev.log.read (fieldLE pay 0 4) (fieldLE pay 4 2)).1.length ++ zeroBytes 2 ++ leBytes 4 (s.dev.log.read (fieldLE pay 0 4) (fieldLE pay 4 2)).2.1 ++
          (s.dev.log.read (fieldLE pay 0 4) (fieldLE pay 4 2)).1.flatten } s.dev.ctl.cycle ∧
    ((s.dev.log.read (fieldLE pay 0 4) (fieldLE pay 4 2)).2.2.2 = false → d.log = s.dev.log)) := by
  obtain ⟨t, ht, hp, x, hx, hpast, hr⟩ := completes_plain (c := .logRead h pay) (s := s) rfl (by decide) ha (y := fun x => x.logRaced (s.dev.log.read (fieldLE pay 0 4) (fieldLE pay 4 2)).2.2.2)
    (r := { note := if (s.dev.log.read (fieldLE pay 0 4) (fieldLE pay 4 2)).2.2.1 then 0x0030 else 0,
            pay := leBytes 2 (s.dev.log.read (fieldLE pay 0 4) (fieldLE pay 4 2)).1.length ++ zeroBytes 2 ++ leBytes 4 (s.dev.log.read (fieldLE pay 0 4) (fieldLE pay 4 2)).2.1 ++
              (s.dev.log.read (fieldLE pay 0 4) (fieldLE pay 4 2)).1.flatten })
    (fun x hx => by
      have hl : x.log = s.dev.log := Dev.reads_unreplied (f := fun d => d.log) (fun _ => rfl) hx
      refine ⟨?_, ?_, ?_⟩
      · show x.logReadEffect { op := 0x7001, h := h, pay := pay } = _
        unfold Dev.logReadEffect Dev.logRaced
        dsimp only
        rw [hl]
      · rw [Dev.logRaced_eq]
      · rw [Dev.logRaced_eq]) rfl rfl
  have hn := Dev.past_of_unreplied hpast (Dev.unreplied_logRaced hx _)
  have hlog : t.dev.log = (s.dev.logRaced (s.dev.log.read (fieldLE pay 0 4) (fieldLE pay 4 2)).2.2.2).log := (congrArg Dev.log hn :)
  refine ⟨t, ht, hp, ?_, hr.gives, fun hf => ?_⟩
  · rw [Dev.logRaced_eq] at hn
    rw [hlog]
    exact hn
  · rw [hlog, hf]
    rfl

/-- An accepted command names a target of one of the kinds that its opcode takes (R401). -/
theorem Dev.target_of_admits {d : Dev} {q : HostReq} {o : OpDesc} {late room : Nat} (ho : opDesc q.op = some o) (hs : (d.admits q late room).2.status = 0) :
    o.kinds.contains q.h.kind = true ∧ targetOk q.h.kind q.h.index = true := by
  have hp : d.headParams o q (d.chkOf q).status = 0 := by
    by_contra hne
    unfold Dev.admits at hs
    rw [ho] at hs
    dsimp only at hs
    split at hs
    · cases hs
    · split at hs
      next he => exact hne (he.trans hs)
      next => exact hne hs
  unfold Dev.headParams at hp
  split at hp
  next h4 => rw [h4] at hp; cases hp
  next =>
    split at hp
    · cases hp
    next h => simpa using h

/-- CAPTURE_READ on the device: the oldest entries leave the FIFO. -/
def Dev.captured (d : Dev) (i n : Nat) : Dev := { d with tu := (d.tu.captureRead i n).1 }

theorem Dev.tcap_captured_ne (d : Dev) {i j : Nat} (h : j ≠ i) (n : Nat) : (d.captured i n).tu.tcaps.getD j {} = d.tu.tcaps.getD j {} := by
  have hs : (d.captured i n).tu.tcaps[j]? = d.tu.tcaps[j]? := List.getElem?_set_ne (Ne.symm h)
  rw [List.getD_eq_getElem?_getD, List.getD_eq_getElem?_getD, hs]

theorem Dev.tcap_captured {d : Dev} {i : Nat} (h : i < d.tu.tcaps.length) (n : Nat) :
    (d.captured i n).tu.tcaps.getD i {} = { d.tu.tcaps.getD i {} with fifo := (d.tu.tcaps.getD i {}).fifo.drop n } := by
  have hs : (d.captured i n).tu.tcaps[i]? = some { d.tu.tcaps.getD i {} with fifo := (d.tu.tcaps.getD i {}).fifo.drop n } := List.getElem?_set_self h
  rw [List.getD_eq_getElem?_getD, hs, Option.getD_some]

theorem completes_captureRead (ha : s.dev.accepts { op := 0x5021, h := h, pay := pay }) (hlen : s.dev.tu.tcaps.length = 16) : Completes (.captureRead h pay) s (fun d =>
    d.Past { s.dev with tu := { s.dev.tu with tcaps := d.tu.tcaps } } ∧ (∀ j, j ≠ h.index → d.tu.tcaps.getD j {} = s.dev.tu.tcaps.getD j {}) ∧
    d.tu.tcaps.getD h.index {} = { s.dev.tu.tcaps.getD h.index {} with fifo := (s.dev.tu.tcaps.getD h.index {}).fifo.drop (fieldLE pay 0 2) } ∧
    d.Gives { op := 0x5021, h := h, pay := pay }
      { note := if ((s.dev.tu.tcaps.getD h.index {}).fifo.drop (fieldLE pay 0 2)).isEmpty then 0 else 0x0030,
        pay := leBytes 2 ((s.dev.tu.tcaps.getD h.index {}).fifo.take (fieldLE pay 0 2)).length ++ zeroBytes 6 ++
          ((s.dev.tu.tcaps.getD h.index {}).fifo.take (fieldLE pay 0 2)).flatten } s.dev.ctl.cycle) := by
  obtain ⟨-, hadm, -, -⟩ := id ha
  obtain ⟨hk, hi⟩ := Dev.target_of_admits (q := { op := 0x5021, h := h, pay := pay }) (o := _) rfl hadm
  have hk9 : h.kind = 9 := by simpa using hk
  have hi16 : h.index < s.dev.tu.tcaps.length := by
    rw [hlen]
    simp only [targetOk, Bool.and_eq_true, decide_eq_true_eq] at hi
    have h1 := hi.1.1
    rw [hk9] at h1
    exact h1
  obtain ⟨t, ht, hp, x, hx, hpast, hr⟩ := completes_plain (c := .captureRead h pay) (s := s) rfl (by decide) ha (y := fun x => x.captured h.index (fieldLE pay 0 2))
    (r := { note := if ((s.dev.tu.tcaps.getD h.index {}).fifo.drop (fieldLE pay 0 2)).isEmpty then 0 else 0x0030,
            pay := leBytes 2 ((s.dev.tu.tcaps.getD h.index {}).fifo.take (fieldLE pay 0 2)).length ++ zeroBytes 6 ++
              ((s.dev.tu.tcaps.getD h.index {}).fifo.take (fieldLE pay 0 2)).flatten })
    (fun x hx => by
      have htu : x.tu = s.dev.tu := Dev.reads_unreplied (f := fun d => d.tu) (fun _ => rfl) hx
      have hcap := Dev.tcap_captured (d := x) (by rw [htu]; exact hi16) (fieldLE pay 0 2)
      refine ⟨?_, rfl, rfl⟩
      have heff : x.captureEffect { op := 0x5021, h := h, pay := pay } = (x.captured h.index (fieldLE pay 0 2),
          { note := if !((x.captured h.index (fieldLE pay 0 2)).tu.tcaps.getD h.index {}).fifo.isEmpty then 0x0030 else 0,
            pay := leBytes 2 ((x.tu.tcaps.getD h.index {}).fifo.take (fieldLE pay 0 2)).length ++ zeroBytes 6 ++
              ((x.tu.tcaps.getD h.index {}).fifo.take (fieldLE pay 0 2)).flatten }) := rfl
      refine heff.trans ?_
      rw [hcap, htu]
      dsimp only
      generalize ((s.dev.tu.tcaps.getD h.index {}).fifo.drop (fieldLE pay 0 2)).isEmpty = e
      cases e <;> rfl)
    rfl rfl
  have hn := Dev.past_of_unreplied hpast (show _ = (s.dev.captured h.index (fieldLE pay 0 2)).unreplied from (congrArg (fun d => d.captured h.index (fieldLE pay 0 2)) hx :))
  have htu : t.dev.tu = (s.dev.captured h.index (fieldLE pay 0 2)).tu := (congrArg Dev.tu hn :)
  refine ⟨t, ht, hp, ?_, fun j hj => ?_, ?_, hr.gives⟩
  · rw [htu]
    exact hn
  · rw [htu, Dev.tcap_captured_ne _ hj]
  · rw [htu, Dev.tcap_captured hi16]

theorem completes_getParams {c : Instr} {op : Nat} (hx : exec c s = s.runs op h pay) (hp : plainOp op = true)
    (heff : ∀ x : Dev, x.effOf { op := op, h := h, pay := pay } = (x, x.getParams { op := op, h := h, pay := pay }))
    (ha : s.dev.accepts { op := op, h := h, pay := pay }) (p : Params) (en : PEnt) (desc : ParamDesc) (hv : s.dev.seen.params op h.kind h.index = some p) (hen : entriesOf pay = [en])
    (h0 : fieldLE pay 2 6 = 0) (hd : paramFor op h.kind en.id = some desc) (hc : en.clean op h.kind true = true) (hr : isReact en.id = false) (hsub : en.sub = 0) :
    ∃ t, exec c s = .next t ∧ t.pending = s.pending ∧ t.dev.Past s.dev ∧ t.dev.Gives { op := op, h := h, pay := pay }
      { pay := leBytes 8 s.dev.ctl.published ++ leBytes 2 en.id ++ leBytes 2 0 ++ zeroBytes 4 ++ desc.fmt.write (p.valueOf h.kind h.index en.id 0) } s.dev.ctl.cycle :=
  completes_gives hx hp ha (fun x hu => by
    rw [heff, Dev.getParams_one (q := { op := op, h := h, pay := pay }) hu hv hen h0 hd hc hr hsub]) rfl rfl

end

/-- The fields of IO_STATUS within its 24 bytes (Table 13.9). -/
theorem payHolds_padTo {b : List Byte} {plate : Nat} {xs : List (Nat × Nat × Nat)} (hx : ∀ x ∈ xs, 8 ≤ x.1 ∧ x.1 + x.2.1 ≤ 32)
    (hf : PayHolds (leBytes 8 plate ++ (b ++ zeroBytes 24)) xs) : PayHolds (leBytes 8 plate ++ padTo 24 b) ((0, 8, plate) :: xs) := by
  rw [payHolds_cons]
  refine ⟨fieldLE_leBytes_append 8 plate _, fun x hm => ?_⟩
  obtain ⟨h8, h32⟩ := hx x hm
  have h := hf x hm
  rw [fieldLE_append_left _ _ _ _ (by rw [leBytes_length]; exact h8)] at h ⊢
  rw [leBytes_length] at h ⊢
  rw [fieldLE_padTo _ (by omega)]
  exact h

/-- Settles O57: an accepted query is its effect and a reply (`completes_plain`), and what it answers from looks at no reply (`Dev.reads_seen`). -/
theorem queriesAnswer : Obligations.QueriesAnswer := by
  intro s h pay n v q f i tells gets
  refine ⟨completes_getParams rfl (by decide) fun _ => rfl, completes_getParams rfl (by decide) fun _ => rfl, completes_getParams rfl (by decide) fun _ => rfl,
    completes_getParams rfl (by decide) fun _ => rfl, completes_getParams rfl (by decide) fun _ => rfl, completes_getInfo, completes_paceStatus, fun ax => completes_axisStatus,
    fun x => completes_stepStatus, completes_segStatus, completes_collimation, completes_timeStatus, fun ha => ⟨fun hk => ?_, fun hk => ?_, fun hk => ?_⟩, completes_chrStatus,
    completes_logStatus, fun ha => ⟨completes_safeStatus ha, completes_connStatus ha⟩, completes_stStatus, completes_imageStatus, fun x => completes_chrRead, completes_logRead, completes_captureRead⟩
  · refine completes_ioStatus ha ?_
    rw [hk]
    refine payHolds_padTo (by simp) ?_
    simp only [payHolds_cons, payHolds_nil, and_true, List.append_assoc]
    simp [fieldLE_append_left, fieldLE_leBytes_append, v, n, i]
  · refine completes_ioStatus ha ?_
    rw [hk]
    refine payHolds_padTo (by simp) ?_
    simp only [payHolds_cons, payHolds_nil, and_true, List.append_assoc]
    simp [fieldLE_append_left, fieldLE_leBytes_append, v, n, i]
  · refine completes_ioStatus ha ?_
    rw [hk]
    refine payHolds_padTo (by simp) ?_
    simp only [payHolds_cons, payHolds_nil, and_true, List.append_assoc]
    simp [fieldLE_append_left, fieldLE_leBytes_append, v, n, i]

end Sys2Proof.Machine

/-! PROOFS. One step of the machine (R337; logs 3, 6). -/

namespace Sys2Proof.Machine

open Sys2Proof

theorem step_of_front {s : State} {c : Instr} {cs : List Instr} (h : s.pending = c :: cs) : step s = exec c { s with pending := cs } := by
  unfold step
  rw [h]

theorem step_of_idle {s : State} (h : s.pending = []) : step s = .next { s with dev := { s.dev with tu := s.dev.tu.tick } } := by
  unfold step
  rw [h]

/-- Settles O1, by the two cases of the queue. -/
theorem stepRunsFrontCommand : Obligations.StepRunsFrontCommand :=
  ⟨fun _ _ _ => step_of_front, fun _ => step_of_idle⟩

end Sys2Proof.Machine

/-! PROOFS. The discipline of TB (R342, R343, R356, Table 11.1): what it leaves alone of the Time Unit, each row of the table as an equation of `Tu.offset`, and the commands that bring an
offset, lose the source or end HOLDOVER. -/

namespace Sys2Proof.Machine

open Sys2Proof

/-! ## RC reaches an instant -/

/-- RC and the slew of RATE are all that an instant reached changes. -/
theorem Tu.reachQ_eq (t : Tu) (q : Int) :
    t.reachQ q = { t with rc := (t.reachQ q).rc, rcRem := (t.reachQ q).rcRem, rate := (t.reachQ q).rate, slewing := (t.reachQ q).slewing } := by
  unfold Tu.reachQ Tu.reach
  split <;> rfl

section
variable (t : Tu) (q : Int)

@[simp] theorem Tu.prm_reachQ : (t.reachQ q).prm = t.prm := (congrArg Tu.prm (t.reachQ_eq q) :)
@[simp] theorem Tu.ofs_reachQ : (t.reachQ q).ofs = t.ofs := (congrArg Tu.ofs (t.reachQ_eq q) :)
@[simp] theorem Tu.state_reachQ : (t.reachQ q).state = t.state := (congrArg Tu.state (t.reachQ_eq q) :)
@[simp] theorem Tu.inRun_reachQ : (t.reachQ q).inRun = t.inRun := (congrArg Tu.inRun (t.reachQ_eq q) :)
@[simp] theorem Tu.outRun_reachQ : (t.reachQ q).outRun = t.outRun := (congrArg Tu.outRun (t.reachQ_eq q) :)
@[simp] theorem Tu.servoStep_reachQ : (t.reachQ q).servoStep = t.servoStep := (congrArg Tu.servoStep (t.reachQ_eq q) :)
@[simp] theorem Tu.source_reachQ : (t.reachQ q).source = t.source := (congrArg Tu.source (t.reachQ_eq q) :)
@[simp] theorem Tu.ports_reachQ : (t.reachQ q).ports = t.ports := (congrArg Tu.ports (t.reachQ_eq q) :)
@[simp] theorem Tu.touts_reachQ : (t.reachQ q).touts = t.touts := (congrArg Tu.touts (t.reachQ_eq q) :)
@[simp] theorem Tu.tcaps_reachQ : (t.reachQ q).tcaps = t.tcaps := (congrArg Tu.tcaps (t.reachQ_eq q) :)
@[simp] theorem Tu.ppsLocked_reachQ : (t.reachQ q).ppsLocked = t.ppsLocked := (congrArg Tu.ppsLocked (t.reachQ_eq q) :)
@[simp] theorem Tu.ppsReject_reachQ : (t.reachQ q).ppsReject = t.ppsReject := (congrArg Tu.ppsReject (t.reachQ_eq q) :)
@[simp] theorem Tu.tbOf_reachQ (r : Int) : (t.reachQ q).tbOf r = t.tbOf r := by simp [Tu.tbOf]

end

/-! ## Commands of the Time Unit -/

theorem Dev.tu_of_is {d e : Dev} (h : d.Is e) : d.tu = e.tu := show d.core.tu = e.core.tu from congrArg (fun x => x.tu) h

/-- A row of the Time Unit completes with the unit that its meaning gives, and one event is reported while the buffer has room for it (R16). -/
theorem completes_withTu {c : Instr} {s : State} {f : Dev → Dev} {r : Tu × List Ev} (hc : exec c s = s.act f) (hf : f s.dev = s.dev.withTu r) :
    Completes c s (fun d => d.Is { s.dev with tu := r.1 } ∧ ∀ e, r.2 = [e] → s.dev.EventRoom 1 → d.Reports e.code e.src e.args) := by
  refine completes_act hc ?_
  rw [hf]
  refine ⟨(Dev.core_satCheck _ _).trans (Dev.core_emits _ _), fun e he hroom => Dev.reports_satCheck _ _ ?_⟩
  unfold Dev.withTu
  rw [he]
  exact Dev.reports_emit _ e fun _ => hroom

/-! ## What the discipline leaves alone -/

/-- The parts of the Time Unit that the discipline has no hand in: the offset of TB, the parameters, outputs, captures and plant ports. -/
def Tu.aside (t : Tu) : Int × Params × List Tout × List Tcap × List PlantPort := (t.ofs, t.prm, t.touts, t.tcaps, t.ports)

@[simp] theorem Tu.aside_reachQ (t : Tu) (q : Int) : (t.reachQ q).aside = t.aside := by simp [Tu.aside]

/-- An offset update leaves those parts alone, and the offset is then the last one. -/
theorem Tu.offset_frame (t : Tu) (o : Int) : (t.offset o).1.aside = t.aside ∧ (t.offset o).1.lastOffset = o := by
  unfold Tu.offset
  extract_lets
  split
  · split
    · exact ⟨rfl, rfl⟩
    · split <;> exact ⟨rfl, rfl⟩
  · split <;> exact ⟨rfl, rfl⟩
  · exact ⟨rfl, rfl⟩
  · exact ⟨rfl, rfl⟩

/-- The device differs from `n` in its Time Unit alone, and there in the discipline alone. -/
def Dev.Disciplined (n d : Dev) : Prop :=
  d.Is { n with tu := d.tu } ∧ d.tu.ofs = n.tu.ofs ∧ d.tu.prm = n.tu.prm ∧ d.tu.touts = n.tu.touts ∧ d.tu.tcaps = n.tu.tcaps ∧ d.tu.ports = n.tu.ports

theorem Dev.disciplined_of_is {n d : Dev} {u : Tu} (h : d.Is { n with tu := u }) (hu : u.aside = n.tu.aside) : n.Disciplined d := by
  have htu : d.tu = u := Dev.tu_of_is h
  subst htu
  simp only [Tu.aside, Prod.mk.injEq] at hu
  exact ⟨h, hu⟩

/-! ## The rows of Table 11.1 -/

section
variable {t : Tu} {o : Int}

/-- The magnitude that `Tu.offset` compares lies above a limit on either side. -/
theorem magnitude_gt {limit : Int} (h : limit < o ∨ o < -limit) : limit < (if o < 0 then -o else o) := by
  split <;> omega

theorem magnitude_le {limit : Int} (h : -limit ≤ o ∧ o ≤ limit) : (if o < 0 then -o else o) ≤ limit := by
  split <;> omega

theorem Tu.offset_of_acquire (hs : t.state = 1) : t.offset o =
    if decide (1000 * Params.val t.prm pTB_STEP_LIMIT < (if o < 0 then -o else o)) then ({ t with lastOffset := o, servoStep := some (-o), sum := 0, inRun := 0 }, [])
    else if 16 ≤ (if decide ((if o < 0 then -o else o) ≤ 1000 * Params.val t.prm pLOCK_BAND) then t.inRun + 1 else 0) then
      ({ Tu.servo { t with lastOffset := o } o with state := 2, inRun := 0, outRun := 0 }, [evC srcTu eTIME_LOCKED])
    else ({ Tu.servo { t with lastOffset := o } o with inRun := if decide ((if o < 0 then -o else o) ≤ 1000 * Params.val t.prm pLOCK_BAND) then t.inRun + 1 else 0 }, []) := by
  cases t
  cases hs
  rfl

theorem Tu.offset_of_locked (hs : t.state = 2) : t.offset o =
    if 3 ≤ (if decide (1000 * Params.val t.prm pTB_STEP_LIMIT < (if o < 0 then -o else o)) then t.outRun + 1 else 0) then
      ({ Tu.servo { t with lastOffset := o } o with state := 1, outRun := 0, inRun := 0, servoStep := some (-o) }, [evC srcTu eTIME_UNLOCKED])
    else ({ Tu.servo { t with lastOffset := o } o with outRun := if decide (1000 * Params.val t.prm pTB_STEP_LIMIT < (if o < 0 then -o else o)) then t.outRun + 1 else 0 }, []) := by
  cases t
  cases hs
  rfl

/-- ACQUIRE, above TB_STEP_LIMIT. -/
theorem Tu.offset_acquire_step (hs : t.state = 1) (hbig : 1000 * Params.val t.prm pTB_STEP_LIMIT < o ∨ o < -(1000 * Params.val t.prm pTB_STEP_LIMIT)) :
    t.offset o = ({ t with lastOffset := o, servoStep := some (-o), sum := 0, inRun := 0 }, []) :=
  (Tu.offset_of_acquire hs).trans (if_pos (decide_eq_true (magnitude_gt hbig)))

/-- ACQUIRE, the 16th update in band. -/
theorem Tu.offset_acquire_lock (hs : t.state = 1) (hsmall : -(1000 * Params.val t.prm pTB_STEP_LIMIT) ≤ o ∧ o ≤ 1000 * Params.val t.prm pTB_STEP_LIMIT)
    (hband : -(1000 * Params.val t.prm pLOCK_BAND) ≤ o ∧ o ≤ 1000 * Params.val t.prm pLOCK_BAND) (hrun : 15 ≤ t.inRun) :
    t.offset o = ({ Tu.servo { t with lastOffset := o } o with state := 2, inRun := 0, outRun := 0 }, [evC srcTu eTIME_LOCKED]) := by
  rw [Tu.offset_of_acquire hs, if_neg (by simpa using magnitude_le hsmall), if_pos]
  rw [if_pos (decide_eq_true (magnitude_le hband))]
  omega

/-- LOCKED, the third update above TB_STEP_LIMIT. -/
theorem Tu.offset_locked_step (hs : t.state = 2) (hbig : 1000 * Params.val t.prm pTB_STEP_LIMIT < o ∨ o < -(1000 * Params.val t.prm pTB_STEP_LIMIT)) (hrun : 2 ≤ t.outRun) :
    t.offset o = ({ Tu.servo { t with lastOffset := o } o with state := 1, outRun := 0, inRun := 0, servoStep := some (-o) }, [evC srcTu eTIME_UNLOCKED]) := by
  rw [Tu.offset_of_locked hs, if_pos]
  rw [if_pos (decide_eq_true (magnitude_gt hbig))]
  omega

/-- LOCKED, an update within TB_STEP_LIMIT. -/
theorem Tu.offset_locked_track (hs : t.state = 2) (hsmall : -(1000 * Params.val t.prm pTB_STEP_LIMIT) ≤ o ∧ o ≤ 1000 * Params.val t.prm pTB_STEP_LIMIT) :
    t.offset o = ({ Tu.servo { t with lastOffset := o } o with outRun := 0 }, []) := by
  have hrun : (if decide (1000 * Params.val t.prm pTB_STEP_LIMIT < (if o < 0 then -o else o)) then t.outRun + 1 else 0) = 0 := if_neg (by simpa using magnitude_le hsmall)
  rw [Tu.offset_of_locked hs, hrun]
  rfl

/-- HOLDOVER, the source comes back. -/
theorem Tu.state_offset_holdover (hs : t.state = 3) : (t.offset o).1.state = 1 := by
  cases t
  cases hs
  rfl

end

/-! ## A pulse on TB_PPS_IN (R342, R356) -/

/-- The offset that a pulse stamped at `q` shows, in picoseconds. -/
def Tu.ppsOffset (t : Tu) (q : Int) : Int := wrapMod 1000000000000 (t.tbOf q * 1000 / 65536 - Params.val t.prm pPPS_IN_DELAY)

/-- The Time Unit that has seen a pulse at `q`. -/
def Tu.pulsed (t : Tu) (q : Int) : Tu := { t.reachQ q with ppsPresent := true }

/-- What the discipline makes of a pulse at `q`. -/
def Tu.ppsUpdate (t : Tu) (q : Int) : Tu × List Ev := (t.pulsed q).offset (t.ppsOffset q)

theorem Tu.aside_pulsed (t : Tu) (q : Int) : (t.pulsed q).aside = t.aside := t.aside_reachQ q

theorem Tu.ppsOffset_reachQ (t : Tu) (q : Int) : (t.reachQ q).ppsOffset q = t.ppsOffset q := by simp [Tu.ppsOffset]

section
variable {t : Tu} {q : Int} {falling : Bool}

theorem Tu.ppsIn_unselected (hsel : falling ≠ decide (Params.nat t.prm pPPS_IN_EDGE = 1)) : (t.reachQ q).ppsIn q falling = (t.reachQ q, []) := by
  unfold Tu.ppsIn
  exact if_pos (by simpa using hsel)

/-- A pulse of the selected polarity: beyond the window after the first lock, of a source not in use, and of the source. -/
theorem Tu.ppsIn_selected (hsel : falling = decide (Params.nat t.prm pPPS_IN_EDGE = 1)) : (t.reachQ q).ppsIn q falling =
    if t.ppsLocked && decide (100000000 < (if t.ppsOffset q < 0 then -t.ppsOffset q else t.ppsOffset q)) then ({ t.pulsed q with ppsReject := incSat 32 t.ppsReject }, [])
    else if t.source ≠ 2 then (t.pulsed q, [])
    else ({ (t.ppsUpdate q).1 with ppsLocked := (t.ppsUpdate q).1.ppsLocked || decide ((t.ppsUpdate q).1.state = 2) }, (t.ppsUpdate q).2) := by
  have ho := t.ppsOffset_reachQ q
  have hl := t.ppsLocked_reachQ q
  have hr := t.ppsReject_reachQ q
  have hsrc := t.source_reachQ q
  unfold Tu.ppsIn
  rw [if_neg (by simpa using hsel)]
  unfold Tu.ppsUpdate
  rw [← ho, ← hl, ← hr, ← hsrc]
  rfl

theorem Tu.ppsIn_rejected (hsel : falling = decide (Params.nat t.prm pPPS_IN_EDGE = 1)) (hl : t.ppsLocked = true) (hfar : 100000000 < t.ppsOffset q ∨ t.ppsOffset q < -100000000) :
    (t.reachQ q).ppsIn q falling = ({ t.pulsed q with ppsReject := incSat 32 t.ppsReject }, []) := by
  rw [Tu.ppsIn_selected hsel, if_pos (by simp [hl, magnitude_gt hfar])]

theorem Tu.ppsIn_near (hsel : falling = decide (Params.nat t.prm pPPS_IN_EDGE = 1)) (hnear : t.ppsLocked = false ∨ (-100000000 ≤ t.ppsOffset q ∧ t.ppsOffset q ≤ 100000000)) :
    (t.reachQ q).ppsIn q falling = if t.source ≠ 2 then (t.pulsed q, [])
      else ({ (t.ppsUpdate q).1 with ppsLocked := (t.ppsUpdate q).1.ppsLocked || decide ((t.ppsUpdate q).1.state = 2) }, (t.ppsUpdate q).2) := by
  rw [Tu.ppsIn_selected hsel, if_neg]
  rcases hnear with h | h
  · simp [h]
  · simp [not_lt.mpr (magnitude_le h)]

theorem completes_ppsIn {s : State} {r : Tu × List Ev} (hr : (s.dev.tu.reachQ q).ppsIn q falling = r) : Completes (.ppsInEdge q falling) s (fun d =>
    d.Is { s.dev with tu := r.1 } ∧ ∀ e, r.2 = [e] → s.dev.EventRoom 1 → d.Reports e.code e.src e.args) :=
  completes_withTu (f := fun d => d.withTu ((d.tuAt q).ppsIn q falling)) rfl (congrArg s.dev.withTu hr)

/-- A pulse of the source in use: the discipline's update, with its event. -/
theorem completes_ppsUpdate {s : State} (hsel : falling = decide (Params.nat s.dev.tu.prm pPPS_IN_EDGE = 1))
    (hnear : s.dev.tu.ppsLocked = false ∨ (-100000000 ≤ s.dev.tu.ppsOffset q ∧ s.dev.tu.ppsOffset q ≤ 100000000)) (hsrc : s.dev.tu.source = 2) :
    Completes (.ppsInEdge q falling) s (fun d => s.dev.Disciplined d ∧
      d.tu = { (s.dev.tu.ppsUpdate q).1 with ppsLocked := (s.dev.tu.ppsUpdate q).1.ppsLocked || decide ((s.dev.tu.ppsUpdate q).1.state = 2) } ∧
      ∀ e, (s.dev.tu.ppsUpdate q).2 = [e] → s.dev.EventRoom 1 → d.Reports e.code e.src e.args) := by
  have hr := (Tu.ppsIn_near hsel hnear).trans (if_neg (not_not.mpr hsrc))
  refine (completes_ppsIn hr).imp fun d ⟨his, hrep⟩ => ⟨Dev.disciplined_of_is his ?_, (Dev.tu_of_is his :), hrep⟩
  exact ((s.dev.tu.pulsed q).offset_frame _).1.trans (s.dev.tu.aside_pulsed q)

theorem Tu.lastOffset_ppsUpdate (t : Tu) (q : Int) : (t.ppsUpdate q).1.lastOffset = t.ppsOffset q := (Tu.offset_frame _ _).2

end

/-! ## The source is lost, HOLDOVER ends -/

theorem Tu.lost_locked {t : Tu} (hs : t.state = 2) (hr : t.rates ≠ []) :
    t.lost = ({ t with state := 3, target := t.rates.foldl (· + ·) 0 / (t.rates.length : Rat), inRun := 0, outRun := 0 }, [evC srcTu eTIME_HOLDOVER]) := by
  unfold Tu.lost
  simp [hs, hr]

theorem Tu.lost_acquire {t : Tu} (hs : t.state = 1) : t.lost = (t.goFree, [evC srcTu eTIME_FREE]) := by
  unfold Tu.lost
  simp [hs]

/-- The Time Unit to which the loss of its source comes (R356: TB_PPS_IN is present no longer). -/
def Tu.deprived (t : Tu) : Tu := if t.source = 2 then { t with ppsPresent := false } else t

theorem Tu.deprived_eq (t : Tu) : t.deprived = { t with ppsPresent := t.deprived.ppsPresent } := by
  unfold Tu.deprived
  split <;> rfl

theorem completes_tbSourceLost {s : State} {u : Tu} {e : Ev} (hsrc : s.dev.tu.source ≠ 0) (hu : s.dev.tu.deprived.lost = (u, [e])) (hroom : s.dev.EventRoom 1) :
    Completes .tbSourceLost s (fun d => d.Is { s.dev with tu := u } ∧ d.Reports e.code e.src e.args) := by
  have hr : s.dev.tu.sourceLost = (u, [e]) := (if_neg hsrc).trans hu
  exact (completes_withTu (f := fun d => d.withTu d.tu.sourceLost) (r := (u, [e])) rfl (congrArg s.dev.withTu hr)).imp fun d ⟨his, hrep⟩ => ⟨his, hrep e rfl hroom⟩

/-! ## TB_PPS_OUT (R356) -/

/-- The next pulse comes after the instants that hold it back, at the first quarter nanosecond of a whole second of TB. -/
theorem Tu.ppsNext_spec (t : Tu) : ∃ sec : Int, t.now < t.ppsNext ∧ t.ppsFall < t.ppsNext ∧ t.ppsAfter < t.ppsNext ∧
    sec * 65536000000000 ≤ t.tbOf t.ppsNext ∧ t.tbOf t.ppsNext < sec * 65536000000000 + 16384 := by
  refine ⟨t.tbOf (max t.ppsAfter (max t.ppsFall t.now)) / 65536000000000 + 1, ?_⟩
  unfold Tu.ppsNext Tu.tbOf
  dsimp only
  omega

/-! ## O40 -/

/-- Settles O40: each clause is a row of Table 11.1, an equation of `Tu.offset` or `Tu.lost`, under the command that brings it about. -/
theorem disciplineStates : Obligations.DisciplineStates := by
  intro s q falling hroom n t o limit band tuOnly
  refine ⟨fun hsel => ?_, fun hsel => ⟨fun hl hfar => ?_, fun hnear hsrc => ?_, fun hnear hsrc => ?_⟩, fun hsrc => ⟨fun hs hr => ?_, fun hs => ?_⟩, fun hs => ?_, ?_⟩
  · exact (completes_ppsIn (Tu.ppsIn_unselected hsel)).imp fun d h => h.1
  · refine (completes_ppsIn (Tu.ppsIn_rejected hsel hl hfar)).imp fun d ⟨his, _⟩ => ?_
    have htu := Dev.tu_of_is his
    exact ⟨Dev.disciplined_of_is his (t.aside_pulsed q), by rw [htu], by rw [htu]; exact t.state_reachQ q⟩
  · exact (completes_ppsIn ((Tu.ppsIn_near hsel hnear).trans (if_pos hsrc))).imp fun d h => h.1
  · have hup := completes_ppsUpdate hsel hnear hsrc
    have hp : (t.pulsed q).prm = t.prm := t.prm_reachQ q
    have hlast : (t.ppsUpdate q).1.lastOffset = o := t.lastOffset_ppsUpdate q
    refine ⟨fun hs hbig => ?_, fun hs h1 h2 h3 h4 hrun => ?_, fun hs hbig hrun => ?_, fun hs h1 h2 => ?_, fun hs => ?_⟩
    · have hr : t.ppsUpdate q = _ := Tu.offset_acquire_step ((t.state_reachQ q).trans hs) (by rw [hp]; exact hbig)
      refine hup.imp fun d ⟨honly, htu, _⟩ => ?_
      rw [hr] at htu
      exact ⟨honly, by rw [htu]; exact (t.state_reachQ q).trans hs, by rw [htu]; rfl, by rw [htu], by rw [htu]; rfl⟩
    · have hr : t.ppsUpdate q = _ :=
        Tu.offset_acquire_lock ((t.state_reachQ q).trans hs) (by rw [hp]; exact ⟨h1, h2⟩) (by rw [hp]; exact ⟨h3, h4⟩) (by rw [show (t.pulsed q).inRun = t.inRun from t.inRun_reachQ q]; exact hrun)
      refine hup.imp fun d ⟨honly, htu, hrep⟩ => ?_
      rw [hr] at htu
      exact ⟨honly, by rw [htu], by rw [htu]; simp, by rw [htu]; rfl, hrep _ (by rw [hr]) hroom⟩
    · have hr : t.ppsUpdate q = _ :=
        Tu.offset_locked_step ((t.state_reachQ q).trans hs) (by rw [hp]; exact hbig) (by rw [show (t.pulsed q).outRun = t.outRun from t.outRun_reachQ q]; exact hrun)
      refine hup.imp fun d ⟨honly, htu, hrep⟩ => ?_
      rw [hr] at htu
      exact ⟨honly, by rw [htu], by rw [htu]; rfl, by rw [htu]; rfl, hrep _ (by rw [hr]) hroom⟩
    · have hr : t.ppsUpdate q = _ := Tu.offset_locked_track ((t.state_reachQ q).trans hs) (by rw [hp]; exact ⟨h1, h2⟩)
      refine hup.imp fun d ⟨honly, htu, _⟩ => ?_
      rw [hr] at htu
      exact ⟨honly, by rw [htu]; exact (t.state_reachQ q).trans hs, by rw [htu]; exact t.servoStep_reachQ q, by rw [htu]; rfl⟩
    · have hst : (t.ppsUpdate q).1.state = 1 := Tu.state_offset_holdover ((t.state_reachQ q).trans hs)
      exact hup.imp fun d ⟨honly, htu, _⟩ => ⟨honly, by rw [htu]; exact hst, by rw [htu]; exact hlast⟩
  · have hd := t.deprived_eq
    have hl : t.deprived.lost = _ := Tu.lost_locked (by rw [hd]; exact hs) (by rw [hd]; exact hr)
    refine (completes_tbSourceLost hsrc hl hroom).imp fun d ⟨his, hrep⟩ => ?_
    have htu := Dev.tu_of_is his
    exact ⟨Dev.disciplined_of_is his (by rw [hd]; rfl), by rw [htu], by rw [htu, hd], hrep⟩
  · have hd := t.deprived_eq
    have hl : t.deprived.lost = _ := Tu.lost_acquire (by rw [hd]; exact hs)
    refine (completes_tbSourceLost hsrc hl hroom).imp fun d ⟨his, hrep⟩ => ?_
    have htu := Dev.tu_of_is his
    exact ⟨Dev.disciplined_of_is his (by rw [hd]; rfl), by rw [htu]; rfl, by rw [htu, hd]; rfl, hrep⟩
  · have hr : t.holdoverEnd = (t.goFree, [evC srcTu eTIME_FREE]) := if_pos hs
    exact (completes_withTu (f := fun d => d.withTu d.tu.holdoverEnd) rfl (congrArg n.withTu hr)).imp fun d ⟨his, hrep⟩ => ⟨his, hrep _ rfl hroom⟩
  · obtain ⟨sec, hspec⟩ := t.ppsNext_spec
    exact completes_does (f := fun d => { d with tu := d.tu.ppsOut }) rfl ⟨t.ppsNext, sec, rfl, hspec⟩

end Sys2Proof.Machine

/-! PROOFS. The level of a capture pin after an edge (R353): a state that refutes the statement of O41. -/

namespace Sys2Proof.Machine

open Sys2Proof

/-- A capture input 0 that skips its next rising edge; its pin is low. -/
def skipsRising : State := { dev := { ({} : Dev) with tu := { ({} : Tu) with tcaps := [{ skip := some false }] } } }

/-- The rising edge leaves the pin high. -/
theorem skipsRising_level : ∃ t, exec (.captureEdge 0 0 false 0) skipsRising = .next t ∧ (t.dev.tu.tcaps.getD 0 {}).level = true := by
  refine ⟨_, rfl, ?_⟩
  decide +kernel

/-- Refutes O41: an edge is to change nothing of its capture input but the fields that each clause names, and none names the level of the pin after its last edge, which every edge sets;
here a skipped rising edge raises it. The refutation rests on that field alone. -/
theorem not_timedOutputsAndCaptures : ¬ Obligations.TimedOutputsAndCaptures := by
  intro h
  obtain ⟨-, -, hcap⟩ := h skipsRising 0 0 false 0
  obtain ⟨-, hskip, -⟩ := hcap (by decide)
  obtain ⟨t, ht, -, -, -, hc⟩ := hskip rfl
  obtain ⟨u, hu, hlevel⟩ := skipsRising_level
  obtain rfl : t = u := by simpa using ht.symm.trans hu
  rw [hc] at hlevel
  exact absurd hlevel (by decide)

end Sys2Proof.Machine

/-! PROOFS. PTP at the plant ports (R345 to R347, Table 11.2): one port replaced, what a message and a Sync that leaves make of their port, and the decision of the port's state. -/

namespace Sys2Proof.Machine

open Sys2Proof

/-! ## One plant port -/

/-- The Time Unit with another plant port `i`. -/
def Tu.withPort (t : Tu) (i : Nat) (x : PlantPort) : Tu := { t with ports := t.ports.set i x }

theorem Tu.length_withPort (t : Tu) (i : Nat) (x : PlantPort) : (t.withPort i x).ports.length = t.ports.length := List.length_set

theorem Tu.port_withPort {t : Tu} {i : Nat} (hi : i < t.ports.length) (x : PlantPort) : (t.withPort i x).ports.getD i {} = x := getD_set_same _ _ _ hi

/-- The device differs from `n` with the Time Unit `u` in plant port `i` alone, which is `x`. -/
def Dev.PortIs (n : Dev) (u : Tu) (i : Nat) (x : PlantPort) (d : Dev) : Prop :=
  d.Is { n with tu := { u with ports := d.tu.ports } } ∧ (∀ j, j ≠ i → d.tu.ports.getD j {} = n.tu.ports.getD j {}) ∧ d.tu.ports.getD i {} = x

theorem Dev.portIs_of_is {n d : Dev} {u : Tu} {i : Nat} {x : PlantPort} (h : d.Is { n with tu := u.withPort i x }) (hu : u.ports = n.tu.ports) (hi : i < n.tu.ports.length) :
    n.PortIs u i x d := by
  have hp : d.tu.ports = n.tu.ports.set i x := (congrArg Tu.ports (Dev.tu_of_is h)).trans (congrArg (fun l => l.set i x) hu)
  refine ⟨?_, fun j hj => ?_, ?_⟩
  · rw [hp, ← hu]
    exact h
  · rw [hp, getD_set_ne _ _ _ hj.symm]
  · rw [hp, getD_set_same _ _ _ hi]

theorem modify_eq_set_getD {α : Type} (l : List α) (i : Nat) (f : α → α) (x : α) (hi : i < l.length) : l.modify i f = l.set i (f (l.getD i x)) := by
  rw [List.modify_eq_set_getElem?, List.getD_eq_getElem?_getD, List.getElem?_eq_getElem hi]
  rfl

/-! ## The rows while the plant domain is on, and while it is off (Table 1.3) -/

section
variable {s : State} {i : Nat} {q : Int} {f : List Byte} {k : PtpKind}

theorem Dev.plantUp_on {d : Dev} (hp : d.power.plant = true) (hi : i < 2) : d.plantUp i = true := by simp [Dev.plantUp, hp, hi]

theorem Dev.plantUp_off {d : Dev} (hp : d.power.plant = false) (i : Nat) : ¬d.plantUp i = true := by simp [Dev.plantUp, hp]

theorem completes_ptpReceive (hp : s.dev.power.plant = true) (hi : i < 2) {r : Tu × List Ev} (hr : (s.dev.tu.reachQ q).ptpArrives i q f = r) :
    Completes (.ptpMessageReceive i q f) s (fun d => d.Is { s.dev with tu := r.1 }) :=
  (completes_withTu (f := fun d => if d.plantUp i then d.withTu ((d.tuAt q).ptpArrives i q f) else d) rfl
    ((if_pos (Dev.plantUp_on hp hi)).trans (congrArg s.dev.withTu hr))).imp fun _ h => h.1

theorem completes_announceTimeout (hp : s.dev.power.plant = true) (hi : i < 2) {r : Tu × List Ev} (hr : s.dev.tu.announceTimeout i = r) :
    Completes (.announceReceiptTimeout i) s (fun d => d.Is { s.dev with tu := r.1 }) :=
  (completes_withTu (f := fun d => if d.plantUp i then d.withTu (d.tu.announceTimeout i) else d) rfl
    ((if_pos (Dev.plantUp_on hp hi)).trans (congrArg s.dev.withTu hr))).imp fun _ h => h.1

theorem completes_ptpTransmit (hp : s.dev.power.plant = true) (hi : i < 2) {u : Tu} (hu : (s.dev.tu.reachQ q).ptpTransmit i k q = u) :
    Completes (.ptpMessageTransmit i q k) s (fun d => d.Is { s.dev with tu := u }) :=
  completes_does (f := fun d => if d.plantUp i then { d with tu := (d.tuAt q).ptpTransmit i k q } else d) rfl
    (congrArg Dev.core ((if_pos (Dev.plantUp_on hp hi)).trans (congrArg (fun u => { s.dev with tu := u }) hu)))

theorem completes_igmpQuery (hp : s.dev.power.plant = true) (hi : i < 2) {u : Tu} (hu : s.dev.tu.igmp i = u) :
    Completes (.igmpQueryReceive i) s (fun d => d.Is { s.dev with tu := u }) :=
  completes_does (f := fun d => if d.plantUp i then { d with tu := d.tu.igmp i } else d) rfl
    (congrArg Dev.core ((if_pos (Dev.plantUp_on hp hi)).trans (congrArg (fun u => { s.dev with tu := u }) hu)))

/-- A row that acts and changes nothing fills no counter either. -/
theorem completes_act_idle {c : Instr} {g : Dev → Dev} (hc : exec c s = s.act g) (hg : g s.dev = s.dev) : Completes c s (fun d => d = s.dev) := by
  refine completes_act hc ?_
  rw [hg]
  exact Dev.satCheck_same _ _ rfl

/-- Without the plant domain no row of the plant ports changes anything. -/
theorem plantPorts_idle (hp : s.dev.power.plant = false) : Completes (.ptpMessageReceive i q f) s (fun d => d = s.dev) ∧ Completes (.ptpMessageTransmit i q k) s (fun d => d = s.dev) ∧
    Completes (.announceReceiptTimeout i) s (fun d => d = s.dev) ∧ Completes (.igmpQueryReceive i) s (fun d => d = s.dev) := by
  have hoff := Dev.plantUp_off hp i
  exact ⟨completes_act_idle (g := fun d => if d.plantUp i then d.withTu ((d.tuAt q).ptpArrives i q f) else d) rfl (if_neg hoff),
    completes_does (f := fun d => if d.plantUp i then { d with tu := (d.tuAt q).ptpTransmit i k q } else d) rfl (if_neg hoff),
    completes_act_idle (g := fun d => if d.plantUp i then d.withTu (d.tu.announceTimeout i) else d) rfl (if_neg hoff),
    completes_does (f := fun d => if d.plantUp i then { d with tu := d.tu.igmp i } else d) rfl (if_neg hoff)⟩

end

section
variable {t : Tu} {i : Nat} {q : Int} {f : List Byte} {m : PtpMsg} {p : PlantPort}

/-! ## A frame arrives (R345) -/

/-- A port that discards a message. -/
def PlantPort.discards (p : PlantPort) : PlantPort := { p with discard := incSat 32 p.discard }

theorem Tu.ptpArrives_other (h : ptpFrame f = none) : t.ptpArrives i q f = (t, []) := by
  unfold Tu.ptpArrives
  rw [h]

theorem Tu.ptpArrives_unread (h : ptpFrame f = some none) (hi : i < t.ports.length) (hp : t.ports.getD i {} = p) : t.ptpArrives i q f = (t.withPort i p.discards, []) := by
  unfold Tu.ptpArrives
  rw [h]
  dsimp only
  rw [modify_eq_set_getD _ _ _ {} hi, hp]
  rfl

theorem Tu.ptpArrives_message (h : ptpFrame f = some (some m)) : t.ptpArrives i q f = t.ptpReceive i q m := by
  unfold Tu.ptpArrives
  rw [h]

/-- Whether a message is supported is a matter of the parameters. -/
@[simp] theorem Tu.ptpSupported_reachQ (t : Tu) (q : Int) (m : PtpMsg) : (t.reachQ q).ptpSupported m = t.ptpSupported m := by simp only [Tu.ptpSupported, Tu.prm_reachQ]

/-! ## A message is received (R345 to R347) -/

/-- The receive stamp of port `p` at `q` (R346). -/
def Tu.rxStamp (t : Tu) (p : PlantPort) (q : Int) : Int := t.tbOf q * 1000 / 65536 + Params.val p.prm pPLT_RX_DELAY

theorem Tu.ptpReceive_discards (hp : t.ports.getD i {} = p) (h : t.ptpSupported m = false ∨ p.state = 0) : t.ptpReceive i q m = (t.withPort i p.discards, []) := by
  unfold Tu.ptpReceive
  rw [hp]
  exact if_pos (by simpa using h)

/-- The Delay_Resp with which port `i`, in the state `p`, answers a Delay_Req. -/
def Tu.delayResp (t : Tu) (i : Nat) (p : PlantPort) (q : Int) (m : PtpMsg) : PtpMsg :=
  { kind := .delayResp, domain := m.domain, seq := m.seq, source := ownPort i, requester := m.source, correction := m.correction, stamp := t.rxStamp p q, udp := m.udp }

theorem Tu.ptpReceive_delayReq (hp : t.ports.getD i {} = p) (hm : t.ptpSupported m = true) (hs : p.state = 6) (hk : m.kind = .delayReq) :
    t.ptpReceive i q m = (t.withPort i { p with answers := p.answers ++ [t.delayResp i p q m] }, []) := by
  unfold Tu.ptpReceive
  rw [hp]
  dsimp only
  rw [if_neg (by simp [hm, hs]), hk]
  exact if_neg (by simp [hs])

/-- A slave port that has taken a one-step Sync, before the offset is taken from it. -/
def Tu.syncedPort (t : Tu) (p : PlantPort) (q : Int) (m : PtpMsg) : PlantPort :=
  { p with syncT1 := some m.stamp, syncNew := true, syncT2 := t.rxStamp p q, syncSeq := m.seq, syncCorr := m.correction + Params.val p.prm pDELAY_ASYM }

theorem PlantPort.follows_of (hs : p.state = 8 ∨ p.state = 9) : p.follows = true := by simpa [PlantPort.follows] using hs

theorem Tu.ptpReceive_sync (hp : t.ports.getD i {} = p) (hm : t.ptpSupported m = true) (hs : p.state = 8 ∨ p.state = 9) (hk : m.kind = .sync) (h1 : m.twoStep = false)
    (hb : p.best.map (fun b => b.source) = some m.source) : t.ptpReceive i q m = (t.withPort i (t.syncedPort p q m)).syncOffset i := by
  unfold Tu.ptpReceive
  rw [hp]
  dsimp only
  rw [if_neg (by rcases hs with h | h <;> simp [hm, h]), hk]
  dsimp only
  rw [if_neg (by simp only [PlantPort.follows_of hs, hb]; simp), if_neg (by simp [h1])]
  rfl

/-- A Sync with a known path delay is an offset of the discipline, and its port is SLAVE (R347). -/
theorem Tu.syncOffset_of_new {t1 mp : Int} (hp : t.ports.getD i {} = p) (h1 : p.syncT1 = some t1) (hmp : p.meanPath = some mp) (hn : p.syncNew = true)
    (hs : p.state = 8 ∨ p.state = 9) (hsrc : t.source = 1) :
    t.syncOffset i = (t.withPort i { p with syncNew := false, state := 9 }).offset (p.syncT2 - t1 - p.syncCorr - mp) := by
  have h9 : (if p.state = 8 then 9 else p.state) = 9 := by rcases hs with h | h <;> simp [h]
  unfold Tu.syncOffset
  rw [hp]
  dsimp only
  rw [h1, hmp]
  dsimp only
  rw [if_pos (by simp [hn, hsrc, PlantPort.follows_of hs]), h9]
  rfl

/-- A one-step Sync of the master at a slave port with a known path delay is an update of the discipline by t2 − t1 − correction − mean path − asymmetry, and the port is SLAVE (R347). -/
theorem Tu.ptpReceive_sync_offset {mp : Int} (hp : t.ports.getD i {} = p) (hi : i < t.ports.length) (hm : t.ptpSupported m = true) (hs : p.state = 8 ∨ p.state = 9) (hk : m.kind = .sync)
    (h1 : m.twoStep = false) (hb : p.best.map (fun b => b.source) = some m.source) (hmp : p.meanPath = some mp) (hsrc : t.source = 1) :
    ∃ u : Tu, t.ptpReceive i q m = u.offset (t.rxStamp p q - m.stamp - (m.correction + Params.val p.prm pDELAY_ASYM) - mp) ∧ u.ofs = t.ofs ∧ (u.ports.getD i {}).state = 9 := by
  refine ⟨(t.withPort i (t.syncedPort p q m)).withPort i { t.syncedPort p q m with syncNew := false, state := 9 },
    (Tu.ptpReceive_sync hp hm hs hk h1 hb).trans (Tu.syncOffset_of_new (Tu.port_withPort hi _) rfl hmp rfl hs hsrc), rfl, ?_⟩
  exact congrArg PlantPort.state (Tu.port_withPort (by rwa [Tu.length_withPort]) _)

/-! ## A Sync leaves (R345, R346) -/

/-- The transmit stamp of port `p` at `q` (R346). -/
def Tu.txStamp (t : Tu) (p : PlantPort) (q : Int) : Int := t.tbOf q * 1000 / 65536 + Params.val p.prm pPLT_TX_DELAY

/-- The Sync that port `i`, in the state `p`, sends at `q`. -/
def Tu.syncMsg (t : Tu) (i : Nat) (p : PlantPort) (q : Int) : PtpMsg :=
  { kind := .sync, domain := Params.nat t.prm pPTP_DOMAIN, source := ownPort i, udp := decide (Params.nat t.prm pPTP_TRANSPORT = 1), seq := p.txSeq,
    twoStep := decide (Params.nat t.prm pPTP_STEPS = 2), stamp := if decide (Params.nat t.prm pPTP_STEPS = 2) then 0 else t.txStamp p q }

/-- The octets of a frame are a matter of the message and the parameters. -/
theorem Tu.ptpBytes_of_prm {u : Tu} (h : u.prm = t.prm) (i : Nat) (m : PtpMsg) : u.ptpBytes i m = t.ptpBytes i m := by
  simp only [Tu.ptpBytes, Tu.ptpOctets, Tu.ptpUdp, h]

/-- The port after its Sync, but for the octets. -/
def Tu.syncSent (t : Tu) (i : Nat) (p : PlantPort) (q : Int) : PlantPort :=
  { p with txSeq := (p.txSeq + 1) % 65536, syncT2 := t.txStamp p q, lastSent := some (t.syncMsg i p q) }

theorem Tu.ptpSend_sync (hp : t.ports.getD i {} = p) (hs : p.state = 6) : t.ptpSend i .sync q = t.withPort i (t.syncSent i p q) := by
  unfold Tu.ptpSend
  rw [hp]
  exact if_neg (by simp [hs])

/-- The sequence number moves on, so the ports are not what they were. -/
theorem Tu.ports_syncSent_ne (hp : t.ports.getD i {} = p) (hi : i < t.ports.length) : (t.withPort i (t.syncSent i p q)).ports ≠ t.ports := by
  intro h
  have hx : t.syncSent i p q = p := (Tu.port_withPort hi _).symm.trans ((congrArg (fun l => l.getD i {}) h).trans hp)
  have hseq : (p.txSeq + 1) % 65536 = p.txSeq := congrArg PlantPort.txSeq hx
  omega

theorem Tu.ptpTransmit_sync (hp : t.ports.getD i {} = p) (hs : p.state = 6) (hi : i < t.ports.length) :
    t.ptpTransmit i .sync q = t.withPort i { t.syncSent i p q with sent := t.ptpBytes i (t.syncMsg i p q) } := by
  unfold Tu.ptpTransmit
  rw [Tu.ptpSend_sync hp hs]
  dsimp only
  rw [if_neg (Tu.ports_syncSent_ne hp hi)]
  unfold Tu.withPort
  dsimp only
  rw [modify_eq_set_getD _ _ _ {} (by rwa [List.length_set]), getD_set_same _ _ _ hi, List.set_set]
  exact congrArg (fun b => t.withPort i { t.syncSent i p q with sent := b }) (Tu.ptpBytes_of_prm (t := t) rfl i _)

/-! ## The best master is forgotten (R345, R347) -/

/-- Port `k` of `u` takes the state that the BMCA of `t` gives it. -/
def Tu.decided (t : Tu) (k : Nat) (u : Tu) : Tu := { u with ports := u.ports.modify k (fun p => { p with state := t.portState k }) }

/-- A boundary clock whose other port hears a master decides that port too. -/
def Tu.decidesBoth (t : Tu) (i : Nat) : Bool := Params.nat t.prm pPTP_ROLE = 2 && (t.ports.getD (1 - i) {}).best.isSome

/-- The ports that the BMCA decides; beside them it touches what it knows of the grandmaster. -/
theorem Tu.bmca_eq (t : Tu) (i : Nat) : ∃ g c n, t.bmca i =
    { (if t.decidesBoth i then t.decided (1 - i) (t.decided i t) else t.decided i t) with gm := g, gmClass := c, stepsRemoved := n } := by
  unfold Tu.bmca
  extract_lets decide1 both u
  split <;> exact ⟨_, _, _, rfl⟩

theorem Tu.source_bmca (t : Tu) (i : Nat) : (t.bmca i).source = t.source := by
  obtain ⟨g, c, n, h⟩ := t.bmca_eq i
  rw [h]
  dsimp only
  split <;> rfl

theorem Tu.decided_withPort (u : Tu) {x : PlantPort} (hi : i < t.ports.length) : u.decided i (t.withPort i x) = t.withPort i { x with state := u.portState i } := by
  unfold Tu.decided Tu.withPort
  dsimp only
  rw [modify_eq_set_getD _ _ _ {} (by rwa [List.length_set]), getD_set_same _ _ _ hi, List.set_set]

/-- A port that is in use and hears no master listens on a slave-only clock, and is master on any other. -/
theorem Tu.portState_masterless (hu : t.portUsed i = true) (hb : (t.ports.getD i {}).best = none) : t.portState i = if Params.nat t.prm pPTP_ROLE = 0 then 4 else 6 := by
  unfold Tu.portState
  dsimp only
  rw [hb, if_neg (by simp [hu])]
  dsimp only
  by_cases h3 : Params.nat t.prm pPTP_ROLE = 3
  · rw [if_pos h3, h3]
    rfl
  · rw [if_neg h3]

/-- A port that hears no master, decided alone: nothing becomes known of a grandmaster. -/
theorem Tu.bmca_masterless (hd : t.decidesBoth i = false) (hb : (t.ports.getD i {}).best = none) : t.bmca i = t.decided i t := by
  have hbest : ((t.decided i t).ports.getD i {}).best = none := by
    refine (congrArg PlantPort.best (getD_modify t.ports i i _ {})).trans ?_
    split <;> exact hb
  have hnone : ([i].find? (fun k => ((t.decided i t).ports.getD k {}).follows)).bind (fun k => ((t.decided i t).ports.getD k {}).best) = none := by
    rw [List.find?_singleton]
    split
    · exact hbest
    · rfl
  unfold Tu.bmca
  extract_lets decide1 both u
  have hboth : both = false := hd
  have hu : u = t.decided i t := if_neg (by simp [hboth])
  rw [hboth, hu, if_neg Bool.false_ne_true, hnone]

/-- The Time Unit whose port `i`, in the state `p`, forgets its master. -/
def Tu.forgets (t : Tu) (i : Nat) (p : PlantPort) : Tu := t.withPort i { p with best := none }

theorem Tu.announceTimeout_eq (hp : t.ports.getD i {} = p) (hsrc : t.source ≠ 1) : t.announceTimeout i = ((t.forgets i p).bmca i, []) := by
  have hs : ((t.forgets i p).bmca i).source ≠ 1 := by
    rw [Tu.source_bmca]
    exact hsrc
  unfold Tu.announceTimeout
  rw [hp]
  exact if_neg (by simp [show ((Tu.bmca { t with ports := t.ports.set i { p with best := none } } i).source = 1) = False from eq_false hs])

theorem Tu.portState_forgets (hi : i < t.ports.length) (hu : t.portUsed i = true) : (t.forgets i p).portState i = if Params.nat t.prm pPTP_ROLE = 0 then 4 else 6 :=
  Tu.portState_masterless (t := t.forgets i p) hu (congrArg PlantPort.best (Tu.port_withPort hi _))

/-- Alone, the port takes the state of a port without a master. -/
theorem Tu.bmca_forgets (hi : i < t.ports.length) (hd : (t.forgets i p).decidesBoth i = false) :
    (t.forgets i p).bmca i = t.withPort i { p with best := none, state := (t.forgets i p).portState i } :=
  (Tu.bmca_masterless hd (congrArg PlantPort.best (Tu.port_withPort hi _))).trans (Tu.decided_withPort _ hi)

/-- The port takes it beside the other port of a boundary clock too. -/
theorem Tu.bmca_forgets_port (hl : i < t.ports.length) (hi : i < 2) : ∃ g c n l,
    (t.forgets i p).bmca i = { t with ports := l, gm := g, gmClass := c, stepsRemoved := n } ∧ l.getD i {} = { p with best := none, state := (t.forgets i p).portState i } := by
  obtain ⟨g, c, n, h⟩ := (t.forgets i p).bmca_eq i
  have hone : ((t.forgets i p).decided i (t.forgets i p)).ports.getD i {} = { p with best := none, state := (t.forgets i p).portState i } := by
    rw [show (t.forgets i p).decided i (t.forgets i p) = _ from Tu.decided_withPort _ hl]
    exact Tu.port_withPort hl _
  rw [h]
  split
  · refine ⟨g, c, n, _, rfl, ?_⟩
    exact (getD_modify _ (1 - i) i _ ({} : PlantPort)).trans ((if_neg (by omega)).trans hone)
  · exact ⟨g, c, n, _, rfl, hone⟩

end

/-! ## O42 -/

/-- A Sync at a slave port with a known path delay, on the device (R347). -/
theorem completes_sync {s : State} {i : Nat} {q : Int} {f : List Byte} {m : PtpMsg} {mp : Int} (hon : s.dev.power.plant = true) (hi : i < 2) (hl : i < s.dev.tu.ports.length)
    {p : PlantPort} (hp : s.dev.tu.ports.getD i {} = p) (hf : ptpFrame f = some (some m)) (hm : s.dev.tu.ptpSupported m = true) (hs : p.state = 8 ∨ p.state = 9) (hk : m.kind = .sync)
    (h1 : m.twoStep = false) (hsrc : s.dev.tu.source = 1) (hb : p.best.map (fun b => b.source) = some m.source) (hmp : p.meanPath = some mp) :
    Completes (.ptpMessageReceive i q f) s (fun d => d.Is { s.dev with tu := d.tu } ∧ (d.tu.ports.getD i {}).state = 9 ∧ d.tu.ofs = s.dev.tu.ofs ∧
      d.tu.lastOffset = s.dev.tu.rxStamp p q - m.stamp - m.correction - mp - Params.val p.prm pDELAY_ASYM) := by
  have hrx : (s.dev.tu.reachQ q).rxStamp p q = s.dev.tu.rxStamp p q := by simp only [Tu.rxStamp, Tu.tbOf_reachQ]
  obtain ⟨u, hr, hofs, h9⟩ := Tu.ptpReceive_sync_offset (t := s.dev.tu.reachQ q) (q := q) (by simpa using hp) (by simpa using hl) (by simpa using hm) hs hk h1 hb hmp (by simpa using hsrc)
  obtain ⟨haside, hlast⟩ := u.offset_frame ((s.dev.tu.reachQ q).rxStamp p q - m.stamp - (m.correction + Params.val p.prm pDELAY_ASYM) - mp)
  rw [← hr] at haside hlast
  simp only [Tu.aside, Prod.mk.injEq] at haside
  obtain ⟨hofs', -, -, -, hports⟩ := haside
  refine (completes_ptpReceive hon hi (Tu.ptpArrives_message hf)).imp fun d his => ?_
  have htu : d.tu = ((s.dev.tu.reachQ q).ptpReceive i q m).1 := Dev.tu_of_is his
  rw [htu]
  refine ⟨his, ?_, ?_, ?_⟩
  · rw [hports, h9]
  · rw [hofs', hofs, Tu.ofs_reachQ]
  · rw [hlast, hrx]
    ring

/-- Settles O42: each clause is an equation of what its row makes of the one port, and a Sync at a slave is an offset of the discipline (`Tu.offset_frame`). -/
theorem plantPortsServePtp : Obligations.PlantPortsServePtp := by
  intro s i q f m k
  refine ⟨?_, plantPorts_idle⟩
  intro n t p rx tx port hon hi hl
  have hp : n.tu.ports.getD i {} = p := rfl
  have hpt : t.ports.getD i {} = p := congrArg (fun l => l.getD i {}) (n.tu.ports_reachQ q)
  have htp : t.ports = n.tu.ports := n.tu.ports_reachQ q
  have hlt : i < t.ports.length := by rw [htp]; exact hl
  have htm : t.ptpSupported m = n.tu.ptpSupported m := n.tu.ptpSupported_reachQ q m
  have hrx : t.rxStamp p q = rx := congrArg (fun x => x * 1000 / 65536 + Params.val p.prm pPLT_RX_DELAY) (n.tu.tbOf_reachQ q q)
  have htx : t.txStamp p q = tx := congrArg (fun x => x * 1000 / 65536 + Params.val p.prm pPLT_TX_DELAY) (n.tu.tbOf_reachQ q q)
  refine ⟨fun hf => ?_, fun hf => ?_, fun hf hbad => ?_, fun hf hm hs hk h1 hsrc hb mp hmp => ?_, fun hf hm hs hk => ?_, fun hk hs => ?_, fun hu hrole hsrc => ?_, fun hu hrole hsrc hother => ?_,
    fun hu hrole hsrc => ?_, fun hs => ?_⟩
  · exact completes_ptpReceive hon hi (Tu.ptpArrives_other hf)
  · exact (completes_ptpReceive hon hi (Tu.ptpArrives_unread hf hlt hpt)).imp fun d h => Dev.portIs_of_is h htp hl
  · rw [← htm] at hbad
    exact (completes_ptpReceive hon hi ((Tu.ptpArrives_message hf).trans (Tu.ptpReceive_discards hpt hbad))).imp fun d h => Dev.portIs_of_is h htp hl
  · exact completes_sync hon hi hl hp hf hm hs hk h1 hsrc hb hmp
  · rw [← htm] at hm
    exact (completes_ptpReceive hon hi ((Tu.ptpArrives_message hf).trans (Tu.ptpReceive_delayReq hpt hm hs hk))).imp fun d h =>
      ⟨t.delayResp i p q m, Dev.portIs_of_is h htp hl, rfl, rfl, rfl, hrx, rfl⟩
  · subst hk
    refine (completes_ptpTransmit hon hi (Tu.ptpTransmit_sync hpt hs hlt)).imp fun d h => ⟨t.syncMsg i p q, ?_, rfl, rfl, ?_, ?_⟩
    · rw [← htx, ← Tu.ptpBytes_of_prm (n.tu.prm_reachQ q)]
      exact Dev.portIs_of_is h htp hl
    · intro h2
      rw [← n.tu.prm_reachQ q] at h2
      exact decide_eq_true h2
    · intro h2
      rw [← n.tu.prm_reachQ q] at h2
      have h1 := decide_eq_false h2
      exact ⟨h1, (if_neg (Bool.eq_false_iff.mp h1)).trans htx⟩
  · have hd : (n.tu.forgets i p).decidesBoth i = false := by simp [Tu.decidesBoth, show Params.nat (n.tu.forgets i p).prm pPTP_ROLE = 0 from hrole]
    have h4 : (n.tu.forgets i p).portState i = 4 := (Tu.portState_forgets hl hu).trans (if_pos hrole)
    refine (completes_announceTimeout hon hi (Tu.announceTimeout_eq hp hsrc)).imp fun d h => Dev.portIs_of_is ?_ rfl hl
    rw [Tu.bmca_forgets hl hd, h4] at h
    exact h
  · have hget : (n.tu.forgets i p).ports.getD (1 - i) {} = n.tu.ports.getD (1 - i) {} := getD_set_ne _ _ _ (by omega)
    have hd : (n.tu.forgets i p).decidesBoth i = false := by simp only [Tu.decidesBoth, hget, hother, Option.isSome_none, Bool.and_false]
    have h6 : (n.tu.forgets i p).portState i = 6 := (Tu.portState_forgets hl hu).trans (if_neg hrole)
    refine (completes_announceTimeout hon hi (Tu.announceTimeout_eq hp hsrc)).imp fun d h => Dev.portIs_of_is ?_ rfl hl
    rw [Tu.bmca_forgets hl hd, h6] at h
    exact h
  · obtain ⟨g, c, x, ports, hb, hport⟩ := Tu.bmca_forgets_port (p := p) hl hi
    have h6 : (n.tu.forgets i p).portState i = 6 := (Tu.portState_forgets hl hu).trans (if_neg hrole)
    refine (completes_announceTimeout hon hi (Tu.announceTimeout_eq hp hsrc)).imp fun d h => ?_
    rw [hb] at h
    have htu := Dev.tu_of_is h
    rw [htu]
    exact ⟨h, hport.trans (by rw [h6])⟩
  · exact (completes_igmpQuery hon hi (if_neg hs)).imp fun d h => Dev.portIs_of_is h rfl hl

end Sys2Proof.Machine
